-- ==== Sys2Proof/Word.lean ====
section
/-! DEFINITION. The word types of the 7140: bytes of the Message Port and the Unit Bus, frame numbers and
generation counters. Everything else in the model is a name, a count or a list. -/

namespace Sys2Proof

/-- One byte of a Message Port frame or of a Unit Bus packet. -/
abbrev Byte := BitVec 8

/-- A frame number: a value of the 32-bit frame counter, which wraps (R9, R10). -/
abbrev FrameNo := BitVec 32

/-- A generation counter of a band, which wraps and is compared for equality only (R21). -/
abbrev Gen := BitVec 32

end Sys2Proof
end

