-- ==== Sys2Proof/Syntax.lean ====
section
/-! DEFINITION. The commands of the 7140: one constructor for each row of spec/opcode_table.json, in the table's order.

A row is one step of the part, whole and indivisible (spec/95_what_each_step_holds.md). Four kinds of row stand here.

* Events at the pins and at the real-time clocks carry what arrives: a time, a line level, bytes.
* Steps that fall due at a frame boundary (SILENCE_EXPIRY to MUTE_REISSUE) name the object they are for.
* Requests (TB_CONFIGURE to NOTICE_FETCH) are the TAKING of the oldest request of the request buffer (R189). Their arguments
  are in the payload of that request's frame, where R186 lays them out, so the constructors carry none. TB_CONFIGURE also
  carries the moment at which it is taken, since R13 measures from it.
* Completions are those of the job that the evaluator engine runs, whose record holds the job's arguments.

`tkFirst` says, for the steps that may hold a frame boundary and for STOP, which of two blocks that R157 and R154 leave
unordered is taken first: the Talk Router when true. Both orders are commands, so a statement for all `tkFirst` covers both. -/

namespace Sys2Proof

/-- One command of the part: one row of spec/opcode_table.json. -/
inductive Instr where
  /-- COLD_RESET (R198): the reset ends with the strap pins BR2..BR0 at `straps`. -/
  | coldReset (straps : BitVec 3)
  /-- REF_PULSE (R2): a rising edge on REF at `time`, in microseconds since the last cold reset ended. -/
  | refPulse (time : Nat) (tkFirst : Bool)
  /-- INTERNAL_TIMER_DUE (R3): the internal pacing timer falls due. -/
  | internalTimerDue (tkFirst : Bool)
  /-- PULSE_WATCHDOG_EXPIRY (R5, R7): the watchdog limit has passed since the last pulse. -/
  | pulseWatchdogExpiry (tkFirst : Bool)
  /-- FADE_TIMER_LIMIT (R80) for a link. -/
  | fadeTimerLimit (link : Nat)
  /-- SILENCE_EXPIRY (R82) for a link. -/
  | silenceExpiry (link : Nat)
  /-- ACQUIRE_DEADLINE (R88) for a link. -/
  | acquireDeadline (link : Nat)
  /-- RETUNE_DEADLINE (R104) for a link. -/
  | retuneDeadline (link : Nat)
  /-- REVERT_DEADLINE (R107) for a link. -/
  | revertDeadline (link : Nat)
  /-- VACATE_EFFECTIVE (R115) for the link of a vacate entry. -/
  | vacateEffective (link : Nat)
  /-- ORDER_EXPIRY (R130): the orders of the unit at `address` whose deadline is this frame. -/
  | orderExpiry (address : Nat)
  /-- TALLY_RETRY (R147) for a link. -/
  | tallyRetry (link : Nat)
  /-- LAMP_RETRY (R180) for a station. -/
  | lampRetry (station : Nat)
  /-- TAP_DEADLINE (R168) for a key of a station. -/
  | tapDeadline (station key : Nat)
  /-- CALL_PULSE_END (R169) for a station. -/
  | callPulseEnd (station : Nat)
  /-- SCAN_ASSIGN_REISSUE (R28) for a band. -/
  | scanAssignReissue (band : Nat)
  /-- MUTE_REISSUE (R94) for a link. -/
  | muteReissue (link : Nat)
  /-- PWM_PERIOD_START (R159) of a lamp output. -/
  | pwmPeriodStart (lamp : Nat)
  /-- EDGE (R137, R138): one millisecond sample of a tally line, with the pin level it found. -/
  | edge (line : Nat) (high : Bool)
  /-- FRAME_GOOD (R187, R188): bytes arrive at the Message Port that complete a good frame. -/
  | frameGood (bytes : List Byte)
  /-- FRAME_FAILED (R187): bytes arrive at the Message Port that complete a frame that fails. -/
  | frameFailed (bytes : List Byte)
  /-- FRAME_ABANDONED (R187): more than 10 ms pass between two bytes of one frame. -/
  | frameAbandoned
  /-- TRANSMIT_PATH_FREE (R189): the frame being sent ends. -/
  | transmitPathFree
  /-- UNKNOWN_REQUEST (R188): a buffered frame whose kind names no request is taken. -/
  | unknownRequest
  /-- TB_CONFIGURE (R12) is taken at `time` microseconds. -/
  | tbConfigure (time : Nat)
  | tbStatus
  | bandDefine
  | bandGuards
  | exclAdd
  | exclRemove
  | bandFreeze
  | bandUnfreeze
  | bandRead
  | scanRead
  | checkCandidate
  | spareSweep
  | linkDefine
  | linkAssign
  | linkRelease
  | linkPark
  | linkUnpark
  | linkForceSilence
  | linkRead
  | planOpen
  | planEntry
  | planClose
  | planLaunch
  | planAbandon
  | planRead
  | tallyInputConfigure
  | tallyMapSet
  | tallyVirtual
  | tallyRead
  | zoneInterlock
  | lampConfigure
  | lampRead
  | stationDefine
  | groupDefine
  | keyEvent
  | talkRead
  | start
  /-- STOP (R196) is taken; `tkFirst` as R154 leaves open. -/
  | stop (tkFirst : Bool)
  | restart
  | status
  | identify
  | noticeEnable
  | noticeFetch
  /-- REPORT (R125, R132): the bytes of a packet from a receiver unit, address byte to CRC byte. -/
  | report (bytes : List Byte)
  /-- SCAN_DATA (R125, R135): the bytes of a packet from a receiver unit. -/
  | scanData (bytes : List Byte)
  /-- MATRIX_REPORT (R125, R135): the bytes of a packet from the matrix unit. -/
  | matrixReport (bytes : List Byte)
  | assignCheckComplete
  | planCheckComplete
  | queryComplete
  | sweepComplete
  | rescuePickComplete
  | drainComplete
  deriving DecidableEq, Repr

end Sys2Proof
end

