-- ==== Sys2Proof/Decode.lean ====
section
/-! DEFINITION. The rows of spec/opcode_table.json that give bits, read as commands: there are none. The 7140 has no
instruction words (its commands are pins, clocks, frames and packets), so no word spells a command. -/

namespace Sys2Proof

/-- The command that an `nbits`-bit word `w` spells by the table's bits. No row of the table gives bits, so no word spells
one. The bytes of requests and packets are read by `Sys2Proof.Machine.MessagePort` and `Sys2Proof.Machine.UnitBus`.
DEDUCED (log 4), safe. -/
def decodeTableWord (_nbits _w : Nat) : Option Instr := none

end Sys2Proof
end

