-- ==== Sys2Proof/Config.lean ====
section
/-! DEFINITION. The capacities of the part's tables, queues and buffers (introduction, section 5.5, and the rules named). -/

namespace Sys2Proof.Config

/-- Link records of the Link Supervisor (R71). -/
def links : Nat := 48
/-- Band records of the Spectrum Table (R17). -/
def bands : Nat := 4
/-- Stations of the Talk Router, equal to the matrix ports (R164). -/
def stations : Nat := 24
/-- Groups of the Talk Router (R165). -/
def groups : Nat := 8
/-- Members a group may be given (R165). -/
def groupMembers : Nat := 12
/-- Lamp outputs (R156). -/
def lamps : Nat := 16
/-- Studio zones (R150). -/
def zones : Nat := 4
/-- Tally line inputs, and virtual inputs (R137, R140). -/
def inputs : Nat := 32
/-- Tally map entries (R141). -/
def mapEntries : Nat := 64
/-- Jobs the evaluator queue holds, the running one included (R54). -/
def jobs : Nat := 8
/-- Entries a staged plan holds (R110). -/
def planEntries : Nat := 16
/-- Entries a spare list holds (R32). -/
def spares : Nat := 16
/-- Ranges an exclusion list holds (R25). -/
def exclusions : Nat := 32
/-- Bins a scan window may have (R17). -/
def bins : Nat := 256
/-- Orders a unit's outstanding list holds (R126). -/
def outstanding : Nat := 8
/-- Orders a unit's waiting list holds (R127). -/
def waiting : Nat := 32
/-- Routes the route table holds (R170). -/
def routes : Nat := 64
/-- LIVE routes a destination may have: its four slots (R170, R174). -/
def slots : Nat := 4
/-- Pairs the break list holds (R177). -/
def breaks : Nat := 64
/-- Requests the request buffer holds (R188). -/
def buffer : Nat := 4
/-- Refusal replies that may wait to be sent (R188). -/
def refusals : Nat := 4
/-- The Unit Bus address of the matrix unit (chapter 7). -/
def matrixAddress : Nat := 31

end Sys2Proof.Config
end

