-- ==== Sys2Proof/Machine/State.lean ====
section
/-! DEFINITION. The state of the 7140, block by block, as plain data, and its value after cold reset. Each field cites the
rule of spec/ that names it. A field marked MODEL is the model's own: the spec implies it and gives it no name: DESIGN CHOICE (log 16), safe. -/

namespace Sys2Proof.Machine

/-! ## Modes and the Frame Timebase (chapter 1) -/

/-- The operating mode (R195, R196). -/
inductive Mode where | standby | run
  deriving DecidableEq, Repr

/-- The configured frame rate, in the order of the rate codes (R1). -/
inductive Rate where | r25 | r2997 | r30 | r50 | r5994 | r60
  deriving DecidableEq, Repr

/-- The reference state (section 1.3). -/
inductive RefState where | absent | locking | locked | holdover
  deriving DecidableEq, Repr

/-- The Frame Timebase (section 1.1). Times are microseconds since the last cold reset ended. -/
structure Ftb where
  rate : Rate
  lead : Nat
  refState : RefState
  goodCount : Nat
  measuredPeriod : Nat
  goodPeriod : Nat
  /-- The frame counter: the number of the current frame, `now` everywhere in the part (R9). -/
  counter : FrameNo
  lastPulse : Option Nat
  /-- MODEL: the arrival of the most recent pulse, kept when a change of rate forgets `lastPulse`. R13 asks whether a pulse
  was received within the watchdog limit of the old rate. -/
  lastArrival : Option Nat
  lastBoundary : Nat
  nextInternal : Option Nat
  deriving DecidableEq, Repr

/-! ## Bands and the Spectrum Table (chapter 2) -/

/-- A run of steps, both ends included: an exclusion range, the span of a bin (R18, R25). -/
structure StepRange where
  lo : Nat
  hi : Nat
  deriving DecidableEq, Repr

/-- The role of a carrier (R22, R39). -/
inductive Role where | assigned | pending | candidate
  deriving DecidableEq, Repr

/-- A carrier of a band (R22, R39). `link` 0 stands for none. -/
structure Carrier where
  step : Nat
  hw : Nat
  link : Nat
  role : Role
  deriving DecidableEq, Repr

/-- A scan bin (R28): no level while unreported. Whether it is masked follows from the carriers held. -/
structure Bin where
  level : Option Nat
  hot : Bool
  deriving DecidableEq, Repr

/-- An entry of a spare list (R32). -/
structure Spare where
  step : Nat
  score : Int
  sweepFrame : FrameNo
  deriving DecidableEq, Repr

/-- The parameters a BAND_DEFINE gives, in the order of section 2.1. `scanUnit` is absent for none. -/
structure BandParams where
  baseKhz : Nat
  steps : Nat
  gapCc : Nat
  gapIm3 : Nat
  gapIm3x : Nat
  gapIm5 : Nat
  spareHw : Nat
  spareStride : Nat
  scanStart : Nat
  scanEnd : Nat
  binWidth : Nat
  hotLevel : Nat
  unknownPenalty : Nat
  scanUnit : Option Nat
  deriving DecidableEq, Repr

/-- MODEL: a SCAN_ASSIGN order of a band: the unit it is for, and its contents (R28, section 7.3). -/
structure ScanOrder where
  unit : Nat
  startKhz : Nat
  widthKhz : Nat
  count : Nat
  deriving DecidableEq, Repr

/-- A band record (section 2.1). The bin count is the length of `bins`. -/
structure Band where
  defined : Bool
  p : BandParams
  frozen : Bool
  carrierGen : Gen
  spectrumGen : Gen
  sweepWanted : Bool
  exclusions : List StepRange
  bins : List Bin
  spares : List Spare
  sparesFresh : Bool
  /-- MODEL: the failed SCAN_ASSIGN orders that await their next issue, in the order of their failures, each with the frame of the
  boundary that issues it again (R28). -/
  scanReissue : List (FrameNo × ScanOrder)
  deriving DecidableEq, Repr

/-! ## Intermodulation arithmetic (chapter 3) -/

/-- The kinds of constraint, in the order of R46, after NONE. -/
inductive ConstraintKind where | none | spacing | exclusion | hotBin | im3Two | im3Three | im5Two
  deriving DecidableEq, Repr

/-- A victim or a source of a constraint (R47). For a range it is one end: link 0 and no role. -/
structure Point where
  step : Nat
  link : Nat
  role : Option Role
  deriving DecidableEq, Repr

/-- A constraint record (R47). `margin` is unclamped; it is clamped where it is reported (R45). -/
structure Constraint where
  band : Nat
  kind : ConstraintKind
  margin : Int
  victim : Option Point
  first : Option Point
  second : Option Point
  third : Option Point
  product : Int
  spread : Nat
  deriving DecidableEq, Repr

/-! ## The Plan Evaluator (chapter 4) -/

/-- What a job is about and its arguments (section 4.1). `link` 0 in a QUERY stands for none. -/
inductive JobKind where
  | planCheck
  | assignCheck (link step : Nat) (override : Bool)
  | query (band : Nat) (number : BitVec 16) (step hw link : Nat)
  | spareSweep (band : Nat)
  | rescuePick (link attempt : Nat)
  deriving DecidableEq, Repr

/-- What a job copies of one band at its start (R56). -/
structure BandSnap where
  band : Nat
  p : BandParams
  held : List Carrier
  exclusions : List StepRange
  hot : List StepRange
  bins : List Bin
  spares : List Spare
  carrierGen : Gen
  spectrumGen : Gen
  deriving DecidableEq, Repr

/-- What a PLAN_CHECK copies of one entry (R56). `target` is absent for VACATE. -/
structure EntrySnap where
  link : Nat
  target : Option Nat
  band : Nat
  hw : Nat
  defined : Bool
  deriving DecidableEq, Repr

/-- The snapshot of a job (R56). -/
structure Snapshot where
  bands : List BandSnap
  entries : List EntrySnap
  linkBand : Nat
  linkHw : Nat
  deriving DecidableEq, Repr

/-- A job record (section 4.1). A job is RUNNING when its snapshot is present and QUEUED when it is absent. -/
structure Job where
  kind : JobKind
  snap : Option Snapshot
  /-- MODEL: a LINK_DEFINE has moved the link of this ASSIGN_CHECK since it joined (R61, R74). -/
  moved : Bool
  deriving DecidableEq, Repr

/-- The engine state (section 4.1). -/
inductive Engine where | idle | running | draining
  deriving DecidableEq, Repr

/-- The outcome of an ASSIGN_CHECK, in the order of R61's table. -/
inductive AssignOutcome where | stale | pass | refused
  deriving DecidableEq, Repr

/-- An assign result (R61). `gen` is absent for a job withdrawn before its start (R69). -/
structure AssignResult where
  outcome : AssignOutcome
  step : Nat
  override : Bool
  gen : Option Gen
  worst : Option Constraint
  deriving DecidableEq, Repr

/-- The outcome of a RESCUE_PICK (R68). -/
inductive RescueOutcome where | chosen | deferred | exhausted
  deriving DecidableEq, Repr

/-- A rescue result (R68). -/
structure RescueResult where
  outcome : RescueOutcome
  tried : Nat
  removed : Nat
  step : Option Nat
  worst : Option Constraint
  deriving DecidableEq, Repr

/-- The outcome of a QUERY (R64, R69). -/
inductive QueryOutcome where | pass | fail | discarded
  deriving DecidableEq, Repr

/-- A query result (R64). A withdrawn query has no worst constraint and no counters (R69). -/
structure QueryResult where
  number : BitVec 16
  step : Nat
  hw : Nat
  link : Nat
  outcome : QueryOutcome
  worst : Option Constraint
  score : Option Int
  gens : Option (Gen × Gen)
  deriving DecidableEq, Repr

/-- The Plan Evaluator (section 4.1). Results are indexed by link and by band. -/
structure Pe where
  queue : List Job
  engine : Engine
  queryNumber : BitVec 16
  assign : List (Option AssignResult)
  rescue : List (Option RescueResult)
  query : List (Option QueryResult)
  deriving DecidableEq, Repr

/-! ## Tally words (chapter 8) and key lamps (chapter 10), as links and orders carry them -/

/-- A tally (section 8.1). -/
inductive Tally where | off | preview | program
  deriving DecidableEq, Repr

/-- A tally word (section 8.1). -/
structure TallyWord where
  tally : Tally
  call : Bool
  deriving DecidableEq, Repr

/-- The one unresolved TALLY order of a link (section 8.1). Its number is that of the order `id` in the unit's outstanding
list, so it is not stored twice. -/
structure TallyOrder where
  id : Nat
  word : TallyWord
  issueFrame : FrameNo
  deriving DecidableEq, Repr

/-- A key state (section 10.1). -/
inductive KeyState where | off | held | tapping | latched
  deriving DecidableEq, Repr

/-- The lamp contents of a LINKED station (R179): the states of keys 1 to 8 and the incoming source. -/
structure LampContents where
  keys : List KeyState
  source : Option Nat
  deriving DecidableEq, Repr

/-! ## Link records (chapter 5) -/

/-- What a link carries (section 5.1). -/
inductive LinkKind where | camera | mic | beltpack | ifb
  deriving DecidableEq, Repr

/-- The link states, in the order of section 5.2. -/
inductive LinkState where
  | vacant | idle | acquiring | locked | fading | retuning | reverting | parked | lost
  deriving DecidableEq, Repr

/-- The progress of a rescue move (R81). -/
inductive Rescue where | none | wanted | picking | exhausted
  deriving DecidableEq, Repr

/-- Why a link is in RETUNING or REVERTING (section 5.1). -/
inductive Origin where | plan | rescue
  deriving DecidableEq, Repr

/-- Why a link is LOST (section 5.1). -/
inductive LostCause where | silent | noLock | revertFailed
  deriving DecidableEq, Repr

/-- The fields of a link record that LINK_DEFINE gives, in the order of section 5.1. A link of kind none is VACANT. -/
structure LinkConfig where
  kind : Option LinkKind
  band : Nat
  hw : Nat
  unit : Nat
  channel : Nat
  station : Option Nat
  fadeLevel : Nat
  recoverLevel : Nat
  fadeQuality : Nat
  recoverQuality : Nat
  filterK : Nat
  fadeLimit : Nat
  silenceLimit : Nat
  acquireLimit : Nat
  confirmWindow : Nat
  autoRescue : Bool
  batteryLow : Nat
  deriving DecidableEq, Repr

/-- The most recent sample taken for a link (section 5.1). `step` is absent for OFF_PLAN (R133). -/
structure LastReport where
  level : Nat
  quality : Nat
  lock : Bool
  step : Option Nat
  battery : Nat
  frame : FrameNo
  deriving DecidableEq, Repr

/-- A link record (section 5.1), with the tally fields that the Tally Resolver owns (section 8.1). -/
structure Link where
  cfg : LinkConfig
  state : LinkState
  assigned : Option Nat
  pending : Option Nat
  badRun : Nat
  goodRun : Nat
  fadeTimer : Nat
  silenceCounter : Nat
  rescue : Rescue
  origin : Option Origin
  effectiveFrame : Option FrameNo
  deadline : Option FrameNo
  lastReport : Option LastReport
  lostCause : Option LostCause
  wanted : TallyWord
  delivered : Option TallyWord
  tallyOrder : Option TallyOrder
  retryAt : Option FrameNo
  /-- MODEL: the TUNE issued at the start of the retune in flight (R103 asks whether a failed TUNE is that one). -/
  moveOrder : Option Nat
  /-- MODEL: for each failed park MUTE, in the order of failure, the frame of the boundary at which it is issued again (R94). -/
  muteReissue : List FrameNo
  deriving DecidableEq, Repr

/-! ## The staged plan (chapter 6) -/

/-- The plan's stage (section 6.1). -/
inductive PlanState where | idle | opened | checking | ready | rejected | applying | done
  deriving DecidableEq, Repr

/-- The outcome of a plan entry (section 6.1). -/
inductive EntryOutcome where | moved | reverted | lost | acquired | vacated
  deriving DecidableEq, Repr

/-- An entry of the staged plan (section 6.1). `target` is absent for VACATE. -/
structure PlanEntry where
  link : Nat
  target : Option Nat
  outcome : Option EntryOutcome
  deriving DecidableEq, Repr

/-- The staged plan (section 6.1). The plan margin is that of `worst`. -/
structure Plan where
  state : PlanState
  entries : List PlanEntry
  worst : Option Constraint
  checked : Option (List (Nat × Gen))
  effective : Option FrameNo
  deriving DecidableEq, Repr

/-! ## The Unit Bus (chapter 7) -/

/-- The kind and contents of an order (section 7.3). -/
inductive OrderBody where
  | tune (channel khz : Nat) (effective : FrameNo)
  | mute (channel : Nat) (effective : FrameNo)
  | tally (channel : Nat) (word : TallyWord)
  | talkLamp (channel : Nat) (contents : LampContents)
  | crosspoint (make : Bool) (source destination : Nat)
  | dim (port depth : Nat)
  | scanAssign (band startKhz widthKhz count : Nat)
  deriving DecidableEq, Repr

/-- The block that issued an order, and what it issued it for (section 7.4): the result goes back there (R131). -/
inductive Issuer where
  | lsTune (link : Nat)
  | lsPark (link : Nat)
  | lsRelease (link : Nat)
  | rcRetune (link : Nat)
  | rcRevert (link : Nat)
  | rcVacate (link : Nat)
  | tr (link : Nat)
  | tkMake (source destination : Nat)
  | tkBreak (source destination : Nat)
  | tkDim (station : Nat)
  | tkLamp (station : Nat)
  | st (band : Nat)
  deriving DecidableEq, Repr

/-- An order record (section 7.1). -/
structure Order where
  /-- MODEL: the order's place in the issue of all orders, by which its issuer knows it before it has a number. -/
  id : Nat
  address : Nat
  body : OrderBody
  issuer : Issuer
  deadline : FrameNo
  number : Option Byte
  deriving DecidableEq, Repr

/-- A unit record (section 7.1). -/
structure UnitRec where
  nextNumber : Byte
  outstanding : List Order
  waiting : List Order
  deriving DecidableEq, Repr

/-- A packet from the part (section 7.3). -/
inductive Packet where
  | frameMark (frame : BitVec 16) (ref : RefState)
  | order (o : Order)
  deriving DecidableEq, Repr

/-! ## Tally (chapter 8) -/

/-- A line input (section 8.1). -/
structure LineInput where
  filterK : Nat
  inverted : Bool
  filtered : Bool
  run : Nat
  edge : Bool
  deriving DecidableEq, Repr

/-- The input a map entry follows (section 8.1). -/
inductive TallyInput where | line (n : Nat) | virt (n : Nat)
  deriving DecidableEq, Repr

/-- A tally map entry (section 8.1). -/
structure MapEntry where
  input : TallyInput
  program : Bool
  zone : Option Nat
  links : List Nat
  lamps : List Nat
  deriving DecidableEq, Repr

/-- A zone's state and loudspeaker interlock (section 8.1). -/
structure Zone where
  onAir : Bool
  speakerCut : Bool
  deriving DecidableEq, Repr

/-- The Tally Resolver, apart from the tally fields of the link records (section 8.1). -/
structure Tr where
  lines : List LineInput
  virtuals : List Bool
  map : List (Option MapEntry)
  snapLines : List Bool
  snapVirtuals : List Bool
  snapFrame : Option FrameNo
  linkTally : List Tally
  lampTally : List Tally
  zones : List Zone
  deriving DecidableEq, Repr

/-! ## Lamp Drivers (chapter 9) -/

/-- Where a lamp takes its state from (section 9.1). -/
inductive LampSource where | none | tally | zone (z : Nat) | talk (station : Nat)
  deriving DecidableEq, Repr

/-- What a lamp shows (section 9.1). -/
inductive Shown where | off | preview | program | talk | call
  deriving DecidableEq, Repr

/-- A state's cadence (section 9.1). -/
structure Cadence where
  onFrames : Nat
  offFrames : Nat
  deriving DecidableEq, Repr

/-- A value for each of OFF, PREVIEW, PROGRAM, TALK and CALL (section 9.1). -/
structure PerShown (α : Type) where
  off : α
  preview : α
  program : α
  talk : α
  call : α
  deriving DecidableEq, Repr

/-- A lamp's configuration (section 9.1). -/
structure LampConfig where
  source : LampSource
  levels : PerShown Nat
  cadences : PerShown Cadence
  invert : Bool
  periodSelect : Nat
  deriving DecidableEq, Repr

/-- A lamp record (section 9.1). `phaseOn` is phase ON. -/
structure Lamp where
  cfg : LampConfig
  displayed : Shown
  phaseOn : Bool
  remaining : Nat
  restart : Bool
  selected : Nat
  drive : Nat
  /-- The invert and the period_select of the PWM period in progress (R159, R161). -/
  driveInvert : Bool
  drivePeriod : Nat
  heldTally : Tally
  deriving DecidableEq, Repr

/-! ## Talkback (chapter 10) -/

/-- The kind of a station (section 10.1). -/
inductive StationKind where | panel | linked | speaker | ifb
  deriving DecidableEq, Repr

/-- Where a key talks or calls (section 10.1). -/
inductive KeyTarget where | station (n : Nat) | group (n : Nat)
  deriving DecidableEq, Repr

/-- How a key responds to presses (section 10.1). -/
inductive KeyMode where | momentary | latch | auto | call
  deriving DecidableEq, Repr

/-- A key record (section 10.1). -/
structure Key where
  number : Nat
  target : KeyTarget
  mode : KeyMode
  state : KeyState
  pressed : Bool
  tapDeadline : Option FrameNo
  deriving DecidableEq, Repr

/-- A station record (section 10.1). `dimOrder` and `lampOrder` name orders by their ids. -/
structure Station where
  kind : Option StationKind
  link : Option Nat
  zone : Option Nat
  priority : Nat
  dimDepth : Nat
  tapWindow : Nat
  callFrames : Nat
  keys : List Key
  pulseEnd : Option FrameNo
  dimOrder : Option Nat
  dimRetry : Bool
  lampAcked : Option LampContents
  lampOrder : Option (Nat × LampContents)
  /-- lamp_retry: present for yes, with the frame of the boundary at which the retry ends (R180). -/
  lampRetry : Option FrameNo
  lastRefusal : Option (Nat × FrameNo)
  deriving DecidableEq, Repr

/-- Progress of a LIVE route's make (R170). -/
inductive Make where | outstanding | confirmed | failed
  deriving DecidableEq, Repr

/-- A route record (R170). It is LIVE when `live`; its reasons are the three flags, and its stamp is its place in the table. -/
structure Route where
  source : Nat
  destination : Nat
  holders : Nat
  live : Bool
  onAir : Bool
  linkDown : Bool
  noSlot : Bool
  make : Option Make
  makeOrder : Option Nat
  deriving DecidableEq, Repr

/-- A pair of the break list, with the break order it holds, or none outstanding (R177). -/
structure Break where
  source : Nat
  destination : Nat
  order : Option Nat
  deriving DecidableEq, Repr

/-- The Talk Router (chapter 10). `zones` holds what the Tally Resolver last presented (R173). -/
structure Tk where
  stations : List Station
  groups : List (List Nat)
  routes : List Route
  breaks : List Break
  zones : List Zone
  deriving DecidableEq, Repr

/-! ## Message Port and Notice Queue (chapter 11) -/

/-- A good frame from the host, or a reply: kind, tag and payload (section 11.1). -/
structure HostFrame where
  kind : Byte
  tag : Byte
  payload : List Byte
  deriving DecidableEq, Repr

/-- A refusal reply waiting to be sent: its reply kind and its tag (R188). -/
structure Refused where
  kind : Byte
  tag : Byte
  deriving DecidableEq, Repr

/-- The notice classes, in the order of their codes 1 to 7 (section 11.3). -/
inductive NoticeClass where | link | band | plan | timebase | station | input | device
  deriving DecidableEq, Repr

/-- A pending notice: class, object and cause set, a bit for each cause (section 11.3). -/
structure Notice where
  cls : NoticeClass
  obj : Nat
  causes : BitVec 16
  deriving DecidableEq, Repr

/-- What a frame of the transmit path is (R189). -/
inductive TxKind where | refusal | reply | fetched | pushed
  deriving DecidableEq, Repr

/-- A frame on the transmit path. -/
structure TxFrame where
  what : TxKind
  frame : HostFrame
  deriving DecidableEq, Repr

/-- The Message Port (chapter 11). -/
structure Mp where
  /-- The bit rate, by its strap code (section 11.1). -/
  bitRate : BitVec 3
  /-- The bytes of the frame in collection: empty in HUNT, else the start byte and what followed (R187). -/
  rx : List Byte
  buffer : List HostFrame
  refusals : List Refused
  /-- The reply of the request last taken, while it waits. -/
  reply : Option HostFrame
  /-- Fetched notices not yet begun (R193). -/
  fetched : List Notice
  sending : Option TxFrame
  /-- What the last frame sent, or being sent, was (R189, choice 3). -/
  lastSent : Option TxKind
  noticeNumber : Byte
  /-- The push mask and the attention mask: bit c − 1 for class code c (R192). -/
  pushMask : BitVec 8
  attnMask : BitVec 8
  deriving DecidableEq, Repr

/-! ## Work owed at the frame boundary -/

/-- A step that falls due at a frame boundary and has its own row in the table of operations. -/
inductive Owed where
  | silence (link : Nat)
  | acquire (link : Nat)
  | retune (link : Nat)
  | revert (link : Nat)
  | vacate (link : Nat)
  | orders (address : Nat)
  | tallyRetry (link : Nat)
  | lampRetry (station : Nat)
  | tap (station key : Nat)
  | pulse (station : Nat)
  | scan (band : Nat)
  | mute (link : Nat)
  | fade (link : Nat)
  deriving DecidableEq, Repr

/-! ## The whole state -/

/-- The state of the part. -/
structure State where
  mode : Mode
  ftb : Ftb
  bands : List Band
  links : List Link
  pe : Pe
  plan : Plan
  /-- The unit records of addresses 1 to 24 and, last, of address 31. -/
  units : List UnitRec
  /-- MODEL: the id the next order takes. -/
  nextOrderId : Nat
  /-- The packets the part has put on the Unit Bus since the last FRAME_MARK, that mark first (R124). -/
  bus : List Packet
  tr : Tr
  lamps : List Lamp
  /-- The zone ON_AIR values that the Lamp Drivers hold (section 9.1). -/
  lampZones : List Bool
  tk : Tk
  mp : Mp
  /-- The Notice Queue, oldest first (R191). -/
  nq : List Notice
  /-- MODEL: the steps of the current frame's boundary not yet taken. -/
  owed : List Owed
  /-- MODEL: the commands waiting to be taken, first in, first out. -/
  pending : List Instr
  deriving DecidableEq, Repr

/-- The reasons a step may stop with a fault. The spec gives every step of the part an effect, so no step of this model
answers with one. -/
inductive Fault where
  /-- Raised by no step. Safe: a model that stops proves nothing false. -/
  | unreachable
  deriving DecidableEq, Repr

/-- The reasons a command may be refused. -/
inductive Refusal where
  /-- Raised by an arm of `exec` whose command has no meaning yet. Safe. No arm answers with it. -/
  | notModelled (mnemonic : String)
  deriving DecidableEq, Repr

/-! ## Values after cold reset -/

/-- The parameters of a band after cold reset: zero, none (R38). -/
def BandParams.zero : BandParams :=
  { baseKhz := 0, steps := 0, gapCc := 0, gapIm3 := 0, gapIm3x := 0, gapIm5 := 0, spareHw := 0, spareStride := 0,
    scanStart := 0, scanEnd := 0, binWidth := 0, hotLevel := 0, unknownPenalty := 0, scanUnit := none }

/-- A band record after cold reset (R38). -/
def Band.reset : Band :=
  { defined := false, p := BandParams.zero, frozen := false, carrierGen := 0, spectrumGen := 0, sweepWanted := false,
    exclusions := [], bins := [], spares := [], sparesFresh := false, scanReissue := [] }

/-- The configuration of a VACANT link: kind none. The other fields are absent (R99), and no read shows them (R97).
DESIGN CHOICE (log 15), unsafe. -/
def LinkConfig.vacant : LinkConfig :=
  { kind := none, band := 0, hw := 0, unit := 0, channel := 0, station := none, fadeLevel := 0, recoverLevel := 0,
    fadeQuality := 0, recoverQuality := 0, filterK := 0, fadeLimit := 0, silenceLimit := 0, acquireLimit := 0,
    confirmWindow := 0, autoRescue := false, batteryLow := 0 }

/-- The tally word OFF without CALL. -/
def TallyWord.dark : TallyWord := { tally := .off, call := false }

/-- A link record after cold reset (R99). -/
def Link.vacant : Link :=
  { cfg := LinkConfig.vacant, state := .vacant, assigned := none, pending := none, badRun := 0, goodRun := 0,
    fadeTimer := 0, silenceCounter := 0, rescue := .none, origin := none, effectiveFrame := none, deadline := none,
    lastReport := none, lostCause := none, wanted := TallyWord.dark, delivered := none, tallyOrder := none,
    retryAt := none, moveOrder := none, muteReissue := [] }

/-- A unit record after either reset (R136). -/
def UnitRec.reset : UnitRec := { nextNumber := 0, outstanding := [], waiting := [] }

/-- The staged plan after either reset (R123). -/
def Plan.reset : Plan := { state := .idle, entries := [], worst := none, checked := none, effective := none }

/-- A line input after cold reset (R155). -/
def LineInput.reset : LineInput := { filterK := 2, inverted := false, filtered := false, run := 0, edge := false }

/-- A zone after cold reset (R155). -/
def Zone.reset : Zone := { onAir := false, speakerCut := true }

/-- A lamp's configuration after cold reset (R163). -/
def LampConfig.reset : LampConfig :=
  { source := .none, levels := ⟨0, 0, 0, 0, 0⟩, cadences := ⟨⟨0, 0⟩, ⟨0, 0⟩, ⟨0, 0⟩, ⟨0, 0⟩, ⟨0, 0⟩⟩, invert := false,
    periodSelect := 6 }

/-- A lamp record after cold reset (R163). -/
def Lamp.reset : Lamp :=
  { cfg := LampConfig.reset, displayed := .off, phaseOn := true, remaining := 0, restart := true, selected := 0,
    drive := 0, driveInvert := false, drivePeriod := 6, heldTally := .off }

/-- An undefined station: every field at its default (section 10.1, R185). -/
def Station.undefined : Station :=
  { kind := none, link := none, zone := none, priority := 0, dimDepth := 0, tapWindow := 12, callFrames := 50, keys := [],
    pulseEnd := none, dimOrder := none, dimRetry := false, lampAcked := none, lampOrder := none, lampRetry := none,
    lastRefusal := none }

/-- The Frame Timebase after cold reset (R16). The frame numbered 0 begins when the reset ends, at time 0, and the last boundary,
for which R16 gives no value, stands at that time: DESIGN CHOICE (log 33), unsafe. -/
def Ftb.reset : Ftb :=
  { rate := .r50, lead := 6, refState := .absent, goodCount := 0, measuredPeriod := 0, goodPeriod := 20000, counter := 0,
    lastPulse := none, lastArrival := none, lastBoundary := 0, nextInternal := some 20000 }

/-- The Plan Evaluator after cold reset (R70). -/
def Pe.reset : Pe :=
  { queue := [], engine := .idle, queryNumber := 0, assign := List.replicate Config.links none,
    rescue := List.replicate Config.links none, query := List.replicate Config.bands none }

/-- The Tally Resolver after cold reset (R155). -/
def Tr.reset : Tr :=
  { lines := List.replicate Config.inputs LineInput.reset, virtuals := List.replicate Config.inputs false,
    map := List.replicate Config.mapEntries none, snapLines := List.replicate Config.inputs false,
    snapVirtuals := List.replicate Config.inputs false, snapFrame := none, linkTally := List.replicate Config.links .off,
    lampTally := List.replicate Config.lamps .off, zones := List.replicate Config.zones Zone.reset }

/-- The Talk Router after cold reset (R185). -/
def Tk.reset : Tk :=
  { stations := List.replicate Config.stations Station.undefined, groups := List.replicate Config.groups [],
    routes := [], breaks := [], zones := List.replicate Config.zones Zone.reset }

/-- The Message Port after a cold reset that read these straps (R198). -/
def Mp.reset (straps : BitVec 3) : Mp :=
  { bitRate := straps, rx := [], buffer := [], refusals := [], reply := none, fetched := [], sending := none,
    lastSent := none, noticeNumber := 0, pushMask := 0, attnMask := 0 }

/-- The part after a cold reset that read these straps, with no command waiting (R198 and the reset table of each chapter). -/
def State.cold (straps : BitVec 3) : State :=
  { mode := .standby, ftb := Ftb.reset, bands := List.replicate Config.bands Band.reset,
    links := List.replicate Config.links Link.vacant, pe := Pe.reset, plan := Plan.reset,
    units := List.replicate 25 UnitRec.reset, nextOrderId := 0, bus := [], tr := Tr.reset,
    lamps := List.replicate Config.lamps Lamp.reset, lampZones := List.replicate Config.zones false, tk := Tk.reset,
    mp := Mp.reset straps, nq := [{ cls := .device, obj := 0, causes := 1 }], owed := [], pending := [] }

/-- The part right after reset. The straps are an input; BR2..BR0 at 0 stand here.
DESIGN CHOICE (log 5), unsafe for the bit rate. -/
def State.reset : State := State.cold 0

end Sys2Proof.Machine
end

