-- ==== Sys2Proof/Machine/Ops.lean ====
section
/-! DEFINITION. The named operations over the state: tables numbered from 1, frame arithmetic, record updates and the raising
of notices. -/

namespace Sys2Proof.Machine

/-! ## Tables numbered from 1 -/

/-- Record `n` of a table whose records are numbered from 1, or `d` where there is none. -/
def slot {α : Type} (d : α) (xs : List α) : Nat → α
  | 0 => d
  | k + 1 => xs.getD k d

/-- A table with record `n` changed by `f`; a number the table does not have changes nothing. -/
def modSlot {α : Type} (f : α → α) (xs : List α) : Nat → List α
  | 0 => xs
  | k + 1 => xs.modify k f

/-- The numbers 1 to `n`. -/
def oneUpTo (n : Nat) : List Nat := (List.range n).map (· + 1)

/-- Insert into a list kept in the order `before`. -/
def insertBy {α : Type} (before : α → α → Bool) (a : α) : List α → List α
  | [] => [a]
  | b :: bs => if before a b then a :: b :: bs else b :: insertBy before a bs

/-- A list in the order `before`; items that are equal in it keep their places. -/
def sortBy {α : Type} (before : α → α → Bool) (xs : List α) : List α :=
  xs.foldr (insertBy before) []

/-! ## Records of the state -/

def State.band (s : State) (b : Nat) : Band := slot Band.reset s.bands b
def State.link (s : State) (l : Nat) : Link := slot Link.vacant s.links l
def State.lamp (s : State) (m : Nat) : Lamp := slot Lamp.reset s.lamps m
def State.station (s : State) (t : Nat) : Station := slot Station.undefined s.tk.stations t
def State.line (s : State) (n : Nat) : LineInput := slot LineInput.reset s.tr.lines n

/-- The place of a unit's record: addresses 1 to 24, then 31 (section 7.1). -/
def unitPlace (address : Nat) : Nat :=
  if address = Config.matrixAddress then 25 else if address ≤ 24 then address else 0

def State.unit (s : State) (address : Nat) : UnitRec := slot UnitRec.reset s.units (unitPlace address)

def State.modBand (s : State) (b : Nat) (f : Band → Band) : State := { s with bands := modSlot f s.bands b }
def State.modLink (s : State) (l : Nat) (f : Link → Link) : State := { s with links := modSlot f s.links l }
def State.modLamp (s : State) (m : Nat) (f : Lamp → Lamp) : State := { s with lamps := modSlot f s.lamps m }
def State.modUnit (s : State) (address : Nat) (f : UnitRec → UnitRec) : State :=
  { s with units := modSlot f s.units (unitPlace address) }
def State.modFtb (s : State) (f : Ftb → Ftb) : State := { s with ftb := f s.ftb }
def State.modPe (s : State) (f : Pe → Pe) : State := { s with pe := f s.pe }
def State.modPlan (s : State) (f : Plan → Plan) : State := { s with plan := f s.plan }
def State.modTr (s : State) (f : Tr → Tr) : State := { s with tr := f s.tr }
def State.modTk (s : State) (f : Tk → Tk) : State := { s with tk := f s.tk }
def State.modMp (s : State) (f : Mp → Mp) : State := { s with mp := f s.mp }
def State.modStation (s : State) (t : Nat) (f : Station → Station) : State :=
  s.modTk fun k => { k with stations := modSlot f k.stations t }
def State.modLine (s : State) (n : Nat) (f : LineInput → LineInput) : State :=
  s.modTr fun r => { r with lines := modSlot f r.lines n }

/-! ## Frame arithmetic (R10, R11) -/

/-- The number of the current frame (R9). -/
def State.now (s : State) : FrameNo := s.ftb.counter

/-- The distance from frame `a` to frame `b`: b − a modulo 2³², read as a signed value (R10). -/
def distance (a b : FrameNo) : Int := (b - a).toInt

/-- `b` is after `a` (R10). -/
def isAfter (a b : FrameNo) : Bool := decide (0 < distance a b)

/-- `b` is at or after `a` (R10). -/
def atOrAfter (a b : FrameNo) : Bool := decide (0 ≤ distance a b)

/-- A frame number and a count of frames, added modulo 2³² (R10). -/
def framePlus (a : FrameNo) (n : Nat) : FrameNo := a + BitVec.ofNat 32 n

/-- The low 16 bits of a frame number, as the Unit Bus carries it (R10). -/
def low16 (a : FrameNo) : BitVec 16 := a.setWidth 16

/-- now + lead: the effective frame of an action that names no frame (R11). -/
def State.nextEffective (s : State) : FrameNo := framePlus s.now s.ftb.lead

/-- The effective frame of a request that may name a frame; none is BAD_ARGUMENT (R11). -/
def State.effectiveFor (s : State) : Option FrameNo → Option FrameNo
  | none => some s.nextEffective
  | some e =>
    if distance s.now e < s.ftb.lead then some s.nextEffective
    else if distance s.now e ≤ 3000 then some e
    else none

/-! ## Notices (R191) -/

/-- A cause of a notice, class by class (section 11.3). -/
inductive Cause where
  | linkState | linkBattery | linkMuteFailed | linkStale | linkRefused | linkRescue
  | bandSpectrum | bandFreeze | bandSpares | bandQuery
  | planState | planInvalidated | planOutcome
  | tbAbsent | tbLocking | tbLocked | tbHoldover | tbRate
  | stationRefused | stationMatrixFailed
  | inputEdge
  | deviceReset | deviceRestart
  deriving DecidableEq, Repr

/-- The class a cause belongs to (section 11.3). -/
def Cause.cls : Cause → NoticeClass
  | .linkState | .linkBattery | .linkMuteFailed | .linkStale | .linkRefused | .linkRescue => .link
  | .bandSpectrum | .bandFreeze | .bandSpares | .bandQuery => .band
  | .planState | .planInvalidated | .planOutcome => .plan
  | .tbAbsent | .tbLocking | .tbLocked | .tbHoldover | .tbRate => .timebase
  | .stationRefused | .stationMatrixFailed => .station
  | .inputEdge => .input
  | .deviceReset | .deviceRestart => .device

/-- A cause's bit in the cause set, from bit 0 (section 11.3). -/
def Cause.bit : Cause → Nat
  | .linkState | .bandSpectrum | .planState | .tbAbsent | .stationRefused | .inputEdge | .deviceReset => 0
  | .linkBattery | .bandFreeze | .planInvalidated | .tbLocking | .stationMatrixFailed | .deviceRestart => 1
  | .linkMuteFailed | .bandSpares | .planOutcome | .tbLocked => 2
  | .linkStale | .bandQuery | .tbHoldover => 3
  | .linkRefused | .tbRate => 4
  | .linkRescue => 5

/-- The cause set of one cause. -/
def Cause.set (c : Cause) : BitVec 16 := BitVec.ofNat 16 (2 ^ c.bit)

/-- Whether a cause is in a cause set. -/
def Cause.within (c : Cause) (causes : BitVec 16) : Bool := causes.getLsbD c.bit

/-- Whether a notice is that of a class and an object. -/
def Notice.isFor (cls : NoticeClass) (obj : Nat) (n : Notice) : Bool :=
  decide (n.cls = cls) && decide (n.obj = obj)

/-- A queue after a cause is raised: it joins the notice of its class and object, or a new one at the tail (R191). -/
def joinNotice (c : Cause) (obj : Nat) (q : List Notice) : List Notice :=
  if q.any (Notice.isFor c.cls obj) then
    q.map fun n => if n.isFor c.cls obj then { n with causes := n.causes ||| c.set } else n
  else q ++ [{ cls := c.cls, obj := obj, causes := c.set }]

/-- Raise a notice (R191). -/
def raise (c : Cause) (obj : Nat) (s : State) : State := { s with nq := joinNotice c obj s.nq }

end Sys2Proof.Machine
end

