-- ==== Sys2Proof/Machine/Flags.lean ====
section
/-! DEFINITION. The flags and sets that the part derives from its records and keeps nowhere: the carrier set and the masked
bins of a band, which links are in service, which stations are called, and ATTN. -/

namespace Sys2Proof.Machine

/-! ## Carriers (R22) -/

/-- The order of roles (R22, R46). -/
def Role.code : Role → Nat
  | .assigned => 1
  | .pending => 2
  | .candidate => 3

/-- The carriers that link `l` holds by its state (R22). -/
def Link.carriers (l : Nat) (k : Link) : List Carrier :=
  let at_ (r : Role) (f : Option Nat) : List Carrier :=
    f.toList.map fun step => { step := step, hw := k.cfg.hw, link := l, role := r }
  match k.state with
  | .vacant | .idle => []
  | .retuning => at_ .assigned k.assigned ++ at_ .pending k.pending
  | .acquiring | .locked | .fading | .reverting | .parked | .lost => at_ .assigned k.assigned

/-- The order of a carrier set: step, then link, then role (R22, R40). -/
def Carrier.before (a b : Carrier) : Bool :=
  if a.step ≠ b.step then decide (a.step < b.step)
  else if a.link ≠ b.link then decide (a.link < b.link)
  else decide (a.role.code < b.role.code)

/-- The carrier set of a band (R22). -/
def State.carrierSet (s : State) (b : Nat) : List Carrier :=
  sortBy Carrier.before ((oneUpTo Config.links).flatMap fun l =>
    if (s.link l).cfg.band = b then (s.link l).carriers l else [])

/-- Whether a link of the band holds a carrier (R17). -/
def State.bandHolds (s : State) (b : Nat) : Bool := !(s.carrierSet b).isEmpty

/-- Whether a link holds a carrier (R73). -/
def Link.holds (k : Link) : Bool := !(k.carriers 0).isEmpty

/-! ## Scan bins (R18, R28, R30) -/

/-- The bin count of a scan window: its length over the bin width, rounded up (R18). -/
def BandParams.binCount (p : BandParams) : Nat :=
  (p.scanEnd - p.scanStart + 1 + p.binWidth - 1) / p.binWidth

/-- The span of bin `i` (R18). -/
def BandParams.binSpan (p : BandParams) (i : Nat) : StepRange :=
  { lo := p.scanStart + i * p.binWidth, hi := p.scanStart + (i + 1) * p.binWidth - 1 }

/-- The bin a step of the scan window lies in (R18). -/
def BandParams.binOf (p : BandParams) (step : Nat) : Option Nat :=
  if p.scanStart ≤ step ∧ step ≤ p.scanEnd then some ((step - p.scanStart) / p.binWidth) else none

/-- The occupied span of a carrier at `f` meets a range; the span may reach below step 0 (section 5.2). -/
def spanMeets (f hw : Nat) (r : StepRange) : Bool := decide (f ≤ r.hi + hw) && decide (r.lo ≤ f + hw)

/-- Bin `i` is masked while a held carrier's occupied span meets its span (R28). -/
def State.masked (s : State) (b i : Nat) : Bool :=
  (s.carrierSet b).any fun c => spanMeets c.step c.hw ((s.band b).p.binSpan i)

/-- The spans of the hot bins, in bin order, not merged (R30). -/
def Band.hotRanges (k : Band) : List StepRange :=
  k.bins.zipIdx.filterMap fun (x, i) => if x.hot then some (k.p.binSpan i) else none

/-- The number of hot bins of a band. -/
def Band.hotCount (k : Band) : Nat := k.bins.countP (·.hot)

/-- The number of masked bins of a band. -/
def State.maskedCount (s : State) (b : Nat) : Nat :=
  (List.range (s.band b).bins.length).countP fun i => s.masked b i

/-! ## Links and stations -/

/-- LOCKED or FADING: tally is delivered and routes may be LIVE (R145, R173). -/
def LinkState.inService : LinkState → Bool
  | .locked | .fading => true
  | _ => false

/-- The states in which the silence watchdog counts (R82). -/
def LinkState.counted : LinkState → Bool
  | .acquiring | .locked | .fading | .retuning | .reverting => true
  | _ => false

/-- The links whose band is `b`. -/
def State.linksOf (s : State) (b : Nat) : List Nat :=
  (oneUpTo Config.links).filter fun l => decide ((s.link l).cfg.band = b) && (s.link l).cfg.kind.isSome

/-- The defined link with a unit and channel (R71, R133). -/
def State.linkAt (s : State) (unit channel : Nat) : Option Nat :=
  (oneUpTo Config.links).find? fun l =>
    (s.link l).cfg.kind.isSome && decide ((s.link l).cfg.unit = unit) && decide ((s.link l).cfg.channel = channel)

/-- A call pulse runs for station `t` (R169). -/
def State.called (s : State) (t : Nat) : Bool := (s.station t).pulseEnd.isSome

/-! ## ATTN (R192) -/

/-- The class code (section 11.3). -/
def NoticeClass.code : NoticeClass → Nat
  | .link => 1 | .band => 2 | .plan => 3 | .timebase => 4 | .station => 5 | .input => 6 | .device => 7

/-- Whether a class is in a mask (R192). -/
def NoticeClass.within (c : NoticeClass) (mask : BitVec 8) : Bool := mask.getLsbD (c.code - 1)

/-- ATTN is asserted while the queue holds a notice of a class in the attention mask (R192). -/
def State.attn (s : State) : Bool := s.nq.any fun n => n.cls.within s.mp.attnMask

end Sys2Proof.Machine
end

