-- ==== Sys2Proof/Machine/Arithmetic.lean ====
section
/-! DEFINITION. Intermodulation arithmetic (chapter 3): the constraints a set of carriers forms with a band, the worst of
them, and the score of a spare. Every computation is exact and integer. -/

namespace Sys2Proof.Machine

/-- A constraint is formed only over carriers of different links (R39). A set under test holds at most one carrier without a
link, so its number 0 tells it from every other. -/
def differ (a b : Carrier) : Bool := decide (a.link ≠ b.link)

/-- A carrier as a constraint record names it (R47). -/
def Carrier.point (c : Carrier) : Point := { step := c.step, link := c.link, role := some c.role }

/-- One end of a range as a constraint record names it (R47). -/
def endPoint (step : Nat) : Point := { step := step, link := 0, role := none }

/-- The SPACING margin of two carriers (R40). -/
def spacingMargin (gap : Nat) (a b : Carrier) : Int :=
  ((a.step : Int) - b.step).natAbs - a.hw - b.hw - gap

/-- The SPACING constraint of two carriers, `a` being first in the order of R40. -/
def spacing (band gap : Nat) (a b : Carrier) : Constraint :=
  { band := band, kind := .spacing, margin := spacingMargin gap a b, victim := some a.point, first := some b.point,
    second := none, third := none, product := 0, spread := 0 }

/-- The distance of a step from a range, 0 inside it (R41). -/
def rangeDistance (f : Nat) (r : StepRange) : Int :=
  if f < r.lo then (r.lo : Int) - f else if r.hi < f then (f : Int) - r.hi else 0

/-- The EXCLUSION or HOT_BIN constraint of a carrier and a range (R41). -/
def barred (band : Nat) (kind : ConstraintKind) (gap : Nat) (v : Carrier) (r : StepRange) : Constraint :=
  { band := band, kind := kind, margin := rangeDistance v.step r - v.hw - gap, victim := some v.point,
    first := some (endPoint r.lo), second := some (endPoint r.hi), third := none, product := 0, spread := 0 }

/-- An intermodulation constraint of a victim and a product (R42 to R44). -/
def intermod (band : Nat) (kind : ConstraintKind) (gap : Nat) (v : Carrier) (p : Int) (ph : Nat)
    (a b : Carrier) (k : Option Carrier) : Constraint :=
  { band := band, kind := kind, margin := ((v.step : Int) - p).natAbs - v.hw - ph - gap, victim := some v.point,
    first := some a.point, second := some b.point, third := k.map Carrier.point, product := p, spread := ph }

/-- The SPACING constraints of a set (R40). -/
def spacings (band gap : Nat) (cs : List Carrier) : List Constraint :=
  cs.flatMap fun a => cs.filterMap fun b =>
    if differ a b && a.before b then some (spacing band gap a b) else none

/-- The EXCLUSION or HOT_BIN constraints of a set (R41). -/
def barreds (band : Nat) (kind : ConstraintKind) (gap : Nat) (rs : List StepRange) (cs : List Carrier) : List Constraint :=
  cs.flatMap fun v => rs.map fun r => barred band kind gap v r

/-- The IM3_2T constraints of a set (R42). -/
def im3Twos (band gap : Nat) (cs : List Carrier) : List Constraint :=
  cs.flatMap fun a => cs.flatMap fun b => if differ a b then
    cs.filterMap fun v => if differ a v && differ b v then
      some (intermod band .im3Two gap v (2 * a.step - b.step) (2 * a.hw + b.hw) a b none) else none
    else []

/-- The IM3_3T constraints of a set (R43). -/
def im3Threes (band gap : Nat) (cs : List Carrier) : List Constraint :=
  cs.flatMap fun a => cs.flatMap fun b => if differ a b && a.before b then
    cs.flatMap fun k => if differ a k && differ b k then
      cs.filterMap fun v => if differ a v && differ b v && differ k v then
        some (intermod band .im3Three gap v ((a.step : Int) + b.step - k.step) (a.hw + b.hw + k.hw) a b (some k)) else none
      else []
    else []

/-- The IM5_2T constraints of a set; none while the guard is 0 (R44). -/
def im5Twos (band gap : Nat) (cs : List Carrier) : List Constraint :=
  if gap = 0 then [] else
  cs.flatMap fun a => cs.flatMap fun b => if differ a b then
    cs.filterMap fun v => if differ a v && differ b v then
      some (intermod band .im5Two gap v (3 * a.step - 2 * b.step) (3 * a.hw + 2 * b.hw) a b none) else none
    else []

/-- The constraints that need no product: SPACING, EXCLUSION and HOT_BIN (R50). -/
def plainConstraints (g : BandSnap) (cs : List Carrier) : List Constraint :=
  spacings g.band g.p.gapCc cs ++ barreds g.band .exclusion g.p.gapCc g.exclusions cs
    ++ barreds g.band .hotBin g.p.gapCc g.hot cs

/-- The intermodulation constraints (R42 to R44). -/
def productConstraints (g : BandSnap) (cs : List Carrier) : List Constraint :=
  im3Twos g.band g.p.gapIm3 cs ++ im3Threes g.band g.p.gapIm3x cs ++ im5Twos g.band g.p.gapIm5 cs

/-- Every constraint a set forms with a band, or those that an override allows (R45, R50). -/
def constraints (g : BandSnap) (override : Bool) (cs : List Carrier) : List Constraint :=
  if override then plainConstraints g cs else plainConstraints g cs ++ productConstraints g cs

/-- The order of kinds (R46). -/
def ConstraintKind.code : ConstraintKind → Nat
  | .none => 0 | .spacing => 1 | .exclusion => 2 | .hotBin => 3 | .im3Two => 4 | .im3Three => 5 | .im5Two => 6

def Point.stepKey (p : Option Point) : Int := p.elim 0 fun q => q.step
def Point.linkKey (p : Option Point) : Int := p.elim 0 fun q => q.link
def Point.roleKey (p : Option Point) : Int := p.elim 0 fun q => q.role.elim 0 fun r => r.code

/-- The keys that order constraints (R46), with the band number after the margin as a plan check orders them (R52). -/
def Constraint.keys (c : Constraint) : List Int :=
  [c.margin, c.band, c.kind.code, Point.stepKey c.victim, Point.stepKey c.first, Point.stepKey c.second,
   Point.stepKey c.third, Point.linkKey c.victim, Point.linkKey c.first, Point.linkKey c.second, Point.linkKey c.third,
   Point.roleKey c.victim, Point.roleKey c.first, Point.roleKey c.second, Point.roleKey c.third]

/-- Lexicographic order of key lists. -/
def keysLt : List Int → List Int → Bool
  | x :: xs, y :: ys => if x = y then keysLt xs ys else decide (x < y)
  | _, _ => false

/-- `a` comes before `b` in the order of R46. -/
def Constraint.worse (a b : Constraint) : Bool := keysLt a.keys b.keys

/-- The record of a set that forms no constraint: kind NONE and margin 4095 (R45, R46). -/
def noConstraint (band : Nat) : Constraint :=
  { band := band, kind := .none, margin := 4095, victim := none, first := none, second := none, third := none,
    product := 0, spread := 0 }

/-- The first of some constraints in the order of R46, or kind NONE where there is none. -/
def worstOf (band : Nat) : List Constraint → Constraint
  | [] => noConstraint band
  | c :: cs => cs.foldl (fun m x => if x.worse m then x else m) c

/-- The set margin and the worst constraint of a set, in one record (R45, R46). -/
def evaluate (g : BandSnap) (override : Bool) (cs : List Carrier) : Constraint :=
  worstOf g.band (constraints g override cs)

/-- A margin as it is reported: clamped to −4095..4095 (R45). -/
def clampMargin (m : Int) : Int := max (-4095) (min 4095 m)

/-- The held set without link `x`'s carriers; link 0 stands for none and removes nothing (R49). -/
def without (x : Nat) (cs : List Carrier) : List Carrier :=
  if x = 0 then cs else cs.filter fun c => decide (c.link ≠ x)

/-- A candidate check (R49, R50): step `c` of half-width `hw`, for link `x` or none. -/
def candidateCheck (g : BandSnap) (override : Bool) (c hw x : Nat) : Constraint :=
  evaluate g override (without x g.held ++ [{ step := c, hw := hw, link := x, role := .candidate }])

/-- The level a candidate is scored with (R53). -/
def scoreLevel (g : BandSnap) (step : Nat) : Nat :=
  ((g.p.binOf step).bind fun i => (g.bins[i]?).bind Bin.level).getD g.p.unknownPenalty

/-- The score of a step with a set margin: 4 × the lesser of the margin and 63, less the level (R53). -/
def score (g : BandSnap) (step : Nat) (margin : Int) : Int := 4 * min margin 63 - scoreLevel g step

/-- The candidates of a sweep (R53). -/
def sweepCandidates (p : BandParams) : List Nat :=
  (List.range ((p.scanEnd - p.scanStart) / p.spareStride + 1)).map fun i => p.scanStart + i * p.spareStride

/-- The order of a spare list: score highest first, then step lowest first (R32, R53). -/
def Spare.before (a b : Spare) : Bool :=
  if a.score ≠ b.score then decide (b.score < a.score) else decide (a.step < b.step)

/-- The eligible candidates of a sweep, ranked (R53). -/
def sweepRanked (g : BandSnap) (now : FrameNo) : List Spare :=
  sortBy Spare.before ((sweepCandidates g.p).filterMap fun step =>
    let m := (candidateCheck g false step g.p.spareHw 0).margin
    if 0 ≤ m then some { step := step, score := score g step m, sweepFrame := now } else none)

/-! ## The plan check (R51, R52) -/

/-- The carriers a plan adds to a band: one for each move entry of a link of the band (R51). -/
def planAdded (b : Nat) (es : List EntrySnap) : List Carrier :=
  es.filterMap fun e => if e.band = b then
    e.target.map fun step => { step := step, hw := e.hw, link := e.link, role := .candidate } else none

/-- The final set of a band (R51). -/
def finalSet (g : BandSnap) (es : List EntrySnap) : List Carrier :=
  g.held.filter (fun c => !es.any fun e => decide (e.link = c.link)) ++ planAdded g.band es

/-- The victim and the source of a SPACING constraint in the order of R40. -/
def orderedSpacing (band gap : Nat) (a b : Carrier) : Constraint :=
  if a.before b then spacing band gap a b else spacing band gap b a

/-- The transitional SPACING constraints of a band (R52). -/
def transitional (g : BandSnap) (es : List EntrySnap) : List Constraint :=
  (planAdded g.band es).flatMap fun t => g.held.filterMap fun h =>
    if differ t h then some (orderedSpacing g.band g.p.gapCc t h) else none

/-- The worst of the constraints that a plan forms, over the final sets of all touched bands and the transitional constraints; its
margin is the plan margin, since a set that forms none has margin 4095 and the worst of a set that forms any has no more (R52). Where
there is none at all, kind NONE with the lowest touched band, or with band 0 where the plan touches none.
DESIGN CHOICE (log 36), unsafe for that band number. -/
def planWorst (bands : List BandSnap) (es : List EntrySnap) : Constraint :=
  worstOf ((bands.map BandSnap.band).headD 0)
    (bands.flatMap fun g => constraints g false (finalSet g es) ++ transitional g es)

/-- The snapshot holds an entry whose link is undefined, or a target above its band's last step (R51, R62). -/
def planBroken (bands : List BandSnap) (es : List EntrySnap) : Bool :=
  es.any fun e => !e.defined || e.target.any fun t =>
    !(bands.any fun g => decide (g.band = e.band) && decide (t < g.p.steps))

end Sys2Proof.Machine
end

