-- ==== Sys2Proof/Machine/Operands.lean ====
section
/-! DEFINITION. The byte forms of chapter 11 and chapter 7: how numbers, enumerated values, optional fields, lists and masks
are carried (R186), and what each request's payload names. A reader answers none where the payload's length differs from the
length its arguments give, or a code in it names nothing: both are BAD_ARGUMENT before any check of the owning rule (R190).
Where R186 leaves a layout to reading: DEDUCED (log 21), unsafe for the meaning of a single byte. -/

namespace Sys2Proof.Machine

/-! ## Writing (R186) -/

def u8 (n : Nat) : List Byte := [BitVec.ofNat 8 n]
def u16 (n : Nat) : List Byte := [BitVec.ofNat 8 (n / 256), BitVec.ofNat 8 n]
def u24 (n : Nat) : List Byte := BitVec.ofNat 8 (n / 65536) :: u16 n
def u32 (n : Nat) : List Byte := u16 (n / 65536) ++ u16 n

/-- A signed number in two bytes of two's complement. -/
def s16 (z : Int) : List Byte := u16 (BitVec.ofInt 16 z).toNat

/-- A frame number or a generation counter: four bytes. -/
def w32 (a : BitVec 32) : List Byte := u32 a.toNat

/-- A field that may be absent: a presence byte, then the value when present. -/
def opt {α : Type} (f : α → List Byte) : Option α → List Byte
  | none => u8 0
  | some a => u8 1 ++ f a

/-- A list of at most 255 items: a count, then the items. -/
def listed {α : Type} (f : α → List Byte) (xs : List α) : List Byte := u8 xs.length ++ xs.flatMap f

/-- A two-valued field whose rule lists the true value first: yes or no, on or off, set or clear, active or inactive. -/
def firstIf (b : Bool) : List Byte := u8 (if b then 0 else 1)

/-- A flag without a list of values: 1 when it holds. -/
def flag (b : Bool) : List Byte := u8 (if b then 1 else 0)

/-- The number whose bit i is item i + 1 of a list. -/
def maskNat (bs : List Bool) : Nat := bs.foldr (fun b n => 2 * n + b.toNat) 0

/-- A number of 1..n or none: 0 for none. -/
def orZero (n : Option Nat) : List Byte := u8 (n.getD 0)

/-! ## Enumerated values: each by its position, from 0, in the list its rule gives (R186) -/

def Mode.code : Mode → Nat | .standby => 0 | .run => 1
def RefState.code : RefState → Nat | .absent => 0 | .locking => 1 | .locked => 2 | .holdover => 3
def Rate.code : Rate → Nat | .r25 => 0 | .r2997 => 1 | .r30 => 2 | .r50 => 3 | .r5994 => 4 | .r60 => 5

def rateOf : Nat → Option Rate
  | 0 => some .r25 | 1 => some .r2997 | 2 => some .r30 | 3 => some .r50 | 4 => some .r5994 | 5 => some .r60
  | _ => none

def kindCode : Option LinkKind → Nat
  | some .camera => 0 | some .mic => 1 | some .beltpack => 2 | some .ifb => 3 | none => 4

def kindOf : Nat → Option (Option LinkKind)
  | 0 => some (some .camera) | 1 => some (some .mic) | 2 => some (some .beltpack) | 3 => some (some .ifb)
  | 4 => some none
  | _ => none

def LinkState.code : LinkState → Nat
  | .vacant => 0 | .idle => 1 | .acquiring => 2 | .locked => 3 | .fading => 4 | .retuning => 5 | .reverting => 6
  | .parked => 7 | .lost => 8

def Rescue.code : Rescue → Nat | .none => 0 | .wanted => 1 | .picking => 2 | .exhausted => 3
def Origin.code : Origin → Nat | .plan => 0 | .rescue => 1
def LostCause.code : LostCause → Nat | .silent => 0 | .noLock => 1 | .revertFailed => 2
def AssignOutcome.code : AssignOutcome → Nat | .stale => 0 | .pass => 1 | .refused => 2
def RescueOutcome.code : RescueOutcome → Nat | .chosen => 0 | .deferred => 1 | .exhausted => 2
def QueryOutcome.code : QueryOutcome → Nat | .pass => 0 | .fail => 1 | .discarded => 2
def Engine.code : Engine → Nat | .idle => 0 | .running => 1 | .draining => 2
def JobKind.code : JobKind → Nat
  | .planCheck => 0 | .assignCheck _ _ _ => 1 | .query _ _ _ _ _ => 2 | .spareSweep _ => 3 | .rescuePick _ _ => 4
def PlanState.code : PlanState → Nat
  | .idle => 0 | .opened => 1 | .checking => 2 | .ready => 3 | .rejected => 4 | .applying => 5 | .done => 6
def EntryOutcome.code : EntryOutcome → Nat
  | .moved => 0 | .reverted => 1 | .lost => 2 | .acquired => 3 | .vacated => 4
def Shown.code : Shown → Nat | .off => 0 | .preview => 1 | .program => 2 | .talk => 3 | .call => 4
def KeyMode.code : KeyMode → Nat | .momentary => 0 | .latch => 1 | .auto => 2 | .call => 3

def stationKindCode : Option StationKind → Nat
  | some .panel => 0 | some .linked => 1 | some .speaker => 2 | some .ifb => 3 | none => 4

def stationKindOf : Nat → Option (Option StationKind)
  | 0 => some (some .panel) | 1 => some (some .linked) | 2 => some (some .speaker) | 3 => some (some .ifb)
  | 4 => some none
  | _ => none

def keyModeOf : Nat → Option KeyMode
  | 0 => some .momentary | 1 => some .latch | 2 => some .auto | 3 => some .call
  | _ => none

/-- Key states have the codes of the TALK_LAMP layout (section 7.3). -/
def KeyState.code : KeyState → Nat | .off => 0 | .held => 1 | .tapping => 2 | .latched => 3

/-- Tallies have the codes of the TALLY layout (section 7.3). -/
def Tally.code : Tally → Nat | .off => 0 | .preview => 1 | .program => 2

/-- A tally word in one byte: bits 1..0 the tally, bit 2 CALL (section 7.3). -/
def TallyWord.code (w : TallyWord) : Nat := w.tally.code + (if w.call then 4 else 0)

/-- The role code of a constraint record, 0 for absent (section 11.2). -/
def roleCode (r : Option Role) : Nat := r.elim 0 Role.code

/-- The true value listed first: 0 gives true and 1 gives false. -/
def firstOf : Nat → Option Bool
  | 0 => some true | 1 => some false
  | _ => none

/-- A flag: 1 gives true. -/
def flagOf : Nat → Option Bool
  | 0 => some false | 1 => some true
  | _ => none

/-- A number of 1..n or none. -/
def noneIfZero (n : Nat) : Option Nat := if n = 0 then none else some n

/-! ## Reading -/

def be16 (a b : Byte) : Nat := a.toNat * 256 + b.toNat
def be24 (a b c : Byte) : Nat := a.toNat * 65536 + be16 b c
def be32 (a b c d : Byte) : Nat := be16 a b * 65536 + be16 c d

/-- The first `n` bits of a number, the lowest being item 1. -/
def bitsOf (n w : Nat) : List Bool := (List.range n).map (Nat.testBit w)

/-- Take `n` items of `k` bytes each. -/
def chunks (k : Nat) : Nat → List Byte → Option (List (List Byte) × List Byte)
  | 0, bs => some ([], bs)
  | n + 1, bs =>
    if bs.length < k then none
    else (chunks k n (bs.drop k)).map fun (xs, rest) => (bs.take k :: xs, rest)

/-- A list of items of `k` bytes, carried as a count and the items. -/
def countedChunks (k : Nat) : List Byte → Option (List (List Byte) × List Byte)
  | [] => none
  | n :: bs => chunks k n.toNat bs

/-- A list of one-byte numbers, carried as a count and the numbers. -/
def countedBytes (bs : List Byte) : Option (List Nat × List Byte) :=
  (countedChunks 1 bs).map fun (xs, rest) => (xs.flatten.map BitVec.toNat, rest)

/-- A payload without arguments. -/
def readNothing : List Byte → Option Unit
  | [] => some ()
  | _ => none

/-- One object number. -/
def readOne : List Byte → Option Nat
  | [a] => some a.toNat
  | _ => none

/-- Two one-byte numbers: TB_CONFIGURE (R12), SCAN_READ (R36), TALK_READ (R181), NOTICE_ENABLE (R192). -/
def readTwo : List Byte → Option (Nat × Nat)
  | [a, b] => some (a.toNat, b.toNat)
  | _ => none

/-- BAND_DEFINE (R17): the band and the parameters in the order of section 2.1. -/
def readBandDefine : List Byte → Option (Nat × BandParams)
  | [b, k1, k2, k3, s1, s2, cc, i3, i3x, i5, hw, stride, a1, a2, e1, e2, w, hot, pen, unit] =>
    some (b.toNat,
      { baseKhz := be24 k1 k2 k3, steps := be16 s1 s2, gapCc := cc.toNat, gapIm3 := i3.toNat, gapIm3x := i3x.toNat,
        gapIm5 := i5.toNat, spareHw := hw.toNat, spareStride := stride.toNat, scanStart := be16 a1 a2,
        scanEnd := be16 e1 e2, binWidth := w.toNat, hotLevel := hot.toNat, unknownPenalty := pen.toNat,
        scanUnit := noneIfZero unit.toNat })
  | _ => none

/-- The four guards of a BAND_GUARDS (R19). -/
structure Guards where
  band : Nat
  cc : Nat
  im3 : Nat
  im3x : Nat
  im5 : Nat
  deriving DecidableEq, Repr

/-- BAND_GUARDS (R19). -/
def readGuards : List Byte → Option Guards
  | [b, cc, i3, i3x, i5] => some ⟨b.toNat, cc.toNat, i3.toNat, i3x.toNat, i5.toNat⟩
  | _ => none

/-- EXCL_ADD and EXCL_REMOVE (R25): a band and a range. -/
def readRange : List Byte → Option (Nat × StepRange)
  | [b, l1, l2, h1, h2] => some (b.toNat, ⟨be16 l1 l2, be16 h1 h2⟩)
  | _ => none

/-- The sections of a BAND_READ (R35); CARRIERS has a first index. -/
inductive BandSection where
  | parameters | carriers (first : Nat) | exclusions | spares
  deriving DecidableEq, Repr

/-- BAND_READ (R35): a band, a section, and for CARRIERS a first index. -/
def readBandRead : List Byte → Option (Nat × BandSection)
  | [b, sec] =>
    match sec.toNat with
    | 0 => some (b.toNat, .parameters)
    | 2 => some (b.toNat, .exclusions)
    | 3 => some (b.toNat, .spares)
    | _ => none
  | [b, sec, i] => if sec.toNat = 1 then some (b.toNat, .carriers i.toNat) else none
  | _ => none

/-- A CHECK_CANDIDATE (R63). -/
structure Candidate where
  band : Nat
  step : Nat
  hw : Nat
  link : Nat
  deriving DecidableEq, Repr

/-- CHECK_CANDIDATE (R63). -/
def readCandidate : List Byte → Option Candidate
  | [b, s1, s2, hw, l] => some ⟨b.toNat, be16 s1 s2, hw.toNat, l.toNat⟩
  | _ => none

/-- LINK_DEFINE (R73): the link and the fields from kind to battery_low, in the order of section 5.1. -/
def readLinkDefine : List Byte → Option (Nat × LinkConfig)
  | [l, k, b, hw, unit, ch, st, fl, rl, fq, rq, fk, flim, slim, a1, a2, cw, auto, bat] =>
    match kindOf k.toNat, firstOf auto.toNat with
    | some kind, some rescue =>
      some (l.toNat,
        { kind := kind, band := b.toNat, hw := hw.toNat, unit := unit.toNat, channel := ch.toNat,
          station := noneIfZero st.toNat, fadeLevel := fl.toNat, recoverLevel := rl.toNat, fadeQuality := fq.toNat,
          recoverQuality := rq.toNat, filterK := fk.toNat, fadeLimit := flim.toNat, silenceLimit := slim.toNat,
          acquireLimit := be16 a1 a2, confirmWindow := cw.toNat, autoRescue := rescue, batteryLow := bat.toNat })
    | _, _ => none
  | _ => none

/-- A LINK_ASSIGN (R85). -/
structure Assign where
  link : Nat
  step : Nat
  override : Bool
  deriving DecidableEq, Repr

/-- LINK_ASSIGN (R85). -/
def readAssign : List Byte → Option Assign
  | [l, s1, s2, o] => (flagOf o.toNat).map fun o => ⟨l.toNat, be16 s1 s2, o⟩
  | _ => none

/-- PLAN_ENTRY (R110): a link and a target, the step present, or absent for VACATE. -/
def readPlanEntry : List Byte → Option (Nat × Option Nat)
  | [l, p] => if p.toNat = 0 then some (l.toNat, none) else none
  | [l, p, s1, s2] => if p.toNat = 1 then some (l.toNat, some (be16 s1 s2)) else none
  | _ => none

/-- PLAN_LAUNCH (R113): an optional requested frame. -/
def readLaunch : List Byte → Option (Option FrameNo)
  | [p] => if p.toNat = 0 then some none else none
  | [p, a, b, c, d] => if p.toNat = 1 then some (some (BitVec.ofNat 32 (be32 a b c d))) else none
  | _ => none

/-- A TALLY_INPUT_CONFIGURE (R139). -/
structure InputConfig where
  mask : Nat
  filterK : Nat
  inverted : Bool
  deriving DecidableEq, Repr

/-- TALLY_INPUT_CONFIGURE (R139): NORMAL is 0 and INVERTED is 1. -/
def readInputConfig : List Byte → Option InputConfig
  | [a, b, c, d, k, p] => (flagOf p.toNat).map fun inv => ⟨be32 a b c d, k.toNat, inv⟩
  | _ => none

/-- TALLY_VIRTUAL (R140): a mask and a set of values. -/
def readVirtual : List Byte → Option (Nat × Nat)
  | [a, b, c, d, e, f, g, h] => some (be32 a b c d, be32 e f g h)
  | _ => none

/-- The input of a map entry: LINE 0, VIRTUAL 1, then its number (R141). -/
def tallyInputOf (kind n : Nat) : Option TallyInput :=
  match kind with
  | 0 => some (.line n)
  | 1 => some (.virt n)
  | _ => none

/-- TALLY_MAP_SET (R141): an entry number, and the contents present, or absent for CLEAR. -/
def readMapSet : List Byte → Option (Nat × Option MapEntry)
  | [n, p] => if p.toNat = 0 then some (n.toNat, none) else none
  | n :: p :: k :: i :: c :: z :: rest =>
    if p.toNat = 1 then
      match tallyInputOf k.toNat i.toNat, firstOf c.toNat, countedBytes rest with
      | some input, some program, some (links, more) =>
        match countedBytes more with
        | some (lamps, []) =>
          some (n.toNat, some { input := input, program := program, zone := noneIfZero z.toNat, links := links, lamps := lamps })
        | _ => none
      | _, _, _ => none
    else none
  | _ => none

/-- The sections of a TALLY_READ (R151); MAP has a first entry number. -/
inductive TallySection where
  | inputs | snapshot | map (first : Nat)
  deriving DecidableEq, Repr

/-- TALLY_READ (R151): a section, a clear-mask, and for MAP a first entry number. -/
def readTallyRead : List Byte → Option (TallySection × Nat)
  | [sec, a, b, c, d] =>
    match sec.toNat with
    | 0 => some (.inputs, be32 a b c d)
    | 1 => some (.snapshot, be32 a b c d)
    | _ => none
  | [sec, a, b, c, d, n] => if sec.toNat = 2 then some (.map n.toNat, be32 a b c d) else none
  | _ => none

/-- ZONE_INTERLOCK (R150): a zone and on or off. -/
def readInterlock : List Byte → Option (Nat × Bool)
  | [z, v] => (firstOf v.toNat).map fun on => (z.toNat, on)
  | _ => none

/-- A lamp source: NONE 0, TALLY 1, ZONE 2 with its number, TALK 3 with its number (R160). -/
def lampSourceOf : List Byte → Option (LampSource × List Byte)
  | [] => none
  | k :: rest =>
    match k.toNat, rest with
    | 0, _ => some (.none, rest)
    | 1, _ => some (.tally, rest)
    | 2, n :: more => some (.zone n.toNat, more)
    | 3, n :: more => some (.talk n.toNat, more)
    | _, _ => none

/-- LAMP_CONFIGURE (R160): a lamp, its source, five levels, five cadences, invert and period_select. -/
def readLampConfigure : List Byte → Option (Nat × LampConfig)
  | [] => none
  | m :: bs =>
    match lampSourceOf bs with
    | some (src, [l0, l1, l2, l3, l4, n0, f0, n1, f1, n2, f2, n3, f3, n4, f4, inv, per]) =>
      (firstOf inv.toNat).map fun invert =>
        (m.toNat,
          { source := src, levels := ⟨l0.toNat, l1.toNat, l2.toNat, l3.toNat, l4.toNat⟩,
            cadences := ⟨⟨n0.toNat, f0.toNat⟩, ⟨n1.toNat, f1.toNat⟩, ⟨n2.toNat, f2.toNat⟩, ⟨n3.toNat, f3.toNat⟩,
              ⟨n4.toNat, f4.toNat⟩⟩,
            invert := invert, periodSelect := per.toNat })
    | _ => none

/-- One key of a STATION_DEFINE: number, target (station 0 or group 1, and its number) and mode (R164). -/
def keyOf : List Byte → Option Key
  | [n, k, t, m] =>
    match (match k.toNat with | 0 => some (KeyTarget.station t.toNat) | 1 => some (.group t.toNat) | _ => none),
        keyModeOf m.toNat with
    | some target, some mode =>
      some { number := n.toNat, target := target, mode := mode, state := .off, pressed := false, tapDeadline := none }
    | _, _ => none
  | _ => none

/-- STATION_DEFINE (R164): a station, its kind and its configuration, the keys last. -/
def readStationDefine : List Byte → Option (Nat × Station)
  | t :: k :: l :: z :: pri :: dim :: tap :: call :: rest =>
    match stationKindOf k.toNat, countedChunks 4 rest with
    | some kind, some (ks, []) =>
      (ks.mapM keyOf).map fun keys =>
        (t.toNat,
          { Station.undefined with
            kind := kind, link := noneIfZero l.toNat, zone := noneIfZero z.toNat, priority := pri.toNat,
            dimDepth := dim.toNat, tapWindow := tap.toNat, callFrames := call.toNat, keys := keys })
    | _, _ => none
  | _ => none

/-- GROUP_DEFINE (R165): a group and a list of stations. -/
def readGroupDefine : List Byte → Option (Nat × List Nat)
  | [] => none
  | g :: rest =>
    match countedBytes rest with
    | some (ms, []) => some (g.toNat, ms)
    | _ => none

/-- A KEY_EVENT (R166). -/
structure KeyPress where
  station : Nat
  key : Nat
  down : Bool
  deriving DecidableEq, Repr

/-- KEY_EVENT (R166): DOWN is 0 and UP is 1. -/
def readKeyPress : List Byte → Option KeyPress
  | [t, k, d] => (firstOf d.toNat).map fun down => ⟨t.toNat, k.toNat, down⟩
  | _ => none

end Sys2Proof.Machine
end

