-- ==== Sys2Proof/Machine/UnitBus.lean ====
section
/-! DEFINITION. The Unit Bus Controller (chapter 7): the packets and their bytes, the issue, sending, waiting and displacement
of orders, and the reading of packets from the units. What an issuer does with an order's result is in its own file. -/

namespace Sys2Proof.Machine

/-! ## Packets as bytes (section 7.3) -/

/-- One step of the CRC-8 x⁸ + x² + x + 1 over a bit. -/
def crc8Bit (c : Nat) : Nat := if 128 ≤ c then (c * 2 % 256) ^^^ 7 else c * 2

/-- The CRC-8 of some bytes, initial value 0, no final inversion. -/
def crc8 (bs : List Byte) : Nat :=
  bs.foldl (fun c b => Nat.repeat crc8Bit 8 (c ^^^ b.toNat)) 0

/-- The kind byte of an order. -/
def OrderBody.kindByte : OrderBody → Nat
  | .tune _ _ _ => 0x11 | .mute _ _ => 0x12 | .tally _ _ => 0x13 | .talkLamp _ _ => 0x14 | .crosspoint _ _ _ => 0x15
  | .dim _ _ => 0x16 | .scanAssign _ _ _ _ => 0x17

/-- The key states of a TALK_LAMP: two bits for each key, key 1 lowest. -/
def keysNat (ks : List KeyState) : Nat := ks.foldr (fun k n => 4 * n + k.code) 0

/-- The payload of an order after its number. -/
def OrderBody.bytes : OrderBody → List Byte
  | .tune c khz e => u8 c ++ u24 khz ++ u16 (low16 e).toNat
  | .mute c e => u8 c ++ u16 (low16 e).toNat
  | .tally c w => u8 c ++ u8 w.code
  | .talkLamp c l => u8 c ++ u16 (keysNat l.keys) ++ orZero l.source
  | .crosspoint make a d => u8 (if make then 1 else 0) ++ u8 a ++ u8 d
  | .dim p d => u8 p ++ u8 d
  | .scanAssign b k w n => u8 b ++ u24 k ++ u16 w ++ u16 n

/-- A packet's envelope around a payload: address, kind, length, payload, CRC-8. -/
def envelope (address kind : Nat) (payload : List Byte) : List Byte :=
  let body := u8 address ++ u8 kind ++ u8 payload.length ++ payload
  body ++ u8 (crc8 body)

/-- The bytes of a packet from the part. -/
def Packet.bytes : Packet → List Byte
  | .frameMark f r => envelope 0 0x10 (u16 f.toNat ++ u8 r.code)
  | .order o => envelope o.address o.body.kindByte ((o.number.getD 0) :: o.body.bytes)

/-! ## Issuing orders (R126, R127) -/

/-- A TALLY order: it never displaces, and it waits behind other kinds (R127, R128). -/
def Order.isTally (o : Order) : Bool := match o.body with | .tally _ _ => true | _ => false

/-- A TALLY or TALK_LAMP order: it may be displaced (R127). -/
def Order.displaceable (o : Order) : Bool :=
  match o.body with | .tally _ _ | .talkLamp _ _ => true | _ => false

/-- The deadline fixed at issue (R126). -/
def OrderBody.deadline (now : FrameNo) : OrderBody → FrameNo
  | .tune _ _ e | .mute _ e => e
  | _ => framePlus now 3

/-- The first number from `n` on that no outstanding order carries (R126). -/
def nextFree (taken : List Byte) : Nat → Byte → Byte
  | 0, n => n
  | k + 1, n => if taken.contains n then nextFree taken k (n + 1) else n

/-- A unit record after an order enters the outstanding list and takes next_number (R126). -/
def UnitRec.send (o : Order) (u : UnitRec) : UnitRec :=
  let out := u.outstanding ++ [{ o with number := some u.nextNumber }]
  { u with outstanding := out, nextNumber := nextFree (out.filterMap Order.number) 256 (u.nextNumber + 1) }

/-- Send an order: it enters its unit's outstanding list, takes its number and goes out on the bus (R124, R126). Its packet stands on
the bus in the event of its sending, so before any later FRAME_MARK, where R124 has it go before the next answer slot or after the
next mark: DESIGN CHOICE (log 44), unsafe. -/
def send (o : Order) (s : State) : State :=
  let sent := { o with number := some (s.unit o.address).nextNumber }
  { s.modUnit o.address (UnitRec.send o) with bus := s.bus ++ [.order sent] }

/-- A link's tally_order failed: it becomes absent and the retry hold begins (R147). -/
def tallyFailed (l id : Nat) (s : State) : State :=
  match (s.link l).tallyOrder with
  | some t =>
    if t.id = id then
      s.modLink l fun k => { k with tallyOrder := none, retryAt := some (framePlus t.issueFrame 4) }
    else s
  | none => s

/-- A station's lamp_order failed: it becomes absent and the retry ends at the next boundary (R180). -/
def lampFailed (t id : Nat) (s : State) : State :=
  match (s.station t).lampOrder with
  | some (n, _) =>
    if n = id then s.modStation t fun k => { k with lampOrder := none, lampRetry := some (framePlus s.now 1) } else s
  | none => s

/-- A displaced order is reported to its issuer as failed; only TALLY and TALK_LAMP orders are displaced (R127). -/
def displaced (o : Order) (s : State) : State :=
  match o.issuer with
  | .tr l => tallyFailed l o.id s
  | .tkLamp t => lampFailed t o.id s
  | _ => s

/-- An issued order: the state after, the order's id, and whether it overflowed. An overflow is reported by the issuing
action once it is complete (R127). -/
structure Issued where
  state : State
  id : Nat
  overflow : Bool

/-- An order joins the tail of its unit's waiting list, or overflows (R127). -/
def joinWaiting (o : Order) (s : State) : Issued :=
  if (s.unit o.address).waiting.length < Config.waiting then
    ⟨s.modUnit o.address fun u => { u with waiting := u.waiting ++ [o] }, o.id, false⟩
  else ⟨s, o.id, true⟩

/-- An order is dealt with at its issue: it is sent, displaces, waits or overflows (R126, R127). -/
def place (o : Order) (s : State) : Issued :=
  let u := s.unit o.address
  if u.outstanding.length < Config.outstanding then ⟨send o s, o.id, false⟩
  else if o.isTally then joinWaiting o s
  else match u.outstanding.find? Order.displaceable with
    | some v =>
      let s1 := s.modUnit o.address fun u => { u with outstanding := u.outstanding.eraseP Order.displaceable }
      ⟨send o (displaced v s1), o.id, false⟩
    | none => joinWaiting o s

/-- Issue an order: it takes the next id, and its deadline is fixed in the same event (R126). -/
def issue (address : Nat) (body : OrderBody) (issuer : Issuer) (s : State) : Issued :=
  place { id := s.nextOrderId, address := address, body := body, issuer := issuer, deadline := body.deadline s.now,
          number := none } { s with nextOrderId := s.nextOrderId + 1 }

/-! ## Freed places (R128) -/

/-- The waiting order a freed place is granted to: the oldest that is not a TALLY, else the oldest (R128). -/
def UnitRec.nextWaiting (u : UnitRec) : Option Order :=
  (u.waiting.find? fun o => !o.isTally).or u.waiting.head?

/-- Grant one freed place (R128). -/
def grantOne (address : Nat) (s : State) : State :=
  match (s.unit address).nextWaiting with
  | none => s
  | some o => send o (s.modUnit address fun u => { u with waiting := u.waiting.eraseP fun w => decide (w.id = o.id) })

/-- Grant `n` freed places, each in turn (R128). -/
def grant (address : Nat) : Nat → State → State
  | 0, s => s
  | n + 1, s => grant address n (grantOne address s)

/-- Withdraw an order that waits in a unit's waiting list (R128, R148). -/
def withdraw (address id : Nat) (s : State) : State :=
  s.modUnit address fun u => { u with waiting := u.waiting.filter fun o => decide (o.id ≠ id) }

/-- Whether an order of a unit still waits unsent. -/
def State.waits (s : State) (address id : Nat) : Bool :=
  (s.unit address).waiting.any fun o => decide (o.id = id)

/-- The number of an order while it is outstanding, at whichever unit holds it: the unit it was issued to, though the link that it was
issued for may name another since (section 7.1). -/
def State.orderNumber (s : State) (id : Nat) : Option Byte :=
  s.units.findSome? fun u => (u.outstanding.find? fun o => decide (o.id = id)).bind Order.number

/-! ## Reading packets from units (R125) -/

/-- A sample of a REPORT (section 7.3). -/
structure Sample where
  channel : Nat
  level : Nat
  quality : Nat
  lock : Bool
  khz : Nat
  battery : Nat
  deriving DecidableEq, Repr

/-- A key event of a REPORT (section 7.3). -/
structure KeyReport where
  channel : Nat
  key : Nat
  down : Bool
  deriving DecidableEq, Repr

/-- The contents of a well-formed REPORT. -/
structure Report where
  unit : Nat
  samples : List Sample
  keys : List KeyReport
  acks : List Byte
  deriving DecidableEq, Repr

/-- The contents of a well-formed SCAN_DATA. -/
structure ScanData where
  band : Nat
  first : Nat
  levels : List Nat
  deriving DecidableEq, Repr

/-- The envelope of a packet passes the checks of R125 for a kind: source address, kind, payload. -/
def openPacket (kind : Nat) (bs : List Byte) : Option (Nat × List Byte) :=
  match bs with
  | a :: k :: n :: rest =>
    let payload := rest.take n.toNat
    if n.toNat ≤ 250 ∧ rest.length = n.toNat + 1 ∧ k.toNat = kind
        ∧ rest.getLast? = some (BitVec.ofNat 8 (crc8 (a :: k :: n :: payload)))
    then some (a.toNat, payload) else none
  | _ => none

/-- One sample (section 7.3, REPORT layout). -/
def sampleOf : List Byte → Option Sample
  | [c, l, q, f, k1, k2, k3, b] =>
    some { channel := c.toNat, level := l.toNat, quality := q.toNat, lock := f.getLsbD 0, khz := be24 k1 k2 k3,
           battery := b.toNat }
  | _ => none

/-- One key event: bits 3..0 the key number, bit 7 set for DOWN. -/
def keyReportOf : List Byte → Option KeyReport
  | [c, k] => some { channel := c.toNat, key := k.toNat % 16, down := k.getLsbD 7 }
  | _ => none

/-- A well-formed REPORT, or none where the packet is discarded (R125). -/
def readReport (bs : List Byte) : Option Report :=
  match openPacket 0x20 bs with
  | some (a, payload) =>
    match countedChunks 8 payload with
    | some (ss, p1) =>
      match countedChunks 2 p1 with
      | some (ks, p2) =>
        match countedChunks 1 p2 with
        | some (acks, []) =>
          if 1 ≤ a ∧ a ≤ 24 ∧ ss.length ≤ 4 ∧ ks.length ≤ 16 ∧ acks.length ≤ 8 then
            some { unit := a, samples := ss.filterMap sampleOf, keys := ks.filterMap keyReportOf, acks := acks.flatten }
          else none
        | _ => none
      | none => none
    | none => none
  | none => none

/-- A well-formed SCAN_DATA, or none where the packet is discarded (R125). -/
def readScanData (bs : List Byte) : Option ScanData :=
  match openPacket 0x21 bs with
  | some (a, b :: f :: levels) =>
    if 1 ≤ a ∧ a ≤ 24 then
      some { band := b.toNat, first := f.toNat, levels := levels.map BitVec.toNat }
    else none
  | _ => none

/-- The acknowledgement list of a well-formed MATRIX_REPORT, or none where the packet is discarded (R125). -/
def readMatrixReport (bs : List Byte) : Option (List Byte) :=
  match openPacket 0x22 bs with
  | some (a, payload) =>
    match countedChunks 1 payload with
    | some (acks, []) => if a = Config.matrixAddress ∧ acks.length ≤ 8 then some acks.flatten else none
    | _ => none
  | none => none

end Sys2Proof.Machine
end

