-- ==== Sys2Proof/Machine/Bands.lean ====
section
/-! DEFINITION. The Spectrum Table (chapter 2): carrier and spectrum changes, holding and releasing carriers, masking,
pruning, exclusion lists and scan levels; and the watch a READY plan keeps on the carrier counters (R112). -/

namespace Sys2Proof.Machine

/-! ## The staged plan's state (R112, R119) -/

/-- A change of the plan's state, with its notice (R119). -/
def setPlanState (new : PlanState) (s : State) : State :=
  if s.plan.state = new then s else raise .planState 0 (s.modPlan fun p => { p with state := new })

/-- A return to OPEN with cause INVALIDATED; the checked generations become absent (R112, R119). -/
def invalidatePlan (s : State) : State :=
  raise .planInvalidated 0 (setPlanState .opened (s.modPlan fun p => { p with checked := none }))

/-- A READY plan returns to OPEN when a touched band's carrier_gen differs from its checked generation (R112). -/
def planWatch (b : Nat) (s : State) : State :=
  if s.plan.state = .ready ∧ (s.plan.checked.getD []).any (fun g => decide (g.1 = b) && decide (g.2 ≠ (s.band b).carrierGen))
  then invalidatePlan s else s

/-! ## Changes (R21) -/

/-- A carrier change (R21). The PLAN notice of a READY plan that it invalidates is raised in its place in the event, before the LINK
notice of a change of state that follows it: DESIGN CHOICE (log 57), unsafe. -/
def carrierChange (b : Nat) (s : State) : State :=
  planWatch b (s.modBand b fun k => { k with carrierGen := k.carrierGen + 1, sparesFresh := false, sweepWanted := true })

/-- `n` spectrum changes (R21). -/
def spectrumChanges (n : Nat) (k : Band) : Band :=
  if n = 0 then k else
    { k with spectrumGen := k.spectrumGen + BitVec.ofNat 32 n, sparesFresh := false, sweepWanted := true }

/-! ## Holding and releasing (R23, R24, R31, R33) -/

/-- A step lies within a carrier's occupied span widened by a guard (R33). -/
def within (f hw gap step : Nat) : Bool := decide (f ≤ step + hw + gap) && decide (step ≤ f + hw + gap)

/-- Pruning against one carrier (R33). -/
def Band.prune (f hw : Nat) (k : Band) : Band :=
  { k with spares := k.spares.filter fun e => !within f hw k.p.gapCc e.step }

/-- Masking by one carrier: each bin its occupied span meets is cleared, and each hot one is a spectrum change (R31). -/
def Band.mask (f hw : Nat) (k : Band) : Band :=
  let met (i : Nat) : Bool := spanMeets f hw (k.p.binSpan i)
  let n := k.bins.zipIdx.countP fun (x, i) => x.hot && met i
  spectrumChanges n { k with bins := k.bins.zipIdx.map fun (x, i) => if met i then { level := none, hot := false } else x }

/-- A carrier becomes held: a carrier change, pruning and masking (R23). -/
def hold (b f hw : Nat) (s : State) : State :=
  (carrierChange b s).modBand b fun k => (k.prune f hw).mask f hw

/-- A carrier is released: a carrier change; the bins it masked cease to be masked (R24, R31). -/
def release (b : Nat) (s : State) : State := carrierChange b s

/-- Pruning against every carrier held, under the guard in force (R33). -/
def pruneAll (b : Nat) (s : State) : State :=
  s.modBand b fun k => { k with
    spares := k.spares.filter fun e => !(s.carrierSet b).any fun c => within c.step c.hw k.p.gapCc e.step }

/-! ## Exclusion lists (R25 to R27) -/

/-- Two ranges overlap or touch (R26). -/
def StepRange.meets (a b : StepRange) : Bool := decide (a.lo ≤ b.hi + 1) && decide (b.lo ≤ a.hi + 1)

/-- Two ranges share a step (R27). -/
def StepRange.overlaps (a b : StepRange) : Bool := decide (a.lo ≤ b.hi) && decide (b.lo ≤ a.hi)

/-- EXCL_ADD: the range merges with every stored range it overlaps or touches (R26). -/
def exclInsert (r : StepRange) (xs : List StepRange) : List StepRange :=
  let merged := (xs.filter r.meets).foldl (fun m x => ⟨min m.lo x.lo, max m.hi x.hi⟩) r
  insertBy (fun a b => decide (a.lo < b.lo)) merged (xs.filter fun x => !r.meets x)

/-- What remains of one stored range outside a removed one (R27). -/
def StepRange.minus (r x : StepRange) : List StepRange :=
  if r.overlaps x then
    (if x.lo < r.lo then [⟨x.lo, r.lo - 1⟩] else []) ++ (if r.hi < x.hi then [⟨r.hi + 1, x.hi⟩] else [])
  else [x]

/-- EXCL_REMOVE: every step of the range is taken out of the stored ranges (R27). -/
def exclDelete (r : StepRange) (xs : List StepRange) : List StepRange := xs.flatMap r.minus

/-! ## Scan levels (R29, R30) -/

/-- The level a bin stores on a report: peaks at once, decay by at most 4 (R29). -/
def Bin.follow (x : Bin) (v : Nat) : Nat := x.level.elim v fun old => max v (old - 4)

/-- The hot flag of a bin that holds a level (R30). -/
def Band.hotAfter (k : Band) (x : Bin) (level : Nat) : Bool :=
  if x.hot then !decide (level + 12 ≤ k.p.hotLevel) else decide (k.p.hotLevel ≤ level)

/-- One reported level is applied to bin `i`, with its hot or cool transition (R29, R30). -/
def applyLevel (b i v : Nat) (s : State) : State :=
  match (s.band b).bins[i]? with
  | none => s
  | some x =>
    if s.masked b i then s
    else
      let level := x.follow v
      let hot := (s.band b).hotAfter x level
      let s1 := s.modBand b fun k => { k with bins := k.bins.set i { level := some level, hot := hot } }
      if hot = x.hot then s1 else raise .bandSpectrum b (s1.modBand b (spectrumChanges 1))

/-- The levels of a SCAN_DATA, in the order of the list (R29). -/
def applyLevels (b : Nat) : Nat → List Nat → State → State
  | _, [], s => s
  | i, v :: vs, s => applyLevels b (i + 1) vs (applyLevel b i v s)

/-! ## Scan assignment (R28) -/

/-- A SCAN_ASSIGN of band `b` as an order carries it (section 7.3). -/
def ScanOrder.body (b : Nat) (x : ScanOrder) : OrderBody := .scanAssign b x.startKhz x.widthKhz x.count

/-- The SCAN_ASSIGN that a band's parameters give for a unit (R28). -/
def BandParams.scanOrder (p : BandParams) (unit : Nat) : ScanOrder :=
  { unit := unit, startKhz := p.baseKhz + 25 * p.scanStart, widthKhz := 25 * p.binWidth, count := p.binCount }

/-- A failed SCAN_ASSIGN is to be issued again at the next boundary (R28). -/
def scanFailed (b : Nat) (x : ScanOrder) (s : State) : State :=
  s.modBand b fun k => { k with scanReissue := k.scanReissue ++ [(framePlus s.now 1, x)] }

/-- Issue a SCAN_ASSIGN of a band; a failure at its issue awaits the next boundary (R28, R127). -/
def issueScanAssign (b : Nat) (x : ScanOrder) (s : State) : State :=
  let r := issue x.unit (x.body b) (.st b) s
  if r.overflow then scanFailed b x r.state else r.state

end Sys2Proof.Machine
end

