-- ==== Sys2Proof/Machine/Tally.lean ====
section
/-! DEFINITION. The Tally Resolver (chapter 8): line filters, snapshot and resolution, tally words and their delivery. -/

namespace Sys2Proof.Machine

/-! ## Line inputs (R137, R138) -/

/-- Whether a line level counts as active: low is active with NORMAL polarity (R137). -/
def LineInput.active (x : LineInput) (high : Bool) : Bool := if x.inverted then high else !high

/-- A line input after one sample, and whether the sample made an edge (R138). -/
def LineInput.sampled (x : LineInput) (high : Bool) : LineInput × Bool :=
  if x.active high = x.filtered then ({ x with run := 0 }, false)
  else if x.filterK ≤ x.run + 1 then ({ x with filtered := x.active high, run := 0, edge := true }, true)
  else ({ x with run := x.run + 1 }, false)

/-! ## Resolution (R142, R143) -/

/-- The state of an input in the applied snapshot (R143). -/
def Tr.inputActive (r : Tr) : TallyInput → Bool
  | .line n => slot false r.snapLines n
  | .virt n => slot false r.snapVirtuals n

/-- The entries of the map that are active in the snapshot (R143). -/
def Tr.activeEntries (r : Tr) : List MapEntry :=
  r.map.filterMap fun e => e.bind fun m => if r.inputActive m.input then some m else none

/-- The tally of a target over the active entries that name it (R143). -/
def tallyOver (named : List MapEntry) : Tally :=
  if named.any (·.program) then .program else if named.isEmpty then .off else .preview

/-- Resolution of the map over the applied snapshot (R143). -/
def Tr.resolve (r : Tr) : Tr :=
  let es := r.activeEntries
  { r with
    linkTally := (oneUpTo Config.links).map fun l => tallyOver (es.filter fun e => e.links.contains l)
    lampTally := (oneUpTo Config.lamps).map fun m => tallyOver (es.filter fun e => e.lamps.contains m)
    zones := r.zones.zipIdx.map fun (z, i) =>
      { z with onAir := es.any fun e => e.program && decide (e.zone = some (i + 1)) } }

/-- The applied snapshot of a boundary in RUN (R142). -/
def Tr.snap (frame : FrameNo) (r : Tr) : Tr :=
  { r with snapLines := r.lines.map (·.filtered), snapVirtuals := r.virtuals, snapFrame := some frame }

/-- The all-inactive snapshot of STOP and the resets (R154, R155). -/
def Tr.clearSnap (r : Tr) : Tr :=
  { r with snapLines := List.replicate Config.inputs false, snapVirtuals := List.replicate Config.inputs false,
           snapFrame := none }

/-! ## Tally words and delivery (R144 to R148) -/

/-- A link's wanted word: its link tally, and CALL while a call pulse runs for its station (R144). -/
def State.wantedWord (s : State) (l : Nat) : TallyWord :=
  { tally := slot .off s.tr.linkTally l, call := (s.link l).cfg.station.any s.called }

/-- The conditions of the delivery test (R145). -/
def Link.deliverable (k : Link) : Bool :=
  decide (k.cfg.kind = some .camera) && k.state.inService && k.tallyOrder.isNone && k.retryAt.isNone
    && decide (k.delivered ≠ some k.wanted)

/-- The delivery test of a link (R145). -/
def deliveryTest (l : Nat) (s : State) : State :=
  let k := s.link l
  if k.deliverable then
    let r := issue k.cfg.unit (.tally k.cfg.channel k.wanted) (.tr l) s
    let s1 := r.state.modLink l fun k' =>
      { k' with tallyOrder := some { id := r.id, word := k.wanted, issueFrame := s.now } }
    if r.overflow then tallyFailed l r.id s1 else s1
  else s

/-- The wanted word is recomputed, and the delivery test follows (R144). -/
def rewant (l : Nat) (s : State) : State :=
  deliveryTest l (s.modLink l fun k => { k with wanted := s.wantedWord l })

/-- Every link's wanted word is recomputed, with its delivery test (R143). The links are taken in ascending number, for which R143
gives no order: DESIGN CHOICE (log 35), unsafe. -/
def rewantAll (s : State) : State := (oneUpTo Config.links).foldl (fun s l => rewant l s) s

/-- The start or end of a call pulse of station `t` is handed to the Tally Resolver (R144). Links ascend: DESIGN CHOICE (log 35),
unsafe. -/
def rewantStation (t : Nat) (s : State) : State :=
  (oneUpTo Config.links).foldl (fun s l => if (s.link l).cfg.station = some t then rewant l s else s) s

/-- A link's tally_order was acknowledged: its word is delivered, and the test follows (R146). -/
def tallyAcked (l id : Nat) (s : State) : State :=
  match (s.link l).tallyOrder with
  | some t =>
    if t.id = id then deliveryTest l (s.modLink l fun k => { k with delivered := some t.word, tallyOrder := none }) else s
  | none => s

/-- The Tally Resolver sees a change of a link's state from `old` (R148): on leaving service a CAMERA's unsent order is
withdrawn, and on entering it the delivery test is made. -/
def tallySees (l : Nat) (old : LinkState) (s : State) : State :=
  let k := s.link l
  if k.cfg.kind ≠ some .camera then s
  else if old.inService && !k.state.inService then
    match k.tallyOrder with
    | some t => if s.waits k.cfg.unit t.id then
        (withdraw k.cfg.unit t.id s).modLink l fun k => { k with tallyOrder := none } else s
    | none => s
  else if !old.inService && k.state.inService then deliveryTest l s
  else s

/-- The number of a link's tally_order, once it is sent (section 8.1). -/
def State.tallyNumber (s : State) (l : Nat) : Option Byte :=
  (s.link l).tallyOrder.bind fun t => s.orderNumber t.id

end Sys2Proof.Machine
end

