-- ==== Sys2Proof/Machine/Links.lean ====
section
/-! DEFINITION. The Link Supervisor (chapter 5) and the retune protocol (chapter 6): changes of a link's state, the orders
they issue, and what a sample does. -/

namespace Sys2Proof.Machine

/-! ## Changes of state (R72) -/

/-- The changes of the record that go with a change of state (R72, R78). `cause` is that of an entry to LOST.
DEDUCED (log 23) where ACQUIRING ends in LOST, unsafe. -/
def Link.enter (new : LinkState) (cause : Option LostCause) (k : Link) : Link :=
  let k1 := { k with state := new, badRun := 0, goodRun := 0, lostCause := if new = .lost then cause else none,
                     fadeTimer := if k.state = .fading ∨ new = .fading then 0 else k.fadeTimer,
                     rescue := if k.state = .fading then .none else k.rescue,
                     moveOrder := if k.state = .retuning then none else k.moveOrder }
  if new = .idle then
    { k1 with assigned := none, pending := none, origin := none, effectiveFrame := none, deadline := none }
  else k1

/-- A change of a link's state: the record, the LINK notice, and what the Tally Resolver does (R72, R148). The Talk Router
sees it at the end of the event (R173, R175), so its orders come after the Tally Resolver's, for which no rule gives an order:
DESIGN CHOICE (log 59), unsafe. -/
def changeState (l : Nat) (new : LinkState) (cause : Option LostCause) (s : State) : State :=
  let old := (s.link l).state
  if old = new then s
  else tallySees l old (raise .linkState l (s.modLink l (Link.enter new cause)))

/-! ## Orders for links (R71) -/

/-- The frequency in kHz of a step of a link's band (R71). -/
def State.khz (s : State) (l step : Nat) : Nat :=
  (s.band (s.link l).cfg.band).p.baseKhz + 25 * step

/-- Issue a TUNE for a link (R71). -/
def issueTune (l step : Nat) (e : FrameNo) (issuer : Issuer) (s : State) : Issued :=
  issue (s.link l).cfg.unit (.tune (s.link l).cfg.channel (s.khz l step) e) issuer s

/-- Issue a MUTE for a link (R71). -/
def issueMute (l : Nat) (e : FrameNo) (issuer : Issuer) (s : State) : Issued :=
  issue (s.link l).cfg.unit (.mute (s.link l).cfg.channel e) issuer s

/-- A MUTE of the Link Supervisor failed (R94): a notice, and another MUTE at the next boundary while the link is PARKED. The state
tested is the one that stands at the report, even where the link has left PARKED since and been parked again, so that two MUTEs which
fail are each issued again: DESIGN CHOICE (log 39), unsafe. -/
def parkMuteFailed (l : Nat) (s : State) : State :=
  let s1 := raise .linkMuteFailed l s
  if (s.link l).state = .parked then
    s1.modLink l fun k => { k with muteReissue := k.muteReissue ++ [framePlus s.now 1] }
  else s1

/-- The MUTE that parks a link or mutes it again, with its report when it overflows (R91, R94). -/
def reportPark (l : Nat) (overflow : Bool) (s : State) : State := if overflow then parkMuteFailed l s else s

/-! ## Plan outcomes (R116) -/

/-- An entry of the plan for link `l` without an outcome. -/
def PlanEntry.openFor (l : Nat) (e : PlanEntry) : Bool := decide (e.link = l) && e.outcome.isNone

/-- When every entry has its outcome, an APPLYING plan enters DONE (R116). -/
def finishPlan (s : State) : State :=
  if s.plan.state = .applying ∧ s.plan.entries.all (fun e => e.outcome.isSome) then setPlanState .done s else s

/-- The plan entry of a link receives its outcome, once (R116). -/
def giveOutcome (l : Nat) (o : EntryOutcome) (s : State) : State :=
  if s.plan.state = .applying ∧ s.plan.entries.any (PlanEntry.openFor l) then
    finishPlan (raise .planOutcome 0 (s.modPlan fun p =>
      { p with entries := p.entries.map fun e => if e.openFor l then { e with outcome := some o } else e }))
  else s

/-- The outcome of a move whose origin is PLAN. Its PLAN notice is raised after the LINK notice of the change of state that ends the
move: DESIGN CHOICE (log 57), unsafe. -/
def moveOutcome (l : Nat) (origin : Option Origin) (o : EntryOutcome) (s : State) : State :=
  if origin = some .plan then giveOutcome l o s else s

/-! ## Acquisition (R86) -/

/-- A link enters ACQUIRING with effective frame `e`; its assigned step is already in the record (R86). -/
def enterAcquiring (l : Nat) (e : FrameNo) (s : State) : State :=
  let k := s.link l
  let s1 := (changeState l .acquiring none s).modLink l fun k =>
    { k with effectiveFrame := some e, deadline := some (framePlus e k.cfg.acquireLimit),
             silenceCounter := k.cfg.silenceLimit, fadeTimer := 0 }
  (issueTune l (k.assigned.getD 0) e (.lsTune l) s1).state

/-! ## The retune protocol (R100 to R108) -/

/-- A revert starts (R105). A failure of its TUNE has no effect (R106). -/
def startRevert (l : Nat) (s : State) : State :=
  let e := s.nextEffective
  let s1 := release (s.link l).cfg.band (s.modLink l fun k => { k with pending := none })
  let s2 := (issueTune l ((s.link l).assigned.getD 0) e (.rcRevert l) s1).state
  changeState l .reverting none (s2.modLink l fun k =>
    { k with effectiveFrame := some e, deadline := some (framePlus e k.cfg.confirmWindow) })

/-- A retune starts (R100); a TUNE refused for OVERFLOW at its issue reverts it at once (R103, R127). -/
def startRetune (l step : Nat) (e : FrameNo) (origin : Origin) (s : State) : State :=
  let k := s.link l
  let s1 := hold k.cfg.band step k.cfg.hw (s.modLink l fun k => { k with pending := some step })
  let r := issueTune l step e (.rcRetune l) s1
  let s2 := (changeState l .retuning none r.state).modLink l fun k =>
    { k with origin := some origin, effectiveFrame := some e, deadline := some (framePlus e k.cfg.confirmWindow),
             moveOrder := some r.id }
  if r.overflow then startRevert l s2 else s2

/-- A sample confirms a retune (R102). -/
def confirmRetune (l : Nat) (s : State) : State :=
  let origin := (s.link l).origin
  let s1 := release (s.link l).cfg.band s
  let s2 := s1.modLink l fun k =>
    { k with assigned := k.pending, pending := none, origin := none, effectiveFrame := none, deadline := none }
  moveOutcome l origin .moved (changeState l .locked none s2)

/-- A sample confirms a revert (R106). -/
def confirmRevert (l : Nat) (s : State) : State :=
  let origin := (s.link l).origin
  let s1 := s.modLink l fun k => { k with origin := none, effectiveFrame := none, deadline := none }
  moveOutcome l origin .reverted (changeState l .locked none s1)

/-- A revert fails at its deadline (R107). -/
def revertFails (l : Nat) (s : State) : State :=
  let origin := (s.link l).origin
  let s1 := s.modLink l fun k => { k with origin := none, effectiveFrame := none, deadline := none }
  moveOutcome l origin .lost (changeState l .lost (some .revertFailed) s1)

/-- A retune or a revert in flight is abandoned for silence (R83, R108). -/
def abandonMove (l : Nat) (s : State) : State :=
  let k := s.link l
  let s1 := s.modLink l fun k =>
    { k with pending := none, origin := none, effectiveFrame := none, deadline := none }
  let s2 := if k.state = .retuning then release k.cfg.band s1 else s1
  moveOutcome l k.origin .lost (changeState l .lost (some .silent) s2)

/-- Silence is declared for a link in a counted state (R82, R83). -/
def goSilent (l : Nat) (s : State) : State :=
  let s1 := s.modLink l fun k => { k with silenceCounter := 0 }
  match (s.link l).state with
  | .retuning | .reverting => abandonMove l s1
  | .acquiring | .locked | .fading => changeState l .lost (some .silent) s1
  | _ => s

/-! ## Samples (R75 to R79, R87 to R90, R95, R101, R106) -/

/-- The class of a sample (R76). -/
inductive SampleClass where | bad | good | neutral
  deriving DecidableEq, Repr

/-- A sample as the Link Supervisor takes it: the tuned step is absent for OFF_PLAN (R133). -/
structure TunedSample where
  level : Nat
  quality : Nat
  lock : Bool
  step : Option Nat
  battery : Nat
  deriving DecidableEq, Repr

/-- The class by lock, level and quality (R76). -/
def LinkConfig.classOf (c : LinkConfig) (x : TunedSample) : SampleClass :=
  if !x.lock || decide (x.level < c.fadeLevel) || decide (c.fadeQuality < x.quality) then .bad
  else if c.recoverLevel ≤ x.level ∧ x.quality ≤ c.recoverQuality then .good
  else .neutral

/-- The class of a sample; in LOCKED and FADING a sample on another step is bad (R76). -/
def Link.classOf (k : Link) (x : TunedSample) : SampleClass :=
  if k.state.inService && decide (x.step ≠ k.assigned) then .bad else k.cfg.classOf x

/-- The runs after a sample of a class (R77). -/
def Link.countRun (k : Link) : SampleClass → Link
  | .bad => { k with badRun := min (k.badRun + 1) k.cfg.filterK, goodRun := 0 }
  | .good => { k with goodRun := min (k.goodRun + 1) k.cfg.filterK, badRun := 0 }
  | .neutral => { k with badRun := 0, goodRun := 0 }

/-- The sample is taken at or after the link's effective frame. -/
def Link.effective (k : Link) (now : FrameNo) : Bool := k.effectiveFrame.any fun e => atOrAfter e now

/-- A sample in LOST on another step sends the unit back to its carrier (R89). -/
def revertFromLost (l : Nat) (s : State) : State :=
  let e := s.nextEffective
  let s1 := s.modLink l fun k =>
    { k with effectiveFrame := some e, deadline := some (framePlus e k.cfg.confirmWindow), origin := none }
  let s2 := (issueTune l ((s.link l).assigned.getD 0) e (.lsTune l) s1).state
  changeState l .reverting none s2

/-- What a classed sample does in the link's state (R75). A return from LOST to LOCKED (R90) leaves effective_frame and deadline as they
stand: DEDUCED (log 23), unsafe. -/
def actOnSample (l : Nat) (x : TunedSample) (s : State) : State :=
  let k := s.link l
  let cls := k.classOf x
  match k.state with
  | .acquiring =>
    if cls = .good ∧ x.step = k.assigned ∧ k.effective s.now = true then
      (changeState l .locked none s).modLink l fun k => { k with effectiveFrame := none, deadline := none }
    else s
  | .locked =>
    let s1 := s.modLink l (·.countRun cls)
    if cls = .bad ∧ (s1.link l).badRun = k.cfg.filterK then changeState l .fading none s1 else s1
  | .fading =>
    let s1 := s.modLink l (·.countRun cls)
    if cls = .good ∧ (s1.link l).goodRun = k.cfg.filterK then changeState l .locked none s1 else s1
  | .retuning =>
    if cls = .good ∧ x.step = k.pending ∧ k.effective s.now = true then confirmRetune l s else s
  | .reverting =>
    if cls = .good ∧ x.step = k.assigned ∧ k.effective s.now = true then confirmRevert l s else s
  | .lost =>
    if x.step ≠ k.assigned then revertFromLost l s
    else
      let s1 := s.modLink l (·.countRun cls)
      if cls = .good ∧ (s1.link l).goodRun = k.cfg.filterK then changeState l .locked none s1 else s1
  | .vacant | .idle | .parked => s

/-- A low-battery crossing (R95). -/
def Link.batteryCrosses (k : Link) (battery : Nat) : Bool :=
  decide (battery < k.cfg.batteryLow) && k.lastReport.all fun r => decide (k.cfg.batteryLow ≤ r.battery)

/-- A sample is taken for a defined link, in the order of R75. -/
def takeSample (l : Nat) (x : TunedSample) (s : State) : State :=
  let s1 := if (s.link l).batteryCrosses x.battery then raise .linkBattery l s else s
  actOnSample l x (s1.modLink l fun k =>
    { k with lastReport := some { level := x.level, quality := x.quality, lock := x.lock, step := x.step,
                                  battery := x.battery, frame := s.now },
             silenceCounter := k.cfg.silenceLimit })

/-- The tuned step of a frequency in a band, absent for OFF_PLAN; the battery at most 100 (R133). -/
def tuned (p : BandParams) (x : Sample) : TunedSample :=
  { level := x.level, quality := x.quality, lock := x.lock, battery := min x.battery 100,
    step := if p.baseKhz ≤ x.khz ∧ (x.khz - p.baseKhz) % 25 = 0 ∧ (x.khz - p.baseKhz) / 25 < p.steps
      then some ((x.khz - p.baseKhz) / 25) else none }

/-! ## Frame boundaries in RUN (R80, R82) -/

/-- The silence watchdog and the fade timer of one link at a boundary in RUN (R80, R82). The fade timer is not counted where
silence is declared at the same boundary. -/
def Link.count (k : Link) : Link :=
  let k1 := if k.state.counted then { k with silenceCounter := k.silenceCounter - 1 } else k
  if k1.state = .fading ∧ k1.silenceCounter ≠ 0 ∧ k1.fadeTimer < k1.cfg.fadeLimit then
    { k1 with fadeTimer := k1.fadeTimer + 1 } else k1

/-- The test of the fade timer at its limit (R80). -/
def fadeTest (l : Nat) (s : State) : State :=
  let k := s.link l
  if k.state = .fading ∧ k.fadeTimer = k.cfg.fadeLimit ∧ k.cfg.autoRescue = true ∧ (s.band k.cfg.band).frozen = false
      ∧ k.rescue = .none then s.modLink l fun k => { k with rescue := .wanted } else s

end Sys2Proof.Machine
end

