-- ==== Sys2Proof/Machine/Talkback.lean ====
section
/-! DEFINITION. The Talk Router (chapter 10): keys, routes, the summing arbiter, matrix orders and key lamps. -/

namespace Sys2Proof.Machine

/-! ## Keys and what they cover (R165) -/

/-- A key in HELD, TAPPING or LATCHED is talking (section 10.1). -/
def KeyState.talking : KeyState → Bool
  | .off => false
  | _ => true

/-- Key `k` of station `t` covers destination `d` (R165). -/
def State.covers (s : State) (t : Nat) (k : Key) (d : Nat) : Bool :=
  decide (d ≠ t) && (s.station d).kind.isSome &&
    match k.target with
    | .station n => decide (d = n)
    | .group g => (slot [] s.tk.groups g).contains d

/-- The destinations a key covers, in ascending station number (R171). -/
def State.covered (s : State) (t : Nat) (k : Key) : List Nat := (oneUpTo Config.stations).filter (s.covers t k)

/-- The key of a station with a number. -/
def Station.key (x : Station) (n : Nat) : Option Key := x.keys.find? fun k => decide (k.number = n)

/-- Change the key of a station with a number. -/
def setKey (t n : Nat) (f : Key → Key) (s : State) : State :=
  s.modStation t fun x => { x with keys := x.keys.map fun k => if k.number = n then f k else k }

/-! ## Routes and their reasons (R170, R171, R173) -/

/-- A route from `a` to `d`. -/
def Route.joins (a d : Nat) (r : Route) : Bool := decide (r.source = a) && decide (r.destination = d)

/-- ON_AIR is a reason for a destination (R173). -/
def State.zoneCuts (s : State) (d : Nat) : Bool :=
  decide ((s.station d).kind = some .speaker) && (s.station d).zone.any fun z =>
    (slot Zone.reset s.tk.zones z).onAir && (slot Zone.reset s.tk.zones z).speakerCut

/-- A station rides a link that is neither LOCKED nor FADING (R173). -/
def State.linkDown (s : State) (t : Nat) : Bool :=
  (decide ((s.station t).kind = some .linked) || decide ((s.station t).kind = some .ifb)) &&
    !(s.station t).link.any fun l => (s.link l).state.inService

/-- A route with its suspension reasons as they now stand: a suspended route is not LIVE, and one whose reasons have cleared
seeks a slot (R173). A suspended route carries no NO_SLOT, whatever it waited for before: DEDUCED (log 55), unsafe. Its make_order
becomes absent with make: DEDUCED (log 53), unsafe. -/
def State.suspend (s : State) (r : Route) : Route :=
  let a := s.zoneCuts r.destination
  let d := s.linkDown r.source || s.linkDown r.destination
  if a || d then { r with live := false, onAir := a, linkDown := d, noSlot := false, make := none, makeOrder := none }
  else { r with onAir := false, linkDown := false, noSlot := !r.live }

/-- A new route from `a` to `d` with one holder (R171). -/
def State.newRoute (s : State) (a d : Nat) : Route :=
  s.suspend { source := a, destination := d, holders := 1, live := false, onAir := false, linkDown := false,
              noSlot := true, make := none, makeOrder := none }

/-- Routes after a key of `a` that covers `ds` starts talking (R171). -/
def State.addHolders (s : State) (a : Nat) (ds : List Nat) : List Route :=
  ds.foldl (fun rs d =>
    if rs.any (Route.joins a d) then rs.map fun r => if r.joins a d then { r with holders := r.holders + 1 } else r
    else rs ++ [s.newRoute a d]) s.tk.routes

/-- Routes after a key of `a` that covers `ds` stops talking (R171). -/
def dropHolders (a : Nat) (ds : List Nat) (rs : List Route) : List Route :=
  (rs.map fun r => if decide (r.source = a) && ds.contains r.destination then { r with holders := r.holders - 1 } else r).filter
    fun r => decide (r.holders ≠ 0)

/-! ## The summing arbiter (R174) -/

/-- A WAITING route without ON_AIR and LINK_DOWN (R170). -/
def Route.eligible (r : Route) : Bool := !r.live && !r.onAir && !r.linkDown

/-- A station's priority as a talk source. -/
def State.priority (s : State) (t : Nat) : Nat := (s.station t).priority

/-- The route with the highest source priority, and among equals the oldest (R174, R179). -/
def bestRoute (pr : Nat → Nat) : List Route → Option Route
  | [] => none
  | r :: rs => some (rs.foldl (fun m x => if pr m.source < pr x.source then x else m) r)

/-- The newest of the routes with the lowest source priority (R174). -/
def victimRoute (pr : Nat → Nat) : List Route → Option Route
  | [] => none
  | r :: rs => some (rs.foldl (fun m x => if pr x.source ≤ pr m.source then x else m) r)

/-- The LIVE routes to a destination. -/
def liveTo (d : Nat) (rs : List Route) : List Route := rs.filter fun r => decide (r.destination = d) && r.live

/-- The eligible WAITING routes to a destination. -/
def eligibleTo (d : Nat) (rs : List Route) : List Route := rs.filter fun r => decide (r.destination = d) && r.eligible

/-- A route becomes LIVE; its make is ordered at the end of the event (R174, R176). -/
def Route.goLive (r : Route) : Route := { r with live := true, onAir := false, linkDown := false, noSlot := false }

/-- A LIVE route is preempted (R174). Its make_order becomes absent with make: DEDUCED (log 53), unsafe. -/
def Route.preempted (r : Route) : Route :=
  { r with live := false, onAir := false, linkDown := false, noSlot := true, make := none, makeOrder := none }

/-- One step of settling a destination, or none where neither step of R174 applies. -/
def settleStep (pr : Nat → Nat) (d : Nat) (rs : List Route) : Option (List Route) :=
  match bestRoute pr (eligibleTo d rs) with
  | none => none
  | some w =>
    if (liveTo d rs).length < Config.slots then
      some (rs.map fun r => if r.joins w.source d then r.goLive else r)
    else match victimRoute pr (liveTo d rs) with
      | none => none
      | some v =>
        if pr v.source < pr w.source then
          some (rs.map fun r => if r.joins w.source d then r.goLive else if r.joins v.source d then r.preempted else r)
        else none

/-- Settle a destination (R174). Each step raises the number of LIVE routes, at most 4, or the sum of their priorities, at
most 28, so 33 steps reach its end. -/
def settle (pr : Nat → Nat) (d : Nat) : Nat → List Route → List Route
  | 0, rs => rs
  | n + 1, rs =>
    match settleStep pr d rs with
    | none => rs
    | some rs' => settle pr d n rs'

/-- Every destination settled, in ascending number (R175). -/
def settleAll (pr : Nat → Nat) (rs : List Route) : List Route :=
  (oneUpTo Config.stations).foldl (fun rs d => settle pr d 33 rs) rs

/-! ## Matrix and lamp orders (R176 to R180) -/

/-- A state and the orders of the action that overflowed at their issue, to be reported once the action is complete (R127). -/
abbrev Acting := State × List (Issuer × Nat)

/-- Issue an order of the Talk Router and record it. -/
def tkIssue (address : Nat) (body : OrderBody) (issuer : Issuer) (record : Nat → State → State) (x : Acting) : Acting :=
  let r := issue address body issuer x.1
  (record r.id r.state, if r.overflow then x.2 ++ [(issuer, r.id)] else x.2)

/-- A pair joins the break list or keeps its place, and holds an order; a full list drops its oldest pair (R177). -/
def joinBreak (a d id : Nat) (s : State) : State :=
  let same (b : Break) : Bool := decide (b.source = a) && decide (b.destination = d)
  if s.tk.breaks.any same then
    s.modTk fun k => { k with breaks := k.breaks.map fun b => if same b then { b with order := some id } else b }
  else
    let pair : Break := { source := a, destination := d, order := some id }
    match s.tk.breaks with
    | b :: rest =>
      if s.tk.breaks.length < Config.breaks then s.modTk fun k => { k with breaks := k.breaks ++ [pair] }
      else raise .stationMatrixFailed b.destination (s.modTk fun k => { k with breaks := rest ++ [pair] })
    | [] => s.modTk fun k => { k with breaks := [pair] }

/-- A break is ordered for a pair (R177). -/
def orderBreak (a d : Nat) (x : Acting) : Acting :=
  tkIssue Config.matrixAddress (.crosspoint false a d) (.tkBreak a d) (joinBreak a d) x

/-- A make is recorded: the route's make is OUTSTANDING, and its pair leaves the break list (R176, R177). -/
def recordMake (a d id : Nat) (s : State) : State :=
  s.modTk fun k => { k with
    routes := k.routes.map fun r => if r.joins a d then { r with make := some .outstanding, makeOrder := some id } else r
    breaks := k.breaks.filter fun b => !(decide (b.source = a) && decide (b.destination = d)) }

/-- A make is ordered for a route (R176). -/
def orderMake (a d : Nat) (x : Acting) : Acting :=
  tkIssue Config.matrixAddress (.crosspoint true a d) (.tkMake a d) (recordMake a d) x

/-- A DIM is ordered for a station (R178). -/
def orderDim (t depth : Nat) (x : Acting) : Acting :=
  tkIssue Config.matrixAddress (.dim t depth) (.tkDim t)
    (fun id s => s.modStation t fun k => { k with dimOrder := some id, dimRetry := false }) x

/-- The source of the LIVE route to a station with the highest source priority, and among equals the oldest (R179). -/
def State.incoming (s : State) (t : Nat) : Option Nat :=
  (bestRoute s.priority (liveTo t s.tk.routes)).map (·.source)

/-- The lamp contents of a station (R179). -/
def State.lampContents (s : State) (t : Nat) : LampContents :=
  { keys := (oneUpTo 8).map fun n => ((s.station t).key n).elim .off (·.state), source := s.incoming t }

/-- The conditions of the key-lamp test (R179). -/
def State.lampDue (s : State) (t : Nat) : Bool :=
  let x := s.station t
  decide (x.kind = some .linked) && x.link.any (fun l => (s.link l).state.inService) && x.lampOrder.isNone
    && x.lampRetry.isNone && decide (x.lampAcked ≠ some (s.lampContents t))

/-- The key-lamp test of a station (R179). -/
def orderLamp (t : Nat) (x : Acting) : Acting :=
  let s := x.1
  if s.lampDue t then
    let k := s.link ((s.station t).link.getD 0)
    let contents := s.lampContents t
    tkIssue k.cfg.unit (.talkLamp k.cfg.channel contents) (.tkLamp t)
      (fun id s => s.modStation t fun y => { y with lampOrder := some (id, contents) }) x
  else x

/-- A failed order of the Talk Router (R176 to R178, R180). -/
def tkFailed (issuer : Issuer) (id : Nat) (s : State) : State :=
  match issuer with
  | .tkMake a d =>
    if s.tk.routes.any (fun r => r.joins a d && r.live && decide (r.makeOrder = some id)) then
      raise .stationMatrixFailed d (s.modTk fun k =>
        { k with routes := k.routes.map fun r => if r.joins a d then { r with make := some .failed } else r })
    else s
  | .tkBreak a d =>
    s.modTk fun k => { k with breaks := k.breaks.map fun b =>
      if b.source = a ∧ b.destination = d ∧ b.order = some id then { b with order := none } else b }
  | .tkDim t =>
    if (s.station t).dimOrder = some id then s.modStation t fun k => { k with dimRetry := true } else s
  | .tkLamp t => lampFailed t id s
  | _ => s

/-- The overflows of an action are reported once it is complete (R127). -/
def reported (x : Acting) : State := x.2.foldl (fun s f => tkFailed f.1 f.2 s) x.1

/-- The key-lamp test as an event of its own. -/
def lampTest (t : Nat) (s : State) : State := reported (orderLamp t (s, []))

/-- An acknowledged order of the Talk Router (R176 to R178, R180). -/
def tkAcked (issuer : Issuer) (id : Nat) (s : State) : State :=
  match issuer with
  | .tkMake a d =>
    s.modTk fun k => { k with
      routes := k.routes.map fun r =>
        if r.joins a d && r.live && decide (r.makeOrder = some id) then { r with make := some .confirmed } else r }
  | .tkBreak a d =>
    s.modTk fun k => { k with breaks := k.breaks.filter fun b =>
      !(decide (b.source = a) && decide (b.destination = d) && decide (b.order = some id)) }
  | .tkLamp t =>
    match (s.station t).lampOrder with
    | some (n, c) =>
      if n = id then lampTest t (s.modStation t fun k => { k with lampAcked := some c, lampOrder := none }) else s
    | none => s
  | _ => s

/-! ## The end of an event (R173 to R175, R178, R179) -/

/-- The sources of the LIVE routes to a destination, ascending. -/
def liveSources (d : Nat) (rs : List Route) : List Nat :=
  (oneUpTo Config.stations).filter fun a => rs.any fun r => r.joins a d && r.live

/-- The CROSSPOINT orders of one destination: breaks for the routes that left LIVE, then makes for those that became LIVE, each
in ascending source (R175). The pair of a route that became LIVE leaves the break list at its make, after the pairs of these breaks
have joined it: DESIGN CHOICE (log 46), unsafe. -/
def crosspoints (before : List Route) (x : Acting) (d : Nat) : Acting :=
  let was := liveSources d before
  let is := liveSources d x.1.tk.routes
  let x1 := (was.filter fun a => !is.contains a).foldl (fun x a => orderBreak a d x) x
  (is.filter fun a => !was.contains a).foldl (fun x a => orderMake a d x) x1

/-- The DIM of one IFB station, where its LIVE count rose from 0 or fell to 0 in the event (R178). -/
def dims (before : List Route) (x : Acting) (t : Nat) : Acting :=
  let k := x.1.station t
  let was := (liveTo t before).isEmpty
  let is := (liveTo t x.1.tk.routes).isEmpty
  if k.kind = some .ifb ∧ 0 < k.dimDepth ∧ was ≠ is then orderDim t (if is then 0 else k.dimDepth) x else x

/-- A station's link came into service between two states (R179): a move between LOCKED and FADING is none, and makes no key-lamp test.
DEDUCED (log 54), unsafe. -/
def cameIntoService (s0 s1 : State) (t : Nat) : Bool :=
  (s1.station t).link.any fun l => !(s0.link l).state.inService && (s1.link l).state.inService

/-- The key-lamp test of a station whose key states or incoming source changed in the event, whose link came into service, or whose
key event this was (R166, R175, R179). -/
def lamps (asked : Option Nat) (s0 : State) (x : Acting) (t : Nat) : Acting :=
  if (x.1.station t).kind = some .linked ∧
      (s0.lampContents t ≠ x.1.lampContents t ∨ cameIntoService s0 x.1 t = true ∨ asked = some t)
  then orderLamp t x else x

/-- The reasons of every route as they now stand, and every destination settled (R173 to R175). -/
def State.resettle (s : State) : State :=
  s.modTk fun k => { k with routes := settleAll s.priority (k.routes.map s.suspend) }

/-- What the Talk Router does at the end of an event that began in state `s0`: reasons, settling, CROSSPOINT orders by
ascending destination, DIM orders, key-lamp tests, and then the reports of orders that overflowed. `asked` is the station of the
key event, where it was one. The DIMs and the tests go by ascending station, for which R175 gives no order: DESIGN CHOICE (log 35),
unsafe. -/
def tkAfterFor (asked : Option Nat) (s0 s1 : State) : State :=
  let x1 := (oneUpTo Config.stations).foldl (crosspoints s0.tk.routes) (s1.resettle, [])
  let x2 := (oneUpTo Config.stations).foldl (dims s0.tk.routes) x1
  reported ((oneUpTo Config.stations).foldl (lamps asked s0) x2)

/-- What the Talk Router does at the end of any other event. -/
def tkAfter (s0 s1 : State) : State := tkAfterFor none s0 s1

/-- The Talk Router takes the zone values that the Tally Resolver presents (R150, R173). -/
def presentZones (s : State) : State := s.modTk fun k => { k with zones := s.tr.zones }

/-! ## Key events (R166 to R169, R172) -/

/-- A key starts talking, in a new state and with a tap deadline, or is refused for lack of room (R171, R172). -/
def startTalking (t : Nat) (k : Key) (new : KeyState) (tap : Option FrameNo) (s : State) : State :=
  let ds := s.covered t k
  let fresh := ds.countP fun d => !s.tk.routes.any (Route.joins t d)
  if Config.routes - s.tk.routes.length < fresh then
    raise .stationRefused t (s.modStation t fun x => { x with lastRefusal := some (k.number, s.now) })
  else
    (setKey t k.number (fun k => { k with state := new, tapDeadline := tap }) s).modTk fun tk =>
      { tk with routes := s.addHolders t ds }

/-- A key stops talking (R171). -/
def stopTalking (t : Nat) (k : Key) (s : State) : State :=
  (setKey t k.number (fun k => { k with state := .off, tapDeadline := none }) s).modTk fun tk =>
    { tk with routes := dropHolders t (s.covered t k) tk.routes }

/-- A call pulse starts on station `d`, unless one runs there (R169). -/
def startPulse (frames d : Nat) (s : State) : State :=
  if s.called d then s
  else rewantStation d (s.modStation d fun x => { x with pulseEnd := some (framePlus s.now frames) })

/-- A call pulse ends (R169). -/
def endPulse (d : Nat) (s : State) : State := rewantStation d (s.modStation d fun x => { x with pulseEnd := none })

/-- What a press or release does by the key's mode (R167 to R169). The pulses that one CALL press starts are handed to the Tally
Resolver in ascending station, for which R169 and R144 give no order: DESIGN CHOICE (log 35), unsafe. -/
def keyActs (t : Nat) (k : Key) (down : Bool) (s : State) : State :=
  match k.mode, down, k.state with
  | .momentary, true, .off => startTalking t k .held none s
  | .momentary, false, .held => stopTalking t k s
  | .latch, true, .off => startTalking t k .latched none s
  | .latch, true, .latched => stopTalking t k s
  | .auto, true, .off => startTalking t k .tapping (some (framePlus s.now (s.station t).tapWindow)) s
  | .auto, true, .latched => stopTalking t k s
  | .auto, false, .tapping => setKey t k.number (fun k => { k with state := .latched, tapDeadline := none }) s
  | .auto, false, .held => stopTalking t k s
  | .call, true, _ => (s.covered t k).foldl (fun s' d => startPulse (s.station t).callFrames d s') s
  | _, _, _ => s

/-- The station whose key-lamp test a key event calls for: none for a repeat, or for a key the station does not have (R166). -/
def State.keyAsks (s : State) (t n : Nat) (down : Bool) : Option Nat :=
  match (s.station t).key n with
  | none => none
  | some k => if k.pressed = down then none else some t

/-- A key event that is taken: repeats have no effect (R166). The UP of a key held through STOP and START finds pressed no and is a
repeat by R166, though R183 calls it a non-repeat without effect: DEDUCED (log 47), unsafe. -/
def pressKey (t n : Nat) (down : Bool) (s : State) : State :=
  match (s.station t).key n with
  | none => s
  | some k => if k.pressed = down then s else keyActs t k down (setKey t n (fun k => { k with pressed := down }) s)

/-- A TAPPING AUTO key whose tap deadline has come becomes HELD (R168). -/
def tapEnds (t n : Nat) (s : State) : State :=
  setKey t n (fun k => if k.state = .tapping then { k with state := .held, tapDeadline := none } else k) s

/-! ## The matrix report event (R176 to R178) -/

/-- The LIVE routes whose make is FAILED, in ascending destination, then source (R176). -/
def failedMakes (rs : List Route) : List (Nat × Nat) :=
  (oneUpTo Config.stations).flatMap fun d => (oneUpTo Config.stations).filterMap fun a =>
    if rs.any (fun r => r.joins a d && r.live && decide (r.make = some .failed)) then some (a, d) else none

/-- The DIM a station awaiting re-issue is given: the depth it wants now (R178). -/
def redim (x : Acting) (t : Nat) : Acting :=
  let k := x.1.station t
  if k.kind = some .ifb ∧ k.dimRetry = true ∧ 0 < k.dimDepth then
    orderDim t (if (liveTo t x.1.tk.routes).isEmpty then 0 else k.dimDepth) x else x

/-- A matrix report event: failed makes, breaks without an order, and DIMs awaiting re-issue go out again (R176 to R178). The three
kinds go in this order, DIMs by ascending station, for which the rules give none: DESIGN CHOICE (log 45), unsafe. -/
def matrixEvent (s : State) : State :=
  let x1 := (failedMakes s.tk.routes).foldl (fun x p => orderMake p.1 p.2 x) ((s, []) : Acting)
  let x2 := (s.tk.breaks.filter fun b => b.order.isNone).foldl (fun x b => orderBreak b.source b.destination x) x1
  reported ((oneUpTo Config.stations).foldl redim x2)

/-! ## STOP (R184) -/

/-- Every key OFF, with pressed no and tap_deadline absent (R184). -/
def Station.keysOff (x : Station) : Station :=
  { x with keys := x.keys.map fun k => { k with state := .off, pressed := false, tapDeadline := none } }

/-- Every route is removed, and a break is ordered for each that was LIVE, in ascending destination, then source (R184). -/
def stopRoutes (s : State) : Acting :=
  (oneUpTo Config.stations).foldl (fun x d => (liveSources d s.tk.routes).foldl (fun x a => orderBreak a d x) x)
    (s.modTk fun k => { k with routes := [] }, [])

/-- A DIM with depth 0 for a defined IFB station with a dim_depth above 0 (R184). -/
def stopDim (x : Acting) (t : Nat) : Acting :=
  if (x.1.station t).kind = some .ifb ∧ 0 < (x.1.station t).dimDepth then orderDim t 0 x else x

/-- Every call pulse ends at STOP (R184). Where the resolution is yet to come, it is that resolution's tests which send the words
without CALL; where it has been made, each end is handed to the Tally Resolver (R144, R154), in ascending station:
DESIGN CHOICE (log 35), unsafe. -/
def stopPulses (resolved : Bool) (s : State) : State :=
  if resolved then (oneUpTo Config.stations).foldl (fun s t => if s.called t then endPulse t s else s) s
  else s.modTk fun k => { k with stations := k.stations.map fun x => { x with pulseEnd := none } }

/-- The Talk Router at STOP (R184), before or after the Tally Resolver's resolution (R154). DIMs and key-lamp tests go by ascending
station: DESIGN CHOICE (log 35), unsafe. -/
def tkStop (resolved : Bool) (s : State) : State :=
  let s1 := s.modTk fun k => { k with stations := k.stations.map Station.keysOff }
  let x1 := stopRoutes s1
  let x2 : Acting := (stopPulses resolved x1.1, x1.2)
  let x3 := (oneUpTo Config.stations).foldl stopDim x2
  reported ((oneUpTo Config.stations).foldl (fun x t => orderLamp t x) x3)

end Sys2Proof.Machine
end

