-- ==== Sys2Proof/Machine/Lamps.lean ====
section
/-! DEFINITION. The Lamp Drivers (chapter 9): source states, the frame step, cadence, level, and the drive of a PWM period. -/

namespace Sys2Proof.Machine

/-- The value for a state. -/
def PerShown.at_ {α : Type} (x : PerShown α) : Shown → α
  | .off => x.off | .preview => x.preview | .program => x.program | .talk => x.talk | .call => x.call

/-- A tally as a lamp shows it. -/
def Tally.shown : Tally → Shown | .off => .off | .preview => .preview | .program => .program

/-- The source state of a lamp (R156). -/
def State.sourceState (s : State) (x : Lamp) : Shown :=
  match x.cfg.source with
  | .none => .off
  | .tally => x.heldTally.shown
  | .zone z => if slot false s.lampZones z then .program else .off
  | .talk t => if s.called t then .call else if (liveTo t s.tk.routes).isEmpty then .off else .talk

/-- A flashing cadence: neither portion is 0 (section 9.3). -/
def Cadence.flashes (c : Cadence) : Bool := decide (c.onFrames ≠ 0) && decide (c.offFrames ≠ 0)

/-- A dark cadence (section 9.3). -/
def Cadence.dark (c : Cadence) : Bool := decide (c.onFrames = 0) && decide (c.offFrames ≠ 0)

/-- The cadence of the displayed state is counted (R158). -/
def Lamp.tick (x : Lamp) : Lamp :=
  let c := x.cfg.cadences.at_ x.displayed
  if c.flashes then
    if x.remaining ≤ 1 then { x with phaseOn := !x.phaseOn, remaining := if x.phaseOn then c.offFrames else c.onFrames }
    else { x with remaining := x.remaining - 1 }
  else x

/-- The level a frame step selects (R159). -/
def Lamp.select (x : Lamp) : Nat :=
  let c := x.cfg.cadences.at_ x.displayed
  if c.dark || (c.flashes && !x.phaseOn) then 0 else x.cfg.levels.at_ x.displayed

/-- A lamp after a frame step that reads a source state (R157). -/
def Lamp.stepTo (x : Lamp) (src : Shown) : Lamp :=
  let y :=
    if src ≠ x.displayed ∨ x.restart = true then
      { x with displayed := src, restart := false, phaseOn := true, remaining := (x.cfg.cadences.at_ src).onFrames }
    else x.tick
  { y with selected := y.select }

/-- The Lamp Drivers take the presented lamp tallies and zone values into their held copies (R157, R162). -/
def takeLampValues (s : State) : State :=
  { s with lampZones := s.tr.zones.map (·.onAir),
           lamps := s.lamps.zipIdx.map fun (x, i) => { x with heldTally := slot .off s.tr.lampTally (i + 1) } }

/-- A frame step (R157). -/
def frameStep (s : State) : State :=
  let s1 := takeLampValues s
  { s1 with lamps := s1.lamps.map fun x => x.stepTo (s1.sourceState x) }

/-- A PWM period of an output starts (R159). -/
def Lamp.load (x : Lamp) : Lamp :=
  { x with drive := x.selected, driveInvert := x.cfg.invert, drivePeriod := x.cfg.periodSelect }

/-- The output is driven active in tick `tick` of its PWM period, of the 255 ticks 0 to 254: for the first `drive` ticks (R159). -/
def Lamp.active (x : Lamp) (tick : Nat) : Bool := decide (tick < x.drive)

/-- The LAMP pin is high in tick `tick` of its PWM period: the active level is high, or low with invert (R159). -/
def Lamp.pinHigh (x : Lamp) (tick : Nat) : Bool := x.active tick != x.driveInvert

/-- A lamp at STOP (R162). -/
def Lamp.dark (x : Lamp) : Lamp :=
  { x with displayed := .off, selected := 0, phaseOn := true, remaining := 0, restart := true }

/-- A lamp's configuration is replaced; a cadence change of the displayed state restarts it (R158, R160). -/
def Lamp.configure (c : LampConfig) (x : Lamp) : Lamp :=
  { x with cfg := c,
           restart := x.restart || decide (c.cadences.at_ x.displayed ≠ x.cfg.cadences.at_ x.displayed) }

end Sys2Proof.Machine
end

