-- ==== Sys2Proof/Machine/Orders.lean ====
section
/-! DEFINITION. The results of orders (R128 to R131): acknowledgement, expiry, and what each issuer does with a result. -/

namespace Sys2Proof.Machine

/-- The TUNE of a retune failed (R103): the revert starts if the link is still in the retune that issued it. -/
def retuneFailed (l id : Nat) (s : State) : State :=
  if (s.link l).state = .retuning ∧ (s.link l).moveOrder = some id then startRevert l s else s

/-- A SCAN_ASSIGN failed (R28): the same order is issued again at the next boundary. -/
def scanAssignFailed (b : Nat) (o : Order) (s : State) : State :=
  match o.body with
  | .scanAssign _ khz width count => scanFailed b { unit := o.address, startKhz := khz, widthKhz := width, count := count } s
  | _ => s

/-- A failed order is reported to its issuer (R131). -/
def orderFailed (o : Order) (s : State) : State :=
  match o.issuer with
  | .lsTune _ | .rcRevert _ => s
  | .rcRetune l => retuneFailed l o.id s
  | .lsPark l => parkMuteFailed l s
  | .lsRelease l | .rcVacate l => raise .linkMuteFailed l s
  | .tr l => tallyFailed l o.id s
  | .st b => scanAssignFailed b o s
  | .tkMake _ _ | .tkBreak _ _ | .tkDim _ | .tkLamp _ => tkFailed o.issuer o.id s

/-- An acknowledged order is reported to its issuer (R131). -/
def orderAcked (o : Order) (s : State) : State :=
  match o.issuer with
  | .tr l => tallyAcked l o.id s
  | .tkMake _ _ | .tkBreak _ _ | .tkDim _ | .tkLamp _ => tkAcked o.issuer o.id s
  | .lsTune _ | .lsPark _ | .lsRelease _ | .rcRetune _ | .rcRevert _ | .rcVacate _ | .st _ => s

/-- An outstanding order carries the number. -/
def Order.carries (n : Byte) (o : Order) : Bool := decide (o.number = some n)

/-- One acknowledged number (R129): the order leaves the list, its place is granted, and the issuer is told.
The grant comes before the report: DESIGN CHOICE (log 10), unsafe. -/
def acknowledge (address : Nat) (s : State) (n : Byte) : State :=
  match (s.unit address).outstanding.find? (Order.carries n) with
  | none => s
  | some o =>
    orderAcked o (grant address 1 (s.modUnit address fun u => { u with outstanding := u.outstanding.eraseP (Order.carries n) }))

/-- An acknowledgement list, in its order (R129). -/
def acknowledgeAll (address : Nat) (acks : List Byte) (s : State) : State := acks.foldl (acknowledge address) s

/-- Whether an order's deadline is the frame that begins. -/
def Order.due (now : FrameNo) (o : Order) : Bool := decide (o.deadline = now)

/-- The orders of a unit that expire at this boundary (R130), outstanding before waiting. -/
def UnitRec.dueOrders (now : FrameNo) (u : UnitRec) : List Order :=
  u.outstanding.filter (Order.due now) ++ u.waiting.filter (Order.due now)

/-- A unit record after its due orders have left its lists (R130). -/
def UnitRec.dropDue (now : FrameNo) (u : UnitRec) : UnitRec :=
  { u with outstanding := u.outstanding.filter (fun o => !o.due now), waiting := u.waiting.filter fun o => !o.due now }

/-- The orders of a unit whose deadline is this frame expire (R130). All leave their lists, so none that waits is sent; the
places freed are granted; then each failure is reported.
DESIGN CHOICE (log 9, 10), unsafe for the order of the reports. -/
def expire (address : Nat) (s : State) : State :=
  let u := s.unit address
  let s1 := grant address (u.outstanding.countP (Order.due s.now)) (s.modUnit address (UnitRec.dropDue s.now))
  (u.dueOrders s.now).foldl (fun s o => orderFailed o s) s1

end Sys2Proof.Machine
end

