-- ==== Sys2Proof/Machine/Evaluator.lean ====
section
/-! DEFINITION. The Plan Evaluator (chapter 4): snapshots, the choice of the engine, the conversion of flags, what each kind of
job does at its completion, and the withdrawal of jobs. -/

namespace Sys2Proof.Machine

/-! ## Snapshots (R56) -/

/-- What a job copies of a band. -/
def State.bandSnap (s : State) (b : Nat) : BandSnap :=
  let k := s.band b
  { band := b, p := k.p, held := s.carrierSet b, exclusions := k.exclusions, hot := k.hotRanges, bins := k.bins,
    spares := k.spares, carrierGen := k.carrierGen, spectrumGen := k.spectrumGen }

/-- What a plan check copies of an entry. -/
def State.entrySnap (s : State) (e : PlanEntry) : EntrySnap :=
  let k := s.link e.link
  { link := e.link, target := e.target, band := k.cfg.band, hw := k.cfg.hw, defined := k.cfg.kind.isSome }

/-- The bands that entries touch (R51). -/
def touchedBands (es : List EntrySnap) : List Nat :=
  (oneUpTo Config.bands).filter fun b => es.any fun e => decide (e.band = b)

/-- The snapshot of one band, with a link's band and half-width. -/
def State.oneBand (s : State) (b linkBand linkHw : Nat) : Snapshot :=
  { bands := [s.bandSnap b], entries := [], linkBand := linkBand, linkHw := linkHw }

/-- What a job copies at its start (R56). The ASSIGN_CHECK of a link that is then VACANT, which has no band, copies that of the
record's band 0, an undefined band with counters 0: DESIGN CHOICE (log 51), unsafe. -/
def State.snapshot (s : State) : JobKind → Snapshot
  | .planCheck =>
    let es := s.plan.entries.map s.entrySnap
    { bands := (touchedBands es).map s.bandSnap, entries := es, linkBand := 0, linkHw := 0 }
  | .assignCheck l _ _ | .rescuePick l _ =>
    let c := (s.link l).cfg
    s.oneBand c.band c.band c.hw
  | .query b _ _ _ _ | .spareSweep b => s.oneBand b 0 0

/-- The one band of a snapshot, for the jobs that copy one. -/
def Snapshot.one (q : Snapshot) : BandSnap :=
  q.bands.headD
    { band := 0, p := BandParams.zero, held := [], exclusions := [], hot := [], bins := [], spares := [],
      carrierGen := 0, spectrumGen := 0 }

/-! ## The queue and the engine (R54, R55) -/

def JobKind.isPick : JobKind → Bool | .rescuePick _ _ => true | _ => false
def JobKind.isPickOf (l : Nat) : JobKind → Bool | .rescuePick n _ => decide (n = l) | _ => false
def JobKind.isSweepOf (b : Nat) : JobKind → Bool | .spareSweep n => decide (n = b) | _ => false
def JobKind.isAssignOf (l : Nat) : JobKind → Bool | .assignCheck n _ _ => decide (n = l) | _ => false
def JobKind.isPlanCheck : JobKind → Bool | .planCheck => true | _ => false

/-- Whether the queue holds a job of some sort. -/
def State.hasJob (s : State) (p : JobKind → Bool) : Bool := s.pe.queue.any fun j => p j.kind

/-- The queue holds fewer than 8 jobs (R54). -/
def State.queueRoom (s : State) : Bool := decide (s.pe.queue.length < Config.jobs)

/-- A job joins the tail of the queue (R54). -/
def joinQueue (k : JobKind) (s : State) : State :=
  s.modPe fun e => { e with queue := e.queue ++ [{ kind := k, snap := none, moved := false }] }

/-- The job the idle engine chooses (R55). -/
def chosenJob (q : List Job) : Option Job :=
  (q.find? fun j => j.snap.isNone && j.kind.isPick).or (q.find? fun j => j.snap.isNone)

/-- The first item of a list that is `j` gives place to another. -/
def replaceFirst (j j' : Job) : List Job → List Job
  | [] => []
  | x :: xs => if x = j then j' :: xs else x :: replaceFirst j j' xs

/-- A job starts (R56): it takes its snapshot, and a sweep clears its band's flag. -/
def startJob (j : Job) (s : State) : State :=
  let s1 := s.modPe fun e =>
    { e with engine := .running, queue := replaceFirst j { j with snap := some (s.snapshot j.kind) } e.queue }
  match j.kind with
  | .spareSweep b => s1.modBand b fun k => { k with sweepWanted := false }
  | _ => s1

/-- The engine chooses when it is idle and a job is queued (R55). -/
def choose (s : State) : State :=
  match s.pe.engine, chosenJob s.pe.queue with
  | .idle, some j => startJob j s
  | _, _ => s

/-! ## Conversion of flags (R57) -/

/-- A link's rescue flag becomes a pick. -/
def convertRescue (s : State) (l : Nat) : State :=
  if s.queueRoom = true ∧ (s.link l).rescue = .wanted ∧ s.hasJob (JobKind.isPickOf l) = false
      ∧ (s.band (s.link l).cfg.band).frozen = false
  then (joinQueue (.rescuePick l 1) s).modLink l fun k => { k with rescue := .picking } else s

/-- A band's sweep flag becomes a sweep. -/
def convertSweep (s : State) (b : Nat) : State :=
  if s.queueRoom = true ∧ (s.band b).sweepWanted = true ∧ (s.band b).defined = true ∧ s.hasJob (JobKind.isSweepOf b) = false
  then (joinQueue (.spareSweep b) s).modBand b fun k => { k with sweepWanted := false } else s

/-- Flags are converted in RUN while the queue has room (R57). -/
def convert (s : State) : State :=
  if s.mode = .run then
    (oneUpTo Config.bands).foldl convertSweep ((oneUpTo Config.links).foldl convertRescue s)
  else s

/-- Conversion and then the engine's choice: steps 3 and 4 of a completion, and what follows any other event (R55, R57, R59). -/
def pump (s : State) : State := choose (convert s)

/-! ## Completion (R59, R60) -/

/-- The running job and its snapshot. -/
def State.running (s : State) : Option (JobKind × Snapshot) :=
  if s.pe.engine = .running then s.pe.queue.findSome? fun j => j.snap.map fun q => (j.kind, q) else none

/-- The running job leaves the queue and the engine becomes idle (R59). -/
def leaveQueue (s : State) : State :=
  s.modPe fun e => { e with queue := e.queue.eraseP fun j => j.snap.isSome, engine := .idle }

def setAssignResult (l : Nat) (r : AssignResult) (s : State) : State :=
  s.modPe fun e => { e with assign := modSlot (fun _ => some r) e.assign l }
def setRescueResult (l : Nat) (r : RescueResult) (s : State) : State :=
  s.modPe fun e => { e with rescue := modSlot (fun _ => some r) e.rescue l }
def setQueryResult (b : Nat) (r : QueryResult) (s : State) : State :=
  s.modPe fun e => { e with query := modSlot (fun _ => some r) e.query b }

/-- A LINK_DEFINE has moved the link of the running job since the job joined the queue (R61, R74). -/
def State.runningMoved (s : State) : Bool := s.pe.queue.any fun j => j.snap.isSome && j.moved

/-- The subject of the running ASSIGN_CHECK has changed (R60, R61). A move that a later LINK_DEFINE undoes is a change too:
DEDUCED (log 42), unsafe. -/
def assignChanged (l : Nat) (q : Snapshot) (s : State) : Bool :=
  let k := s.link l
  decide (k.state ≠ .idle) || decide (k.cfg.band ≠ q.linkBand) || decide (k.cfg.hw ≠ q.linkHw) || (s.band k.cfg.band).frozen
    || s.runningMoved

/-- An ASSIGN_CHECK is stale (R60). -/
def assignStale (q : Snapshot) (s : State) : Bool :=
  decide ((s.band q.one.band).carrierGen ≠ q.one.carrierGen)

/-- A link that passed takes its step, which is held, and enters ACQUIRING (R23, R61, R86). -/
def takeStep (l step : Nat) (e : FrameNo) (s : State) : State :=
  let k := s.link l
  enterAcquiring l e (hold k.cfg.band step k.cfg.hw (s.modLink l fun k => { k with assigned := some step }))

/-- An ASSIGN_CHECK completes (R61). -/
def assignDone (l step : Nat) (override : Bool) (q : Snapshot) (s : State) : State :=
  let worst := candidateCheck q.one override step q.linkHw l
  let result (o : AssignOutcome) (w : Option Constraint) : AssignResult :=
    { outcome := o, step := step, override := override, gen := some q.one.carrierGen, worst := w }
  if assignChanged l q s || assignStale q s then raise .linkStale l (setAssignResult l (result .stale none) s)
  else if 0 ≤ worst.margin then
    takeStep l step s.nextEffective (setAssignResult l (result .pass (some worst)) s)
  else raise .linkRefused l (setAssignResult l (result .refused (some worst)) s)

/-- A PLAN_CHECK is stale (R60). -/
def planStale (q : Snapshot) (s : State) : Bool :=
  q.bands.any (fun g => decide ((s.band g.band).carrierGen ≠ g.carrierGen)) ||
  q.entries.any fun e =>
    let c := (s.link e.link).cfg
    decide (c.kind.isSome ≠ e.defined) || decide (c.band ≠ e.band) || decide (c.hw ≠ e.hw)

/-- A PLAN_CHECK completes (R62).
DEDUCED (log 17), unsafe. -/
def planDone (q : Snapshot) (s : State) : State :=
  if s.plan.state ≠ .checking then s
  else if planStale q s then invalidatePlan s
  else if planBroken q.bands q.entries then
    setPlanState .rejected (s.modPlan fun p => { p with worst := none })
  else
    let worst := planWorst q.bands q.entries
    setPlanState (if 0 ≤ worst.margin then .ready else .rejected)
      (s.modPlan fun p => { p with worst := some worst, checked := some (q.bands.map fun g => (g.band, g.carrierGen)) })

/-- A QUERY completes (R64). -/
def queryDone (b : Nat) (number : BitVec 16) (step hw link : Nat) (q : Snapshot) (s : State) : State :=
  let worst := candidateCheck q.one false step hw link
  let pass := decide (0 ≤ worst.margin)
  raise .bandQuery b (setQueryResult b
    { number := number, step := step, hw := hw, link := link, outcome := if pass then .pass else .fail,
      worst := some worst, score := if pass then some (score q.one step worst.margin) else none,
      gens := some (q.one.carrierGen, q.one.spectrumGen) } s)

/-- Either counter of a snapshot's band has moved: a sweep or a pick is stale (R60). -/
def scanStale (q : Snapshot) (s : State) : Bool :=
  let k := s.band q.one.band
  decide (k.carrierGen ≠ q.one.carrierGen) || decide (k.spectrumGen ≠ q.one.spectrumGen)

/-- The list a sweep installs (R66): the first 16, without those that a carrier now held bars. -/
def sweepList (b : Nat) (q : Snapshot) (s : State) : List Spare :=
  ((sweepRanked q.one s.now).take Config.spares).filter fun e =>
    !(s.carrierSet b).any fun c => within c.step c.hw (s.band b).p.gapCc e.step

/-- An EXHAUSTED link of a band is wanted again when a sweep installs an entry (R66). -/
def rearm (b : Nat) (k : Link) : Link :=
  if k.cfg.band = b ∧ k.state = .fading ∧ k.rescue = .exhausted ∧ k.cfg.autoRescue = true then { k with rescue := .wanted }
  else k

/-- A SPARE_SWEEP completes (R66). -/
def sweepDone (b : Nat) (q : Snapshot) (s : State) : State :=
  if (s.band b).defined = false then s
  else if scanStale q s then s.modBand b fun k => { k with sweepWanted := true }
  else
    let list := sweepList b q s
    let s1 := raise .bandSpares b (s.modBand b fun k => { k with spares := list, sparesFresh := true })
    if list.isEmpty then s1 else { s1 with links := s1.links.map (rearm b) }

/-- A pick's trial of the spare entries in order (R68): the steps rejected, the step that passed, and the worst constraint of
the last entry tried. -/
def tryEntries (g : BandSnap) (hw l : Nat) : List Spare → List Nat × Option Nat × Option Constraint
  | [] => ([], none, none)
  | e :: es =>
    let w := candidateCheck g false e.step hw l
    if 0 ≤ w.margin then ([], some e.step, some w)
    else
      let rest := tryEntries g hw l es
      (e.step :: rest.1, rest.2.1, rest.2.2.or (some w))

/-- The subject of a pick has changed (R60). -/
def pickChanged (l : Nat) (s : State) : Bool :=
  decide ((s.link l).state ≠ .fading) || decide ((s.link l).rescue ≠ .picking)

/-- A pick that is not stale completes (R68, R120). -/
def pickDone (l : Nat) (q : Snapshot) (s : State) : State :=
  let b := q.one.band
  let t := tryEntries q.one q.linkHw l q.one.spares
  let gone (e : Spare) : Bool := t.1.contains e.step
  let removed := (s.band b).spares.countP gone
  let s1 := s.modBand b fun k => { k with spares := k.spares.filter fun e => !gone e }
  let result (o : RescueOutcome) (step : Option Nat) : RescueResult :=
    { outcome := o, tried := t.1.length + t.2.1.toList.length, removed := removed, step := step, worst := t.2.2 }
  if pickChanged l s then s1
  else match t.2.1 with
    | none =>
      raise .linkRescue l ((setRescueResult l (result .exhausted none) s1).modLink l fun k => { k with rescue := .exhausted })
    | some step =>
      if (s.band b).frozen then
        (setRescueResult l (result .deferred none) s1).modLink l fun k => { k with rescue := .wanted }
      else
        let s2 := startRetune l step s.nextEffective .rescue (setRescueResult l (result .chosen (some step)) s1)
        raise .linkRescue l (s2.modBand b fun k => { k with spares := k.spares.filter fun e => decide (e.step ≠ step) })

/-- A RESCUE_PICK completes (R67): set aside, retried at the tail, exhausted, or as R68 states; it leaves the queue (R59).
The result of attempt 3 stays as it was: DEDUCED (log 19), unsafe. -/
def rescueDone (l attempt : Nat) (q : Snapshot) (s : State) : State :=
  if scanStale q s then
    if pickChanged l s then leaveQueue s
    else if attempt < 3 then joinQueue (.rescuePick l (attempt + 1)) (leaveQueue s)
    else leaveQueue (raise .linkRescue l (s.modLink l fun k => { k with rescue := .exhausted }))
  else leaveQueue (pickDone l q s)

/-! ## Withdrawal (R69, R70) -/

/-- The treatment of one job that STOP withdraws (R69).
What a withdrawn job's result keeps: DEDUCED (log 24), unsafe. -/
def withdrawJob (s : State) (j : Job) : State :=
  match j.kind with
  | .assignCheck l step override =>
    raise .linkStale l (setAssignResult l
      { outcome := .stale, step := step, override := override, gen := j.snap.map fun q => q.one.carrierGen, worst := none } s)
  | .planCheck => if s.plan.state = .checking then invalidatePlan s else s
  | .query b number step hw link =>
    raise .bandQuery b (setQueryResult b
      { number := number, step := step, hw := hw, link := link, outcome := .discarded, worst := none, score := none,
        gens := none } s)
  | .spareSweep _ | .rescuePick _ _ => s

/-- The engine after STOP and after warm reset: DRAINING if it was RUNNING, else IDLE (the table of R70).
DEDUCED (log 18) for an engine found DRAINING, unsafe. -/
def Engine.drained : Engine → Engine
  | .running => .draining
  | .draining | .idle => .idle

/-- A link's rescue flag is cleared; EXHAUSTED stays (R69). -/
def Link.clearRescue (k : Link) : Link :=
  if k.rescue = .wanted ∨ k.rescue = .picking then { k with rescue := .none } else k

/-- STOP withdraws every job and clears every flag (R69). The jobs are treated oldest first, for which R69 gives no order:
DESIGN CHOICE (log 37), unsafe. -/
def withdrawAll (s : State) : State :=
  let s1 := s.pe.queue.foldl withdrawJob s
  let s2 := s1.modPe fun e => { e with queue := [], engine := e.engine.drained }
  { s2 with bands := s2.bands.map fun k => { k with sweepWanted := false }, links := s2.links.map Link.clearRescue }

end Sys2Proof.Machine
end

