-- ==== Sys2Proof/Machine/MessagePort.lean ====
section
/-! DEFINITION. The Message Port (chapter 11): the receiver, the request buffer, the transmit path and its choice, and the byte
forms of records, results and notice bodies. Where R186 leaves a form to reading: DEDUCED (log 22), unsafe for single bytes. -/

namespace Sys2Proof.Machine

/-! ## Result codes (R190) -/

/-- The result code of a reply. -/
inductive Result where
  | ok | accepted | badArgument | unknownRequest | wrongMode | wrongState | linkBusy | frozen | full | busy | conflict
  deriving DecidableEq, Repr

def Result.code : Result → Nat
  | .ok => 0 | .accepted => 1 | .badArgument => 2 | .unknownRequest => 3 | .wrongMode => 4 | .wrongState => 5
  | .linkBusy => 6 | .frozen => 7 | .full => 8 | .busy => 9 | .conflict => 10

/-- A state and the payload of a reply. -/
abbrev Answered := State × List Byte

/-- A refusal carries the result code alone and changes no state (R190). -/
def refuse (r : Result) (s : State) : Answered := (s, u8 r.code)

/-- An OK reply with its contents. -/
def okWith (body : List Byte) (s : State) : Answered := (s, u8 Result.ok.code ++ body)

/-- An ACCEPTED reply with its contents. -/
def acceptedWith (body : List Byte) (s : State) : Answered := (s, u8 Result.accepted.code ++ body)

/-! ## Records as bytes -/

/-- Four bytes of a constraint record for a victim or source; zeros when the kind does not use it (section 11.2). -/
def pointBytes : Option Point → List Byte
  | none => [0, 0, 0, 0]
  | some p => u16 p.step ++ u8 p.link ++ u8 (roleCode p.role)

/-- A constraint record: 24 bytes (section 11.2). -/
def Constraint.bytes (c : Constraint) : List Byte :=
  u8 c.band ++ u8 c.kind.code ++ s16 (clampMargin c.margin) ++ pointBytes c.victim ++ pointBytes c.first
    ++ pointBytes c.second ++ pointBytes c.third ++ s16 c.product ++ u16 c.spread

/-- A margin where there may be none, clamped as reported (R45). -/
def marginBytes (c : Option Constraint) : List Byte := opt (fun w => s16 (clampMargin w.margin)) c

/-- The items of TB_STATUS and of the TIMEBASE notice (R14, R15). -/
def Ftb.bytes (k : Ftb) : List Byte :=
  u8 k.rate.code ++ u8 k.lead ++ u8 k.refState.code ++ w32 k.counter ++ u24 k.measuredPeriod ++ u8 k.goodCount
    ++ u16 k.goodPeriod

/-- The parameters of BAND_DEFINE from base_khz to bin_width. -/
def BandParams.headBytes (p : BandParams) : List Byte :=
  u24 p.baseKhz ++ u16 p.steps ++ u8 p.gapCc ++ u8 p.gapIm3 ++ u8 p.gapIm3x ++ u8 p.gapIm5 ++ u8 p.spareHw
    ++ u8 p.spareStride ++ u16 p.scanStart ++ u16 p.scanEnd ++ u8 p.binWidth

/-- The parameters of BAND_DEFINE from hot_level to scan_unit. -/
def BandParams.tailBytes (p : BandParams) : List Byte :=
  u8 p.hotLevel ++ u8 p.unknownPenalty ++ orZero p.scanUnit

/-- The state of a spare list: FRESH 0, STALE 1. -/
def Band.freshBytes (k : Band) : List Byte := firstIf k.sparesFresh

/-- An assign result (R61). -/
def AssignResult.bytes (r : AssignResult) : List Byte :=
  u8 r.outcome.code ++ u16 r.step ++ flag r.override ++ opt w32 r.gen ++ marginBytes r.worst ++ opt Constraint.bytes r.worst

/-- A rescue result (R68). -/
def RescueResult.bytes (r : RescueResult) : List Byte :=
  u8 r.outcome.code ++ u8 r.tried ++ u8 r.removed ++ opt u16 r.step ++ opt Constraint.bytes r.worst

/-- A query result (R64). -/
def QueryResult.bytes (r : QueryResult) : List Byte :=
  u16 r.number.toNat ++ u16 r.step ++ u8 r.hw ++ u8 r.link ++ u8 r.outcome.code ++ marginBytes r.worst
    ++ opt Constraint.bytes r.worst ++ opt s16 r.score ++ opt w32 (r.gens.map Prod.fst) ++ opt w32 (r.gens.map Prod.snd)

/-- A tally word: the bits of the TALLY layout (section 7.3). -/
def TallyWord.bytes (w : TallyWord) : List Byte := u8 w.code

/-- The most recent sample (section 5.1). -/
def LastReport.bytes (r : LastReport) : List Byte :=
  u8 r.level ++ u8 r.quality ++ flag r.lock ++ opt u16 r.step ++ u8 r.battery ++ w32 r.frame

/-- The fields of LINK_DEFINE after kind (section 5.1). -/
def LinkConfig.bytes (c : LinkConfig) : List Byte :=
  u8 c.band ++ u8 c.hw ++ u8 c.unit ++ u8 c.channel ++ orZero c.station ++ u8 c.fadeLevel ++ u8 c.recoverLevel
    ++ u8 c.fadeQuality ++ u8 c.recoverQuality ++ u8 c.filterK ++ u8 c.fadeLimit ++ u8 c.silenceLimit
    ++ u16 c.acquireLimit ++ u8 c.confirmWindow ++ firstIf c.autoRescue ++ u8 c.batteryLow

/-- The tally fields of a link record (R152). -/
def Link.tallyBytes (number : Option Byte) (k : Link) : List Byte :=
  k.wanted.bytes ++ opt TallyWord.bytes k.delivered
    ++ opt (fun t => TallyWord.bytes t.word ++ w32 t.issueFrame ++ opt (fun b => [b]) number) k.tallyOrder
    ++ opt w32 k.retryAt

/-- A whole link record (R97); a VACANT link gives its kind alone. -/
def State.linkBytes (s : State) (l : Nat) : List Byte :=
  let k := s.link l
  if k.cfg.kind.isNone then u8 (kindCode k.cfg.kind)
  else
    u8 (kindCode k.cfg.kind) ++ k.cfg.bytes ++ u8 k.state.code ++ opt u16 k.assigned ++ opt u16 k.pending ++ u8 k.badRun
      ++ u8 k.goodRun ++ u8 k.fadeTimer ++ u8 k.silenceCounter ++ u8 k.rescue.code ++ opt (fun o => u8 (Origin.code o)) k.origin
      ++ opt w32 k.effectiveFrame ++ opt w32 k.deadline ++ opt LastReport.bytes k.lastReport
      ++ opt (fun c => u8 (LostCause.code c)) k.lostCause ++ k.tallyBytes (s.tallyNumber l)

/-- The assign and rescue results of a link, each marked absent where there is none (R97). -/
def State.assignResult (s : State) (l : Nat) : Option AssignResult := slot none s.pe.assign l
def State.rescueResult (s : State) (l : Nat) : Option RescueResult := slot none s.pe.rescue l
def State.queryResult (s : State) (b : Nat) : Option QueryResult := slot none s.pe.query b

/-- A key target: station 0 or group 1, then its number. -/
def KeyTarget.bytes : KeyTarget → List Byte
  | .station n => u8 0 ++ u8 n
  | .group n => u8 1 ++ u8 n

/-- A key record (section 10.1). -/
def Key.bytes (k : Key) : List Byte :=
  u8 k.number ++ k.target.bytes ++ u8 k.mode.code ++ u8 k.state.code ++ firstIf k.pressed ++ opt w32 k.tapDeadline

/-- Lamp contents, as a TALK_LAMP carries them (section 7.3). -/
def LampContents.bytes (c : LampContents) : List Byte := u16 (keysNat c.keys) ++ orZero c.source

/-- An order as a record shows it: its number, once it has one and while it is outstanding (log 22). -/
def State.orderBytes (s : State) (id : Nat) : List Byte := opt (fun b => [b]) (s.orderNumber id)

/-- A whole station record, in the order of the table of section 10.1. -/
def State.stationBytes (s : State) (t : Nat) : List Byte :=
  let x := s.station t
  u8 (stationKindCode x.kind) ++ orZero x.link ++ orZero x.zone ++ u8 x.priority ++ u8 x.dimDepth
    ++ listed Key.bytes x.keys ++ u8 x.tapWindow ++ u8 x.callFrames ++ opt w32 x.pulseEnd
    ++ opt s.orderBytes x.dimOrder ++ firstIf x.dimRetry ++ opt LampContents.bytes x.lampAcked
    ++ opt (fun o => s.orderBytes o.1 ++ LampContents.bytes o.2) x.lampOrder ++ firstIf x.lampRetry.isSome
    ++ opt (fun r => u8 r.1 ++ w32 r.2) x.lastRefusal

/-- The numbers of LIVE and WAITING routes among some routes. -/
def liveWaiting (rs : List Route) : List Byte := u8 (rs.countP (·.live)) ++ u8 (rs.countP fun r => !r.live)

/-- The numbers of a station's LIVE and WAITING routes, from it and then to it (R181, R182). -/
def State.routeCounts (s : State) (t : Nat) : List Byte :=
  liveWaiting (s.tk.routes.filter fun r => decide (r.source = t))
    ++ liveWaiting (s.tk.routes.filter fun r => decide (r.destination = t))

/-- A lamp source, as LAMP_CONFIGURE carries it (R160). -/
def LampSource.bytes : LampSource → List Byte
  | .none => u8 0 | .tally => u8 1 | .zone z => u8 2 ++ u8 z | .talk t => u8 3 ++ u8 t

def Cadence.bytes (c : Cadence) : List Byte := u8 c.onFrames ++ u8 c.offFrames

/-- A value for each state, in the order OFF to CALL. -/
def PerShown.bytes {α : Type} (f : α → List Byte) (x : PerShown α) : List Byte :=
  f x.off ++ f x.preview ++ f x.program ++ f x.talk ++ f x.call

/-- A lamp's configuration (R160). -/
def LampConfig.bytes (c : LampConfig) : List Byte :=
  c.source.bytes ++ c.levels.bytes u8 ++ c.cadences.bytes Cadence.bytes ++ firstIf c.invert ++ u8 c.periodSelect

/-- A tally map entry (R141). -/
def MapEntry.bytes (e : MapEntry) : List Byte :=
  (match e.input with | .line n => u8 0 ++ u8 n | .virt n => u8 1 ++ u8 n)
    ++ firstIf e.program ++ orZero e.zone ++ listed u8 e.links ++ listed u8 e.lamps

/-- A set over 32 numbered items. -/
def set32 (bs : List Bool) : List Byte := u32 (maskNat bs)

/-! ## Notices (R194) -/

/-- The body of a LINK notice (R96). -/
def State.linkBody (s : State) (l : Nat) (causes : BitVec 16) : List Byte :=
  let k := s.link l
  u8 (kindCode k.cfg.kind) ++ u8 k.cfg.band ++ u8 k.state.code ++ opt (fun c => u8 (LostCause.code c)) k.lostCause
    ++ opt u16 k.assigned ++ opt u16 k.pending ++ u8 k.rescue.code ++ u8 k.fadeTimer ++ opt LastReport.bytes k.lastReport
    ++ opt AssignResult.bytes
        (if Cause.linkStale.within causes || Cause.linkRefused.within causes then s.assignResult l else none)
    ++ opt RescueResult.bytes (if Cause.linkRescue.within causes then s.rescueResult l else none)

/-- The body of a BAND notice (R37). -/
def State.bandBody (s : State) (b : Nat) (causes : BitVec 16) : List Byte :=
  let k := s.band b
  firstIf k.frozen ++ w32 k.carrierGen ++ w32 k.spectrumGen ++ k.freshBytes ++ u8 k.spares.length ++ u16 k.hotCount
    ++ opt QueryResult.bytes (if Cause.bandQuery.within causes then s.queryResult b else none)

/-- The body of a PLAN notice (R119). -/
def Plan.body (p : Plan) : List Byte :=
  u8 p.state.code ++ u8 p.entries.length ++ u8 (p.entries.countP fun e => e.outcome.isSome) ++ opt w32 p.effective
    ++ marginBytes p.worst ++ opt Constraint.bytes p.worst

/-- The body of a STATION notice (R182): its key states are a counted list of key number and state, a byte each.
DEDUCED (log 49), unsafe. -/
def State.stationBody (s : State) (t : Nat) : List Byte :=
  let x := s.station t
  u8 (stationKindCode x.kind) ++ listed (fun k : Key => u8 k.number ++ u8 k.state.code) x.keys ++ opt w32 x.pulseEnd
    ++ opt (fun r => u8 r.1 ++ w32 r.2) x.lastRefusal ++ s.routeCounts t
    ++ u8 ((liveTo t s.tk.routes).countP fun r => decide (r.make = some .failed))

/-- The body of an INPUT notice (R153): for each line its filtered state and its edge flag, a byte each.
DEDUCED (log 41), unsafe. -/
def Tr.inputBody (r : Tr) : List Byte := r.lines.flatMap fun x => firstIf x.filtered ++ firstIf x.edge

/-- The body of a DEVICE notice (R194). -/
def State.deviceBody (s : State) : List Byte :=
  u8 s.mode.code ++ w32 s.now ++ u8 s.ftb.refState.code ++ u8 s.nq.length

/-- The body of a notice, from the state as it stands (R194). -/
def State.noticeBody (s : State) (n : Notice) : List Byte :=
  match n.cls with
  | .link => s.linkBody n.obj n.causes
  | .band => s.bandBody n.obj n.causes
  | .plan => s.plan.body
  | .timebase => s.ftb.bytes
  | .station => s.stationBody n.obj
  | .input => s.tr.inputBody
  | .device => s.deviceBody

/-- The frame of a notice: the notice number as its tag, the class, the object, the cause set and the body (R194). -/
def State.noticeFrame (s : State) (n : Notice) : HostFrame :=
  { kind := 0x7F, tag := s.mp.noticeNumber,
    payload := u8 n.cls.code ++ u8 n.obj ++ u16 n.causes.toNat ++ s.noticeBody n }

/-! ## The transmit path (R189) -/

/-- A frame begins to be sent. -/
def beginFrame (what : TxKind) (f : HostFrame) (s : State) : State :=
  s.modMp fun m => { m with sending := some { what := what, frame := f }, lastSent := some what }

/-- A notice begins to be sent, under the next notice number (R194). -/
def sendNotice (what : TxKind) (n : Notice) (s : State) : State :=
  (beginFrame what (s.noticeFrame n) s).modMp fun m => { m with noticeNumber := m.noticeNumber + 1 }

/-- The oldest notice of a push-enabled class (R192). -/
def State.pushable (s : State) : Option Notice := s.nq.find? fun n => n.cls.within s.mp.pushMask

/-- A pushed notice leaves the queue and is sent (R192). -/
def pushNotice (n : Notice) (s : State) : State :=
  sendNotice .pushed n { s with nq := s.nq.eraseP fun m => decide (m = n) }

/-- The last frame sent lets a pushed notice go ahead of a reply (R189, choice 3).
A refusal counts as a reply: DEDUCED (log 12), unsafe. -/
def pushTurn : Option TxKind → Bool
  | some .refusal | some .reply | some .fetched => true
  | some .pushed | none => false

/-- Without a reply or a fetched notice, a pushed notice is sent if there is one (R189, choice 5). -/
def pushIfAny (s : State) : State :=
  match s.pushable with
  | some n => pushNotice n s
  | none => s

/-- A waiting reply, with a pushed notice ahead of it when it is that one's turn (R189, choices 3 and 4). -/
def sendReply (f : HostFrame) (s : State) : State :=
  match s.pushable, pushTurn s.mp.lastSent with
  | some n, true => pushNotice n s
  | _, _ => beginFrame .reply f (s.modMp fun m => { m with reply := none })

/-- The transmit path chooses the next frame when it is free (R189). -/
def kick (s : State) : State :=
  match s.mp.sending, s.mp.refusals, s.mp.reply, s.mp.fetched with
  | some _, _, _, _ => s
  | none, r :: rs, _, _ =>
    beginFrame .refusal { kind := r.kind, tag := r.tag, payload := u8 Result.busy.code } (s.modMp fun m => { m with refusals := rs })
  | none, [], none, n :: ns => sendNotice .fetched n (s.modMp fun m => { m with fetched := ns })
  | none, [], some f, _ => sendReply f s
  | none, [], none, [] => pushIfAny s

/-! ## The receiver (R187, R188) -/

/-- One step of the CRC-16 x¹⁶ + x¹² + x⁵ + 1 over a bit. -/
def crc16Bit (c : Nat) : Nat := if 32768 ≤ c then (c * 2 % 65536) ^^^ 0x1021 else c * 2

/-- The CRC-16 of some bytes, initial value 0xFFFF (section 11.1). -/
def crc16 (bs : List Byte) : Nat := bs.foldl (fun c b => Nat.repeat crc16Bit 8 (c ^^^ (b.toNat * 256))) 0xFFFF

/-- The bytes of a frame on the line (section 11.1). -/
def HostFrame.bytes (f : HostFrame) : List Byte :=
  let body := u8 f.payload.length ++ [f.kind, f.tag] ++ f.payload
  0x5A :: (body ++ u16 (crc16 body))

/-- The kind of the reply to a code: the code + 0x80, or 0xFF where it is no request code (R188). -/
def replyKind (k : Byte) : Byte := if k.toNat = 0 ∨ 0x7F ≤ k.toNat then 0xFF else k + 0x80

/-- A good frame arrives (R188). -/
def acceptFrame (f : HostFrame) (m : Mp) : Mp :=
  if m.buffer.length < Config.buffer then { m with buffer := m.buffer ++ [f] }
  else if m.refusals.length < Config.refusals then
    { m with refusals := m.refusals ++ [{ kind := replyKind f.kind, tag := f.tag }] }
  else m

/-- The receiver examines the bytes it holds (R187): the good frames it finds, in order, and the bytes it then keeps in
collection. The number bounds the bytes still to be examined. -/
def receive : Nat → List Byte → List HostFrame × List Byte
  | 0, bs => ([], bs)
  | _ + 1, [] => ([], [])
  | k + 1, b :: rest =>
    if b ≠ 0x5A then receive k rest
    else match rest with
      | [] => ([], [b])
      | n :: more =>
        if 240 < n.toNat then receive k rest
        else if more.length < n.toNat + 4 then ([], b :: rest)
        else
          let body := more.take (n.toNat + 2)
          if (more.drop (n.toNat + 2)).take 2 = u16 (crc16 (n :: body)) then
            match body with
            | kind :: tag :: payload =>
              let later := receive k (more.drop (n.toNat + 4))
              (⟨kind, tag, payload⟩ :: later.1, later.2)
            | _ => receive k rest
          else receive k rest

/-- A good frame arrives, and the transmit path chooses where that made a refusal reply ready (R188, R189). -/
def takeFrame (s : State) (f : HostFrame) : State := kick (s.modMp (acceptFrame f))

/-- Bytes arrive at the receiver (R187), and each good frame they complete is taken in turn.
DESIGN CHOICE (log 11), safe. -/
def receiveBytes (bs : List Byte) (s : State) : State :=
  let all := s.mp.rx ++ bs
  let r := receive (all.length + 1) all
  kick (r.1.foldl takeFrame (s.modMp fun m => { m with rx := r.2 }))

/-! ## Taking a request (R189) -/

/-- A frame of a reply or a fetched notice. -/
def TxKind.holdsRequests : TxKind → Bool
  | .reply | .fetched => true
  | .refusal | .pushed => false

/-- A request may be taken: no earlier reply waits or is being sent, and no fetched notice remains (R189). -/
def Mp.mayTake (m : Mp) : Bool :=
  m.reply.isNone && m.fetched.isEmpty && m.sending.all fun f => !f.what.holdsRequests

/-- The request codes of the catalogue (section 11.2). -/
def catalogue : List Nat :=
  [0x01, 0x02, 0x10, 0x11, 0x12, 0x13, 0x14, 0x15, 0x16, 0x17, 0x18, 0x19, 0x20, 0x21, 0x22, 0x23, 0x24, 0x25, 0x26]
    ++ [0x28, 0x29, 0x2A, 0x2B, 0x2C, 0x2D, 0x30, 0x31, 0x32, 0x33, 0x34, 0x38, 0x39, 0x40, 0x41, 0x42, 0x43]
    ++ [0x70, 0x71, 0x72, 0x73, 0x74, 0x75, 0x76]

/-- The request taken now, if the oldest has the kind asked for. -/
def State.takes (s : State) (p : Nat → Bool) : Option HostFrame :=
  if s.mp.mayTake then s.mp.buffer.head?.filter fun f => p f.kind.toNat else none

/-- The request leaves the buffer, and its reply waits for the transmit path (R189). -/
def putReply (f : HostFrame) (payload : List Byte) (s : State) : State :=
  s.modMp fun m => { m with reply := some { kind := replyKind f.kind, tag := f.tag, payload := payload } }

/-- The oldest request leaves the buffer. -/
def dropHead (s : State) : State := s.modMp fun m => { m with buffer := m.buffer.tail }

/-- The owner's answer to a request, whose payload is read, or refused for its length or its codes (R190). -/
def answer {α : Type} (f : HostFrame) (read : List Byte → Option α) (act : α → State → Answered) (s : State) : Answered :=
  match read f.payload with
  | none => refuse .badArgument s
  | some a => act a s

/-- The result code of a reply says that the request was carried out, or became a job: OK or ACCEPTED (R190). -/
def carriedOut (payload : List Byte) : Bool := payload.head?.any fun b => decide (b.toNat ≤ 1)

end Sys2Proof.Machine
end

