-- ==== Sys2Proof/Machine/Boundary.lean ====
section
/-! DEFINITION. The frame boundary (R9) and the steps that fall due at it, each an event of its own; and the shapes that every
command has: an event, a request taken, a step taken. -/

namespace Sys2Proof.Machine

/-! ## What follows an event -/

/-- What follows an event that moved job, flag or notice state: conversion, the engine's choice and the transmit path's choice
(R57, R55, R189).
DEDUCED (log 7), unsafe for what a body shows of the event itself. -/
def after (s : State) : State := kick (pump s)

/-- What follows an event that began in `s0` and may have changed links, routes, keys or zones: the Talk Router's part of it
first (R173 to R175, R179). Its orders so come after every other block's of the event, and its notices likewise, for which no rule gives
an order: DESIGN CHOICE (log 59 and 57), unsafe. -/
def finish (s0 s1 : State) : State := after (tkAfter s0 s1)

/-- What follows a key event, with the key-lamp test it calls for (R166). -/
def finishKey (asked : Option Nat) (s0 s1 : State) : State := after (tkAfterFor asked s0 s1)

/-! ## The steps that fall due at a boundary -/

/-- A step falls due for each number that `p` accepts. -/
def dueOver (n : Nat) (mk : Nat → Owed) (p : Nat → Bool) : List Owed := ((oneUpTo n).filter p).map mk

/-- A link in a state whose deadline is this frame. -/
def State.deadlineAt (s : State) (st : LinkState) (l : Nat) : Bool :=
  decide ((s.link l).state = st) && decide ((s.link l).deadline = some s.now)

/-- Silence is to be declared for a link (R82). -/
def State.silentAt (s : State) (l : Nat) : Bool := (s.link l).state.counted && decide ((s.link l).silenceCounter = 0)

/-- A vacate entry of the launched plan takes effect for a PARKED link (R115). -/
def State.vacatesAt (s : State) (l : Nat) : Bool :=
  decide (s.plan.state = .applying) && decide (s.plan.effective = some s.now) && decide ((s.link l).state = .parked)
    && s.plan.entries.any fun e => e.openFor l && e.target.isNone

/-- A unit has an order whose deadline is this frame (R130). -/
def State.ordersDue (s : State) (a : Nat) : Bool := !((s.unit a).dueOrders s.now).isEmpty

/-- The unit addresses with a record (section 7.1). -/
def unitAddresses : List Nat := oneUpTo 24 ++ [Config.matrixAddress]

/-- A key's tap deadline is this frame (R168). -/
def State.tapsAt (s : State) (t : Nat) : List Nat :=
  ((s.station t).keys.filter fun k => decide (k.tapDeadline = some s.now)).map Key.number

/-- The steps due at a boundary in RUN that a link has in its state or its plan entry. -/
def State.dueLinks (s : State) : List Owed :=
  dueOver Config.links .silence s.silentAt ++ dueOver Config.links .acquire (s.deadlineAt .acquiring)
    ++ dueOver Config.links .retune (s.deadlineAt .retuning) ++ dueOver Config.links .revert (s.deadlineAt .reverting)
    ++ dueOver Config.links .vacate s.vacatesAt

/-- The steps due at a boundary in either mode (R130, R147, R180). -/
def State.dueOrders (s : State) : List Owed :=
  (unitAddresses.filter s.ordersDue).map .orders
    ++ dueOver Config.links .tallyRetry (fun l => decide ((s.link l).retryAt = some s.now))
    ++ dueOver Config.stations .lampRetry (fun t => decide ((s.station t).lampRetry = some s.now))

/-- The steps due at a boundary in RUN for keys and call pulses (R168, R169). -/
def State.dueKeys (s : State) : List Owed :=
  ((oneUpTo Config.stations).flatMap fun t => (s.tapsAt t).map (.tap t))
    ++ dueOver Config.stations .pulse (fun t => decide ((s.station t).pulseEnd = some s.now))

/-- The orders to be issued again at this boundary (R28, R94). -/
def State.dueAgain (s : State) : List Owed :=
  dueOver Config.bands .scan (fun b => (s.band b).scanReissue.any fun x => decide (x.1 = s.now))
    ++ dueOver Config.links .mute (fun l => (s.link l).muteReissue.contains s.now)

/-- A FADING link stands at its fade limit (R80). -/
def State.fadedAt (s : State) (l : Nat) : Bool :=
  decide ((s.link l).state = .fading) && decide ((s.link l).fadeTimer = (s.link l).cfg.fadeLimit)

/-- The steps that fall due at the boundary that has just begun the current frame.
DESIGN CHOICE (log 3), unsafe for the order of two of them. -/
def State.dueSteps (s : State) : List Owed :=
  match s.mode with
  | .run => s.dueLinks ++ s.dueOrders ++ s.dueKeys ++ s.dueAgain ++ dueOver Config.links .fade s.fadedAt
  | .standby => s.dueOrders ++ s.dueAgain

/-! ## What each of them does -/

/-- A link's silence (R82, R83). -/
def silenceStep (l : Nat) (s : State) : State := if s.mode = .run ∧ s.silentAt l = true then goSilent l s else s

/-- A link's acquisition deadline (R88). -/
def acquireStep (l : Nat) (s : State) : State :=
  if s.mode = .run ∧ s.deadlineAt .acquiring l = true then changeState l .lost (some .noLock) s else s

/-- A retune's deadline (R104). -/
def retuneStep (l : Nat) (s : State) : State :=
  if s.mode = .run ∧ s.deadlineAt .retuning l = true then startRevert l s else s

/-- A revert's deadline (R107). -/
def revertStep (l : Nat) (s : State) : State :=
  if s.mode = .run ∧ s.deadlineAt .reverting l = true then revertFails l s else s

/-- A vacate takes effect (R115). -/
def vacateStep (l : Nat) (s : State) : State :=
  if s.vacatesAt l then giveOutcome l .vacated (changeState l .idle none (release (s.link l).cfg.band s)) else s

/-- A tally retry hold ends (R147). -/
def tallyRetryStep (l : Nat) (s : State) : State :=
  if (s.link l).retryAt = some s.now then deliveryTest l (s.modLink l fun k => { k with retryAt := none }) else s

/-- A lamp retry ends (R180). -/
def lampRetryStep (t : Nat) (s : State) : State :=
  if (s.station t).lampRetry = some s.now then lampTest t (s.modStation t fun x => { x with lampRetry := none }) else s

/-- A tap deadline comes (R168). -/
def tapStep (t n : Nat) (s : State) : State :=
  if s.mode = .run ∧ (s.tapsAt t).contains n = true then tapEnds t n s else s

/-- A call pulse ends (R169). -/
def pulseStep (t : Nat) (s : State) : State :=
  if s.mode = .run ∧ (s.station t).pulseEnd = some s.now then endPulse t s else s

/-- A SCAN_ASSIGN that failed may be issued again: in RUN, while the band is defined with the same scan_unit (R28). The conditions
are tested at the boundary alone, so that an order which failed in STANDBY, or before a STOP, goes out again after a START:
DESIGN CHOICE (log 43), unsafe. -/
def State.scansAgain (s : State) (b : Nat) (x : ScanOrder) : Bool :=
  decide (s.mode = .run) && (s.band b).defined && decide ((s.band b).p.scanUnit = some x.unit)

/-- The SCAN_ASSIGN orders of a band that failed in the frame before are issued again, each the same order, in the order of their
failures; one that may not be issued lapses (R28). -/
def scanStep (b : Nat) (s : State) : State :=
  let due := ((s.band b).scanReissue.filter fun x => decide (x.1 = s.now)).map Prod.snd
  let s1 := s.modBand b fun k => { k with scanReissue := k.scanReissue.filter fun x => decide (x.1 ≠ s.now) }
  (due.filter (s.scansAgain b)).foldl (fun s x => issueScanAssign b x s) s1

/-- A MUTE of a PARKED link is issued again (R94). -/
def muteAgain (l : Nat) (s : State) : State :=
  let r := issueMute l s.nextEffective (.lsPark l) s
  reportPark l r.overflow r.state

/-- For each MUTE of a link that failed in the frame before, a new one goes out, while the link is still PARKED (R94). The state
tested is the one that stands at the boundary, even where the link has left PARKED since and been parked again:
DESIGN CHOICE (log 39), unsafe. -/
def muteStep (l : Nat) (s : State) : State :=
  let due := (s.link l).muteReissue.filter fun e => decide (e = s.now)
  let s1 := s.modLink l fun k => { k with muteReissue := k.muteReissue.filter fun e => decide (e ≠ s.now) }
  if (s.link l).state = .parked then due.foldl (fun s _ => muteAgain l s) s1 else s1

/-- The fade timer stands at its limit at a boundary in RUN (R80). -/
def fadeStep (l : Nat) (s : State) : State := if s.mode = .run then fadeTest l s else s

/-- What a step that fell due does. It acts on the state as it then stands. -/
def owedStep : Owed → State → State
  | .silence l => silenceStep l
  | .acquire l => acquireStep l
  | .retune l => retuneStep l
  | .revert l => revertStep l
  | .vacate l => vacateStep l
  | .orders a => expire a
  | .tallyRetry l => tallyRetryStep l
  | .lampRetry t => lampRetryStep t
  | .tap t n => tapStep t n
  | .pulse t => pulseStep t
  | .scan b => scanStep b
  | .mute l => muteStep l
  | .fade l => fadeStep l

/-- A deadline or the fade timer of a link gives way to its silence at the same boundary (R80, R82, R83). -/
def Owed.behindSilence (todo : List Owed) : Owed → Bool
  | .acquire l | .retune l | .revert l | .fade l => todo.contains (.silence l)
  | _ => false

/-- A step that fell due is taken, as one event. -/
def takeOwed (o : Owed) (s : State) : State :=
  if s.owed.contains o && !o.behindSilence s.owed then
    let s1 := { s with owed := s.owed.filter fun x => decide (x ≠ o) }
    finish s1 (owedStep o s1)
  else s

/-- Some of the steps that fell due, each in turn, where it is still owed. -/
def takeSome (xs : List Owed) (s : State) : State := xs.foldl (fun s o => takeOwed o s) s

/-- The steps that fell due at the current boundary and are not yet taken, each in turn; none is then owed.
DESIGN CHOICE (log 3), unsafe for their order. -/
def settleOwed (s : State) : State := { takeSome s.owed s with owed := [] }

/-! ## The boundary (R9, R124, R142, R157) -/

/-- The call pulses that end at this frame (R169), as the Talk Router's part of a boundary taken before the frame step. Stations
ascend: DESIGN CHOICE (log 35), unsafe. -/
def endPulses (s : State) : State :=
  (oneUpTo Config.stations).foldl (fun s t => if (s.station t).pulseEnd = some s.now then endPulse t s else s) s

/-- The snapshot, its resolution and the words it changes (R142, R143). -/
def resolveNow (s : State) : State := rewantAll (s.modTr fun r => (r.snap s.now).resolve)

/-- The Lamp Drivers and the Talk Router act on a resolution, in one order or the other (R157).
DESIGN CHOICE (log 8): safe for a statement over both. -/
def presentNow (tkFirst : Bool) (s : State) : State :=
  if tkFirst then frameStep (tkAfter s (endPulses (presentZones s)))
  else
    let s1 := frameStep s
    tkAfter s1 (presentZones s1)

/-- The watchdogs and fade timers of every link (R80, R82). -/
def countLinks (s : State) : State := { s with links := s.links.map Link.count }

/-- What a boundary does in RUN in the one event of the boundary. The resolution and its delivery tests come before the end of any call
pulse that ends at it, for either `tkFirst`, where R9 gives no order: DESIGN CHOICE (log 60), unsafe. -/
def runBoundary (tkFirst : Bool) (s : State) : State := countLinks (presentNow tkFirst (resolveNow s))

/-- The counter advances (R9), and FRAME_MARK goes out (R124). -/
def beginFrameAt (t : Nat) (s : State) : State :=
  let s1 := s.modFtb fun k => { k with counter := k.counter + 1, lastBoundary := t }
  { s1 with bus := [.frameMark (low16 s1.now) s1.ftb.refState] }

/-- A frame boundary at time `t` (R9). The steps that fall due at it are then owed, so what one of them does to routes, by a change of a
link's state, comes after the frame step, where R157 lets either come first: DESIGN CHOICE (log 52), unsafe. -/
def boundaryAt (t : Nat) (tkFirst : Bool) (s : State) : State :=
  let s1 := beginFrameAt t s
  let s2 := match s.mode with
    | .run => runBoundary tkFirst s1
    | .standby => s1
  { s2 with owed := s2.dueSteps }

/-! ## The shapes of commands -/

/-- An outcome without a stop: every command of this part has an effect (R199 and the rules of each row). -/
abbrev Out := Host.Outcome State Fault Refusal

/-- An event that comes after every step of the current boundary. -/
def event (act : State → State) (s : State) : Out := .next (act (settleOwed s))

/-- A step that fell due at the boundary.
A step that is not owed has no effect: DESIGN CHOICE (log 14), unsafe for a command that is not enabled. -/
def dueStep (o : Owed) (s : State) : Out := .next (takeOwed o s)

/-- A request is taken when it is the oldest and may be taken: it leaves the buffer, its owner answers, and its reply waits for
the transmit path (R189). `rest` is what follows the event of a request that was carried out, given the states before and after;
a refused one has changed no state (R190). Where the request may not be taken, the command has no effect.
DESIGN CHOICE (log 1), unsafe for a command with nothing to take. -/
def request {α : Type} (code : Nat) (read : List Byte → Option α) (act : α → State → Answered)
    (rest : State → State → State) (s : State) : Out :=
  let s0 := settleOwed s
  match s0.takes (fun k => decide (k = code)) with
  | none => .next s0
  | some f =>
    let r := answer f read act (dropHead s0)
    let s1 := putReply f r.2 r.1
    .next (if carriedOut r.2 then rest s0 s1 else kick s1)

/-- After a request that reads state only, the transmit path chooses. -/
def afterRead (_ s1 : State) : State := kick s1

/-- After a request that moves jobs, flags or notices only. -/
def afterJob (_ s1 : State) : State := after s1

end Sys2Proof.Machine
end

