-- ==== Sys2Proof/Machine/Timebase.lean ====
section
/-! DEFINITION. The Frame Timebase (chapter 1): the figures of each rate, pulses, the internal timer, the watchdog and a change
of rate; and the meanings of its commands. Times are microseconds since the last cold reset ended. -/

namespace Sys2Proof.Machine

/-! ## The figures of a rate (R1) -/

/-- The nominal period N. -/
def Rate.nominal : Rate → Nat
  | .r25 => 40000 | .r2997 => 33367 | .r30 => 33333 | .r50 => 20000 | .r5994 => 16683 | .r60 => 16667

/-- The tolerance t. -/
def Rate.tolerance (r : Rate) : Nat := r.nominal / 200

/-- The watchdog limit. -/
def Rate.watchdog (r : Rate) : Nat := 3 * r.nominal / 2

/-- The changeover point, after the locking pulse. -/
def Rate.changeover (r : Rate) : Nat := r.nominal / 2 - r.tolerance

/-- A period lies in the good window. -/
def Rate.good (r : Rate) (period : Nat) : Bool :=
  decide (r.nominal - r.tolerance ≤ period) && decide (period ≤ r.nominal + r.tolerance)

/-! ## The internal timer (R3) -/

/-- The one-period point has passed: the boundary is produced at `t`, and the next is due one period after it. -/
def paceFrom (pace t : Nat) (tkFirst : Bool) (s : State) : State :=
  boundaryAt t tkFirst (s.modFtb fun k => { k with nextInternal := some (t + pace) })

/-- The timer is next due one pacing period after the last boundary. -/
def paceOn (pace : Nat) (s : State) : State :=
  s.modFtb fun k => { k with nextInternal := some (s.ftb.lastBoundary + pace) }

/-- The timer is given a pacing period at time `t`: it is next due one period after the last boundary, or at once where that time
has passed (R3). A time equal to `t` has not passed: the timer then falls due at `t`, as an event of its own. For a long bad pulse
soon after the locking pulse, with a boundary of the changeover between, this follows R3, by which no boundary is made at the
pulse. DESIGN CHOICE (log 32), unsafe. -/
def repace (pace t : Nat) (tkFirst : Bool) (s : State) : State :=
  if s.ftb.lastBoundary + pace < t then paceFrom pace t tkFirst s else paceOn pace s

/-- A boundary of the timer at its due time; the next is due one pacing period later. -/
def timerBoundary (due pace : Nat) (tkFirst : Bool) (s : State) : State :=
  boundaryAt due tkFirst (s.modFtb fun k => { k with nextInternal := some (due + pace) })

/-- The pacing period of a reference state; N paces the changeover into LOCKED. -/
def Ftb.pace (k : Ftb) : Nat :=
  match k.refState with
  | .absent | .locking | .locked => k.rate.nominal
  | .holdover => k.goodPeriod

/-- An internal boundary due at `due` is produced in the changeover: it lies at or before the changeover point (R6). -/
def Ftb.inChangeover (k : Ftb) (due : Nat) : Bool := k.lastPulse.any fun p => decide (due ≤ p + k.rate.changeover)

/-- The internal timer falls due (R3, R6). -/
def timerDue (tkFirst : Bool) (s : State) : State :=
  match s.ftb.nextInternal with
  | none => s
  | some due =>
    match s.ftb.refState with
    | .locked =>
      if s.ftb.inChangeover due then timerBoundary due s.ftb.pace tkFirst s
      else s.modFtb fun k => { k with nextInternal := none }
    | .absent | .locking | .holdover => timerBoundary due s.ftb.pace tkFirst s

/-! ## Reference states (R2 to R8) -/

/-- The state in which HOLDOVER is entered, before the timer is paced (R7). -/
def inHoldover (s : State) : State :=
  raise .tbHoldover 0 (s.modFtb fun k => { k with refState := .holdover, goodCount := 0 })

/-- HOLDOVER is entered by a bad pulse at time `t` (R7). -/
def enterHoldover (t : Nat) (tkFirst : Bool) (s : State) : State := repace s.ftb.goodPeriod t tkFirst (inHoldover s)

/-- HOLDOVER is entered at the watchdog limit, at time `t`: the missing boundary is produced at once, also where the one-period point
falls at `t` itself (R7). -/
def missHoldover (t : Nat) (tkFirst : Bool) (s : State) : State :=
  if s.ftb.lastBoundary + s.ftb.goodPeriod ≤ t then paceFrom s.ftb.goodPeriod t tkFirst (inHoldover s)
  else paceOn s.ftb.goodPeriod (inHoldover s)

/-- The period that a pulse at `t` ends, where one is measured, at most a second (R2). -/
def Ftb.periodAt (k : Ftb) (t : Nat) : Option Nat := k.lastPulse.map fun p => min (t - p) 1000000

/-- A pulse is recorded (R2). -/
def Ftb.recordPulse (t : Nat) (k : Ftb) : Ftb :=
  { k with measuredPeriod := (k.periodAt t).getD k.measuredPeriod, lastPulse := some t, lastArrival := some t }

/-- LOCKING is entered by a pulse (R4). -/
def enterLocking (s : State) : State :=
  raise .tbLocking 0 (s.modFtb fun k => { k with refState := .locking, goodCount := 0 })

/-- A pulse in LOCKING, with the period it ended (R5, R6). -/
def pulseInLocking (period : Option Nat) (s : State) : State :=
  match period with
  | none => s
  | some p =>
    if s.ftb.rate.good p then
      let s1 := s.modFtb fun k => { k with goodPeriod := p, goodCount := k.goodCount + 1 }
      if s1.ftb.goodCount = 8 then raise .tbLocked 0 (s1.modFtb fun k => { k with refState := .locked }) else s1
    else s.modFtb fun k => { k with goodCount := 0 }

/-- A pulse in LOCKED at `t`, with the period it ended (R7). -/
def pulseInLocked (t : Nat) (period : Option Nat) (tkFirst : Bool) (s : State) : State :=
  match period.filter s.ftb.rate.good with
  | some p => boundaryAt t tkFirst (s.modFtb fun k => { k with goodPeriod := p, nextInternal := none })
  | none => enterHoldover t tkFirst s

/-- A pulse arrives at `t` (R2, R4 to R8). -/
def pulseAt (t : Nat) (tkFirst : Bool) (s : State) : State :=
  let period := s.ftb.periodAt t
  let s1 := s.modFtb (Ftb.recordPulse t)
  match s.ftb.refState with
  | .absent => enterLocking s1
  | .holdover => repace s.ftb.rate.nominal t tkFirst (enterLocking s1)
  | .locking => pulseInLocking period s1
  | .locked => pulseInLocked t period tkFirst s1

/-- The pulse watchdog expires, one limit after the last pulse (R5, R7, R8). -/
def watchdogExpires (tkFirst : Bool) (s : State) : State :=
  match s.ftb.lastPulse, s.ftb.refState with
  | some _, .locking => s.modFtb fun k => { k with goodCount := 0 }
  | some p, .locked => missHoldover (p + s.ftb.rate.watchdog) tkFirst s
  | _, _ => s

/-! ## TB_CONFIGURE (R12, R13) -/

/-- Pulses are arriving at `t`, by the watchdog limit of the rate in force (R13).
DEDUCED (log 6), unsafe. -/
def Ftb.arriving (k : Ftb) (t : Nat) : Bool := k.lastArrival.any fun p => decide (t ≤ p + k.rate.watchdog)

/-- A change of rate at `t` (R13). -/
def changeRate (r : Rate) (t : Nat) (s : State) : State :=
  let locking := s.ftb.arriving t
  let s1 := s.modFtb fun k =>
    { k with rate := r, measuredPeriod := 0, goodCount := 0, goodPeriod := r.nominal, lastPulse := none,
             refState := if locking then .locking else .absent }
  repace r.nominal t false (raise (if locking then .tbLocking else .tbAbsent) 0 (raise .tbRate 0 s1))

/-- The checks and the action of a TB_CONFIGURE (R12). -/
def configureTimebase (t : Nat) (a : Nat × Nat) (s : State) : Answered :=
  match rateOf a.1 with
  | none => refuse .badArgument s
  | some r =>
    if s.mode = .run ∧ r ≠ s.ftb.rate then refuse .wrongMode s
    else
      let s1 := s.modFtb fun k => { k with lead := max 2 (min 50 a.2) }
      let s2 := if r = s.ftb.rate then s1 else changeRate r t s1
      okWith (u8 s2.ftb.rate.code ++ u8 s2.ftb.lead) s2

/-! ## The commands -/

/-- REF_PULSE (R2, R4 to R8). -/
def execRefPulse (t : Nat) (tkFirst : Bool) (s : State) : Out := event (fun s => after (pulseAt t tkFirst s)) s

/-- INTERNAL_TIMER_DUE (R3, R6, R8). -/
def execInternalTimerDue (tkFirst : Bool) (s : State) : Out := event (fun s => after (timerDue tkFirst s)) s

/-- PULSE_WATCHDOG_EXPIRY (R5, R7, R8). -/
def execPulseWatchdogExpiry (tkFirst : Bool) (s : State) : Out := event (fun s => after (watchdogExpires tkFirst s)) s

/-- TB_CONFIGURE (R12, R13). -/
def execTbConfigure (t : Nat) (s : State) : Out := request 0x01 readTwo (configureTimebase t) afterJob s

/-- TB_STATUS (R14). -/
def execTbStatus (s : State) : Out := request 0x02 readNothing (fun _ s => okWith s.ftb.bytes s) afterRead s

end Sys2Proof.Machine
end

