-- ==== Sys2Proof/Machine/Events.lean ====
section
/-! DEFINITION. The meanings of the commands that are no requests: cold reset, the steps due at a boundary, the PWM and line
sample clocks, the bytes of the Message Port, the packets of the Unit Bus, and the completions of the evaluator engine. -/

namespace Sys2Proof.Machine

/-! ## Reset -/

/-- COLD_RESET (R198 and the reset table of each chapter). The commands that wait are outside the part and stay.
DESIGN CHOICE (log 1, 29), unsafe. -/
def execColdReset (straps : BitVec 3) (s : State) : Out := .next { State.cold straps with pending := s.pending }

/-! ## Steps due at a frame boundary -/

/-- FADE_TIMER_LIMIT (R80). -/
def execFadeTimerLimit (l : Nat) (s : State) : Out := dueStep (.fade l) s
/-- SILENCE_EXPIRY (R82, R83, R108). -/
def execSilenceExpiry (l : Nat) (s : State) : Out := dueStep (.silence l) s
/-- ACQUIRE_DEADLINE (R88). -/
def execAcquireDeadline (l : Nat) (s : State) : Out := dueStep (.acquire l) s
/-- RETUNE_DEADLINE (R104, R105). -/
def execRetuneDeadline (l : Nat) (s : State) : Out := dueStep (.retune l) s
/-- REVERT_DEADLINE (R107). -/
def execRevertDeadline (l : Nat) (s : State) : Out := dueStep (.revert l) s
/-- VACATE_EFFECTIVE (R115). -/
def execVacateEffective (l : Nat) (s : State) : Out := dueStep (.vacate l) s
/-- ORDER_EXPIRY (R130). -/
def execOrderExpiry (a : Nat) (s : State) : Out := dueStep (.orders a) s
/-- TALLY_RETRY (R147). -/
def execTallyRetry (l : Nat) (s : State) : Out := dueStep (.tallyRetry l) s
/-- LAMP_RETRY (R180). -/
def execLampRetry (t : Nat) (s : State) : Out := dueStep (.lampRetry t) s
/-- TAP_DEADLINE (R168). -/
def execTapDeadline (t n : Nat) (s : State) : Out := dueStep (.tap t n) s
/-- CALL_PULSE_END (R169). -/
def execCallPulseEnd (t : Nat) (s : State) : Out := dueStep (.pulse t) s
/-- SCAN_ASSIGN_REISSUE (R28). -/
def execScanAssignReissue (b : Nat) (s : State) : Out := dueStep (.scan b) s
/-- MUTE_REISSUE (R94). -/
def execMuteReissue (l : Nat) (s : State) : Out := dueStep (.mute l) s

/-! ## Clocks of their own -/

/-- PWM_PERIOD_START (R159): the output loads drive, invert and period. -/
def execPwmPeriodStart (m : Nat) (s : State) : Out := event (fun s => s.modLamp m Lamp.load) s

/-- A sample of a tally line (R137, R138): an edge raises the INPUT notice. -/
def sampleLine (n : Nat) (high : Bool) (s : State) : State :=
  let r := (s.line n).sampled high
  let s1 := s.modLine n fun _ => r.1
  if r.2 then raise .inputEdge 0 s1 else s1

/-- EDGE (R137, R138).
DEDUCED (log 13), safe. -/
def execEdge (n : Nat) (high : Bool) (s : State) : Out := event (fun s => kick (sampleLine n high s)) s

/-! ## The Message Port line -/

/-- FRAME_GOOD (R187 to R189). -/
def execFrameGood (bs : List Byte) (s : State) : Out := event (receiveBytes bs) s

/-- FRAME_FAILED (R187): the receiver finds the failure in the bytes themselves. -/
def execFrameFailed (bs : List Byte) (s : State) : Out := event (receiveBytes bs) s

/-- FRAME_ABANDONED (R187): every byte collected is dropped. -/
def execFrameAbandoned (s : State) : Out := event (fun s => s.modMp fun m => { m with rx := [] }) s

/-- TRANSMIT_PATH_FREE (R189): the frame being sent ends, and the path chooses. -/
def execTransmitPathFree (s : State) : Out := event (fun s => kick (s.modMp fun m => { m with sending := none })) s

/-- UNKNOWN_REQUEST (R188): a frame whose kind is in no catalogue is answered and acts on no state. -/
def execUnknownRequest (s : State) : Out :=
  let s0 := settleOwed s
  match s0.takes (fun k => !catalogue.contains k) with
  | none => .next s0
  | some f => .next (kick (putReply f (u8 Result.unknownRequest.code) (dropHead s0)))

/-! ## Packets of the Unit Bus -/

/-- The link that a sample from unit `u` is for (R133). -/
def State.sampleLink (s : State) (u : Nat) (x : Sample) : Option Nat :=
  if 1 ≤ x.channel ∧ x.channel ≤ 4 then s.linkAt u x.channel else none

/-- The station that a key event from unit `u` is handed to (R134). -/
def State.keyStation (s : State) (u : Nat) (x : KeyReport) : Option Nat :=
  if 1 ≤ x.key ∧ x.key ≤ 8 then (s.linkAt u x.channel).bind fun l => (s.link l).cfg.station else none

/-- One sample of a REPORT from unit `u`, in RUN (R133, R75). -/
def reportSample (u : Nat) (s : State) (x : Sample) : State :=
  match s.sampleLink u x with
  | none => s
  | some l => finish s (takeSample l (tuned (s.band (s.link l).cfg.band).p x) s)

/-- One key event of a REPORT from unit `u`, in RUN (R134, R166). -/
def reportKey (u : Nat) (s : State) (x : KeyReport) : State :=
  match s.keyStation u x with
  | none => s
  | some t =>
    if (s.station t).kind = some .linked then
      finishKey (s.keyAsks t x.key x.down) s (pressKey t x.key x.down s)
    else s

/-- The steps of a link that its samples find taken once the boundary has come (R80, R82, R88, R104, R106). -/
def sampleSteps (l : Nat) : List Owed := [.silence l, .acquire l, .retune l, .revert l, .fade l]

/-- The steps that a key event finds taken once the boundary has come: the key's tap deadline and the call pulses' ends (R168,
R169). -/
def keySteps (t n : Nat) : List Owed := .tap t n :: (oneUpTo Config.stations).map .pulse

/-- The steps of the current boundary that come before the samples and key events of a REPORT that arrives after it. -/
def State.reportSteps (s : State) (r : Report) : List Owed :=
  (r.samples.flatMap fun x => ((s.sampleLink r.unit x).map sampleSteps).getD [])
    ++ r.keys.flatMap fun x => ((s.keyStation r.unit x).map fun t => keySteps t x.key).getD []

/-- The parts of a well-formed REPORT, in the order of R132: acknowledgements in both modes, then samples and key events in RUN. -/
def takeReport (r : Report) (s : State) : State :=
  let s1 := finish s (acknowledgeAll r.unit r.acks s)
  if s.mode = .run then r.keys.foldl (reportKey r.unit) (r.samples.foldl (reportSample r.unit) s1) else s1

/-- A well-formed REPORT. In RUN the steps of its links and keys that the boundary brought come first (R82, R88, R104, R106, R168); the
expiry of orders does not, since a sample may come between the boundary and the failure of a TUNE (R103).
DESIGN CHOICE (log 3) for the other steps owed, unsafe. -/
def acceptReport (r : Report) (s : State) : State :=
  takeReport r (if s.mode = .run then takeSome (s.reportSteps r) s else s)

/-- REPORT (R125, R132 to R134). -/
def execReport (bs : List Byte) (s : State) : Out :=
  match readReport bs with
  | none => .next s
  | some r => .next (acceptReport r s)

/-- A well-formed SCAN_DATA (R29): set aside for a band that is not defined. -/
def takeScanData (x : ScanData) (s : State) : State :=
  if (s.band x.band).defined then applyLevels x.band x.first x.levels s else s

/-- SCAN_DATA (R29, R30, R135). -/
def execScanData (bs : List Byte) (s : State) : Out :=
  event (fun s => match readScanData bs with
    | none => s
    | some x => after (takeScanData x s)) s

/-- A well-formed MATRIX_REPORT (R135): acknowledgements, then the matrix report event. -/
def takeMatrixReport (acks : List Byte) (s : State) : State := matrixEvent (acknowledgeAll Config.matrixAddress acks s)

/-- MATRIX_REPORT (R125, R135, R176 to R178). -/
def execMatrixReport (bs : List Byte) (s : State) : Out :=
  event (fun s => match readMatrixReport bs with
    | none => s
    | some acks => finish s (takeMatrixReport acks s)) s

/-! ## Completions (R59) -/

/-- An ASSIGN_CHECK that runs completes. -/
def completeAssign (s : State) : State :=
  match s.running with
  | some (.assignCheck l step override, q) => finish s (leaveQueue (assignDone l step override q s))
  | _ => s

/-- ASSIGN_CHECK_COMPLETE (R61). -/
def execAssignCheckComplete (s : State) : Out := event completeAssign s

/-- A PLAN_CHECK that runs completes. -/
def completePlan (s : State) : State :=
  match s.running with
  | some (.planCheck, q) => after (leaveQueue (planDone q s))
  | _ => s

/-- PLAN_CHECK_COMPLETE (R62). -/
def execPlanCheckComplete (s : State) : Out := event completePlan s

/-- A QUERY that runs completes. -/
def completeQuery (s : State) : State :=
  match s.running with
  | some (.query b number step hw link, q) => after (leaveQueue (queryDone b number step hw link q s))
  | _ => s

/-- QUERY_COMPLETE (R64). -/
def execQueryComplete (s : State) : Out := event completeQuery s

/-- A SPARE_SWEEP that runs completes. -/
def completeSweep (s : State) : State :=
  match s.running with
  | some (.spareSweep b, q) => after (leaveQueue (sweepDone b q s))
  | _ => s

/-- SWEEP_COMPLETE (R66). -/
def execSweepComplete (s : State) : Out := event completeSweep s

/-- A RESCUE_PICK that runs completes. -/
def completePick (s : State) : State :=
  match s.running with
  | some (.rescuePick l attempt, q) => finish s (rescueDone l attempt q s)
  | _ => s

/-- RESCUE_PICK_COMPLETE (R67, R68, R120). -/
def execRescuePickComplete (s : State) : Out := event completePick s

/-- The end of a withdrawn computation: the engine is idle and chooses (R69). -/
def completeDrain (s : State) : State :=
  match s.pe.engine with
  | .draining => after (s.modPe fun e => { e with engine := .idle })
  | .idle | .running => s

/-- DRAIN_COMPLETE (R69). -/
def execDrainComplete (s : State) : Out := event completeDrain s

end Sys2Proof.Machine
end

