-- ==== Sys2Proof/WellFormed.lean ====
section
/-! DEFINITION. Which commands name an object the part has (introduction, section 5.5). A command that is not well formed
names no object of the part, and no part of the outside world can send it. -/

namespace Sys2Proof

/-- `n` lies from 1 to `k`. -/
def oneTo (k n : Nat) : Bool := decide (1 ≤ n) && decide (n ≤ k)

/-- The most bytes one receiver step is given: a frame of the largest payload, 246 bytes (chapter 11, frame layout). -/
def maxFrameBytes : Nat := 246

/-- The most bytes a Unit Bus packet has: four of envelope and 250 of payload (chapter 7, packet layout). -/
def maxPacketBytes : Nat := 254

/-- Each object number a command carries lies in the range of section 5.5, and each packet or frame fits its line. -/
def Instr.wf : Instr → Bool
  | .fadeTimerLimit l | .silenceExpiry l | .acquireDeadline l | .retuneDeadline l | .revertDeadline l
  | .vacateEffective l | .tallyRetry l | .muteReissue l => oneTo Config.links l
  | .orderExpiry a => oneTo 24 a || decide (a = Config.matrixAddress)
  | .lampRetry t | .callPulseEnd t => oneTo Config.stations t
  | .tapDeadline t k => oneTo Config.stations t && oneTo 8 k
  | .scanAssignReissue b => oneTo Config.bands b
  | .pwmPeriodStart m => oneTo Config.lamps m
  | .edge n _ => oneTo Config.inputs n
  | .frameGood bs | .frameFailed bs => decide (bs.length ≤ maxFrameBytes)
  | .report bs | .scanData bs | .matrixReport bs => decide (bs.length ≤ maxPacketBytes)
  | _ => true

end Sys2Proof
end

