-- ==== Sys2Proof/Machine/BandRequests.lean ====
section
/-! DEFINITION. The requests of the Spectrum Table and of queries and sweeps: codes 0x10 to 0x19 (chapters 2 and 4). -/

namespace Sys2Proof.Machine

/-- The part has a band with this number. -/
def isBand (b : Nat) : Bool := oneTo Config.bands b

/-! ## BAND_DEFINE (R17, R18) -/

/-- Another defined band names a unit as its scan_unit (R17). -/
def State.scanUnitTaken (s : State) (b u : Nat) : Bool :=
  (oneUpTo Config.bands).any fun c => decide (c ≠ b) && (s.band c).defined && decide ((s.band c).p.scanUnit = some u)

/-- The parameters a BAND_DEFINE may give (R17). -/
def BandParams.valid (s : State) (b : Nat) (p : BandParams) : Bool :=
  decide (100000 ≤ p.baseKhz ∧ p.baseKhz ≤ 6000000) && decide (1 ≤ p.steps ∧ p.steps ≤ 4096)
    && decide (p.baseKhz + 25 * (p.steps - 1) ≤ 6000000) && oneTo 16 p.spareStride && oneTo 64 p.binWidth
    && decide (p.scanStart ≤ p.scanEnd) && decide (p.scanEnd < p.steps) && decide (p.binCount ≤ Config.bins)
    && p.scanUnit.all fun u => oneTo 24 u && !s.scanUnitTaken b u

/-- A band record after a BAND_DEFINE, before its changes are counted (R17). -/
def Band.redefine (p : BandParams) (k : Band) : Band :=
  { k with defined := true, p := p, exclusions := [], bins := List.replicate p.binCount { level := none, hot := false },
           spares := [], sparesFresh := false }

/-- The parameters of a band, with the bin count after bin_width (R35). -/
def BandParams.bytes (p : BandParams) : List Byte := p.headBytes ++ p.tailBytes

/-- BAND_DEFINE (R17). -/
def defineBand (a : Nat × BandParams) (s : State) : Answered :=
  let p := { a.2 with hotLevel := max 12 a.2.hotLevel }
  if isBand a.1 = false then refuse .badArgument s
  else if a.2.valid s a.1 = false then refuse .badArgument s
  else if s.mode = .run then refuse .wrongMode s
  else if s.bandHolds a.1 then refuse .wrongState s
  else okWith p.bytes ((carrierChange a.1 (s.modBand a.1 (Band.redefine p))).modBand a.1 (spectrumChanges 1))

/-- BAND_DEFINE (R17). -/
def execBandDefine (s : State) : Out := request 0x10 readBandDefine defineBand afterJob s

/-! ## BAND_GUARDS (R19) -/

/-- A band with the guards given. -/
def Band.guard (g : Guards) (k : Band) : Band :=
  { k with p := { k.p with gapCc := g.cc, gapIm3 := g.im3, gapIm3x := g.im3x, gapIm5 := g.im5 } }

/-- BAND_GUARDS (R19). -/
def guardBand (g : Guards) (s : State) : Answered :=
  if isBand g.band = false then refuse .badArgument s
  else if (s.band g.band).defined = false then refuse .wrongState s
  else
    let s1 := carrierChange g.band (s.modBand g.band (Band.guard g))
    okWith (u8 g.cc ++ u8 g.im3 ++ u8 g.im3x ++ u8 g.im5)
      (if (s.band g.band).p.gapCc < g.cc then pruneAll g.band s1 else s1)

/-- BAND_GUARDS (R19). -/
def execBandGuards (s : State) : Out := request 0x11 readGuards guardBand afterJob s

/-! ## EXCL_ADD and EXCL_REMOVE (R25 to R27) -/

/-- The checks that both requests share, and the change of the list that one of them makes (R25). -/
def changeExclusions (change : StepRange → List StepRange → List StepRange) (a : Nat × StepRange) (s : State) : Answered :=
  let list := change a.2 (s.band a.1).exclusions
  if isBand a.1 = false then refuse .badArgument s
  else if (s.band a.1).defined = false then refuse .wrongState s
  else if (s.band a.1).frozen then refuse .frozen s
  else if a.2.hi < a.2.lo ∨ (s.band a.1).p.steps ≤ a.2.hi then refuse .badArgument s
  else if Config.exclusions < list.length then refuse .full s
  else okWith (u8 list.length) (carrierChange a.1 (s.modBand a.1 fun k => { k with exclusions := list }))

/-- EXCL_ADD (R25, R26). -/
def execExclAdd (s : State) : Out := request 0x12 readRange (changeExclusions exclInsert) afterJob s

/-- EXCL_REMOVE (R25, R27). -/
def execExclRemove (s : State) : Out := request 0x13 readRange (changeExclusions exclDelete) afterJob s

/-! ## BAND_FREEZE and BAND_UNFREEZE (R20) -/

/-- BAND_FREEZE (R20). -/
def freezeBand (b : Nat) (s : State) : Answered :=
  if isBand b = false then refuse .badArgument s
  else if (s.band b).defined = false then refuse .wrongState s
  else okWith (firstIf true)
    (if (s.band b).frozen then s else raise .bandFreeze b (s.modBand b fun k => { k with frozen := true }))

/-- BAND_FREEZE (R20). -/
def execBandFreeze (s : State) : Out := request 0x14 readOne freezeBand afterJob s

/-- A link that BAND_UNFREEZE makes wanted again (R20). -/
def unfreezeLink (b : Nat) (k : Link) : Link :=
  if k.cfg.band = b ∧ k.state = .fading ∧ k.fadeTimer = k.cfg.fadeLimit ∧ k.cfg.autoRescue = true
      ∧ (k.rescue = .none ∨ k.rescue = .exhausted)
  then { k with rescue := .wanted } else k

/-- A frozen band is unfrozen (R20). -/
def thaw (b : Nat) (s : State) : State :=
  let s1 := raise .bandFreeze b (s.modBand b fun k => { k with frozen := false })
  { s1 with links := s1.links.map (unfreezeLink b) }

/-- BAND_UNFREEZE (R20). -/
def unfreezeBand (b : Nat) (s : State) : Answered :=
  if isBand b = false then refuse .badArgument s
  else if (s.band b).defined = false then refuse .wrongState s
  else okWith (firstIf false) (if (s.band b).frozen then thaw b s else s)

/-- BAND_UNFREEZE (R20). -/
def execBandUnfreeze (s : State) : Out := request 0x15 readOne unfreezeBand afterJob s

/-! ## BAND_READ (R35) -/

/-- The PARAMETERS section (R35). -/
def State.bandParameters (s : State) (b : Nat) : List Byte :=
  let k := s.band b
  firstIf k.defined ++ k.p.headBytes ++ u16 k.bins.length ++ k.p.tailBytes ++ firstIf k.frozen ++ w32 k.carrierGen
    ++ w32 k.spectrumGen ++ firstIf k.sweepWanted ++ k.freshBytes ++ u8 (s.carrierSet b).length ++ u8 k.exclusions.length
    ++ u8 k.spares.length ++ u16 k.hotCount ++ u16 (s.maskedCount b)

def Carrier.bytes (c : Carrier) : List Byte := u8 c.link ++ u8 c.role.code ++ u16 c.step ++ u8 c.hw
def StepRange.bytes (r : StepRange) : List Byte := u16 r.lo ++ u16 r.hi
def Spare.bytes (e : Spare) : List Byte := u16 e.step ++ s16 e.score ++ w32 e.sweepFrame

/-- A section of a defined band (R35). The number of ranges of EXCLUSIONS is the count of its list, where CARRIERS, whose list is a part
of the set, gives a number and a counted list: DEDUCED (log 50), unsafe. -/
def State.bandSection (s : State) (b : Nat) : BandSection → List Byte
  | .parameters => s.bandParameters b
  | .carriers i => u8 (s.carrierSet b).length ++ listed Carrier.bytes (((s.carrierSet b).drop i).take 24)
  | .exclusions => listed StepRange.bytes (s.band b).exclusions
  | .spares => (s.band b).freshBytes ++ listed Spare.bytes (s.band b).spares

/-- BAND_READ (R35). The empty section of an undefined band is no bytes at all after defined no, in every section:
DEDUCED (log 34), unsafe. -/
def readBand (a : Nat × BandSection) (s : State) : Answered :=
  if isBand a.1 = false then refuse .badArgument s
  else okWith (if (s.band a.1).defined then s.bandSection a.1 a.2 else firstIf false) s

/-- BAND_READ (R35). -/
def execBandRead (s : State) : Out := request 0x16 readBandRead readBand afterRead s

/-! ## SCAN_READ (R36) -/

/-- A bin as SCAN_READ gives it: MASKED 0, UNREPORTED 1, or 2 with its level and hot flag. -/
def State.binBytes (s : State) (b : Nat) (x : Bin × Nat) : List Byte :=
  if s.masked b x.2 then u8 0
  else match x.1.level with
    | none => u8 1
    | some v => u8 2 ++ u8 v ++ flag x.1.hot

/-- SCAN_READ (R36). -/
def readScan (a : Nat × Nat) (s : State) : Answered :=
  let k := s.band a.1
  if isBand a.1 = false then refuse .badArgument s
  else if k.defined = false then refuse .wrongState s
  else okWith (u16 k.bins.length ++ u8 k.p.hotLevel ++ w32 k.spectrumGen
    ++ listed (s.binBytes a.1) ((k.bins.zipIdx.drop a.2).take 64)) s

/-- SCAN_READ (R36). -/
def execScanRead (s : State) : Out := request 0x17 readTwo readScan afterRead s

/-! ## CHECK_CANDIDATE and SPARE_SWEEP (R63, R65) -/

/-- CHECK_CANDIDATE (R63). -/
def checkCandidate (a : Candidate) (s : State) : Answered :=
  if isBand a.band = false ∨ Config.links < a.link then refuse .badArgument s
  else if (s.band a.band).defined = false then refuse .wrongState s
  else if (s.band a.band).p.steps ≤ a.step then refuse .badArgument s
  else if s.queueRoom = false then refuse .busy s
  else acceptedWith (u16 s.pe.queryNumber.toNat)
    ((joinQueue (.query a.band s.pe.queryNumber a.step a.hw a.link) s).modPe fun e =>
      { e with queryNumber := e.queryNumber + 1 })

/-- CHECK_CANDIDATE (R63). -/
def execCheckCandidate (s : State) : Out := request 0x18 readCandidate checkCandidate afterJob s

/-- The band's sweep is the running job. -/
def State.sweepRuns (s : State) (b : Nat) : Bool := s.pe.queue.any fun j => j.kind.isSweepOf b && j.snap.isSome

/-- SPARE_SWEEP (R65). -/
def askSweep (b : Nat) (s : State) : Answered :=
  if isBand b = false then refuse .badArgument s
  else if (s.band b).defined = false then refuse .wrongState s
  else if s.hasJob (JobKind.isSweepOf b) then
    acceptedWith [] (if s.sweepRuns b then s.modBand b fun k => { k with sweepWanted := true } else s)
  else if s.queueRoom = false then refuse .busy s
  else acceptedWith [] ((joinQueue (.spareSweep b) s).modBand b fun k => { k with sweepWanted := false })

/-- SPARE_SWEEP (R65). -/
def execSpareSweep (s : State) : Out := request 0x19 readOne askSweep afterJob s

end Sys2Proof.Machine
end

