-- ==== Sys2Proof/Machine/LinkRequests.lean ====
section
/-! DEFINITION. The requests of the Link Supervisor: codes 0x20 to 0x26 (chapter 5). -/

namespace Sys2Proof.Machine

/-- The part has a link with this number (R71). -/
def isLink (l : Nat) : Bool := oneTo Config.links l

/-! ## LINK_DEFINE (R73, R74, R149) -/

/-- The arguments of a kind that is given lie in range (R73). -/
def LinkConfig.inRange (c : LinkConfig) : Bool :=
  oneTo Config.bands c.band && oneTo 24 c.unit && oneTo 4 c.channel && c.station.all (oneTo Config.stations)

/-- Every threshold and limit brought into its range (R74). -/
def LinkConfig.clamped (c : LinkConfig) : LinkConfig :=
  { c with filterK := max 1 (min 8 c.filterK), fadeLimit := max 1 (min 250 c.fadeLimit),
           silenceLimit := max 2 (min 250 c.silenceLimit), acquireLimit := max 1 (min 1000 c.acquireLimit),
           confirmWindow := max 1 (min 250 c.confirmWindow), batteryLow := min 100 c.batteryLow,
           recoverLevel := max c.fadeLevel c.recoverLevel, recoverQuality := min c.fadeQuality c.recoverQuality }

/-- A LINK_DEFINE changes what a carrier depends on: band, hw, unit or channel, or makes the link VACANT (R73). -/
def LinkConfig.moves (old new : LinkConfig) : Bool :=
  new.kind.isNone || decide (old.band ≠ new.band) || decide (old.hw ≠ new.hw) || decide (old.unit ≠ new.unit)
    || decide (old.channel ≠ new.channel)

/-- Another defined link has the same unit and channel, or names the same station (R71, R73). -/
def State.linkConflict (s : State) (l : Nat) (c : LinkConfig) : Bool :=
  (oneUpTo Config.links).any fun n =>
    let d := (s.link n).cfg
    decide (n ≠ l) && d.kind.isSome &&
      ((decide (d.unit = c.unit) && decide (d.channel = c.channel)) || (c.station.isSome && decide (d.station = c.station)))

/-- The tally fields at a definition that changes the kind, unit or channel (R149). -/
def Link.retally (old new : LinkConfig) (k : Link) : Link :=
  if old.kind ≠ new.kind ∨ old.unit ≠ new.unit ∨ old.channel ≠ new.channel then
    { k with delivered := none, tallyOrder := none, retryAt := none }
  else k

/-- A link record that takes a definition with a kind, before any change of state (R74, R149). -/
def Link.redefine (c : LinkConfig) (k : Link) : Link :=
  { k.retally k.cfg c with
    cfg := c, badRun := 0, goodRun := 0, fadeTimer := min k.fadeTimer c.fadeLimit,
    silenceCounter := if k.state = .vacant then c.silenceLimit else min k.silenceCounter c.silenceLimit }

/-- A definition makes a link VACANT, or changes its band or hw (R61, R74, R112). -/
def LinkConfig.displaces (old new : LinkConfig) : Bool :=
  new.kind.isNone || decide (old.band ≠ new.band) || decide (old.hw ≠ new.hw)

/-- The ASSIGN_CHECK of a link, queued or running, is to find its subject changed (R61, R74). -/
def jobsSeeMove (l : Nat) (s : State) : State :=
  s.modPe fun e => { e with queue := e.queue.map fun j => if j.kind.isAssignOf l then { j with moved := true } else j }

/-- A READY plan with an entry for a link whose definition changes in kind, band or hw returns to OPEN (R112). -/
def planSeesDefine (l : Nat) (old new : LinkConfig) (s : State) : State :=
  if s.plan.state = .ready ∧ s.plan.entries.any (fun e => decide (e.link = l)) = true ∧ old.displaces new = true
  then invalidatePlan s else s

/-- A link becomes VACANT: every field returns to its value after cold reset, the wanted word to its link tally (R74, R149).
The results of the link stay: DEDUCED (log 20), unsafe. -/
def vacateLink (l : Nat) (s : State) : State :=
  let old := s.link l
  let s1 := s.modLink l fun _ => Link.vacant
  let s2 := if old.state = .vacant then s1 else raise .linkState l s1
  rewant l (planSeesDefine l old.cfg LinkConfig.vacant s2)

/-- A definition with a kind is taken (R74). -/
def storeLink (l : Nat) (c : LinkConfig) (s : State) : State :=
  let old := s.link l
  let s1 := s.modLink l (Link.redefine c)
  let s2 := if old.state = .vacant then changeState l .idle none s1 else s1
  rewant l (planSeesDefine l old.cfg c s2)

/-- LINK_DEFINE (R73). The check for CONFLICT is of a kind given alone: DEDUCED (log 38), unsafe. -/
def defineLink (a : Nat × LinkConfig) (s : State) : Answered :=
  let l := a.1
  let c := a.2
  let k := s.link l
  if isLink l = false then refuse .badArgument s
  else if c.kind.isSome && !c.inRange then refuse .badArgument s
  else if c.kind = some .mic ∧ c.station.isSome = true then refuse .badArgument s
  else if c.kind.isSome && !(s.band c.band).defined then refuse .wrongState s
  else if s.mode = .run ∧ k.state ≠ .vacant ∧ k.state ≠ .idle then refuse .wrongState s
  else if k.holds && k.cfg.moves c then refuse .linkBusy s
  else if c.kind.isSome && s.linkConflict l c then refuse .conflict s
  else
    let s1 := if c.kind.isSome then storeLink l c.clamped s else vacateLink l s
    okWith (s1.linkBytes l) (if k.cfg.displaces c then jobsSeeMove l s1 else s1)

/-- LINK_DEFINE (R73, R74). -/
def execLinkDefine (s : State) : Out := request 0x20 readLinkDefine defineLink finish s

/-! ## LINK_ASSIGN (R85) -/

/-- LINK_ASSIGN (R85, R58). -/
def assignLink (a : Assign) (s : State) : Answered :=
  let k := s.link a.link
  if isLink a.link = false then refuse .badArgument s
  else if s.mode = .standby then refuse .wrongMode s
  else if k.state ≠ .idle then refuse .wrongState s
  else if (s.band k.cfg.band).frozen then refuse .frozen s
  else if (s.band k.cfg.band).p.steps ≤ a.step then refuse .badArgument s
  else if s.hasJob (JobKind.isAssignOf a.link) then refuse .wrongState s
  else if s.queueRoom = false then refuse .busy s
  else acceptedWith [] (joinQueue (.assignCheck a.link a.step a.override) s)

/-- LINK_ASSIGN (R85). -/
def execLinkAssign (s : State) : Out := request 0x21 readAssign assignLink afterJob s

/-! ## LINK_RELEASE, LINK_PARK and LINK_UNPARK (R91 to R93) -/

/-- A link is RETUNING or REVERTING: a move is in flight (R108). -/
def LinkState.moving : LinkState → Bool
  | .retuning | .reverting => true
  | _ => false

/-- A link gives up its carrier (R93), with the outcome of a vacate entry (R115); a failure of its MUTE at issue is reported
once the release is complete (R127). -/
def giveUp (l : Nat) (s : State) : State :=
  let r := issueMute l s.nextEffective (.lsRelease l) s
  let s1 := changeState l .idle none (release (s.link l).cfg.band r.state)
  let s2 := giveOutcome l .vacated s1
  if r.overflow then raise .linkMuteFailed l s2 else s2

/-- LINK_RELEASE (R93). -/
def releaseLink (l : Nat) (s : State) : Answered :=
  if isLink l = false then refuse .badArgument s
  else if (s.link l).state.moving then refuse .linkBusy s
  else if (s.link l).state = .vacant ∨ (s.link l).state = .idle then refuse .wrongState s
  else okWith [] (giveUp l s)

/-- LINK_RELEASE (R93). -/
def execLinkRelease (s : State) : Out := request 0x22 readOne releaseLink finish s

/-- A link is parked (R91). -/
def park (l : Nat) (s : State) : State :=
  let r := issueMute l s.nextEffective (.lsPark l) s
  reportPark l r.overflow (changeState l .parked none r.state)

/-- LINK_PARK (R91). -/
def parkLink (l : Nat) (s : State) : Answered :=
  let st := (s.link l).state
  if isLink l = false then refuse .badArgument s
  else if st.moving then refuse .linkBusy s
  else if st = .locked ∨ st = .fading ∨ st = .lost then okWith [] (park l s)
  else refuse .wrongState s

/-- LINK_PARK (R91). -/
def execLinkPark (s : State) : Out := request 0x23 readOne parkLink finish s

/-- LINK_UNPARK (R92), with the outcome of a vacate entry (R115). -/
def unparkLink (l : Nat) (s : State) : Answered :=
  if isLink l = false then refuse .badArgument s
  else if s.mode = .standby then refuse .wrongMode s
  else if (s.link l).state.moving then refuse .linkBusy s
  else if (s.link l).state ≠ .parked then refuse .wrongState s
  else okWith [] (giveOutcome l .acquired (enterAcquiring l s.nextEffective s))

/-- LINK_UNPARK (R92). -/
def execLinkUnpark (s : State) : Out := request 0x24 readOne unparkLink finish s

/-! ## LINK_FORCE_SILENCE and LINK_READ (R84, R97) -/

/-- LINK_FORCE_SILENCE (R84). -/
def forceSilence (l : Nat) (s : State) : Answered :=
  if isLink l = false then refuse .badArgument s
  else if (s.link l).state.counted = false then refuse .wrongState s
  else
    let s1 := goSilent l s
    okWith (u8 (s1.link l).state.code) s1

/-- LINK_FORCE_SILENCE (R84). -/
def execLinkForceSilence (s : State) : Out := request 0x25 readOne forceSilence finish s

/-- The assign and rescue results that LINK_READ carries of a defined link (R97). A VACANT link's reply carries none:
DEDUCED (log 20), unsafe. -/
def State.linkResults (s : State) (l : Nat) : List Byte :=
  if (s.link l).cfg.kind.isNone then []
  else opt AssignResult.bytes (s.assignResult l) ++ opt RescueResult.bytes (s.rescueResult l)

/-- LINK_READ (R97). -/
def readLink (l : Nat) (s : State) : Answered :=
  if isLink l = false then refuse .badArgument s else okWith (s.linkBytes l ++ s.linkResults l) s

/-- LINK_READ (R97). -/
def execLinkRead (s : State) : Out := request 0x26 readOne readLink afterRead s

end Sys2Proof.Machine
end

