-- ==== Sys2Proof/Machine/PlanRequests.lean ====
section
/-! DEFINITION. The requests of the staged plan: codes 0x28 to 0x2D (chapter 6). -/

namespace Sys2Proof.Machine

/-- A plan without entries, results and effective frame, in a state. -/
def Plan.empty (st : PlanState) : Plan := { Plan.reset with state := st }

/-- The plan is emptied and enters a state, with its notice (R109, R117, R119). -/
def emptyPlan (st : PlanState) (s : State) : State :=
  setPlanState st (s.modPlan fun p => Plan.empty p.state)

/-! ## PLAN_OPEN (R109) -/

/-- PLAN_OPEN (R109). -/
def openPlan (_ : Unit) (s : State) : Answered :=
  match s.plan.state with
  | .idle | .rejected | .done => okWith [] (emptyPlan .opened s)
  | .opened | .checking | .ready | .applying => refuse .wrongState s

/-- PLAN_OPEN (R109). -/
def execPlanOpen (s : State) : Out := request 0x28 readNothing openPlan afterJob s

/-! ## PLAN_ENTRY (R110) -/

/-- The entries after one joins or replaces that of its link, in ascending link order (R110). -/
def putEntry (l : Nat) (target : Option Nat) (es : List PlanEntry) : List PlanEntry :=
  insertBy (fun a b => decide (a.link < b.link)) { link := l, target := target, outcome := none }
    (es.filter fun e => decide (e.link ≠ l))

/-- PLAN_ENTRY (R110). -/
def enterPlan (a : Nat × Option Nat) (s : State) : Answered :=
  let c := (s.link a.1).cfg
  let es := putEntry a.1 a.2 s.plan.entries
  if isLink a.1 = false then refuse .badArgument s
  else if s.plan.state ≠ .opened then refuse .wrongState s
  else if c.kind = none then refuse .wrongState s
  else if (s.band c.band).frozen then refuse .frozen s
  else if a.2.any fun step => decide ((s.band c.band).p.steps ≤ step) then refuse .badArgument s
  else if Config.planEntries < es.length then refuse .full s
  else okWith (u8 es.length) (s.modPlan fun p => { p with entries := es })

/-- PLAN_ENTRY (R110). -/
def execPlanEntry (s : State) : Out := request 0x29 readPlanEntry enterPlan afterJob s

/-! ## PLAN_CLOSE (R111) -/

/-- PLAN_CLOSE (R111). -/
def closePlan (_ : Unit) (s : State) : Answered :=
  if s.plan.state ≠ .opened then refuse .wrongState s
  else if s.plan.entries.any fun e => (s.link e.link).cfg.kind.isNone then refuse .wrongState s
  else if s.hasJob JobKind.isPlanCheck || !s.queueRoom then refuse .busy s
  else acceptedWith [] (setPlanState .checking (joinQueue .planCheck s))

/-- PLAN_CLOSE (R111). -/
def execPlanClose (s : State) : Out := request 0x2A readNothing closePlan afterJob s

/-! ## PLAN_LAUNCH (R113 to R115) -/

/-- A PARKED link's carrier is moved: the old step is released and the target held; no order is sent (R114). -/
def moveParked (l step : Nat) (s : State) : State :=
  let c := (s.link l).cfg
  hold c.band step c.hw ((release c.band s).modLink l fun k => { k with assigned := some step })

/-- A vacate entry is applied at launch (R115). -/
def startVacate (l : Nat) (e : FrameNo) (s : State) : State :=
  let r := issueMute l e (.rcVacate l) s
  let s1 := (changeState l .parked none r.state).modLink l fun k =>
    if (s.link l).state = .acquiring then { k with effectiveFrame := none, deadline := none } else k
  if r.overflow then raise .linkMuteFailed l s1 else s1

/-- An entry is applied at launch with the plan's effective frame (R114). Entries are read from the plan as it was; the other
states of a link are excluded by R113. -/
def applyEntry (e : FrameNo) (s : State) (x : PlanEntry) : State :=
  let k := s.link x.link
  match x.target, k.state with
  | some step, .locked | some step, .fading =>
    if k.assigned = some step then giveOutcome x.link .moved s else startRetune x.link step e .plan s
  | some step, .parked =>
    giveOutcome x.link .moved (if k.assigned = some step then s else moveParked x.link step s)
  | some step, .idle => giveOutcome x.link .acquired (takeStep x.link step e s)
  | none, .idle => giveOutcome x.link .vacated s
  | none, .acquiring | none, .locked | none, .fading | none, .parked => startVacate x.link e s
  | _, _ => s

/-- A state in which no entry's link may be at launch (R113). -/
def LinkState.barsLaunch (target : Option Nat) : LinkState → Bool
  | .retuning | .reverting | .lost => true
  | .acquiring => target.isSome
  | _ => false

/-- The READY plan is launched with effective frame `e` (R113, R114, R116): it enters APPLYING, its entries are applied, and it
enters DONE if all have outcomes. The PLAN notice of APPLYING is raised before the LINK notices of the entries, for which R114 gives no
order: DESIGN CHOICE (log 57), unsafe. -/
def launch (e : FrameNo) (s : State) : State :=
  let s1 := setPlanState .applying (s.modPlan fun p => { p with effective := some e })
  finishPlan (s.plan.entries.foldl (applyEntry e) s1)

/-- PLAN_LAUNCH (R113). -/
def launchPlan (wanted : Option FrameNo) (s : State) : Answered :=
  if s.mode = .standby then refuse .wrongMode s
  else if s.plan.state ≠ .ready then refuse .wrongState s
  else if s.plan.entries.any fun x => (s.link x.link).state.barsLaunch x.target then refuse .wrongState s
  else match s.effectiveFor wanted with
    | none => refuse .badArgument s
    | some e => okWith (w32 e) (launch e s)

/-- PLAN_LAUNCH (R113). -/
def execPlanLaunch (s : State) : Out := request 0x2B readLaunch launchPlan finish s

/-! ## PLAN_ABANDON and PLAN_READ (R117, R118) -/

/-- PLAN_ABANDON (R117). -/
def abandonPlan (_ : Unit) (s : State) : Answered :=
  match s.plan.state with
  | .idle => okWith [] s
  | .opened | .checking | .ready | .rejected | .done => okWith [] (emptyPlan .idle s)
  | .applying => refuse .wrongState s

/-- PLAN_ABANDON (R117). -/
def execPlanAbandon (s : State) : Out := request 0x2C readNothing abandonPlan afterJob s

/-- An entry as PLAN_READ gives it: PENDING with its link's state, or its outcome (R118). -/
def State.entryBytes (s : State) (e : PlanEntry) : List Byte :=
  u8 e.link ++ opt u16 e.target ++
    match e.outcome with
    | none => u8 0 ++ u8 (s.link e.link).state.code
    | some o => u8 1 ++ u8 o.code

/-- PLAN_READ (R118). -/
def readPlan (_ : Unit) (s : State) : Answered :=
  let p := s.plan
  okWith (u8 p.state.code ++ opt w32 p.effective ++ marginBytes p.worst ++ opt Constraint.bytes p.worst
    ++ opt (listed fun g => u8 g.1 ++ w32 g.2) p.checked ++ listed s.entryBytes p.entries) s

/-- PLAN_READ (R118). -/
def execPlanRead (s : State) : Out := request 0x2D readNothing readPlan afterRead s

end Sys2Proof.Machine
end

