-- ==== Sys2Proof/Machine/TallyRequests.lean ====
section
/-! DEFINITION. The requests of the Tally Resolver and the Lamp Drivers: codes 0x30 to 0x39 (chapters 8 and 9). -/

namespace Sys2Proof.Machine

/-! ## TALLY_INPUT_CONFIGURE and TALLY_VIRTUAL (R139, R140) -/

/-- A line input takes a filter and a polarity; its filtered state is kept (R139). -/
def LineInput.configure (k : Nat) (inverted : Bool) (x : LineInput) : LineInput :=
  { x with filterK := k, inverted := inverted, run := 0 }

/-- Change the items of a table that a mask names, item 1 in bit 0. -/
def overMask {α : Type} (mask : Nat) (f : α → α) (xs : List α) : List α :=
  xs.zipIdx.map fun (x, i) => if mask.testBit i then f x else x

/-- TALLY_INPUT_CONFIGURE (R139). -/
def configureInputs (a : InputConfig) (s : State) : Answered :=
  let k := max 1 (min 8 a.filterK)
  if a.mask = 0 then refuse .badArgument s
  else okWith (u8 k ++ flag a.inverted)
    (s.modTr fun r => { r with lines := overMask a.mask (LineInput.configure k a.inverted) r.lines })

/-- TALLY_INPUT_CONFIGURE (R139). -/
def execTallyInputConfigure (s : State) : Out := request 0x30 readInputConfig configureInputs afterRead s

/-- The virtual inputs after values are given to those a mask names (R140). -/
def setVirtuals (mask values : Nat) (vs : List Bool) : List Bool :=
  vs.zipIdx.map fun (v, i) => if mask.testBit i then values.testBit i else v

/-- TALLY_VIRTUAL (R140). -/
def setVirtual (a : Nat × Nat) (s : State) : Answered :=
  let vs := setVirtuals a.1 a.2 s.tr.virtuals
  okWith (set32 vs) (s.modTr fun r => { r with virtuals := vs })

/-- TALLY_VIRTUAL (R140). -/
def execTallyVirtual (s : State) : Out := request 0x32 readVirtual setVirtual afterRead s

/-! ## TALLY_MAP_SET (R141) -/

/-- Up to 4 different numbers of 1 to `n` (R141). -/
def targetsValid (n : Nat) (xs : List Nat) : Bool := decide (xs.length ≤ 4) && xs.all (oneTo n) && decide xs.Nodup

/-- The contents an entry may have (R141). -/
def MapEntry.valid (e : MapEntry) : Bool :=
  (match e.input with | .line n | .virt n => oneTo Config.inputs n) && e.zone.all (oneTo Config.zones)
    && targetsValid Config.links e.links && targetsValid Config.lamps e.lamps

/-- TALLY_MAP_SET (R141). -/
def setMap (a : Nat × Option MapEntry) (s : State) : Answered :=
  if oneTo Config.mapEntries a.1 = false then refuse .badArgument s
  else if a.2.all MapEntry.valid = false then refuse .badArgument s
  else if s.mode = .run then refuse .wrongMode s
  else okWith (opt MapEntry.bytes a.2) (s.modTr fun r => { r with map := modSlot (fun _ => a.2) r.map a.1 })

/-- TALLY_MAP_SET (R141). -/
def execTallyMapSet (s : State) : Out := request 0x31 readMapSet setMap afterRead s

/-! ## TALLY_READ (R151) -/

/-- A line input as INPUTS gives it: filtered state, filter_k, polarity, edge flag. -/
def LineInput.bytes (x : LineInput) : List Byte := firstIf x.filtered ++ u8 x.filterK ++ flag x.inverted ++ firstIf x.edge

/-- The applied snapshot, or absent for the all-inactive one of STOP and reset (R151). Its states are two sets of 32 inputs, a bit
each: DEDUCED (log 41), unsafe. -/
def Tr.snapshotBytes (r : Tr) : List Byte :=
  opt (fun f => set32 r.snapLines ++ set32 r.snapVirtuals ++ w32 f) r.snapFrame

def Zone.bytes (z : Zone) : List Byte := firstIf z.onAir ++ firstIf z.speakerCut

/-- A link's tally, wanted word and delivered word (R151). -/
def State.linkTallyBytes (s : State) (l : Nat) : List Byte :=
  u8 (slot Tally.off s.tr.linkTally l).code ++ (s.link l).wanted.bytes ++ opt TallyWord.bytes (s.link l).delivered

/-- A section of TALLY_READ (R151). The edge flags stand in INPUTS alone, as the table of R151 lists them, so a read of another section
clears flags that its reply does not carry: DEDUCED (log 40), unsafe. The virtual inputs of INPUTS are a set, a bit each:
DEDUCED (log 41), unsafe.
DEDUCED (log 27) where MAP passes 240 bytes, unsafe. -/
def State.tallySection (s : State) : TallySection → List Byte
  | .inputs => s.tr.lines.flatMap LineInput.bytes ++ set32 s.tr.virtuals
  | .snapshot =>
    s.tr.snapshotBytes ++ (oneUpTo Config.links).flatMap s.linkTallyBytes
      ++ s.tr.lampTally.flatMap (fun t => u8 t.code) ++ s.tr.zones.flatMap Zone.bytes
  | .map first => listed (opt MapEntry.bytes) ((s.tr.map.drop (first - 1)).take 16)

/-- The edge flags that a mask names are cleared (R151). -/
def clearEdges (mask : Nat) (r : Tr) : Tr := { r with lines := overMask mask (fun x => { x with edge := false }) r.lines }

/-- A first entry number must be one of the map's. -/
def TallySection.valid : TallySection → Bool
  | .inputs | .snapshot => true
  | .map first => oneTo Config.mapEntries first

/-- TALLY_READ (R151): the flags are reported, and then those named are cleared. -/
def readTally (a : TallySection × Nat) (s : State) : Answered :=
  if a.1.valid = false then refuse .badArgument s
  else okWith (s.tallySection a.1) (s.modTr (clearEdges a.2))

/-- TALLY_READ (R151). -/
def execTallyRead (s : State) : Out := request 0x33 readTallyRead readTally afterRead s

/-! ## ZONE_INTERLOCK (R150) -/

/-- A zone's interlock takes a value and is presented to the Talk Router (R150, R173). -/
def interlock (z : Nat) (on : Bool) (s : State) : State :=
  let s1 := s.modTr fun r => { r with zones := modSlot (fun x => { x with speakerCut := on }) r.zones z }
  s1.modTk fun k => { k with zones := modSlot (fun x => { x with speakerCut := on }) k.zones z }

/-- ZONE_INTERLOCK (R150). -/
def setInterlock (a : Nat × Bool) (s : State) : Answered :=
  if oneTo Config.zones a.1 = false then refuse .badArgument s
  else
    let s1 := interlock a.1 a.2 s
    okWith (slot Zone.reset s1.tr.zones a.1).bytes s1

/-- ZONE_INTERLOCK (R150). -/
def execZoneInterlock (s : State) : Out := request 0x34 readInterlock setInterlock finish s

/-! ## LAMP_CONFIGURE and LAMP_READ (R160, R161) -/

/-- A source that a lamp may have (R160). -/
def LampSource.valid : LampSource → Bool
  | .none | .tally => true
  | .zone z => oneTo Config.zones z
  | .talk t => oneTo Config.stations t

/-- A cadence brought into range (R160). -/
def Cadence.clamped (c : Cadence) : Cadence := ⟨min 15 c.onFrames, min 15 c.offFrames⟩

/-- A configuration with its cadences brought into range (R160). -/
def LampConfig.clamped (c : LampConfig) : LampConfig :=
  { c with cadences := ⟨c.cadences.off.clamped, c.cadences.preview.clamped, c.cadences.program.clamped,
                        c.cadences.talk.clamped, c.cadences.call.clamped⟩ }

/-- LAMP_CONFIGURE (R160). -/
def configureLamp (a : Nat × LampConfig) (s : State) : Answered :=
  if oneTo Config.lamps a.1 = false then refuse .badArgument s
  else if a.2.source.valid = false then refuse .badArgument s
  else if 14 < a.2.periodSelect then refuse .badArgument s
  else okWith a.2.clamped.bytes (s.modLamp a.1 (Lamp.configure a.2.clamped))

/-- LAMP_CONFIGURE (R160). -/
def execLampConfigure (s : State) : Out := request 0x38 readLampConfigure configureLamp afterRead s

/-- LAMP_READ (R161). -/
def readLamp (m : Nat) (s : State) : Answered :=
  let x := s.lamp m
  if oneTo Config.lamps m = false then refuse .badArgument s
  else okWith (x.cfg.bytes ++ u8 x.displayed.code ++ firstIf x.phaseOn ++ u8 x.remaining ++ u8 x.selected ++ u8 x.drive
    ++ firstIf x.driveInvert ++ u8 x.drivePeriod ++ u8 (s.sourceState x).code) s

/-- LAMP_READ (R161). -/
def execLampRead (s : State) : Out := request 0x39 readOne readLamp afterRead s

end Sys2Proof.Machine
end

