-- ==== Sys2Proof/Machine/TalkRequests.lean ====
section
/-! DEFINITION. The requests of the Talk Router: codes 0x40 to 0x43 (chapter 10). -/

namespace Sys2Proof.Machine

/-- The part has a station with this number. -/
def isStation (t : Nat) : Bool := oneTo Config.stations t

/-! ## STATION_DEFINE (R164) -/

/-- A station of this kind rides a link (R164). -/
def StationKind.riding : StationKind → Bool
  | .linked | .ifb => true
  | .panel | .speaker => false

/-- A station of this kind has keys (R164). -/
def StationKind.keyed : StationKind → Bool
  | .panel | .linked => true
  | .speaker | .ifb => false

/-- The link that a station names fits its kind (R164).
None is out of range for LINKED and IFB: DEDUCED (log 25), unsafe. -/
def Station.linkValid (x : Station) : Bool :=
  match x.kind with
  | none => true
  | some k => if k.riding then x.link.any (oneTo Config.links) else x.link.isNone

/-- A key's number and target are in range (R164). -/
def Key.valid (t : Nat) (k : Key) : Bool :=
  oneTo 8 k.number && match k.target with
    | .station n => isStation n && decide (n ≠ t)
    | .group g => oneTo Config.groups g

/-- The keys of a station (R164). -/
def Station.keysValid (t : Nat) (x : Station) : Bool :=
  decide (x.keys.length ≤ 8) && x.keys.all (Key.valid t) && decide (x.keys.map Key.number).Nodup
    && (x.keys.isEmpty || x.kind.all StationKind.keyed)

/-- Another defined station names the same link (R164). -/
def State.stationConflict (s : State) (t : Nat) (x : Station) : Bool :=
  x.link.isSome && (oneUpTo Config.stations).any fun n =>
    decide (n ≠ t) && (s.station n).kind.isSome && decide ((s.station n).link = x.link)

/-- Settings brought into their ranges (R164).
DEDUCED (log 26) in the order of the keys, unsafe. -/
def Station.clamped (x : Station) : Station :=
  { x with tapWindow := max 2 (min 50 x.tapWindow), callFrames := max 1 (min 250 x.callFrames),
           dimDepth := min 31 x.dimDepth, keys := sortBy (fun a b => decide (a.number < b.number)) x.keys }

/-- STATION_DEFINE (R164). `x` has the configuration given and every working field at its default. The check for CONFLICT is of a kind
given alone, while the ranges are checked for kind none too: DEDUCED (log 25), unsafe. -/
def defineStation (a : Nat × Station) (s : State) : Answered :=
  let t := a.1
  let x := a.2
  if isStation t = false then refuse .badArgument s
  else if x.linkValid = false then refuse .badArgument s
  else if x.zone.all (oneTo Config.zones) = false ∨ 7 < x.priority then refuse .badArgument s
  else if x.keysValid t = false then refuse .badArgument s
  else if s.mode = .run then refuse .wrongMode s
  else if x.kind.isSome && s.stationConflict t x then refuse .conflict s
  else
    let s1 := s.modStation t fun _ => if x.kind.isSome then x.clamped else Station.undefined
    okWith (s1.stationBytes t) s1

/-- STATION_DEFINE (R164). -/
def execStationDefine (s : State) : Out := request 0x40 readStationDefine defineStation afterRead s

/-! ## GROUP_DEFINE (R165) -/

/-- GROUP_DEFINE (R165). -/
def defineGroup (a : Nat × List Nat) (s : State) : Answered :=
  if oneTo Config.groups a.1 = false then refuse .badArgument s
  else if Config.groupMembers < a.2.length ∨ a.2.all isStation = false ∨ ¬ a.2.Nodup then refuse .badArgument s
  else if s.mode = .run then refuse .wrongMode s
  else okWith [] (s.modTk fun k => { k with groups := modSlot (fun _ => a.2) k.groups a.1 })

/-- GROUP_DEFINE (R165). -/
def execGroupDefine (s : State) : Out := request 0x41 readGroupDefine defineGroup afterRead s

/-! ## KEY_EVENT (R166) -/

/-- The state of a key of a station. -/
def State.keyState (s : State) (t n : Nat) : KeyState := ((s.station t).key n).elim .off (·.state)

/-- KEY_EVENT (R166). -/
def keyRequest (a : KeyPress) (s : State) : Answered :=
  if isStation a.station = false ∨ oneTo 8 a.key = false then refuse .badArgument s
  else if s.mode = .standby then refuse .wrongMode s
  else if (s.station a.station).kind ≠ some .panel then refuse .wrongState s
  else if ((s.station a.station).key a.key).isNone then refuse .wrongState s
  else
    let s1 := pressKey a.station a.key a.down s
    okWith (u8 (s1.keyState a.station a.key).code) s1

/-- KEY_EVENT (R166 to R169). -/
def execKeyEvent (s : State) : Out := request 0x42 readKeyPress keyRequest finish s

/-! ## TALK_READ (R181) -/

/-- A route's reasons as a set in one byte: ON_AIR in bit 0, LINK_DOWN in bit 1 and NO_SLOT in bit 2, the order of the table of
R170, though R186 speaks of sets over numbered items alone: DEDUCED (log 58), unsafe. -/
def Route.reasons (r : Route) : Nat := maskNat [r.onAir, r.linkDown, r.noSlot]

/-- A route as ROUTES gives it (R181). -/
def Route.bytes (r : Route) : List Byte :=
  u8 r.source ++ u8 r.destination ++ u8 r.holders ++ firstIf r.live ++ u8 r.reasons
    ++ firstIf (decide (r.make = some .confirmed))

/-- A pair as BREAKS gives it: whether a break is outstanding (R181). -/
def Break.bytes (b : Break) : List Byte := u8 b.source ++ u8 b.destination ++ firstIf b.order.isSome

/-- The members of a group: a set over the 24 stations (R165, R186). -/
def groupBytes (members : List Nat) : List Byte := u24 (maskNat ((oneUpTo Config.stations).map members.contains))

/-- A section of TALK_READ from a first index; none is a section code that names nothing (R181). A STATION out of range has the result
code for its header, and no further byte: DEDUCED (log 48), unsafe. -/
def State.talkSection (s : State) (i : Nat) : Nat → Option (List Byte)
  | 0 => some (if isStation i then s.stationBytes i ++ s.routeCounts i ++ orZero (s.incoming i) else [])
  | 1 => some (s.tk.groups.flatMap groupBytes)
  | 2 => some (u8 s.tk.routes.length ++ listed Route.bytes ((s.tk.routes.drop i).take 16))
  | 3 => some (listed Break.bytes s.tk.breaks)
  | _ => none

/-- TALK_READ (R181). -/
def readTalk (a : Nat × Nat) (s : State) : Answered :=
  match s.talkSection a.2 a.1 with
  | some body => okWith body s
  | none => refuse .badArgument s

/-- TALK_READ (R181). -/
def execTalkRead (s : State) : Out := request 0x43 readTwo readTalk afterRead s

end Sys2Proof.Machine
end

