-- ==== Sys2Proof/Machine/ModeRequests.lean ====
section
/-! DEFINITION. The requests of the Message Port: codes 0x70 to 0x76 (chapter 11), with what START, STOP and warm reset do in
each block (the mode and reset section of each chapter). -/

namespace Sys2Proof.Machine

/-! ## START (R195, R28, R98) -/

/-- A link at START (R98). -/
def Link.start (now : FrameNo) (k : Link) : Link :=
  if k.cfg.kind.isNone then k
  else { k with silenceCounter := k.cfg.silenceLimit,
                deadline := if k.state = .acquiring then some (framePlus now k.cfg.acquireLimit) else k.deadline }

/-- The SCAN_ASSIGN orders of START, for each defined band with a scan_unit (R28). -/
def startScan (s : State) (b : Nat) : State :=
  match (s.band b).defined, (s.band b).p.scanUnit with
  | true, some u => issueScanAssign b ((s.band b).p.scanOrder u) s
  | _, _ => s

/-- The part enters RUN (R195). The bands issue in ascending number, for which R28 gives no order: DESIGN CHOICE (log 35),
unsafe. -/
def enterRun (s : State) : State :=
  (oneUpTo Config.bands).foldl startScan { s with mode := .run, links := s.links.map (Link.start s.now) }

/-- START (R195). -/
def startPart (_ : Unit) (s : State) : Answered :=
  if s.mode = .run then refuse .wrongMode s else okWith [] (enterRun s)

/-- START (R195). -/
def execStart (s : State) : Out := request 0x70 readNothing startPart afterJob s

/-! ## STOP (R196, R69, R122, R154, R162, R184) -/

/-- A plan APPLYING, or a link RETUNING or REVERTING, bars STOP (R122). -/
def State.moveInFlight (s : State) : Bool :=
  decide (s.plan.state = .applying) || s.links.any fun k => k.state.moving

/-- The Tally Resolver at STOP (R154). -/
def stopTally (s : State) : State := rewantAll (s.modTr fun r => r.clearSnap.resolve)

/-- The Lamp Drivers at STOP (R162): they take the presented values, and every lamp goes dark. -/
def stopLamps (s : State) : State :=
  let s1 := takeLampValues s
  { s1 with lamps := s1.lamps.map Lamp.dark }

/-- The part enters STANDBY (R196). The Talk Router and the Tally Resolver act in one order or the other (R154). The Plan Evaluator's
withdrawal comes before both, with its notices, for which R196 gives no order: DESIGN CHOICE (log 56), unsafe. -/
def enterStandby (tkFirst : Bool) (s : State) : State :=
  let s1 := withdrawAll { s with mode := .standby }
  let s2 := if tkFirst then stopTally (tkStop false s1) else tkStop true (stopTally s1)
  presentZones (stopLamps s2)

/-- STOP (R196). -/
def stopPart (tkFirst : Bool) (_ : Unit) (s : State) : Answered :=
  if s.mode = .standby then refuse .wrongMode s
  else if s.moveInFlight then refuse .wrongState s
  else okWith [] (enterStandby tkFirst s)

/-- STOP (R196). -/
def execStop (tkFirst : Bool) (s : State) : Out := request 0x71 readNothing (stopPart tkFirst) afterJob s

/-! ## RESTART (R197 and the reset table of each chapter) -/

/-- A band after warm reset (R38). -/
def Band.warm (k : Band) : Band :=
  { k with frozen := false, carrierGen := 0, spectrumGen := 0, sweepWanted := false,
           bins := k.bins.map fun _ => { level := none, hot := false }, spares := [], sparesFresh := false,
           scanReissue := [] }

/-- A link after warm reset (R99). -/
def Link.warm (k : Link) : Link :=
  if k.cfg.kind.isNone then Link.vacant
  else { Link.vacant with cfg := k.cfg, state := .idle, silenceCounter := k.cfg.silenceLimit }

/-- The Plan Evaluator after warm reset (R70). -/
def Pe.warm (e : Pe) : Pe := { Pe.reset with engine := e.engine.drained }

/-- The Tally Resolver after warm reset (R155). -/
def Tr.warm (r : Tr) : Tr :=
  { Tr.reset with
    lines := r.lines.map fun x => { x with edge := false }
    map := r.map
    zones := r.zones.map fun z => { z with onAir := false } }

/-- A lamp after warm reset (R163). -/
def Lamp.warm (x : Lamp) : Lamp := { x.dark with heldTally := .off }

/-- A station after warm reset (R185). -/
def Station.warm (x : Station) : Station :=
  { x.keysOff with pulseEnd := none, dimOrder := none, dimRetry := false, lampAcked := none, lampOrder := none,
                   lampRetry := none, lastRefusal := none }

/-- The Talk Router after warm reset (R185); the zones are as the Tally Resolver keeps them. -/
def Tk.warm (zones : List Zone) (k : Tk) : Tk :=
  { stations := k.stations.map Station.warm, groups := k.groups, routes := [], breaks := [], zones := zones }

/-- Warm reset (R197). -/
def warmReset (s : State) : State :=
  { s with
    mode := .standby
    bands := s.bands.map Band.warm
    links := s.links.map Link.warm
    pe := s.pe.warm
    plan := Plan.reset
    units := s.units.map fun _ => UnitRec.reset
    tr := s.tr.warm
    lamps := s.lamps.map Lamp.warm
    lampZones := s.lampZones.map fun _ => false
    tk := s.tk.warm s.tr.warm.zones
    nq := [{ cls := .device, obj := 0, causes := Cause.deviceRestart.set }] }

/-- RESTART (R197). -/
def restartPart (_ : Unit) (s : State) : Answered := okWith [] (warmReset s)

/-- RESTART (R197). -/
def execRestart (s : State) : Out := request 0x72 readNothing restartPart afterJob s

/-! ## STATUS and IDENTIFY (R199) -/

/-- The kind of the running job, while the engine is RUNNING (R54). -/
def State.runningKind (s : State) : Option JobKind := s.running.map Prod.fst

/-- STATUS (R199). The request itself has left the buffer. -/
def readStatus (_ : Unit) (s : State) : Answered :=
  okWith (u8 s.mode.code ++ u8 s.ftb.refState.code ++ w32 s.now ++ u8 s.pe.queue.length ++ u8 s.pe.engine.code
    ++ opt (fun k => u8 (JobKind.code k)) s.runningKind ++ u8 s.plan.state.code ++ u8 s.nq.length
    ++ u8 s.mp.pushMask.toNat ++ u8 s.mp.attnMask.toNat ++ u8 s.mp.buffer.length) s

/-- STATUS (R199). -/
def execStatus (s : State) : Out := request 0x73 readNothing readStatus afterRead s

/-- IDENTIFY (R199): part code, revision and vendor code. -/
def identifyPart (_ : Unit) (s : State) : Answered := okWith (u16 7140 ++ u8 1 ++ u16 0x0B71) s

/-- IDENTIFY (R199). -/
def execIdentify (s : State) : Out := request 0x74 readNothing identifyPart afterRead s

/-! ## NOTICE_ENABLE and NOTICE_FETCH (R192, R193) -/

/-- NOTICE_ENABLE (R192): bit 7 of a mask would be a class outside 1..7. -/
def enableNotices (a : Nat × Nat) (s : State) : Answered :=
  if a.1.testBit 7 || a.2.testBit 7 then refuse .badArgument s
  else okWith (u8 a.1 ++ u8 a.2)
    (s.modMp fun m => { m with pushMask := BitVec.ofNat 8 a.1, attnMask := BitVec.ofNat 8 a.2 })

/-- NOTICE_ENABLE (R192). -/
def execNoticeEnable (s : State) : Out := request 0x75 readTwo enableNotices afterRead s

/-- NOTICE_FETCH (R193). -/
def fetchNotices (count : Nat) (s : State) : Answered :=
  let n := max 1 (min 8 count)
  let taken := s.nq.take n
  okWith (u8 taken.length ++ u8 (s.nq.drop n).length)
    { s.modMp (fun m => { m with fetched := taken }) with nq := s.nq.drop n }

/-- NOTICE_FETCH (R193). -/
def execNoticeFetch (s : State) : Out := request 0x76 readOne fetchNotices afterRead s

end Sys2Proof.Machine
end

