-- ==== Sys2Proof/Machine/Dispatch.lean ====
section
/-! DEFINITION. The meaning of each command: one arm per row of spec/opcode_table.json. -/

namespace Sys2Proof.Machine

/-- What a command does to everything but the queue. -/
def exec (i : Instr) (s : State) : Host.Outcome State Fault Refusal :=
  match i with
  | .coldReset straps => Sys2Proof.Machine.execColdReset straps s
  | .refPulse time tkFirst => Sys2Proof.Machine.execRefPulse time tkFirst s
  | .internalTimerDue tkFirst => Sys2Proof.Machine.execInternalTimerDue tkFirst s
  | .pulseWatchdogExpiry tkFirst => Sys2Proof.Machine.execPulseWatchdogExpiry tkFirst s
  | .fadeTimerLimit link => Sys2Proof.Machine.execFadeTimerLimit link s
  | .silenceExpiry link => Sys2Proof.Machine.execSilenceExpiry link s
  | .acquireDeadline link => Sys2Proof.Machine.execAcquireDeadline link s
  | .retuneDeadline link => Sys2Proof.Machine.execRetuneDeadline link s
  | .revertDeadline link => Sys2Proof.Machine.execRevertDeadline link s
  | .vacateEffective link => Sys2Proof.Machine.execVacateEffective link s
  | .orderExpiry address => Sys2Proof.Machine.execOrderExpiry address s
  | .tallyRetry link => Sys2Proof.Machine.execTallyRetry link s
  | .lampRetry station => Sys2Proof.Machine.execLampRetry station s
  | .tapDeadline station key => Sys2Proof.Machine.execTapDeadline station key s
  | .callPulseEnd station => Sys2Proof.Machine.execCallPulseEnd station s
  | .scanAssignReissue band => Sys2Proof.Machine.execScanAssignReissue band s
  | .muteReissue link => Sys2Proof.Machine.execMuteReissue link s
  | .pwmPeriodStart lamp => Sys2Proof.Machine.execPwmPeriodStart lamp s
  | .edge line high => Sys2Proof.Machine.execEdge line high s
  | .frameGood bytes => Sys2Proof.Machine.execFrameGood bytes s
  | .frameFailed bytes => Sys2Proof.Machine.execFrameFailed bytes s
  | .frameAbandoned => Sys2Proof.Machine.execFrameAbandoned s
  | .transmitPathFree => Sys2Proof.Machine.execTransmitPathFree s
  | .unknownRequest => Sys2Proof.Machine.execUnknownRequest s
  | .tbConfigure time => Sys2Proof.Machine.execTbConfigure time s
  | .tbStatus => Sys2Proof.Machine.execTbStatus s
  | .bandDefine => Sys2Proof.Machine.execBandDefine s
  | .bandGuards => Sys2Proof.Machine.execBandGuards s
  | .exclAdd => Sys2Proof.Machine.execExclAdd s
  | .exclRemove => Sys2Proof.Machine.execExclRemove s
  | .bandFreeze => Sys2Proof.Machine.execBandFreeze s
  | .bandUnfreeze => Sys2Proof.Machine.execBandUnfreeze s
  | .bandRead => Sys2Proof.Machine.execBandRead s
  | .scanRead => Sys2Proof.Machine.execScanRead s
  | .checkCandidate => Sys2Proof.Machine.execCheckCandidate s
  | .spareSweep => Sys2Proof.Machine.execSpareSweep s
  | .linkDefine => Sys2Proof.Machine.execLinkDefine s
  | .linkAssign => Sys2Proof.Machine.execLinkAssign s
  | .linkRelease => Sys2Proof.Machine.execLinkRelease s
  | .linkPark => Sys2Proof.Machine.execLinkPark s
  | .linkUnpark => Sys2Proof.Machine.execLinkUnpark s
  | .linkForceSilence => Sys2Proof.Machine.execLinkForceSilence s
  | .linkRead => Sys2Proof.Machine.execLinkRead s
  | .planOpen => Sys2Proof.Machine.execPlanOpen s
  | .planEntry => Sys2Proof.Machine.execPlanEntry s
  | .planClose => Sys2Proof.Machine.execPlanClose s
  | .planLaunch => Sys2Proof.Machine.execPlanLaunch s
  | .planAbandon => Sys2Proof.Machine.execPlanAbandon s
  | .planRead => Sys2Proof.Machine.execPlanRead s
  | .tallyInputConfigure => Sys2Proof.Machine.execTallyInputConfigure s
  | .tallyMapSet => Sys2Proof.Machine.execTallyMapSet s
  | .tallyVirtual => Sys2Proof.Machine.execTallyVirtual s
  | .tallyRead => Sys2Proof.Machine.execTallyRead s
  | .zoneInterlock => Sys2Proof.Machine.execZoneInterlock s
  | .lampConfigure => Sys2Proof.Machine.execLampConfigure s
  | .lampRead => Sys2Proof.Machine.execLampRead s
  | .stationDefine => Sys2Proof.Machine.execStationDefine s
  | .groupDefine => Sys2Proof.Machine.execGroupDefine s
  | .keyEvent => Sys2Proof.Machine.execKeyEvent s
  | .talkRead => Sys2Proof.Machine.execTalkRead s
  | .start => Sys2Proof.Machine.execStart s
  | .stop tkFirst => Sys2Proof.Machine.execStop tkFirst s
  | .restart => Sys2Proof.Machine.execRestart s
  | .status => Sys2Proof.Machine.execStatus s
  | .identify => Sys2Proof.Machine.execIdentify s
  | .noticeEnable => Sys2Proof.Machine.execNoticeEnable s
  | .noticeFetch => Sys2Proof.Machine.execNoticeFetch s
  | .report bytes => Sys2Proof.Machine.execReport bytes s
  | .scanData bytes => Sys2Proof.Machine.execScanData bytes s
  | .matrixReport bytes => Sys2Proof.Machine.execMatrixReport bytes s
  | .assignCheckComplete => Sys2Proof.Machine.execAssignCheckComplete s
  | .planCheckComplete => Sys2Proof.Machine.execPlanCheckComplete s
  | .queryComplete => Sys2Proof.Machine.execQueryComplete s
  | .sweepComplete => Sys2Proof.Machine.execSweepComplete s
  | .rescuePickComplete => Sys2Proof.Machine.execRescuePickComplete s
  | .drainComplete => Sys2Proof.Machine.execDrainComplete s

end Sys2Proof.Machine
end

