-- ==== Sys2Proof/Machine/Pins.lean ====
section
/-! DEFINITION. What the part drives, as a function of its state and of the level of its RESET pin (R192, R159, R198). -/

namespace Sys2Proof.Machine

/-- What the part drives: ATTN asserted, each LAMP output active, the bytes of the frame on the Message Port's transmit line, and
the bytes of the packets it has put on the Unit Bus since the last FRAME_MARK. -/
structure Outputs where
  attn : Bool
  lamps : List Bool
  host : Option (List Byte)
  bus : List (List Byte)
  deriving DecidableEq, Repr

/-- While RESET is held low the part sends nothing, ATTN is released and every lamp output is inactive (R198). -/
def Outputs.held : Outputs := { attn := false, lamps := List.replicate Config.lamps false, host := none, bus := [] }

/-- The outputs, with RESET high or low; `tick m` is the tick that output `m` has reached in its PWM period. -/
def State.outputs (s : State) (resetHigh : Bool) (tick : Nat → Nat) : Outputs :=
  if resetHigh then
    { attn := s.attn
      lamps := (oneUpTo Config.lamps).map fun m => (s.lamp m).active (tick m)
      host := s.mp.sending.map fun f => f.frame.bytes
      bus := s.bus.map Packet.bytes }
  else Outputs.held

end Sys2Proof.Machine
end

