-- ==== Sys2Proof/Safety.lean ====
section
/-! DEFINITION. The terms in which statements about the part are made: what two states have in common, what a reply and a notice
are, and what a sound state is. -/

namespace Sys2Proof.Machine

/-! ## What two states have in common -/

/-- The parts of the state that a command may change or leave. A band's sweep flag, a link's rescue status and a link's tally
fields are parts of their own, since the evaluator and the Tally Resolver write them (sections 4.1 and 8.1). -/
inductive Part where
  | mode | ftb | bands | sweepFlags | links | rescues | tallies | pe | plan | units | orderIds | bus | tr | lamps | lampZones
  | tk | mp | notices | owed | pending
  deriving DecidableEq, Repr

/-- A link record without its rescue status and its tally fields. -/
def Link.core (k : Link) : Link :=
  { k with rescue := .none, wanted := TallyWord.dark, delivered := none, tallyOrder := none, retryAt := none }

/-- A link's tally fields (section 8.1). -/
def Link.tallyFields (k : Link) : TallyWord × Option TallyWord × Option TallyOrder × Option FrameNo :=
  (k.wanted, k.delivered, k.tallyOrder, k.retryAt)

/-- A band record without its sweep flag. -/
def Band.core (k : Band) : Band := { k with sweepWanted := false }

/-- A part is the same in two states. -/
def Part.same (s t : State) : Part → Prop
  | .mode => t.mode = s.mode
  | .ftb => t.ftb = s.ftb
  | .bands => t.bands.map Band.core = s.bands.map Band.core
  | .sweepFlags => t.bands.map Band.sweepWanted = s.bands.map Band.sweepWanted
  | .links => t.links.map Link.core = s.links.map Link.core
  | .rescues => t.links.map Link.rescue = s.links.map Link.rescue
  | .tallies => t.links.map Link.tallyFields = s.links.map Link.tallyFields
  | .pe => t.pe = s.pe
  | .plan => t.plan = s.plan
  | .units => t.units = s.units
  | .orderIds => t.nextOrderId = s.nextOrderId
  | .bus => t.bus = s.bus
  | .tr => t.tr = s.tr
  | .lamps => t.lamps = s.lamps
  | .lampZones => t.lampZones = s.lampZones
  | .tk => t.tk = s.tk
  | .mp => t.mp = s.mp
  | .notices => t.nq = s.nq
  | .owed => t.owed = s.owed
  | .pending => t.pending = s.pending

/-- Every part but those listed is the same: the frame of a command. -/
def KeepsBut (ps : List Part) (s t : State) : Prop := ∀ p, p ∉ ps → p.same s t

/-- The parts that the issue of orders may change, a displaced order's report included (R126, R127). -/
def issueParts : List Part := [.units, .orderIds, .bus, .tallies, .tk, .notices]

/-- The parts that the transmit path's choice may change (R189). -/
def sendParts : List Part := [.mp, .notices]

/-- The parts that the conversion of flags, the engine's choice and the transmit path's choice may change (R57, R55, R189). -/
def afterParts : List Part := [.pe, .rescues, .sweepFlags, .mp, .notices]

/-- The parts that any event may change at its end: what the Talk Router, the engine and the transmit path do (R175, R59,
R189). -/
def tailParts : List Part := issueParts ++ afterParts

/-- Every other link keeps its record, apart from its rescue status and tally fields. -/
def LinkAlone (l : Nat) (s t : State) : Prop := ∀ n, n ≠ l → (t.link n).core = (s.link n).core

/-- Every other band keeps its record, apart from its sweep flag. -/
def BandAlone (b : Nat) (s t : State) : Prop := ∀ n, n ≠ b → (t.band n).core = (s.band n).core

/-- Band `b` alone has changed, and its carrier counter has counted `n` carrier changes (R21). -/
def CarrierChanges (b n : Nat) (s t : State) : Prop :=
  (t.band b).carrierGen = (s.band b).carrierGen + BitVec.ofNat 32 n ∧ BandAlone b s t

/-! ## Commands and what they give -/

/-- The command answers a next state, and that state has a property. -/
def Reaches (c : Instr) (s : State) (P : State → Prop) : Prop := ∃ t, exec c s = .next t ∧ P t

/-- A step fell due at the boundary, is not yet taken, and does not give way to its link's silence. -/
abbrev Due (o : Owed) (s : State) : Prop := o ∈ s.owed ∧ o.behindSilence s.owed = false

/-- The commands that come after every step of the current boundary: all but those steps themselves, REPORT and COLD_RESET. -/
def settles : Instr → Bool
  | .coldReset _ | .report _ | .fadeTimerLimit _ | .silenceExpiry _ | .acquireDeadline _ | .retuneDeadline _ | .revertDeadline _
  | .vacateEffective _ | .orderExpiry _ | .tallyRetry _ | .lampRetry _ | .tapDeadline _ _ | .callPulseEnd _
  | .scanAssignReissue _ | .muteReissue _ => false
  | _ => true

/-- The commands that may change the Frame Timebase (chapter 1). -/
def movesTimebase : Instr → Bool
  | .coldReset _ | .refPulse _ _ | .internalTimerDue _ | .pulseWatchdogExpiry _ | .tbConfigure _ => true
  | _ => false

/-! ## Orders -/

/-- An order has been issued: it waits for its unit, or it is outstanding there under a number, with the deadline fixed at its
issue (R126, R127). -/
def Ordered (a : Nat) (body : OrderBody) (i : Issuer) (s t : State) : Prop :=
  ∃ o : Order, o.address = a ∧ o.body = body ∧ o.issuer = i ∧ o.deadline = body.deadline s.now ∧
    (o ∈ (t.unit a).waiting ∨ ∃ n : Byte, { o with number := some n } ∈ (t.unit a).outstanding)

/-- Both lists of a unit are full (R126, R127). -/
def State.unitFull (s : State) (a : Nat) : Prop :=
  Config.outstanding ≤ (s.unit a).outstanding.length ∧ Config.waiting ≤ (s.unit a).waiting.length

/-- A unit holds an order, waiting or outstanding, under its id. -/
def Holds (o : Order) (t : State) : Prop :=
  ∃ x ∈ (t.unit o.address).outstanding ++ (t.unit o.address).waiting,
    x.id = o.id ∧ x.body = o.body ∧ x.issuer = o.issuer ∧ x.deadline = o.deadline

/-! ## Requests and their replies -/

/-- No step of the current boundary is owed, and the request `f`, of a kind, is the one to be taken now (R189). -/
abbrev Takes (kind : Nat) (f : HostFrame) (s : State) : Prop := s.owed = [] ∧ s.takes (fun k => decide (k = kind)) = some f

/-- The reply with a payload is made: it waits, or it is the frame being sent (R189). The request has left the buffer. -/
def Replies (f : HostFrame) (payload : List Byte) (s t : State) : Prop :=
  let r : HostFrame := { kind := replyKind f.kind, tag := f.tag, payload := payload }
  t.mp.buffer = s.mp.buffer.tail ∧ (t.mp.reply = some r ∨ t.mp.sending = some { what := .reply, frame := r })

/-- A request is refused with a result code: that code alone is the reply, and nothing but the Message Port and the queue of
notices it sends from is touched (R190). -/
def Refuses (r : Result) (f : HostFrame) (s t : State) : Prop :=
  Replies f (u8 r.code) s t ∧ KeepsBut [.mp, .notices] s t

/-- A cause of an object is on its way to the host: its notice waits in the queue with the cause in its set, or it is the
pushed notice being sent (R191, R192). -/
def Notified (c : Cause) (obj : Nat) (t : State) : Prop :=
  ∃ n : Notice, n.isFor c.cls obj = true ∧ c.within n.causes = true ∧
    (n ∈ t.nq ∨ ∃ (number : Byte) (body : List Byte), t.mp.sending =
      some { what := .pushed, frame := ⟨0x7F, number, u8 n.cls.code ++ u8 n.obj ++ u16 n.causes.toNat ++ body⟩ })

/-- The entries of a link in the plan that had no outcome have received it, the plan is DONE where every entry now has one, and the
other entries and the rest of the plan stand (R116). -/
def Decided (l : Nat) (o : EntryOutcome) (s t : State) : Prop :=
  let open_ (e : PlanEntry) : Prop := e.link = l ∧ e.outcome = none
  t.plan = { s.plan with
    state := if (∃ e ∈ s.plan.entries, open_ e) ∧ ∀ e ∈ s.plan.entries, e.outcome = none → e.link = l then .done
      else s.plan.state
    entries := s.plan.entries.map fun e => if open_ e then { e with outcome := some o } else e }

/-- A READY plan whose ground has `moved` returns to OPEN with cause INVALIDATED: its entries, margin and worst constraint stay, and
its checked generations become absent. Any other plan stands (R112). -/
def Rechecks (moved : Prop) (s t : State) : Prop :=
  (s.plan.state = .ready ∧ moved →
    t.plan = { s.plan with state := .opened, checked := none } ∧ Notified .planState 0 t ∧ Notified .planInvalidated 0 t) ∧
  (¬ (s.plan.state = .ready ∧ moved) → t.plan = s.plan)

/-- The plan was checked against another carrier_gen of band `b` than the one that stands in `t` (R112). -/
def CheckedElsewhere (b : Nat) (s t : State) : Prop :=
  ∃ gs : List (Nat × Gen), s.plan.checked = some gs ∧ ∃ g ∈ gs, g.1 = b ∧ g.2 ≠ (t.band b).carrierGen

/-- A sweep of a band is wanted; or a job of the queue will answer it, which waits, or has started on the band's counters as they
stand (R34, R56, R57). -/
def SweepAsked (b : Nat) (t : State) : Prop :=
  (t.band b).sweepWanted = true ∨ ∃ j ∈ t.pe.queue, j.kind = .spareSweep b ∧
    ∀ q, j.snap = some q → q.one.carrierGen = (t.band b).carrierGen ∧ q.one.spectrumGen = (t.band b).spectrumGen

/-! ## Constraints (chapter 3) -/

/-- A carrier comes first by step, and at one step by link number (R40, R43). -/
def Carrier.precedes (a b : Carrier) : Prop := a.step < b.step ∨ (a.step = b.step ∧ a.link < b.link)

/-- The SPACING constraint of two carriers of a band, the first of them the victim (R40). -/
def spacingOf (g : BandSnap) (a b : Carrier) : Constraint :=
  { band := g.band, kind := .spacing, margin := |(a.step : Int) - b.step| - a.hw - b.hw - g.p.gapCc
    victim := some ⟨a.step, a.link, some a.role⟩, first := some ⟨b.step, b.link, some b.role⟩
    second := none, third := none, product := 0, spread := 0 }

/-- The constraint of a kind that a carrier forms with a barred range (R41). -/
def rangeOf (g : BandSnap) (kind : ConstraintKind) (v : Carrier) (r : StepRange) : Constraint :=
  { band := g.band, kind := kind
    margin := (if v.step < r.lo then (r.lo : Int) - v.step else if r.hi < v.step then (v.step : Int) - r.hi else 0) - v.hw - g.p.gapCc
    victim := some ⟨v.step, v.link, some v.role⟩, first := some ⟨r.lo, 0, none⟩, second := some ⟨r.hi, 0, none⟩
    third := none, product := 0, spread := 0 }

/-- The constraint of a kind that a victim forms with a product of two or three carriers (R42 to R44). -/
def productOf (g : BandSnap) (kind : ConstraintKind) (gap : Nat) (p : Int) (ph : Nat) (v a b : Carrier) (k : Option Carrier) :
    Constraint :=
  { band := g.band, kind := kind, margin := |(v.step : Int) - p| - v.hw - ph - gap
    victim := some ⟨v.step, v.link, some v.role⟩, first := some ⟨a.step, a.link, some a.role⟩
    second := some ⟨b.step, b.link, some b.role⟩, third := k.map fun k => ⟨k.step, k.link, some k.role⟩, product := p, spread := ph }

/-- The constraints that a set `C` of carriers forms with a band, one clause for each kind; with the override flag, the first three
kinds alone (R40 to R44, R50). -/
inductive Forms (g : BandSnap) (override : Bool) (C : Carrier → Prop) : Constraint → Prop
  | spacing (a b : Carrier) : C a → C b → a.link ≠ b.link → a.precedes b → Forms g override C (spacingOf g a b)
  | exclusion (v : Carrier) (r : StepRange) : C v → r ∈ g.exclusions → Forms g override C (rangeOf g .exclusion v r)
  | hotBin (v : Carrier) (r : StepRange) : C v → r ∈ g.hot → Forms g override C (rangeOf g .hotBin v r)
  | im3Two (a b v : Carrier) : override = false → C a → C b → C v → a.link ≠ b.link → a.link ≠ v.link → b.link ≠ v.link →
      Forms g override C (productOf g .im3Two g.p.gapIm3 (2 * a.step - b.step) (2 * a.hw + b.hw) v a b none)
  | im3Three (a b k v : Carrier) : override = false → C a → C b → C k → C v → a.precedes b → a.link ≠ b.link → a.link ≠ k.link →
      a.link ≠ v.link → b.link ≠ k.link → b.link ≠ v.link → k.link ≠ v.link →
      Forms g override C
        (productOf g .im3Three g.p.gapIm3x (a.step + b.step - k.step) (a.hw + b.hw + k.hw) v a b (some k))
  | im5Two (a b v : Carrier) : override = false → 0 < g.p.gapIm5 → C a → C b → C v → a.link ≠ b.link → a.link ≠ v.link →
      b.link ≠ v.link →
      Forms g override C (productOf g .im5Two g.p.gapIm5 (3 * a.step - 2 * b.step) (3 * a.hw + 2 * b.hw) v a b none)

/-- The final set of a band under a plan: the held carriers of links without an entry, and one CANDIDATE for each target (R51). -/
def InFinal (g : BandSnap) (es : List EntrySnap) (c : Carrier) : Prop :=
  (c ∈ g.held ∧ ∀ e ∈ es, e.link ≠ c.link) ∨
    ∃ e ∈ es, e.band = g.band ∧ e.target = some c.step ∧ c = { step := c.step, hw := e.hw, link := e.link, role := .candidate }

/-- The transitional SPACING constraints of a band under a plan: of each carrier added for a target with each held carrier of another
link (R52). -/
def Transits (g : BandSnap) (es : List EntrySnap) (x : Constraint) : Prop :=
  ∃ e ∈ es, e.band = g.band ∧ ∃ step, e.target = some step ∧
    let c : Carrier := { step := step, hw := e.hw, link := e.link, role := .candidate }
    ∃ h ∈ g.held, h.link ≠ c.link ∧ ((c.precedes h ∧ x = spacingOf g c h) ∨ (h.precedes c ∧ x = spacingOf g h c))

/-- A record is the worst of some constraints: the first of them in the order of R46, and no constraint has a lower margin; or, where
there is none, kind NONE of a band, with margin 4095 (R45 to R47). -/
def Worst (band : Nat) (forms : Constraint → Prop) (w : Constraint) : Prop :=
  ((∀ x, ¬ forms x) → w = { band := band, kind := .none, margin := 4095, victim := none, first := none, second := none,
                            third := none, product := 0, spread := 0 }) ∧
    ((∃ x, forms x) → forms w ∧ ∀ x, forms x → w.margin ≤ x.margin ∧ x.worse w = false)

/-! ## Sound states -/

/-- Every table of the state has its size (introduction, section 5.5). -/
abbrev State.shaped (s : State) : Prop :=
  s.bands.length = Config.bands ∧ s.links.length = Config.links ∧ s.units.length = 25 ∧ s.lamps.length = Config.lamps
    ∧ s.lampZones.length = Config.zones ∧ s.tr.lines.length = Config.inputs ∧ s.tr.virtuals.length = Config.inputs
    ∧ s.tr.map.length = Config.mapEntries ∧ s.tr.linkTally.length = Config.links ∧ s.tr.lampTally.length = Config.lamps
    ∧ s.tr.zones.length = Config.zones ∧ s.tk.stations.length = Config.stations ∧ s.tk.groups.length = Config.groups
    ∧ s.tk.zones.length = Config.zones ∧ s.pe.assign.length = Config.links ∧ s.pe.rescue.length = Config.links
    ∧ s.pe.query.length = Config.bands

/-- A band's lists stay within their capacities, and a defined band has a bin for each part of its scan window (R18, R25,
R32). -/
abbrev Band.bounded (k : Band) : Prop :=
  k.exclusions.length ≤ Config.exclusions ∧ k.spares.length ≤ Config.spares ∧
    (k.defined = true → k.bins.length = k.p.binCount)

/-- The queues and lists that have a capacity stay within it, and the lead stays in its range (R12, R54, R110, R177, R188). -/
abbrev State.bounded (s : State) : Prop :=
  s.pe.queue.length ≤ Config.jobs ∧ s.mp.buffer.length ≤ Config.buffer ∧ s.mp.refusals.length ≤ Config.refusals
    ∧ s.tk.breaks.length ≤ Config.breaks ∧ s.plan.entries.length ≤ Config.planEntries ∧ 2 ≤ s.ftb.lead ∧ s.ftb.lead ≤ 50
    ∧ ∀ k ∈ s.bands, k.bounded

/-- The Notice Queue holds at most one notice for each class and object (R191). -/
abbrev State.noticesSingle (s : State) : Prop := (s.nq.map fun n => (n.cls, n.obj)).Nodup

/-- A unit's lists stay within their capacities, and its outstanding orders carry different numbers, none of them the next
(R126, R127). -/
abbrev UnitRec.sound (u : UnitRec) : Prop :=
  u.outstanding.length ≤ Config.outstanding ∧ u.waiting.length ≤ Config.waiting
    ∧ (u.outstanding.map Order.number).Nodup ∧ none ∉ u.outstanding.map Order.number
    ∧ some u.nextNumber ∉ u.outstanding.map Order.number

/-- Every order that a unit holds, outstanding or waiting. -/
def UnitRec.orders (u : UnitRec) : List Order := u.outstanding ++ u.waiting

/-- Every unit record is sound and holds orders for that unit alone, and all orders have different ids, which they and the
links' tally orders took before the next. -/
abbrev State.unitsSound (s : State) : Prop :=
  (∀ u ∈ s.units, u.sound) ∧ (∀ a ∈ unitAddresses, ∀ o ∈ (s.unit a).orders, o.address = a)
    ∧ ((s.units.flatMap UnitRec.orders).map Order.id).Nodup ∧ (∀ o ∈ s.units.flatMap UnitRec.orders, o.id < s.nextOrderId)
    ∧ ∀ k ∈ s.links, k.tallyOrder.all (fun x => decide (x.id < s.nextOrderId)) = true

/-- The count of good periods that each reference state allows (R14). -/
def RefState.allows (n : Nat) : RefState → Bool
  | .absent | .holdover => decide (n = 0)
  | .locking => decide (n ≤ 7)
  | .locked => decide (n = 8)

/-- The reference state, its count, the kept periods and the timer agree (R2, R3, R14). -/
abbrev State.timebaseSound (s : State) : Prop :=
  s.ftb.refState.allows s.ftb.goodCount = true ∧ s.ftb.rate.good s.ftb.goodPeriod = true ∧ s.ftb.measuredPeriod ≤ 1000000
    ∧ (s.ftb.refState ≠ .locked → s.ftb.nextInternal.isSome = true)

/-- The fields of a link record agree with its kind and state (R22, R72, R80, R145). -/
abbrev Link.sound (k : Link) : Prop :=
  (k.cfg.kind = none ↔ k.state = .vacant) ∧ (k.assigned.isSome = true ↔ k.state ≠ .vacant ∧ k.state ≠ .idle)
    ∧ (k.pending.isSome = true ↔ k.state = .retuning) ∧ (k.lostCause.isSome = true ↔ k.state = .lost)
    ∧ (k.rescue ≠ .none → k.state = .fading) ∧ (k.fadeTimer ≠ 0 → k.state = .fading)
    ∧ k.fadeTimer ≤ k.cfg.fadeLimit ∧ k.silenceCounter ≤ k.cfg.silenceLimit
    ∧ (k.delivered.isSome = true ∨ k.tallyOrder.isSome = true → k.cfg.kind = some .camera)

/-- Every link record is sound. -/
abbrev State.linksSound (s : State) : Prop := ∀ k ∈ s.links, k.sound

/-- The route table in itself: at most 64 routes, no pair twice, at most 4 LIVE routes to a destination, and each with a holder
(R170, R171); and no station's priority above 7 (R164). -/
abbrev State.routesSound (s : State) : Prop :=
  s.tk.routes.length ≤ Config.routes ∧ (s.tk.routes.map fun r => (r.source, r.destination)).Nodup
    ∧ (∀ r ∈ s.tk.routes, 1 ≤ r.holders ∧ (liveTo r.destination s.tk.routes).length ≤ Config.slots)
    ∧ ∀ x ∈ s.tk.stations, x.priority ≤ 7

/-- The route table against the rest of the part: empty in STANDBY (R184), and no LIVE route has a reason to be suspended
(R173). -/
abbrev State.routesMayTalk (s : State) : Prop :=
  (s.mode = .standby → s.tk.routes = []) ∧ ∀ r ∈ s.tk.routes, r.live = true →
    s.zoneCuts r.destination = false ∧ s.linkDown r.source = false ∧ s.linkDown r.destination = false

/-- The number of talking keys of station `a` that cover destination `d` (R171). -/
def State.talkers (s : State) (a d : Nat) : Nat :=
  (s.station a).keys.countP fun k => k.state.talking && s.covers a k d

/-- The holders of the route from `a` to `d`: none where there is no route (R171). -/
def State.holdersOf (s : State) (a d : Nat) : Nat := ((s.tk.routes.find? (Route.joins a d)).map Route.holders).getD 0

/-- Every pair's route has as many holders as its source has talking keys that cover its destination (R171): routes join stations of
the part, a station's keys have different numbers, and in STANDBY every key is OFF (R184). -/
abbrev State.holdersCounted (s : State) : Prop :=
  (∀ a ∈ oneUpTo Config.stations, ∀ d ∈ oneUpTo Config.stations, s.holdersOf a d = s.talkers a d)
    ∧ (∀ r ∈ s.tk.routes, r.source ∈ oneUpTo Config.stations ∧ r.destination ∈ oneUpTo Config.stations)
    ∧ (∀ x ∈ s.tk.stations, (x.keys.map Key.number).Nodup)
    ∧ (s.mode = .standby → ∀ x ∈ s.tk.stations, ∀ k ∈ x.keys, k.state = .off)

/-- The source and the destination of a route have no reason to suspend it (R173). -/
abbrev State.mayRun (s : State) (r : Route) : Prop :=
  s.zoneCuts r.destination = false ∧ s.linkDown r.source = false ∧ s.linkDown r.destination = false

/-- Of two routes to one destination, the first comes before the second in the arbiter: by the higher source priority; at one priority a
LIVE route before a WAITING one, since equal priority never preempts; and else the older, which is granted first and preempted last
(R174). `i` and `j` are their stamps. -/
abbrev State.outranks (s : State) (x : Route) (i : Nat) (r : Route) (j : Nat) : Prop :=
  let p := (s.station x.source).priority
  let q := (s.station r.source).priority
  q < p ∨ (p = q ∧ ((x.live = true ∧ r.live = false) ∨ (x.live = r.live ∧ i < j)))

/-- The route table at rest, by itself: a LIVE route has no reason; a WAITING one has the suspension reasons that stand, or else
NO_SLOT alone, and then all 4 slots of its destination are taken, none by a source of lower priority (R170, R173, R174). -/
abbrev State.slotsRight (s : State) : Prop :=
  ∀ r ∈ s.tk.routes, 1 ≤ r.destination → r.destination ≤ 24 →
    (r.live = true → r.onAir = false ∧ r.linkDown = false ∧ r.noSlot = false) ∧
    (r.live = false → r.onAir = s.zoneCuts r.destination ∧ r.linkDown = (s.linkDown r.source || s.linkDown r.destination) ∧
      r.noSlot = (!r.onAir && !r.linkDown)) ∧
    (r.live = false → s.mayRun r →
      (s.tk.routes.filter fun v => decide (v.destination = r.destination) && v.live).length = 4 ∧
      ∀ v ∈ s.tk.routes, v.destination = r.destination → v.live = true →
        (s.station r.source).priority ≤ (s.station v.source).priority)

/-- The Talk Router is at rest: every route has the reasons that now stand, and every destination is settled (R173 to R175). -/
abbrev State.talkSettled (s : State) : Prop := s.resettle = s

end Sys2Proof.Machine
end

