-- ==== Sys2Proof/Certificates/Slice0/Obligations.lean ====
section
/-! DEFINITION. The statements for the provers: what the commands of the part do, what they leave, and what every step keeps.
A statement about a command holds of every state its hypotheses admit. `Reaches c s P` says that command `c` answers a next state
in state `s`, with property `P`; `KeepsBut ps s t` is the frame: every part of the state outside `ps` is the same. -/

open Sys2Proof Sys2Proof.Machine

/-! ## The machine -/

/-- The step takes the command at the front of the queue and runs it with the queue's rest; with none waiting, the part idles.
That the part idles is the model's choice (log entry 2). -/
def Obligations.StepTakesFront : Prop :=
  (∀ (s : State) (c : Instr) (rest : List Instr), s.pending = c :: rest → step s = exec c { s with pending := rest }) ∧
    ∀ s : State, s.pending = [] → step s = .next s

/-- No command stops the part, in any state, and none touches the queue of commands. That a command which is not enabled still answers
a next state, and that waiting commands outlast COLD_RESET, are the model's choices (log entries 14 and 1). -/
def Obligations.EveryCommandCompletes : Prop :=
  ∀ (c : Instr) (s : State), Reaches c s fun t => t.pending = s.pending

/-- A command that comes after the steps of the current boundary acts as on the state in which all of them have been taken, and
none is then owed. The order of those steps is the model's choice (log entry 3). -/
def Obligations.BoundaryStepsComeFirst : Prop :=
  ∀ (c : Instr) (s : State), settles c = true → (settleOwed s).owed = [] ∧ exec c s = exec c (settleOwed s)

/-- The timebase changes only at a pulse, the internal timer, the watchdog, TB_CONFIGURE and cold reset; and the frame counter
advances by one, modulo 2³², or stands, but for cold reset, which sets it to 0 (R9). -/
def Obligations.CounterAdvancesByOne : Prop :=
  ∀ s t : State, step s = .next t →
    (t.ftb = s.ftb ∨ ∃ (c : Instr) (rest : List Instr), s.pending = c :: rest ∧ movesTimebase c = true) ∧
    (t.ftb.counter = s.ftb.counter ∨ t.ftb.counter = s.ftb.counter + 1 ∨
      ∃ (straps : BitVec 3) (rest : List Instr), s.pending = .coldReset straps :: rest ∧ t.ftb.counter = 0)

/-- The state after cold reset, whatever the straps, is sound in every way that the statements below say a step keeps. -/
def Obligations.ResetIsSound : Prop :=
  ∀ straps : BitVec 3,
    (State.cold straps).shaped ∧ (State.cold straps).bounded ∧ (State.cold straps).noticesSingle ∧
    (State.cold straps).unitsSound ∧ (State.cold straps).timebaseSound ∧ (State.cold straps).linksSound ∧
    (State.cold straps).routesSound ∧ (State.cold straps).routesMayTalk ∧ (State.cold straps).talkSettled ∧
    (State.cold straps).holdersCounted

/-- Every step keeps the size of every table, the capacity of every queue and list, and a bin for each part of a defined band's
scan window (R12, R18, R25, R32, R54, R110, R177, R188). -/
def Obligations.StepKeepsTables : Prop :=
  ∀ s t : State, s.shaped → s.bounded → step s = .next t → t.shaped ∧ t.bounded

/-- The notice queue holds at most one notice per class and object, before and after every step (R191). -/
def Obligations.StepKeepsNoticesSingle : Prop := ∀ s t : State, s.noticesSingle → step s = .next t → t.noticesSingle

/-- A unit's orders never outgrow its lists, and its outstanding orders always carry different numbers (R126, R127); every order is
held by its own unit, under an id that no other order has or has had. -/
def Obligations.StepKeepsUnitsSound : Prop := ∀ s t : State, s.unitsSound → step s = .next t → t.unitsSound

/-- The count of good periods is 8 in LOCKED, 0 to 7 in LOCKING and 0 in ABSENT and HOLDOVER; good_period is good at the rate in
force; and the internal timer runs but in LOCKED (R2, R3, R14). -/
def Obligations.StepKeepsTimebaseSound : Prop := ∀ s t : State, s.timebaseSound → step s = .next t → t.timebaseSound

/-- A link holds an assigned step in every state but VACANT and IDLE and a pending step in RETUNING alone; its rescue status and
fade timer stand at rest outside FADING; its lost_cause is present in LOST alone; and only a CAMERA link has a delivered word or
a tally order (R22, R72, R80, R145). -/
def Obligations.StepKeepsLinksSound : Prop := ∀ s t : State, s.linksSound → step s = .next t → t.linksSound

/-- The route table holds at most 64 routes, no two of one pair, each with a holder, and no destination has more than 4 LIVE
routes (R170, R171). -/
def Obligations.StepKeepsRoutesSound : Prop := ∀ s t : State, s.routesSound → step s = .next t → t.routesSound

/-- A route is LIVE only while nothing suspends it, no route stands in STANDBY, and every destination is settled again at the
end of every step: a WAITING route has the suspension reasons that stand, or else NO_SLOT alone, and it then waits because 4 LIVE
routes stand to its destination, none of a lower source priority. Settling keeps every route and its stamp, and gives the slots of a
destination to the first 4 of its unsuspended routes: by source priority, at one priority those LIVE before, and else the oldest (R170,
R173 to R175, R184). The holders of every pair's route are the talking keys of its source that cover its destination, before and after
every step (R171). That a suspended route carries no NO_SLOT is the model's choice (log entry 55). -/
def Obligations.StepKeepsTalkSettled : Prop :=
  (∀ s t : State, s.routesSound → s.routesMayTalk → s.talkSettled → step s = .next t →
    t.routesMayTalk ∧ t.talkSettled ∧ t.slotsRight) ∧
    (∀ s : State, s.routesSound → s.resettle.slotsRight ∧
      ∀ (i : Nat) (r : Route), s.tk.routes[i]? = some r → 1 ≤ r.destination → r.destination ≤ 24 →
        ∃ r', s.resettle.tk.routes[i]? = some r' ∧ r'.source = r.source ∧ r'.destination = r.destination ∧ r'.holders = r.holders ∧
          (r'.live = true ↔ s.mayRun r ∧ (s.tk.routes.zipIdx.countP fun (x, j) =>
            decide (x.destination = r.destination ∧ s.mayRun x ∧ s.outranks x j r i)) < 4)) ∧
    ∀ s t : State, s.shaped → s.routesSound → s.holdersCounted → step s = .next t → t.holdersCounted

/-! ## Steps that fall due at a boundary -/

/-- SILENCE_EXPIRY and LINK_FORCE_SILENCE: a link in a counted state enters LOST with cause SILENT on its assigned carrier; from
RETUNING the pending carrier is released, and from RETUNING and REVERTING the move is abandoned, with plan outcome LOST (R82, R83,
R84, R108, R116). Any other link refuses LINK_FORCE_SILENCE. -/
def Obligations.SilenceMakesLost : Prop :=
  ∀ (s : State) (l : Nat), s.shaped →
    let k := s.link l
    let moving := k.state = .retuning ∨ k.state = .reverting
    let lost (t : State) : Prop :=
      (t.link l).state = .lost ∧ (t.link l).lostCause = some .silent ∧ (t.link l).assigned = k.assigned ∧
      (t.link l).silenceCounter = 0 ∧ (moving → (t.link l).pending = none ∧ (t.link l).origin = none ∧
        (t.link l).effectiveFrame = none ∧ (t.link l).deadline = none) ∧
      Notified .linkState l t ∧ LinkAlone l s t ∧
      CarrierChanges k.cfg.band (if k.state = .retuning then 1 else 0) s t ∧
      (moving → k.origin = some .plan → s.plan.state = .applying → Decided l .lost s t) ∧
      (¬ moving ∨ k.origin ≠ some .plan ∨ s.plan.state ≠ .applying → t.plan.entries = s.plan.entries ∧
        (k.state ≠ .retuning ∨ s.plan.state ≠ .ready → t.plan = s.plan))
    (1 ≤ l → l ≤ 48 → k.state.counted = true → 1 ≤ k.cfg.band → k.cfg.band ≤ 4 →
      (Due (.silence l) s → s.mode = .run → k.silenceCounter = 0 →
        Reaches (.silenceExpiry l) s fun t => lost t ∧ KeepsBut (.links :: .bands :: .plan :: .owed :: tailParts) s t) ∧
      ∀ f : HostFrame, Takes 0x25 f s → readOne f.payload = some l →
        Reaches .linkForceSilence s fun t =>
          lost t ∧ Replies f (u8 Result.ok.code ++ u8 LinkState.lost.code) s t ∧
            KeepsBut (.links :: .bands :: .plan :: tailParts) s t) ∧
    ∀ f : HostFrame, Takes 0x25 f s →
      (readOne f.payload = some l → 1 ≤ l → l ≤ 48 → k.state.counted = false →
        Reaches .linkForceSilence s (Refuses .wrongState f s)) ∧
      (readOne f.payload = none ∨ (readOne f.payload = some l ∧ (l = 0 ∨ 48 < l)) →
        Reaches .linkForceSilence s (Refuses .badArgument f s))

/-- ACQUIRE_DEADLINE and REVERT_DEADLINE: at its deadline a link still ACQUIRING enters LOST with cause NO_LOCK, and one still
REVERTING with cause REVERT_FAILED and plan outcome LOST; each keeps its assigned carrier, and no carrier changes (R88, R107). -/
def Obligations.DeadlineMakesLost : Prop :=
  ∀ (s : State) (l : Nat), s.shaped → 1 ≤ l → l ≤ 48 → s.mode = .run → (s.link l).deadline = some s.now →
    (Due (.acquire l) s → (s.link l).state = .acquiring →
      Reaches (.acquireDeadline l) s fun t =>
        (t.link l).state = .lost ∧ (t.link l).lostCause = some .noLock ∧ (t.link l).assigned = (s.link l).assigned ∧
        Notified .linkState l t ∧ LinkAlone l s t ∧ KeepsBut (.links :: .owed :: tailParts) s t) ∧
    (Due (.revert l) s → (s.link l).state = .reverting →
      Reaches (.revertDeadline l) s fun t =>
        (t.link l).state = .lost ∧ (t.link l).lostCause = some .revertFailed ∧ (t.link l).assigned = (s.link l).assigned ∧
        (t.link l).origin = none ∧ (t.link l).effectiveFrame = none ∧ (t.link l).deadline = none ∧
        Notified .linkState l t ∧ LinkAlone l s t ∧
        ((s.link l).origin = some .plan → s.plan.state = .applying → Decided l .lost s t) ∧
        ((s.link l).origin ≠ some .plan ∨ s.plan.state ≠ .applying → t.plan = s.plan) ∧
        KeepsBut (.links :: .plan :: .owed :: tailParts) s t)

/-- RETUNE_DEADLINE: a link still RETUNING at its deadline reverts: its pending carrier is released, a TUNE to the assigned step
goes out with a new effective frame, and it enters REVERTING with its origin kept (R104, R105). -/
def Obligations.RetuneDeadlineReverts : Prop :=
  ∀ (s : State) (l : Nat), s.shaped → 1 ≤ l → l ≤ 48 → s.mode = .run → Due (.retune l) s →
    (s.link l).state = .retuning → (s.link l).deadline = some s.now → 1 ≤ (s.link l).cfg.band → (s.link l).cfg.band ≤ 4 →
    1 ≤ (s.link l).cfg.unit → (s.link l).cfg.unit ≤ 24 →
    let k := s.link l
    let e := framePlus s.now s.ftb.lead
    Reaches (.retuneDeadline l) s fun t =>
      (t.link l).state = .reverting ∧ (t.link l).pending = none ∧ (t.link l).assigned = k.assigned ∧
      (t.link l).origin = k.origin ∧ (t.link l).effectiveFrame = some e ∧
      (t.link l).deadline = some (framePlus e k.cfg.confirmWindow) ∧
      Notified .linkState l t ∧ LinkAlone l s t ∧ CarrierChanges k.cfg.band 1 s t ∧
      (Ordered k.cfg.unit (.tune k.cfg.channel ((s.band k.cfg.band).p.baseKhz + 25 * k.assigned.getD 0) e) (.rcRevert l) s t
        ∨ s.unitFull k.cfg.unit) ∧
      KeepsBut (.links :: .bands :: .plan :: .owed :: tailParts) s t

/-- VACATE_EFFECTIVE: at the plan's effective frame the PARKED link of a vacate entry gives up its carrier and enters IDLE, and
the entry is VACATED (R115, R116). -/
def Obligations.VacateTakesEffect : Prop :=
  ∀ (s : State) (l : Nat), s.shaped → 1 ≤ l → l ≤ 48 → Due (.vacate l) s → s.plan.state = .applying →
    s.plan.effective = some s.now → (s.link l).state = .parked →
    (∃ e ∈ s.plan.entries, e.link = l ∧ e.target = none ∧ e.outcome = none) →
    1 ≤ (s.link l).cfg.band → (s.link l).cfg.band ≤ 4 →
    Reaches (.vacateEffective l) s fun t =>
      (t.link l).state = .idle ∧ (t.link l).assigned = none ∧ Notified .linkState l t ∧ Notified .planOutcome 0 t ∧
      LinkAlone l s t ∧ CarrierChanges (s.link l).cfg.band 1 s t ∧
      t.plan.entries = s.plan.entries.map (fun e =>
        if e.link = l ∧ e.outcome = none then { e with outcome := some .vacated } else e) ∧
      (t.plan.state = .done ↔ ∀ e ∈ s.plan.entries, e.outcome = none → e.link = l) ∧
      KeepsBut (.links :: .bands :: .plan :: .owed :: tailParts) s t

/-- ORDER_EXPIRY: every order of the unit whose deadline is this frame leaves both lists, and no waiting order due now is sent; each
place so freed is granted in turn to the oldest waiting order that is no TALLY, or else to the oldest TALLY, and the first of them takes
the unit's next number; every other order that nothing displaces stays, in this unit and in every other; and each failure is told: a
MUTE's by a LINK notice and, while the link is PARKED, by a MUTE at the next boundary, the TUNE of a retune in flight by a revert, a
TALLY's and a TALK_LAMP's by a retry, a make's by its FAILED route and a STATION notice, a break's by its pair without an order, a DIM's
by its retry, and a SCAN_ASSIGN's by the same order at the next boundary (R28, R94, R103, R115, R128, R130, R147, R176 to R178, R180).
The model's choices: that the orders due leave together and the places are granted before the failures are told (log entries 9 and 10);
that a MUTE is set for the next boundary where the link stands PARKED now, even if parked again since (log entry 39); and a SCAN_ASSIGN
whatever the mode (log entry 43). The premise on the lead is kept by every step. -/
def Obligations.OrdersExpire : Prop :=
  ∀ (s : State) (a : Nat), s.shaped → 2 ≤ s.ftb.lead → s.ftb.lead ≤ 50 → (1 ≤ a ∧ a ≤ 24 ∨ a = 31) → Due (.orders a) s →
    let due := fun o : Order => o ∈ (s.unit a).outstanding ++ (s.unit a).waiting ∧ o.deadline = s.now
    Reaches (.orderExpiry a) s fun t =>
      (∀ o ∈ (t.unit a).outstanding ++ (t.unit a).waiting, o.deadline ≠ s.now) ∧
      (∀ (b : Nat) (o : Order), o ∈ (s.unit b).outstanding ++ (s.unit b).waiting → o.address = b → o.displaceable = false →
        (b ≠ a ∨ o.deadline ≠ s.now) → Holds o t) ∧
      (∀ (o : Order) (l : Nat), due o → o.issuer = .lsPark l ∨ o.issuer = .lsRelease l ∨ o.issuer = .rcVacate l →
        Notified .linkMuteFailed l t) ∧
      (∀ l, 1 ≤ l → l ≤ 48 → (s.link l).state = .parked →
        let failed := ((s.unit a).outstanding ++ (s.unit a).waiting).countP fun o =>
          decide (o.deadline = s.now ∧ o.issuer = .lsPark l)
        (t.link l).muteReissue = (s.link l).muteReissue ++ List.replicate failed (framePlus s.now 1)) ∧
      (∀ (o : Order) (l : Nat), due o → 1 ≤ l → l ≤ 48 → o.issuer = .rcRetune l → (s.link l).state = .retuning →
        (s.link l).moveOrder = some o.id → (t.link l).state = .reverting) ∧
      (∀ (o : Order) (l : Nat) (x : TallyOrder), due o → o.issuer = .tr l → (s.link l).tallyOrder = some x → x.id = o.id →
        (t.link l).tallyOrder = none ∧ (t.link l).retryAt = some (framePlus x.issueFrame 4)) ∧
      (∀ (o : Order) (y : Nat) (lit : LampContents), due o → o.issuer = .tkLamp y → (s.station y).lampOrder = some (o.id, lit) →
        (t.station y).lampOrder = none ∧ (t.station y).lampRetry = some (framePlus s.now 1)) ∧
      (∀ (o : Order) (r : Route), s.talkSettled → s.routesSound → due o → o.issuer = .tkMake r.source r.destination →
        r ∈ s.tk.routes → r.live = true → r.makeOrder = some o.id →
        { r with make := some .failed } ∈ t.tk.routes ∧ Notified .stationMatrixFailed r.destination t) ∧
      (∀ (o : Order) (b : Break), s.talkSettled → s.routesSound → due o → o.issuer = .tkBreak b.source b.destination →
        b ∈ s.tk.breaks → b.order = some o.id → { b with order := none } ∈ t.tk.breaks) ∧
      (∀ (o : Order) (y : Nat), s.talkSettled → s.routesSound → due o → o.issuer = .tkDim y →
        (s.station y).dimOrder = some o.id → (t.station y).dimRetry = true) ∧
      (∀ (o : Order) (b c khz width n : Nat), due o → 1 ≤ b → b ≤ 4 → o.issuer = .st b → o.body = .scanAssign c khz width n →
        (framePlus s.now 1, (⟨o.address, khz, width, n⟩ : ScanOrder)) ∈ (t.band b).scanReissue) ∧
      (s.unitsSound →
        let u := s.unit a
        let stay := u.waiting.filter fun o => decide (o.deadline ≠ s.now)
        let freed := u.outstanding.countP fun o => decide (o.deadline = s.now)
        let granted := (stay.filter (fun o => !o.isTally) ++ stay.filter Order.isTally).take freed
        let quiet := s.talkSettled ∧ ∀ (o : Order) (l : Nat), due o → o.issuer ≠ .rcRetune l
        (∀ o ∈ granted, o.displaceable = false ∨ quiet → ∃ n : Byte, { o with number := some n } ∈ (t.unit a).outstanding) ∧
        (∀ o, granted.head? = some o → o.displaceable = false ∨ quiet →
          { o with number := some u.nextNumber } ∈ (t.unit a).outstanding) ∧
        (∀ o ∈ stay, o ∉ granted → o ∈ (t.unit a).waiting) ∧
        (quiet → (t.unit a).waiting = stay.filter (fun o => decide (o ∉ granted)) ∧ (t.unit a).outstanding.map Order.id =
          ((u.outstanding.filter fun o => decide (o.deadline ≠ s.now)) ++ granted).map Order.id)) ∧
      KeepsBut (.links :: .bands :: .plan :: .owed :: tailParts) s t

/-- TALLY_RETRY and LAMP_RETRY: the retry ends; where the test then holds, one new order goes out with the word or the contents
as they now stand, and is recorded, or it overflows and the next retry is set (R147, R180). -/
def Obligations.RetryHoldsEnd : Prop :=
  (∀ (s : State) (l : Nat), s.shaped → s.talkSettled → 1 ≤ l → l ≤ 48 → 1 ≤ (s.link l).cfg.unit → (s.link l).cfg.unit ≤ 24 →
    Due (.tallyRetry l) s → (s.link l).retryAt = some s.now →
    let k := s.link l
    let wants := k.cfg.kind = some .camera ∧ (k.state = .locked ∨ k.state = .fading) ∧ k.tallyOrder = none ∧
      k.delivered ≠ some k.wanted
    Reaches (.tallyRetry l) s fun t =>
      (¬ wants → (t.link l).retryAt = none ∧ (t.link l).tallyOrder = k.tallyOrder ∧ t.units = s.units) ∧
      (wants → ((t.link l).retryAt = none ∧
          (t.link l).tallyOrder = some { id := s.nextOrderId, word := k.wanted, issueFrame := s.now } ∧
          Ordered k.cfg.unit (.tally k.cfg.channel k.wanted) (.tr l) s t) ∨
        (s.unitFull k.cfg.unit ∧ (t.link l).tallyOrder = none ∧ (t.link l).retryAt = some (framePlus s.now 4))) ∧
      (t.link l).delivered = k.delivered ∧ (t.link l).wanted = k.wanted ∧
      (∀ n, n ≠ l → (t.link n).tallyFields = (s.link n).tallyFields) ∧ KeepsBut (.owed :: tailParts) s t) ∧
  ∀ (s : State) (x : Nat), s.shaped → s.talkSettled → 1 ≤ x → x ≤ 24 → Due (.lampRetry x) s →
    (s.station x).lampRetry = some s.now →
    let k := s.station x
    let wants := k.kind = some .linked ∧ (∃ l, k.link = some l ∧ ((s.link l).state = .locked ∨ (s.link l).state = .fading)) ∧
      k.lampOrder = none ∧ k.lampAcked ≠ some (s.lampContents x)
    Reaches (.lampRetry x) s fun t =>
      (¬ wants → (t.station x).lampRetry = none ∧ (t.station x).lampOrder = k.lampOrder ∧ t.units = s.units) ∧
      (∀ l, wants → k.link = some l → 1 ≤ (s.link l).cfg.unit → (s.link l).cfg.unit ≤ 24 →
        ((t.station x).lampRetry = none ∧ (t.station x).lampOrder = some (s.nextOrderId, s.lampContents x) ∧
          Ordered (s.link l).cfg.unit (.talkLamp (s.link l).cfg.channel (s.lampContents x)) (.tkLamp x) s t) ∨
        (s.unitFull (s.link l).cfg.unit ∧ (t.station x).lampOrder = none ∧
          (t.station x).lampRetry = some (framePlus s.now 1))) ∧
      (t.station x).lampAcked = k.lampAcked ∧ t.tk.routes = s.tk.routes ∧ KeepsBut (.owed :: tailParts) s t

/-- TAP_DEADLINE and CALL_PULSE_END: a key still TAPPING becomes HELD and no route changes; a pulse ends, and CALL leaves the
wanted word of every link that names the station (R144, R168, R169). -/
def Obligations.KeyDeadlinesCome : Prop :=
  (∀ (s : State) (x n : Nat) (k : Key), s.shaped → s.talkSettled → 1 ≤ x → x ≤ 24 → s.mode = .run → Due (.tap x n) s →
    (s.station x).key n = some k → k.state = .tapping → k.tapDeadline = some s.now →
    Reaches (.tapDeadline x n) s fun t =>
      (t.station x).key n = some { k with state := .held, tapDeadline := none } ∧
      (∀ m, m ≠ n → (t.station x).key m = (s.station x).key m) ∧ (∀ y, y ≠ x → (t.station y).keys = (s.station y).keys) ∧
      t.tk.routes = s.tk.routes ∧ KeepsBut (.owed :: tailParts) s t) ∧
  ∀ (s : State) (x : Nat), s.shaped → 1 ≤ x → x ≤ 24 → s.mode = .run → Due (.pulse x) s →
    (s.station x).pulseEnd = some s.now →
    Reaches (.callPulseEnd x) s fun t =>
      (t.station x).pulseEnd = none ∧ (∀ y, y ≠ x → (t.station y).pulseEnd = (s.station y).pulseEnd) ∧
      (∀ l, 1 ≤ l → l ≤ 48 → (t.link l).wanted = if (s.link l).cfg.station = some x
        then { tally := slot .off s.tr.linkTally l, call := false } else (s.link l).wanted) ∧
      KeepsBut (.owed :: tailParts) s t

/-- SCAN_ASSIGN_REISSUE and MUTE_REISSUE: each failed order is issued again where its conditions still hold, a SCAN_ASSIGN as the same
order, a MUTE with a new effective frame, and otherwise the re-issue lapses; an order that overflows is set for the next boundary (R28,
R94). That the conditions of a SCAN_ASSIGN are tested at the boundary alone, and that a MUTE is issued again to a link which left PARKED
and was parked again, are the model's choices (log entries 43 and 39). -/
def Obligations.FailedOrdersIssuedAgain : Prop :=
  (∀ (s : State) (b : Nat), s.shaped → 1 ≤ b → b ≤ 4 → Due (.scan b) s →
    let k := s.band b
    let later := framePlus s.now 1
    let due (x : ScanOrder) := (s.now, x) ∈ k.scanReissue
    let count := k.scanReissue.countP fun y => decide (y.1 = s.now)
    let may (x : ScanOrder) := s.mode = .run ∧ k.defined = true ∧ k.p.scanUnit = some x.unit
    Reaches (.scanAssignReissue b) s fun t =>
      (∀ x, due x → may x → 1 ≤ x.unit → x.unit ≤ 24 →
        Ordered x.unit (.scanAssign b x.startKhz x.widthKhz x.count) (.st b) s t ∨
          ((later, x) ∈ (t.band b).scanReissue ∧ 32 < (s.unit x.unit).waiting.length + count)) ∧
      (∀ y ∈ k.scanReissue, y.1 ≠ s.now → y ∈ (t.band b).scanReissue) ∧
      (∀ y ∈ (t.band b).scanReissue, (y ∈ k.scanReissue ∧ y.1 ≠ s.now) ∨ (y.1 = later ∧ due y.2 ∧ may y.2)) ∧
      ({ t.band b with scanReissue := [] }).core = ({ k with scanReissue := [] }).core ∧
      BandAlone b s t ∧ KeepsBut (.bands :: .owed :: tailParts) s t) ∧
  ∀ (s : State) (l : Nat), s.shaped → 1 ≤ l → l ≤ 48 → 1 ≤ (s.link l).cfg.unit → (s.link l).cfg.unit ≤ 24 → Due (.mute l) s →
    let k := s.link l
    let u := s.unit k.cfg.unit
    let due := k.muteReissue.count s.now
    let rest := k.muteReissue.filter fun e => decide (e ≠ s.now)
    let body : OrderBody := .mute k.cfg.channel (framePlus s.now s.ftb.lead)
    let held (x : State) : Nat := (x.unit k.cfg.unit).orders.countP fun o => decide (o.issuer = .lsPark l ∧ o.body = body)
    let waits (es : List FrameNo) (t : State) : Prop := (t.link l).core = ({ k with muteReissue := es }).core
    Reaches (.muteReissue l) s fun t =>
      (k.state = .parked → ∃ lost, lost ≤ due ∧ waits (rest ++ List.replicate lost (framePlus s.now 1)) t ∧
        held t = held s + (due - lost) ∧ (lost < due → Ordered k.cfg.unit body (.lsPark l) s t) ∧
        (0 < lost → 8 < u.outstanding.length + due ∧ 32 < u.waiting.length + due ∧ Notified .linkMuteFailed l t)) ∧
      (k.state ≠ .parked → waits rest t ∧ held t = held s) ∧ LinkAlone l s t ∧ KeepsBut (.links :: .owed :: tailParts) s t

/-- FADE_TIMER_LIMIT: a FADING link at its limit whose rescue status is NONE is wanted for rescue where auto_rescue is on and its
band is not frozen, and becomes a pick at once where the queue has room, holds no pick of it and no other link is wanted; where a
condition fails, nothing changes (R57, R80). -/
def Obligations.FadeLimitWantsRescue : Prop :=
  ∀ (s : State) (l : Nat), s.shaped → 1 ≤ l → l ≤ 48 → s.mode = .run → Due (.fade l) s →
    let k := s.link l
    let wants := k.state = .fading ∧ k.fadeTimer = k.cfg.fadeLimit ∧ k.cfg.autoRescue = true ∧
      (s.band k.cfg.band).frozen = false ∧ k.rescue = .none
    Reaches (.fadeTimerLimit l) s fun t =>
      (wants → (t.link l).rescue = .wanted ∨ (t.link l).rescue = .picking ∧ t.hasJob (JobKind.isPickOf l) = true) ∧
      (wants → s.pe.queue.length < 8 → (∀ n, (s.link n).rescue ≠ .wanted) → s.hasJob (JobKind.isPickOf l) = false →
        (t.link l).rescue = .picking ∧ t.hasJob (JobKind.isPickOf l) = true) ∧
      (¬ wants → k.rescue ≠ .wanted → (t.link l).rescue = k.rescue) ∧ KeepsBut (.owed :: tailParts) s t

/-! ## Pulses, the internal timer and boundaries -/

/-- REF_PULSE before lock: a pulse in ABSENT or HOLDOVER enters LOCKING with count 0; in LOCKING a good period counts and is
kept, the eighth locks, a bad one sets the count to 0, and a pulse with no last pulse leaves it. No such pulse makes a boundary,
but that leaving HOLDOVER paces the timer at N from the last boundary, at once where that time has passed (R2 to R6). That a time equal
to the pulse's has not passed is the model's choice (log entry 32). -/
def Obligations.PulseBeforeLock : Prop :=
  ∀ (s : State) (time : Nat) (tkFirst : Bool), s.owed = [] →
    let measured := s.ftb.lastPulse.map fun p => min (time - p) 1000000
    let seen : Ftb := { s.ftb with measuredPeriod := measured.getD s.ftb.measuredPeriod, lastPulse := some time,
                                   lastArrival := some time }
    let n := s.ftb.rate.nominal
    (s.ftb.refState = .absent → Reaches (.refPulse time tkFirst) s fun t =>
      t.ftb = { seen with refState := .locking, goodCount := 0 } ∧ Notified .tbLocking 0 t ∧ KeepsBut (.ftb :: afterParts) s t) ∧
    (s.ftb.refState = .holdover → Reaches (.refPulse time tkFirst) s fun t =>
      Notified .tbLocking 0 t ∧
      (time ≤ s.ftb.lastBoundary + n →
        t.ftb = { seen with refState := .locking, goodCount := 0, nextInternal := some (s.ftb.lastBoundary + n) } ∧
        KeepsBut (.ftb :: afterParts) s t) ∧
      (s.ftb.lastBoundary + n < time →
        t.ftb = { seen with refState := .locking, goodCount := 0, nextInternal := some (time + n), lastBoundary := time,
                            counter := s.ftb.counter + 1 })) ∧
    (s.ftb.refState = .locking → Reaches (.refPulse time tkFirst) s fun t =>
      (measured = none → t.ftb = seen) ∧
      (∀ p, measured = some p → s.ftb.rate.good p = false → t.ftb = { seen with goodCount := 0 }) ∧
      (∀ p, measured = some p → s.ftb.rate.good p = true → s.ftb.goodCount ≠ 7 →
        t.ftb = { seen with goodPeriod := p, goodCount := s.ftb.goodCount + 1 }) ∧
      (∀ p, measured = some p → s.ftb.rate.good p = true → s.ftb.goodCount = 7 →
        t.ftb = { seen with goodPeriod := p, goodCount := 8, refState := .locked } ∧ Notified .tbLocked 0 t) ∧
      KeepsBut (.ftb :: afterParts) s t)

/-- REF_PULSE in LOCKED: a good pulse makes the boundary at its arrival, refreshes good_period and stops the internal timer; any
other moves the timebase to HOLDOVER, whose timer runs at good_period from the last boundary, at once where that time has passed
(R3, R7). That a time equal to the pulse's has not passed, and that a boundary made in the changeover delays the next, are the model's
choices (log entry 32). -/
def Obligations.PulseInLocked : Prop :=
  ∀ (s : State) (time : Nat) (tkFirst : Bool), s.owed = [] → s.ftb.refState = .locked →
    let measured := s.ftb.lastPulse.map fun p => min (time - p) 1000000
    let seen : Ftb := { s.ftb with measuredPeriod := measured.getD s.ftb.measuredPeriod, lastPulse := some time,
                                   lastArrival := some time }
    let g := s.ftb.goodPeriod
    (∀ p, measured = some p → s.ftb.rate.good p = true → Reaches (.refPulse time tkFirst) s fun t =>
      t = after (boundaryAt time tkFirst { s with ftb := { seen with goodPeriod := p, nextInternal := none } }) ∧
      t.ftb = { seen with goodPeriod := p, nextInternal := none, lastBoundary := time, counter := s.ftb.counter + 1 }) ∧
    ((∀ p, measured = some p → s.ftb.rate.good p = false) → Reaches (.refPulse time tkFirst) s fun t =>
      Notified .tbHoldover 0 t ∧
      (time ≤ s.ftb.lastBoundary + g →
        t.ftb = { seen with refState := .holdover, goodCount := 0, nextInternal := some (s.ftb.lastBoundary + g) } ∧
        KeepsBut (.ftb :: afterParts) s t) ∧
      (s.ftb.lastBoundary + g < time →
        t.ftb = { seen with refState := .holdover, goodCount := 0, nextInternal := some (time + g), lastBoundary := time,
                            counter := s.ftb.counter + 1 }))

/-- INTERNAL_TIMER_DUE: the timer makes a boundary at its due time and is next due one pacing period later: N in ABSENT and
LOCKING and in the changeover into LOCKED, good_period in HOLDOVER. In LOCKED a boundary due beyond the changeover point is
skipped, and the timer stops (R3, R6, R8). That the command has no effect where the timer does not run is the model's choice (log
entry 6). -/
def Obligations.InternalTimerMakesBoundary : Prop :=
  ∀ (s : State) (tkFirst : Bool), s.owed = [] →
    (∀ due : Nat, s.ftb.nextInternal = some due →
      let pace := if s.ftb.refState = .holdover then s.ftb.goodPeriod else s.ftb.rate.nominal
      let point := s.ftb.rate.nominal / 2 - s.ftb.rate.nominal / 200
      (s.ftb.refState ≠ .locked ∨ (∃ p, s.ftb.lastPulse = some p ∧ due ≤ p + point) →
        Reaches (.internalTimerDue tkFirst) s fun t =>
          t = after (boundaryAt due tkFirst { s with ftb := { s.ftb with nextInternal := some (due + pace) } }) ∧
          t.ftb = { s.ftb with nextInternal := some (due + pace), lastBoundary := due, counter := s.ftb.counter + 1 }) ∧
      (s.ftb.refState = .locked → (∀ p, s.ftb.lastPulse = some p → p + point < due) →
        Reaches (.internalTimerDue tkFirst) s fun t =>
          t.ftb = { s.ftb with nextInternal := none } ∧ KeepsBut (.ftb :: afterParts) s t)) ∧
    (s.ftb.nextInternal = none → Reaches (.internalTimerDue tkFirst) s (KeepsBut afterParts s))

/-- PULSE_WATCHDOG_EXPIRY, one watchdog limit after the last pulse: in LOCKING the count becomes 0 and nothing else changes; in
LOCKED the timebase enters HOLDOVER and, where a boundary is missing, makes it at once; in ABSENT and HOLDOVER it has no effect (R5,
R7, R8). -/
def Obligations.WatchdogExpires : Prop :=
  ∀ (s : State) (p : Nat) (tkFirst : Bool), s.owed = [] → s.ftb.lastPulse = some p →
    let time := p + 3 * s.ftb.rate.nominal / 2
    let g := s.ftb.goodPeriod
    let held : Ftb := { s.ftb with refState := .holdover, goodCount := 0 }
    (s.ftb.refState = .locking → Reaches (.pulseWatchdogExpiry tkFirst) s fun t =>
      t.ftb = { s.ftb with goodCount := 0 } ∧ KeepsBut (.ftb :: afterParts) s t) ∧
    (s.ftb.refState = .locked → Reaches (.pulseWatchdogExpiry tkFirst) s fun t =>
      Notified .tbHoldover 0 t ∧
      (time < s.ftb.lastBoundary + g →
        t.ftb = { held with nextInternal := some (s.ftb.lastBoundary + g) } ∧ KeepsBut (.ftb :: afterParts) s t) ∧
      (s.ftb.lastBoundary + g ≤ time →
        t.ftb = { held with nextInternal := some (time + g), lastBoundary := time, counter := s.ftb.counter + 1 })) ∧
    (s.ftb.refState = .absent ∨ s.ftb.refState = .holdover →
      Reaches (.pulseWatchdogExpiry tkFirst) s (KeepsBut afterParts s))

/-- A boundary in STANDBY: the counter advances and one FRAME_MARK goes out with its low 16 bits and the reference state; beyond
that, only the steps that act in either mode fall due: expiries, retries and re-issues (R9, R98, R124, R130, R147, R180). -/
def Obligations.BoundaryInStandby : Prop :=
  ∀ (s : State) (time : Nat) (tkFirst : Bool), s.mode = .standby →
    let t := boundaryAt time tkFirst s
    t.ftb = { s.ftb with counter := s.ftb.counter + 1, lastBoundary := time } ∧
    t.bus = [.frameMark ((s.ftb.counter + 1).setWidth 16) s.ftb.refState] ∧ KeepsBut [.ftb, .bus, .owed] s t ∧
    (∀ o ∈ t.owed, (∃ a, o = .orders a) ∨ (∃ l, o = .tallyRetry l) ∨ (∃ x, o = .lampRetry x) ∨ (∃ b, o = .scan b) ∨
      ∃ l, o = .mute l) ∧
    (∀ a, 1 ≤ a ∧ a ≤ 24 ∨ a = 31 → (.orders a ∈ t.owed ↔
      ∃ o ∈ (s.unit a).outstanding ++ (s.unit a).waiting, o.deadline = s.ftb.counter + 1)) ∧
    ∀ l, 1 ≤ l → l ≤ 48 → (.tallyRetry l ∈ t.owed ↔ (s.link l).retryAt = some (s.ftb.counter + 1))

/-- A boundary in RUN: FRAME_MARK goes out first; the snapshot is taken and the map resolved over it, and the resolution is
presented to the Talk Router and the Lamp Drivers; every lamp takes its frame step, on the tally, zone and talk state of its source,
with its cadence counted or begun afresh and its level selected; and every link's watchdog and fade timer are counted (R80, R82, R124,
R142 to R144, R150, R156 to R159). Which of the Lamp Drivers and the Talk Router acts first is given by the command
(log entry 8), for the Talk Router's work in this event: what the steps owed do to routes comes after it (log entry 52), and the
resolution comes before any call pulse's end (log entry 60). -/
def Obligations.BoundaryInRun : Prop :=
  ∀ (s : State) (time : Nat) (tkFirst : Bool), s.shaped → s.mode = .run →
    let t := boundaryAt time tkFirst s
    let shows (e : MapEntry) : Prop := some e ∈ s.tr.map ∧
      (match e.input with | .line n => (s.line n).filtered | .virt n => slot false s.tr.virtuals n) = true
    t.ftb = { s.ftb with counter := s.ftb.counter + 1, lastBoundary := time } ∧
    t.bus.head? = some (.frameMark ((s.ftb.counter + 1).setWidth 16) s.ftb.refState) ∧
    t.tr.snapLines = s.tr.lines.map LineInput.filtered ∧ t.tr.snapVirtuals = s.tr.virtuals ∧
    t.tr.snapFrame = some (s.ftb.counter + 1) ∧
    (∀ l, 1 ≤ l → l ≤ 48 →
      (slot .off t.tr.linkTally l = .program ↔ ∃ e, shows e ∧ l ∈ e.links ∧ e.program = true) ∧
      (slot .off t.tr.linkTally l = .off ↔ ¬ ∃ e, shows e ∧ l ∈ e.links) ∧
      (t.link l).wanted.tally = slot .off t.tr.linkTally l) ∧
    (∀ m, 1 ≤ m → m ≤ 16 →
      (slot .off t.tr.lampTally m = .program ↔ ∃ e, shows e ∧ m ∈ e.lamps ∧ e.program = true) ∧
      (slot .off t.tr.lampTally m = .off ↔ ¬ ∃ e, shows e ∧ m ∈ e.lamps) ∧
      (t.lamp m).heldTally = slot .off t.tr.lampTally m) ∧
    (∀ z, 1 ≤ z → z ≤ 4 →
      ((slot Zone.reset t.tr.zones z).onAir = true ↔ ∃ e, shows e ∧ e.zone = some z ∧ e.program = true) ∧
      (slot Zone.reset t.tr.zones z).speakerCut = (slot Zone.reset s.tr.zones z).speakerCut) ∧
    t.tk.zones = t.tr.zones ∧ t.lampZones = t.tr.zones.map Zone.onAir ∧
    (∀ m, 1 ≤ m → m ≤ 16 →
      let x := s.lamp m
      let y := t.lamp m
      let talk := if tkFirst then t else s
      let source : Shown := match x.cfg.source with
        | .none => .off
        | .tally => match slot .off t.tr.lampTally m with | .off => .off | .preview => .preview | .program => .program
        | .zone z => if slot false t.lampZones z = true then .program else .off
        | .talk n => if (talk.station n).pulseEnd ≠ none then .call
            else if ∃ r ∈ talk.tk.routes, r.destination = n ∧ r.live = true then .talk else .off
      let c := x.cfg.cadences.at_ source
      let fresh := source ≠ x.displayed ∨ x.restart = true
      let flashes := 0 < c.onFrames ∧ 0 < c.offFrames
      y.displayed = source ∧ y.restart = false ∧
      (fresh → y.phaseOn = true ∧ y.remaining = c.onFrames) ∧
      (¬ fresh → flashes → x.remaining ≤ 1 →
        y.phaseOn = !x.phaseOn ∧ y.remaining = if x.phaseOn then c.offFrames else c.onFrames) ∧
      (¬ fresh → flashes → 1 < x.remaining → y.phaseOn = x.phaseOn ∧ y.remaining = x.remaining - 1) ∧
      (¬ fresh → ¬ flashes → y.phaseOn = x.phaseOn ∧ y.remaining = x.remaining) ∧
      y.selected = (if (c.onFrames = 0 ∧ 0 < c.offFrames) ∨ (flashes ∧ y.phaseOn = false) then 0
        else x.cfg.levels.at_ source) ∧
      y.cfg = x.cfg ∧ y.drive = x.drive ∧ y.driveInvert = x.driveInvert ∧ y.drivePeriod = x.drivePeriod) ∧
    (∀ l, 1 ≤ l → l ≤ 48 →
      (t.link l).state = (s.link l).state ∧
      (t.link l).silenceCounter = (s.link l).silenceCounter - (if (s.link l).state.counted then 1 else 0) ∧
      (t.link l).fadeTimer = (s.link l).fadeTimer + (if (s.link l).state = .fading ∧ 1 < (s.link l).silenceCounter ∧
        (s.link l).fadeTimer < (s.link l).cfg.fadeLimit then 1 else 0) ∧
      (.silence l ∈ t.owed ↔ (s.link l).state.counted = true ∧ (s.link l).silenceCounter ≤ 1)) ∧
    KeepsBut (.ftb :: .links :: .tr :: .lamps :: .lampZones :: .owed :: issueParts) s t

/-- EDGE: a sample that agrees with the filtered state sets run to 0; one that disagrees increases it, and the filter_k-th in a
row changes the filtered state, sets run to 0 and the line's edge flag, and raises the INPUT notice; in both modes, and for this
line alone (R138). -/
def Obligations.LineSampleIsFiltered : Prop :=
  ∀ (s : State) (n : Nat) (high : Bool), s.shaped → s.owed = [] → 1 ≤ n → n ≤ 32 →
    let x := s.line n
    let sample := if x.inverted then high else !high
    Reaches (.edge n high) s fun t =>
      (sample = x.filtered → t.line n = { x with run := 0 } ∧ t = kick (s.modLine n fun _ => { x with run := 0 })) ∧
      (sample ≠ x.filtered → x.run + 1 < x.filterK → t.line n = { x with run := x.run + 1 } ∧
        t = kick (s.modLine n fun _ => { x with run := x.run + 1 })) ∧
      (sample ≠ x.filtered → x.filterK ≤ x.run + 1 →
        t.line n = { x with filtered := sample, run := 0, edge := true } ∧ Notified .inputEdge 0 t) ∧
      (∀ m, m ≠ n → t.line m = s.line m) ∧ t.tr = { s.tr with lines := t.tr.lines } ∧ KeepsBut (.tr :: sendParts) s t

/-! ## The Message Port -/

/-- FRAME_GOOD: a good frame, alone or behind bytes that failed, joins the tail of the request buffer; where that holds 4, it is
answered BUSY as a refusal reply, of which 4 may wait; and past that it is dropped. Two frames behind one another are taken in turn, the
transmit path choosing between (R189). FRAME_FAILED: a length byte above 240 fails at
once, and a frame whose CRC does not match fails; with no start byte among the rest, every byte is dropped and nothing else changes.
FRAME_ABANDONED drops every byte collected (R187, R188). -/
def Obligations.FramesAreReceived : Prop :=
  (∀ (s : State) (f : HostFrame) (junk : List Byte), s.owed = [] → s.mp.rx = [] → f.payload.length ≤ 240 →
    (junk = [] ∨ ∃ n : Byte, 240 < n.toNat ∧ junk = [0x5A, n]) →
    let refusal : Refused := { kind := replyKind f.kind, tag := f.tag }
    Reaches (.frameGood (junk ++ f.bytes)) s fun t =>
      t.mp.rx = [] ∧
      (s.mp.buffer.length < 4 → t.mp.buffer = s.mp.buffer ++ [f]) ∧
      (4 ≤ s.mp.buffer.length → t.mp.buffer = s.mp.buffer) ∧
      (4 ≤ s.mp.buffer.length → s.mp.refusals.length < 4 → refusal ∈ t.mp.refusals ∨
        t.mp.sending = some { what := .refusal, frame := ⟨refusal.kind, refusal.tag, u8 Result.busy.code⟩ }) ∧
      (4 ≤ s.mp.buffer.length → 4 ≤ s.mp.refusals.length → t = kick s) ∧ KeepsBut sendParts s t) ∧
  (∀ (s : State) (f g : HostFrame), s.owed = [] → s.mp.rx = [] → f.payload.length ≤ 240 → g.payload.length ≤ 240 →
    Reaches (.frameGood f.bytes) s fun t => exec (.frameGood (f.bytes ++ g.bytes)) s = exec (.frameGood g.bytes) t) ∧
  (∀ (s : State) (n : Byte), s.owed = [] → s.mp.rx = [] → 240 < n.toNat → exec (.frameFailed [0x5A, n]) s = .next (kick s)) ∧
  (∀ (s : State) (body crc : List Byte), s.owed = [] → s.mp.rx = [] → body.length ≤ 240 → crc.length = 2 →
    ∀ kind tag : Byte,
      let covered := u8 body.length ++ [kind, tag] ++ body
      crc ≠ u16 (crc16 covered) → (0x5A : Byte) ∉ covered ++ crc →
      exec (.frameFailed (0x5A :: (covered ++ crc))) s = .next (kick s)) ∧
  ∀ s : State, s.owed = [] → exec .frameAbandoned s = .next { s with mp := { s.mp with rx := [] } }

/-- TRANSMIT_PATH_FREE: the frame being sent ends, and the path chooses: the oldest refusal reply; a fetched notice; a pushed
notice when a reply went before; a waiting reply; the oldest notice of a pushed class; or nothing. A notice goes as its class, object,
cause set and the body of the state as it then stands, the notice gone from the queue (R189, R192, R194). That a refusal reply counts as a reply in the third choice is the model's choice (log entry 12). -/
def Obligations.TransmitPathChooses : Prop :=
  ∀ s : State, s.owed = [] →
    let m := s.mp
    let pushed := s.nq.find? fun n => n.cls.within m.pushMask
    let turn := m.lastSent = some .refusal ∨ m.lastSent = some .reply ∨ m.lastSent = some .fetched
    let sends (w : TxKind) (f : HostFrame) (t : State) : Prop :=
      t.mp.sending = some { what := w, frame := f } ∧ t.mp.lastSent = some w
    let pushes (n : Notice) (t : State) : Prop :=
      sends .pushed ({ s with nq := s.nq.erase n }.noticeFrame n) t ∧ t.nq = s.nq.erase n ∧ t.mp.noticeNumber = m.noticeNumber + 1
    Reaches .transmitPathFree s fun t =>
      (∀ r rs, m.refusals = r :: rs → sends .refusal ⟨r.kind, r.tag, u8 Result.busy.code⟩ t ∧ t.mp.refusals = rs ∧
        t.mp.reply = m.reply ∧ t.mp.fetched = m.fetched ∧ t.nq = s.nq) ∧
      (∀ n ns, m.refusals = [] → m.reply = none → m.fetched = n :: ns → sends .fetched (s.noticeFrame n) t ∧
        t.mp.fetched = ns ∧ t.mp.noticeNumber = m.noticeNumber + 1 ∧ t.nq = s.nq) ∧
      (∀ f, m.refusals = [] → m.reply = some f → (pushed = none ∨ ¬ turn) → sends .reply f t ∧ t.mp.reply = none ∧
        t.mp.fetched = m.fetched ∧ t.nq = s.nq) ∧
      (∀ f n, m.refusals = [] → m.reply = some f → pushed = some n → turn → pushes n t ∧ t.mp.reply = some f ∧
        t.mp.fetched = m.fetched) ∧
      (∀ n, m.refusals = [] → m.reply = none → m.fetched = [] → pushed = some n → pushes n t ∧ t.mp.reply = none ∧
        t.mp.fetched = []) ∧
      (m.refusals = [] → m.reply = none → m.fetched = [] → pushed = none → t = { s with mp := { m with sending := none } }) ∧
      t.mp.buffer = m.buffer ∧ KeepsBut sendParts s t

/-- UNKNOWN_REQUEST: a buffered frame whose kind is no request of the catalogue is answered with that code alone, under its kind
+ 0x80, or 0xFF for a kind of 0x00 or 0x7F..0xFF, and acts on no state. A request of the catalogue whose payload has another length
than its arguments give is answered BAD_ARGUMENT alone, before any other check (R188 to R190). That a code which names nothing is
answered so too (log entry 21, DEDUCED), and that a command whose request is not the oldest, or may not be taken yet, has no effect
(log entry 1), are the model's choices. -/
def Obligations.UnreadableRequestsRefused : Prop :=
  ∀ (s : State) (f : HostFrame) (time : Nat) (tkFirst : Bool), s.owed = [] →
    let unread {α : Type} (code : Nat) (c : Instr) (read : List Byte → Option α) : Prop :=
      (s.takes (fun k => decide (k = code)) = some f → read f.payload = none → Reaches c s (Refuses .badArgument f s)) ∧
      (s.takes (fun k => decide (k = code)) = none → exec c s = .next s)
    (s.takes (fun k => !catalogue.contains k) = some f →
      Reaches .unknownRequest s (Refuses .unknownRequest f s) ∧
      (replyKind f.kind = if f.kind = 0 ∨ 0x7F ≤ f.kind.toNat then 0xFF else f.kind + 0x80)) ∧
    (s.takes (fun k => !catalogue.contains k) = none → exec .unknownRequest s = .next s) ∧
    (unread 0x01 (.tbConfigure time) readTwo ∧ unread 0x02 .tbStatus readNothing ∧ unread 0x10 .bandDefine readBandDefine ∧
      unread 0x11 .bandGuards readGuards ∧ unread 0x12 .exclAdd readRange ∧ unread 0x13 .exclRemove readRange ∧
      unread 0x14 .bandFreeze readOne ∧ unread 0x15 .bandUnfreeze readOne ∧ unread 0x16 .bandRead readBandRead ∧
      unread 0x17 .scanRead readTwo ∧ unread 0x18 .checkCandidate readCandidate ∧ unread 0x19 .spareSweep readOne ∧
      unread 0x20 .linkDefine readLinkDefine ∧ unread 0x21 .linkAssign readAssign ∧ unread 0x22 .linkRelease readOne ∧
      unread 0x23 .linkPark readOne ∧ unread 0x24 .linkUnpark readOne ∧ unread 0x25 .linkForceSilence readOne ∧
      unread 0x26 .linkRead readOne ∧ unread 0x28 .planOpen readNothing ∧ unread 0x29 .planEntry readPlanEntry ∧
      unread 0x2A .planClose readNothing ∧ unread 0x2B .planLaunch readLaunch ∧ unread 0x2C .planAbandon readNothing ∧
      unread 0x2D .planRead readNothing ∧ unread 0x30 .tallyInputConfigure readInputConfig ∧
      unread 0x31 .tallyMapSet readMapSet ∧ unread 0x32 .tallyVirtual readVirtual ∧ unread 0x33 .tallyRead readTallyRead ∧
      unread 0x34 .zoneInterlock readInterlock ∧ unread 0x38 .lampConfigure readLampConfigure ∧
      unread 0x39 .lampRead readOne ∧ unread 0x40 .stationDefine readStationDefine ∧
      unread 0x41 .groupDefine readGroupDefine ∧ unread 0x42 .keyEvent readKeyPress ∧ unread 0x43 .talkRead readTwo ∧
      unread 0x70 .start readNothing ∧ unread 0x71 (.stop tkFirst) readNothing ∧ unread 0x72 .restart readNothing ∧
      unread 0x73 .status readNothing ∧ unread 0x74 .identify readNothing ∧ unread 0x75 .noticeEnable readTwo ∧
      unread 0x76 .noticeFetch readOne)
/-! ## Requests: the timebase and the status of the part -/

/-- TB_CONFIGURE: a rate code outside 0 to 5 is refused with BAD_ARGUMENT, another rate in RUN with WRONG_MODE; otherwise the lead,
clamped to 2..50, replaces the one in force, and the reply carries the rate code and the lead now in force. With the configured
rate no other timebase state changes (R12). -/
def Obligations.TimebaseConfigured : Prop :=
  ∀ (s : State) (f : HostFrame) (time : Nat) (code lead : Byte), Takes 0x01 f s → f.payload = [code, lead] →
    let clamped := if lead.toNat < 2 then 2 else if 50 < lead.toNat then 50 else lead.toNat
    (5 < code.toNat → Reaches (.tbConfigure time) s (Refuses .badArgument f s)) ∧
    ∀ r : Rate, r.code = code.toNat →
      (s.mode = .run → r ≠ s.ftb.rate → Reaches (.tbConfigure time) s (Refuses .wrongMode f s)) ∧
      (r = s.ftb.rate → Reaches (.tbConfigure time) s fun t =>
        Replies f (u8 Result.ok.code ++ [code] ++ u8 clamped) s t ∧ t.ftb = { s.ftb with lead := clamped } ∧
        KeepsBut (.ftb :: afterParts) s t) ∧
      (s.mode = .standby → r ≠ s.ftb.rate → Reaches (.tbConfigure time) s fun t =>
        Replies f (u8 Result.ok.code ++ [code] ++ u8 clamped) s t ∧ t.ftb.rate = r ∧ t.ftb.lead = clamped)

/-- A change of rate: the measurement starts afresh at the new nominal period; the timebase enters LOCKING while pulses arrive,
by the old rate's watchdog limit, and ABSENT otherwise; the timer runs at the new period from the last boundary, at once where that
time has passed; both causes are raised; and the counter changes by no more than that boundary (R13, R15). That a time equal to the
request's has not passed is the model's choice (log entry 32). -/
def Obligations.RateChanges : Prop :=
  ∀ (s : State) (f : HostFrame) (time : Nat) (code lead : Byte) (r : Rate), Takes 0x01 f s → f.payload = [code, lead] →
    r.code = code.toNat → s.mode = .standby → r ≠ s.ftb.rate →
    let n := r.nominal
    let arriving := ∃ p, s.ftb.lastArrival = some p ∧ time ≤ p + 3 * s.ftb.rate.nominal / 2
    Reaches (.tbConfigure time) s fun t =>
      t.ftb.rate = r ∧ t.ftb.measuredPeriod = 0 ∧ t.ftb.goodCount = 0 ∧ t.ftb.goodPeriod = n ∧ t.ftb.lastPulse = none ∧
      (arriving → t.ftb.refState = .locking ∧ Notified .tbLocking 0 t) ∧
      (¬ arriving → t.ftb.refState = .absent ∧ Notified .tbAbsent 0 t) ∧ Notified .tbRate 0 t ∧
      (time ≤ s.ftb.lastBoundary + n → t.ftb.counter = s.ftb.counter ∧ t.ftb.lastBoundary = s.ftb.lastBoundary ∧
        t.ftb.nextInternal = some (s.ftb.lastBoundary + n) ∧ KeepsBut (.ftb :: afterParts) s t) ∧
      (s.ftb.lastBoundary + n < time → t.ftb.counter = s.ftb.counter + 1 ∧ t.ftb.lastBoundary = time ∧
        t.ftb.nextInternal = some (time + n)) ∧
      KeepsBut (.ftb :: .bus :: .owed :: afterParts) s t

/-- NOTICE_ENABLE replaces both masks, or is refused for a class outside 1..7. NOTICE_FETCH takes the oldest notices up to its
clamped count from the queue, to be sent behind its reply, which carries their number and that of those left. ATTN is asserted exactly
while a queued notice is of a class in the attention mask; and while RESET is low it is released, every lamp output is inactive and
nothing is sent (R192, R193, R198). -/
def Obligations.NoticesEnabledAndFetched : Prop :=
  (∀ (s : State) (tick : Nat → Nat),
    ((s.outputs true tick).attn = true ↔ ∃ n ∈ s.nq, s.mp.attnMask.getLsbD (n.cls.code - 1) = true) ∧
    s.outputs false tick = { attn := false, lamps := List.replicate 16 false, host := none, bus := [] }) ∧
  ∀ (s : State) (f : HostFrame),
    (∀ push attn : Byte, Takes 0x75 f s → f.payload = [push, attn] →
      (push.toNat < 128 → attn.toNat < 128 → Reaches .noticeEnable s fun t =>
        Replies f (u8 0 ++ [push, attn]) s t ∧ t.mp.pushMask = push ∧ t.mp.attnMask = attn ∧ KeepsBut sendParts s t) ∧
      (128 ≤ push.toNat ∨ 128 ≤ attn.toNat → Reaches .noticeEnable s (Refuses .badArgument f s))) ∧
    ∀ count : Byte, Takes 0x76 f s → f.payload = [count] →
      let n := if count.toNat = 0 then 1 else if 8 < count.toNat then 8 else count.toNat
      Reaches .noticeFetch s fun t =>
        Replies f (u8 0 ++ u8 (s.nq.take n).length ++ u8 (s.nq.length - n)) s t ∧ t.mp.fetched = s.nq.take n ∧
        (t.nq = s.nq.drop n ∨ ∃ x ∈ s.nq.drop n, x.cls.within s.mp.pushMask = true ∧ t.nq = (s.nq.drop n).erase x) ∧
        KeepsBut sendParts s t

/-! ## Requests: bands -/

/-- BAND_DEFINE, checked in the order of R17, replaces every parameter, empties the exclusions, the scan picture and the spare list,
and makes one carrier change and one spectrum change; frozen keeps its value. BAND_GUARDS, taken in either mode, replaces the
guards, makes one carrier change, and prunes the spare list where gap_cc grows. Each asks for a sweep, and a READY plan checked against
another carrier_gen of the band returns to OPEN (R17, R19, R21, R33, R34, R112). -/
def Obligations.BandSettingsTaken : Prop :=
  (∀ (s : State) (f : HostFrame) (b : Nat) (p : BandParams), s.shaped → Takes 0x10 f s → readBandDefine f.payload = some (b, p) →
    let q := { p with hotLevel := max 12 p.hotLevel }
    let right := 100000 ≤ p.baseKhz ∧ p.baseKhz ≤ 6000000 ∧ 1 ≤ p.steps ∧ p.steps ≤ 4096 ∧
      p.baseKhz + 25 * (p.steps - 1) ≤ 6000000 ∧ 1 ≤ p.spareStride ∧ p.spareStride ≤ 16 ∧ 1 ≤ p.binWidth ∧ p.binWidth ≤ 64 ∧
      p.scanStart ≤ p.scanEnd ∧ p.scanEnd ≤ p.steps - 1 ∧ p.scanEnd - p.scanStart + 1 ≤ 256 * p.binWidth ∧
      ∀ u, p.scanUnit = some u → 1 ≤ u ∧ u ≤ 24 ∧
        ∀ c, 1 ≤ c → c ≤ 4 → c ≠ b → (s.band c).defined = true → (s.band c).p.scanUnit ≠ some u
    (b = 0 ∨ 4 < b ∨ ¬ right → Reaches .bandDefine s (Refuses .badArgument f s)) ∧
    (1 ≤ b → b ≤ 4 → right →
      (s.mode = .run → Reaches .bandDefine s (Refuses .wrongMode f s)) ∧
      (s.mode = .standby → s.carrierSet b ≠ [] → Reaches .bandDefine s (Refuses .wrongState f s)) ∧
      (s.mode = .standby → s.carrierSet b = [] → Reaches .bandDefine s fun t =>
        let k := t.band b
        Replies f (u8 0 ++ q.headBytes ++ q.tailBytes) s t ∧ k.defined = true ∧ k.p = q ∧ k.exclusions = [] ∧
        k.bins = List.replicate q.binCount { level := none, hot := false } ∧ k.spares = [] ∧ k.sparesFresh = false ∧
        k.frozen = (s.band b).frozen ∧ k.spectrumGen = (s.band b).spectrumGen + 1 ∧ CarrierChanges b 1 s t ∧
        SweepAsked b t ∧ Rechecks (CheckedElsewhere b s t) s t ∧ KeepsBut (.bands :: .plan :: afterParts) s t))) ∧
  ∀ (s : State) (f : HostFrame) (g : Guards), s.shaped → Takes 0x11 f s → readGuards f.payload = some g →
    let b := g.band
    let k := s.band b
    (b = 0 ∨ 4 < b → Reaches .bandGuards s (Refuses .badArgument f s)) ∧
    (1 ≤ b → b ≤ 4 → k.defined = false → Reaches .bandGuards s (Refuses .wrongState f s)) ∧
    (1 ≤ b → b ≤ 4 → k.defined = true → Reaches .bandGuards s fun t =>
      Replies f (u8 0 ++ u8 g.cc ++ u8 g.im3 ++ u8 g.im3x ++ u8 g.im5) s t ∧
      (t.band b).p = { k.p with gapCc := g.cc, gapIm3 := g.im3, gapIm3x := g.im3x, gapIm5 := g.im5 } ∧
      (t.band b).spares = k.spares.filter (fun e => decide (g.cc ≤ k.p.gapCc) ||
        !(s.carrierSet b).any fun c => within c.step c.hw g.cc e.step) ∧
      (t.band b).exclusions = k.exclusions ∧ (t.band b).bins = k.bins ∧ (t.band b).sparesFresh = false ∧
      (t.band b).frozen = k.frozen ∧ CarrierChanges b 1 s t ∧ SweepAsked b t ∧ Rechecks (CheckedElsewhere b s t) s t ∧
      KeepsBut (.bands :: .plan :: afterParts) s t)

/-- EXCL_ADD and EXCL_REMOVE are checked in one order, and the first check that fails decides the reply; one that is taken changes
the list, makes one carrier change, with the sweep that it asks for and its effect on a READY plan, and replies with the number of
ranges now stored (R21, R25, R34, R112). -/
def Obligations.ExclusionsRequested : Prop :=
  ∀ (s : State) (f : HostFrame) (b : Nat) (r : StepRange), s.shaped → readRange f.payload = some (b, r) →
    let k := s.band b
    let checked (c : Instr) (list : List StepRange) : Prop :=
      (b = 0 ∨ 4 < b → Reaches c s (Refuses .badArgument f s)) ∧
      (1 ≤ b → b ≤ 4 →
        (k.defined = false → Reaches c s (Refuses .wrongState f s)) ∧
        (k.defined = true → k.frozen = true → Reaches c s (Refuses .frozen f s)) ∧
        (k.defined = true → k.frozen = false → r.hi < r.lo ∨ k.p.steps ≤ r.hi → Reaches c s (Refuses .badArgument f s)) ∧
        (k.defined = true → k.frozen = false → r.lo ≤ r.hi → r.hi < k.p.steps →
          (32 < list.length → Reaches c s (Refuses .full f s)) ∧
          (list.length ≤ 32 → Reaches c s fun t =>
            Replies f (u8 0 ++ u8 list.length) s t ∧ (t.band b).exclusions = list ∧ (t.band b).sparesFresh = false ∧
            (t.band b).p = k.p ∧ (t.band b).bins = k.bins ∧ (t.band b).spares = k.spares ∧ CarrierChanges b 1 s t ∧
            SweepAsked b t ∧ Rechecks (CheckedElsewhere b s t) s t ∧ KeepsBut (.bands :: .plan :: afterParts) s t)))
    (Takes 0x12 f s → checked .exclAdd (exclInsert r k.exclusions)) ∧
    (Takes 0x13 f s → checked .exclRemove (exclDelete r k.exclusions))

/-- EXCL_ADD merges the range with every stored range that it overlaps or touches, and EXCL_REMOVE takes every step of it out of the
stored ranges: the ranges stay in order, none overlapping or touching another, and cover exactly the steps they should; one that
merges never makes the list longer, one inside a stored range leaves the list, a removal splits at most one range, and one that
meets no range leaves the list (R26, R27). -/
def Obligations.ExclusionListsChange : Prop :=
  ∀ (r : StepRange) (xs : List StepRange), r.lo ≤ r.hi → (∀ x ∈ xs, x.lo ≤ x.hi) →
    xs.Pairwise (fun a b => a.hi + 2 ≤ b.lo) →
    let covers (ys : List StepRange) (step : Nat) : Prop := ∃ y ∈ ys, y.lo ≤ step ∧ step ≤ y.hi
    let kept (ys : List StepRange) : Prop := (∀ y ∈ ys, y.lo ≤ y.hi) ∧ ys.Pairwise fun a b => a.hi + 2 ≤ b.lo
    let added := exclInsert r xs
    let removed := exclDelete r xs
    kept added ∧ (∀ step, covers added step ↔ covers xs step ∨ (r.lo ≤ step ∧ step ≤ r.hi)) ∧
    ((∃ x ∈ xs, x.lo ≤ r.hi + 1 ∧ r.lo ≤ x.hi + 1) → added.length ≤ xs.length) ∧
    ((∀ x ∈ xs, ¬ (x.lo ≤ r.hi + 1 ∧ r.lo ≤ x.hi + 1)) → added.length = xs.length + 1) ∧
    ((∃ x ∈ xs, x.lo ≤ r.lo ∧ r.hi ≤ x.hi) → added = xs) ∧
    kept removed ∧ (∀ step, covers removed step ↔ covers xs step ∧ ¬ (r.lo ≤ step ∧ step ≤ r.hi)) ∧
    removed.length ≤ xs.length + 1 ∧
    (removed.length = xs.length + 1 ↔ ∃ x ∈ xs, x.lo < r.lo ∧ r.hi < x.hi) ∧
    ((∀ x ∈ xs, ¬ (x.lo ≤ r.hi ∧ r.lo ≤ x.hi)) → removed = xs)

/-- BAND_FREEZE and BAND_UNFREEZE set the flag, with a BAND notice where it changes, and reply with it; BAND_UNFREEZE makes wanted
every FADING link of the band at its limit with auto_rescue on and status NONE or EXHAUSTED. A repeated one changes nothing (R20). -/
def Obligations.BandsFreezeAndThaw : Prop :=
  ∀ (s : State) (f : HostFrame) (b : Nat), s.shaped → readOne f.payload = some b →
    let k := s.band b
    let checked (c : Instr) : Prop :=
      (b = 0 ∨ 4 < b → Reaches c s (Refuses .badArgument f s)) ∧
      (1 ≤ b → b ≤ 4 → k.defined = false → Reaches c s (Refuses .wrongState f s))
    (Takes 0x14 f s → checked .bandFreeze ∧ (1 ≤ b → b ≤ 4 → k.defined = true → Reaches .bandFreeze s fun t =>
      Replies f (u8 0 ++ firstIf true) s t ∧ (t.band b).core = ({ k with frozen := true }).core ∧ BandAlone b s t ∧
      (k.frozen = false → Notified .bandFreeze b t) ∧ KeepsBut (.bands :: afterParts) s t)) ∧
    (Takes 0x15 f s → checked .bandUnfreeze ∧ (1 ≤ b → b ≤ 4 → k.defined = true → Reaches .bandUnfreeze s fun t =>
      Replies f (u8 0 ++ firstIf false) s t ∧ (t.band b).core = ({ k with frozen := false }).core ∧ BandAlone b s t ∧
      (k.frozen = true → Notified .bandFreeze b t ∧ ∀ l, 1 ≤ l → l ≤ 48 → (s.link l).cfg.band = b → (s.link l).state = .fading →
        (s.link l).fadeTimer = (s.link l).cfg.fadeLimit → (s.link l).cfg.autoRescue = true →
        (t.link l).rescue = .wanted ∨ (t.link l).rescue = .picking) ∧
      (∀ l, (s.link l).cfg.band ≠ b ∨ (s.link l).state ≠ .fading ∨ (s.link l).fadeTimer ≠ (s.link l).cfg.fadeLimit ∨
        (s.link l).cfg.autoRescue = false ∨ k.frozen = false → (s.link l).rescue ≠ .wanted →
        (t.link l).rescue = (s.link l).rescue) ∧ KeepsBut (.bands :: afterParts) s t))

/-- Every read answers OK with the items as they stand when it is taken, in either mode, refuses a number that names no object, and
changes nothing but the transmit path: TB_STATUS, STATUS, IDENTIFY, and the reads of records (R14, R35, R36, R97, R118, R161, R181,
R199). The layout of the bytes is that of R186 as log entries 21 and 22 read it; that an undefined band's reply is defined no and
nothing more, that a VACANT link's carries no results, that a station out of range has no bytes, and where a number stands beside a
list's count, and the byte of a route's reasons, are the model's choices (log entries 34, 20, 48, 50 and 58). -/
def Obligations.ReadsAnswer : Prop :=
  (∀ (s : State) (f : HostFrame), f.payload = [] →
    (Takes 0x02 f s → Reaches .tbStatus s fun t =>
      Replies f (u8 0 ++ u8 s.ftb.rate.code ++ u8 s.ftb.lead ++ u8 s.ftb.refState.code ++ w32 s.ftb.counter
        ++ u24 s.ftb.measuredPeriod ++ u8 s.ftb.goodCount ++ u16 s.ftb.goodPeriod) s t ∧ KeepsBut sendParts s t) ∧
    (Takes 0x73 f s → Reaches .status s fun t =>
      Replies f (u8 0 ++ u8 s.mode.code ++ u8 s.ftb.refState.code ++ w32 s.ftb.counter ++ u8 s.pe.queue.length
        ++ u8 s.pe.engine.code ++ opt (fun k => u8 (JobKind.code k)) (s.running.map Prod.fst) ++ u8 s.plan.state.code
        ++ u8 s.nq.length ++ u8 s.mp.pushMask.toNat ++ u8 s.mp.attnMask.toNat ++ u8 (s.mp.buffer.length - 1)) s t ∧
      KeepsBut sendParts s t) ∧
    (Takes 0x74 f s → Reaches .identify s fun t =>
      Replies f ([0x00, 0x1B, 0xE4, 0x01, 0x0B, 0x71] : List Byte) s t ∧ KeepsBut sendParts s t)) ∧
  ∀ (s : State) (f : HostFrame),
    let reads (c : Instr) (body : List Byte) : Prop :=
      Reaches c s fun t => Replies f (u8 0 ++ body) s t ∧ KeepsBut sendParts s t
    let refuses (c : Instr) (r : Result) : Prop := Reaches c s (Refuses r f s)
    (∀ (b : Nat) (x : BandSection), Takes 0x16 f s → readBandRead f.payload = some (b, x) →
      (b = 0 ∨ 4 < b → refuses .bandRead .badArgument) ∧
      (1 ≤ b → b ≤ 4 → reads .bandRead (if (s.band b).defined then s.bandSection b x else firstIf false))) ∧
    (∀ b i : Nat, Takes 0x17 f s → readTwo f.payload = some (b, i) →
      (b = 0 ∨ 4 < b → refuses .scanRead .badArgument) ∧
      (1 ≤ b → b ≤ 4 → (s.band b).defined = false → refuses .scanRead .wrongState) ∧
      (1 ≤ b → b ≤ 4 → (s.band b).defined = true → reads .scanRead
        (u16 (s.band b).bins.length ++ u8 (s.band b).p.hotLevel ++ w32 (s.band b).spectrumGen
          ++ u8 (min 64 ((s.band b).bins.length - i))
          ++ (((s.band b).bins.zipIdx.drop i).take 64).flatMap (s.binBytes b)))) ∧
    (∀ l : Nat, Takes 0x26 f s → readOne f.payload = some l →
      (l = 0 ∨ 48 < l → refuses .linkRead .badArgument) ∧
      (1 ≤ l → l ≤ 48 → reads .linkRead (s.linkBytes l ++ s.linkResults l))) ∧
    (Takes 0x2D f s → f.payload = [] → reads .planRead
      (u8 s.plan.state.code ++ opt w32 s.plan.effective ++ marginBytes s.plan.worst ++ opt Constraint.bytes s.plan.worst
        ++ opt (listed fun g => u8 g.1 ++ w32 g.2) s.plan.checked ++ listed s.entryBytes s.plan.entries)) ∧
    (∀ m : Nat, Takes 0x39 f s → readOne f.payload = some m →
      (m = 0 ∨ 16 < m → refuses .lampRead .badArgument) ∧
      (1 ≤ m → m ≤ 16 → reads .lampRead
        ((s.lamp m).cfg.bytes ++ u8 (s.lamp m).displayed.code ++ firstIf (s.lamp m).phaseOn ++ u8 (s.lamp m).remaining
          ++ u8 (s.lamp m).selected ++ u8 (s.lamp m).drive ++ firstIf (s.lamp m).driveInvert ++ u8 (s.lamp m).drivePeriod
          ++ u8 (s.sourceState (s.lamp m)).code))) ∧
    ∀ x i : Nat, Takes 0x43 f s → readTwo f.payload = some (x, i) →
      (3 < x → refuses .talkRead .badArgument) ∧ ∀ body, s.talkSection i x = some body → reads .talkRead body

/-- CHECK_CANDIDATE and SPARE_SWEEP: each is checked in its order; a query joins the queue under the query number, which then
advances; a sweep joins where the band has none, is already answered by one that waits, and asks for another while one runs
(R54, R63, R65). -/
def Obligations.ChecksAndSweepsJoin : Prop :=
  ∀ (s : State) (f : HostFrame), s.shaped →
    (∀ a : Candidate, Takes 0x18 f s → readCandidate f.payload = some a →
      let k := s.band a.band
      let refuses (r : Result) : Prop := Reaches .checkCandidate s (Refuses r f s)
      (a.band = 0 ∨ 4 < a.band ∨ 48 < a.link → refuses .badArgument) ∧
      (1 ≤ a.band → a.band ≤ 4 → a.link ≤ 48 →
        (k.defined = false → refuses .wrongState) ∧
        (k.defined = true → k.p.steps ≤ a.step → refuses .badArgument) ∧
        (k.defined = true → a.step < k.p.steps → 8 ≤ s.pe.queue.length → refuses .busy) ∧
        (k.defined = true → a.step < k.p.steps → s.pe.queue.length < 8 → Reaches .checkCandidate s fun t =>
          Replies f (u8 1 ++ u16 s.pe.queryNumber.toNat) s t ∧ t.pe.queryNumber = s.pe.queryNumber + 1 ∧
          (∃ j ∈ t.pe.queue, j.kind = .query a.band s.pe.queryNumber a.step a.hw a.link) ∧ KeepsBut afterParts s t))) ∧
    ∀ b : Nat, Takes 0x19 f s → readOne f.payload = some b →
      let has := s.hasJob (JobKind.isSweepOf b)
      let runs := s.pe.queue.any fun j => j.kind.isSweepOf b && j.snap.isSome
      (b = 0 ∨ 4 < b → Reaches .spareSweep s (Refuses .badArgument f s)) ∧
      (1 ≤ b → b ≤ 4 → (s.band b).defined = false → Reaches .spareSweep s (Refuses .wrongState f s)) ∧
      (1 ≤ b → b ≤ 4 → (s.band b).defined = true →
        (has = false → 8 ≤ s.pe.queue.length → Reaches .spareSweep s (Refuses .busy f s)) ∧
        (has = false → s.pe.queue.length < 8 → Reaches .spareSweep s fun t =>
          Replies f (u8 1) s t ∧ t.hasJob (JobKind.isSweepOf b) = true ∧ (t.band b).sweepWanted = false ∧
          KeepsBut afterParts s t) ∧
        (has = true → Reaches .spareSweep s fun t =>
          Replies f (u8 1) s t ∧ t.hasJob (JobKind.isSweepOf b) = true ∧
          (runs = true → s.pe.engine = .running → (t.band b).sweepWanted = true) ∧ KeepsBut afterParts s t))


/-! ## Requests: links -/

/-- LINK_DEFINE: the first check of R73 that fails decides the reply. A kind given stores the fields with every threshold and limit
clamped, moves a VACANT link to IDLE and no other, resets the runs and bounds the timers; kind none returns the whole record to its
value after cold reset; the wanted word is made anew; and a change of band, hw or definition marks the link's ASSIGN_CHECK, queued or
running, and returns a READY plan with an entry for the link to OPEN (R61, R73, R74, R112, R144, R149). That kind none is not checked for CONFLICT, and that a move undone later still counts, are the
model's choices (log entries 38 and 42). -/
def Obligations.LinkDefined : Prop :=
  ∀ (s : State) (f : HostFrame) (l : Nat) (c : LinkConfig), s.shaped → Takes 0x20 f s → readLinkDefine f.payload = some (l, c) →
    let k := s.link l
    let given := c.kind ≠ none
    let other (n : Nat) : Bool := decide (n ≠ l) && (s.link n).cfg.kind.isSome &&
      ((decide ((s.link n).cfg.unit = c.unit) && decide ((s.link n).cfg.channel = c.channel)) ||
        (c.station.isSome && decide ((s.link n).cfg.station = c.station)))
    let verdict : Option Result :=
      if l = 0 ∨ 48 < l then some .badArgument
      else if given ∧ (c.band = 0 ∨ 4 < c.band ∨ c.unit = 0 ∨ 24 < c.unit ∨ c.channel = 0 ∨ 4 < c.channel ∨
        24 < c.station.getD 0) then some .badArgument
      else if c.kind = some .mic ∧ c.station ≠ none then some .badArgument
      else if given ∧ (s.band c.band).defined = false then some .wrongState
      else if s.mode = .run ∧ k.state ≠ .vacant ∧ k.state ≠ .idle then some .wrongState
      else if k.carriers l ≠ [] ∧ (c.kind = none ∨ k.cfg.band ≠ c.band ∨ k.cfg.hw ≠ c.hw ∨ k.cfg.unit ≠ c.unit ∨
        k.cfg.channel ≠ c.channel) then some .linkBusy
      else if given ∧ (oneUpTo 48).any other = true then some .conflict
      else none
    let stored : LinkConfig :=
      { c with filterK := max 1 (min 8 c.filterK), fadeLimit := max 1 (min 250 c.fadeLimit),
               silenceLimit := max 2 (min 250 c.silenceLimit), acquireLimit := max 1 (min 1000 c.acquireLimit),
               confirmWindow := max 1 (min 250 c.confirmWindow), batteryLow := min 100 c.batteryLow,
               recoverLevel := max c.fadeLevel c.recoverLevel, recoverQuality := min c.fadeQuality c.recoverQuality }
    (∀ r, verdict = some r → Reaches .linkDefine s (Refuses r f s)) ∧
    (verdict = none → Reaches .linkDefine s fun t =>
      let x := t.link l
      (given → x.cfg = stored ∧ x.state = (if k.state = .vacant then .idle else k.state) ∧ x.badRun = 0 ∧ x.goodRun = 0 ∧
        x.fadeTimer = min k.fadeTimer stored.fadeLimit ∧
        x.silenceCounter = (if k.state = .vacant then stored.silenceLimit else min k.silenceCounter stored.silenceLimit) ∧
        (k.state ≠ .vacant → x.core = ({ k with
          cfg := stored, badRun := 0, goodRun := 0, fadeTimer := min k.fadeTimer stored.fadeLimit,
          silenceCounter := min k.silenceCounter stored.silenceLimit }).core) ∧
        (k.state = .vacant → Notified .linkState l t) ∧ x.wanted = ⟨slot .off s.tr.linkTally l, stored.station.any s.called⟩ ∧
        (k.cfg.kind ≠ c.kind ∨ k.cfg.unit ≠ c.unit ∨ k.cfg.channel ≠ c.channel → x.delivered = none) ∧
        Replies f (u8 0 ++ (storeLink l stored (dropHead s)).linkBytes l) s t) ∧
      (¬ given → x.core = Link.vacant.core ∧ x.wanted = { tally := slot .off s.tr.linkTally l, call := false } ∧
        x.delivered = none ∧ x.tallyOrder = none ∧ x.retryAt = none ∧ (k.state ≠ .vacant → Notified .linkState l t) ∧
        Replies f (u8 0 ++ u8 4) s t) ∧
      let displaced := c.kind = none ∨ k.cfg.band ≠ c.band ∨ k.cfg.hw ≠ c.hw
      (displaced → ∀ j ∈ t.pe.queue, ∀ step o, j.kind = .assignCheck l step o → j.moved = true) ∧
      (¬ displaced → ∀ j ∈ t.pe.queue, j.moved = true → ∃ i ∈ s.pe.queue, i.kind = j.kind ∧ i.moved = true) ∧
      LinkAlone l s t ∧ Rechecks (displaced ∧ ∃ e ∈ s.plan.entries, e.link = l) s t ∧ KeepsBut (.links :: .plan :: tailParts) s t)

/-- LINK_ASSIGN is checked in the order of R85, the first check that fails deciding the reply; one that passes them all becomes an
ASSIGN_CHECK job with the link, step and override given, the reply is ACCEPTED, and the link stays as it was (R85). -/
def Obligations.LinkAssignAdmitted : Prop :=
  ∀ (s : State) (f : HostFrame) (a : Assign), s.shaped → Takes 0x21 f s → readAssign f.payload = some a →
    let k := s.link a.link
    let band := s.band k.cfg.band
    let waits (j : Job) : Bool := match j.kind with
      | .assignCheck l _ _ => decide (l = a.link)
      | _ => false
    let verdict : Option Result :=
      if a.link = 0 ∨ 48 < a.link then some .badArgument
      else if s.mode = .standby then some .wrongMode
      else if k.state ≠ .idle then some .wrongState
      else if band.frozen = true then some .frozen
      else if band.p.steps ≤ a.step then some .badArgument
      else if s.pe.queue.any waits = true then some .wrongState
      else if 8 ≤ s.pe.queue.length then some .busy
      else none
    (∀ r, verdict = some r → Reaches .linkAssign s (Refuses r f s)) ∧
    (verdict = none → Reaches .linkAssign s fun t =>
      Replies f (u8 1) s t ∧ (∃ j ∈ t.pe.queue, j.kind = .assignCheck a.link a.step a.override) ∧
      (t.link a.link).core = k.core ∧ KeepsBut afterParts s t)

/-- LINK_RELEASE, LINK_PARK and LINK_UNPARK: each is checked in its order. A release gives up the carrier, with a MUTE, and the link
enters IDLE; a parked link keeps its carrier, with a MUTE; an unparked one enters ACQUIRING with a TUNE. Each enters with a LINK
notice; and a release gives a vacate entry of the link outcome VACATED, an unpark ACQUIRED (R86, R91 to R93, R115, R116). -/
def Obligations.LinksReleasedAndParked : Prop :=
  ∀ (s : State) (f : HostFrame) (l : Nat), s.shaped → s.unitsSound → readOne f.payload = some l →
    let k := s.link l
    let moving := k.state = .retuning ∨ k.state = .reverting
    let out := k.state = .vacant ∨ k.state = .idle
    let e := framePlus s.now s.ftb.lead
    let mutes (i : Issuer) (t : State) : Prop := Ordered k.cfg.unit (.mute k.cfg.channel e) i s t ∨
      (s.unitFull k.cfg.unit ∧ Notified .linkMuteFailed l t)
    let decides (o : EntryOutcome) (t : State) : Prop := s.plan.state = .applying → Decided l o s t
    let checked (c : Instr) (verdict : Option Result) (done : State → Prop) : Prop :=
      (∀ r, verdict = some r → Reaches c s (Refuses r f s)) ∧ (verdict = none → 1 ≤ k.cfg.unit → k.cfg.unit ≤ 24 → 1 ≤ k.cfg.band → k.cfg.band ≤ 4 → Reaches c s fun t =>
        Replies f (u8 0) s t ∧ Notified .linkState l t ∧ LinkAlone l s t ∧ done t)
    (Takes 0x22 f s → checked .linkRelease
      (if l = 0 ∨ 48 < l then some .badArgument else if moving then some .linkBusy else if out then some .wrongState else none)
      fun t => (t.link l).state = .idle ∧ (t.link l).assigned = none ∧ (t.link l).carriers l = [] ∧ mutes (.lsRelease l) t ∧
        CarrierChanges k.cfg.band 1 s t ∧ decides .vacated t ∧
        (s.plan.state ≠ .applying → t.plan.entries = s.plan.entries ∧ (s.plan.state ≠ .ready → t.plan = s.plan)) ∧
        KeepsBut (.links :: .bands :: .plan :: tailParts) s t) ∧
    (Takes 0x23 f s → checked .linkPark
      (if l = 0 ∨ 48 < l then some .badArgument else if moving then some .linkBusy
        else if out ∨ k.state = .acquiring ∨ k.state = .parked then some .wrongState else none)
      fun t => (t.link l).state = .parked ∧ (t.link l).assigned = k.assigned ∧ mutes (.lsPark l) t ∧
        KeepsBut (.links :: tailParts) s t) ∧
    (Takes 0x24 f s → checked .linkUnpark
      (if l = 0 ∨ 48 < l then some .badArgument else if s.mode = .standby then some .wrongMode else if moving then some .linkBusy
        else if k.state ≠ .parked then some .wrongState else none)
      fun t => (t.link l).state = .acquiring ∧ (t.link l).assigned = k.assigned ∧ (t.link l).effectiveFrame = some e ∧
        (t.link l).deadline = some (framePlus e k.cfg.acquireLimit) ∧ (t.link l).silenceCounter = k.cfg.silenceLimit ∧
        (t.link l).fadeTimer = 0 ∧
        (Ordered k.cfg.unit (.tune k.cfg.channel ((s.band k.cfg.band).p.baseKhz + 25 * k.assigned.getD 0) e) (.lsTune l) s t ∨
          s.unitFull k.cfg.unit) ∧ decides .acquired t ∧ (s.plan.state ≠ .applying → t.plan = s.plan) ∧
        KeepsBut (.links :: .plan :: tailParts) s t)

/-! ## Requests: the staged plan -/

/-- PLAN_OPEN, PLAN_ENTRY, PLAN_CLOSE and PLAN_ABANDON: each is taken or refused by the plan's state and its checks in order. An
open empties the plan; an entry joins or replaces its link's, in ascending link order, with no outcome; a close queues a PLAN_CHECK
and enters CHECKING; and an abandon drops the plan but while it is APPLYING (R109, R110, R111, R117, R119). -/
def Obligations.PlanIsStaged : Prop :=
  ∀ (s : State) (f : HostFrame), s.shaped →
    let refused (c : Instr) (r : Result) : Prop := Reaches c s (Refuses r f s)
    let kept (t : State) : Prop := KeepsBut (.plan :: afterParts) s t
    let st := s.plan.state
    (Takes 0x28 f s → f.payload = [] →
      (st = .opened ∨ st = .checking ∨ st = .ready ∨ st = .applying → refused .planOpen .wrongState) ∧
      (st = .idle ∨ st = .rejected ∨ st = .done → Reaches .planOpen s fun t =>
        Replies f (u8 0) s t ∧ t.plan = ⟨.opened, [], none, none, none⟩ ∧ Notified .planState 0 t ∧ kept t)) ∧
    (∀ (l : Nat) (target : Option Nat), Takes 0x29 f s → readPlanEntry f.payload = some (l, target) →
      let band := s.band (s.link l).cfg.band
      let others := s.plan.entries.filter fun e => decide (e.link ≠ l)
      let verdict : Option Result :=
        if l = 0 ∨ 48 < l then some .badArgument
        else if st ≠ .opened then some .wrongState
        else if (s.link l).cfg.kind = none then some .wrongState
        else if band.frozen = true then some .frozen
        else if (match target with | some step => decide (band.p.steps ≤ step) | none => false) = true then some .badArgument
        else if 16 ≤ others.length then some .full
        else none
      (∀ r, verdict = some r → refused .planEntry r) ∧
      (verdict = none → Reaches .planEntry s fun t =>
        Replies f (u8 0 ++ u8 (others.length + 1)) s t ∧ t.plan = { s.plan with entries := t.plan.entries } ∧
        t.plan.entries.Perm ({ link := l, target := target, outcome := none } :: others) ∧
        (s.plan.entries.Pairwise (fun a b => a.link < b.link) → t.plan.entries.Pairwise fun a b => a.link < b.link) ∧
        KeepsBut (.plan :: afterParts) s t)) ∧
    (Takes 0x2A f s → f.payload = [] →
      let verdict : Option Result :=
        if st ≠ .opened then some .wrongState
        else if (s.plan.entries.any fun e => (s.link e.link).cfg.kind.isNone) = true then some .wrongState
        else if s.hasJob JobKind.isPlanCheck = true ∨ 8 ≤ s.pe.queue.length then some .busy
        else none
      (∀ r, verdict = some r → refused .planClose r) ∧
      (verdict = none → Reaches .planClose s fun t =>
        Replies f (u8 1) s t ∧ t.plan = { s.plan with state := .checking } ∧ (∃ j ∈ t.pe.queue, j.kind = .planCheck) ∧
        Notified .planState 0 t ∧ kept t)) ∧
    (Takes 0x2C f s → f.payload = [] →
      (st = .applying → refused .planAbandon .wrongState) ∧
      (st = .idle → Reaches .planAbandon s fun t => Replies f (u8 0) s t ∧ KeepsBut afterParts s t) ∧
      (st ≠ .applying → st ≠ .idle → Reaches .planAbandon s fun t =>
        Replies f (u8 0) s t ∧ t.plan = ⟨.idle, [], none, none, none⟩ ∧ Notified .planState 0 t ∧ kept t))

/-- PLAN_LAUNCH: the checks of R113 in order, the effective frame of R11, and every entry applied by its link's state: a retune, an
acquisition, a parked link's move, a vacate, or nothing; each with its outcome now or none; in each band one carrier change for every
carrier held or released, the spares pruned and the bins masked by every carrier held; and the plan APPLYING, or DONE where all have
outcomes (R21, R23, R31, R33, R113 to R116). The premises on the entries are those of a READY plan. -/
def Obligations.PlanIsLaunched : Prop :=
  ∀ (s : State) (f : HostFrame) (wanted : Option FrameNo), s.shaped → s.unitsSound → Takes 0x2B f s →
    readLaunch f.payload = some wanted → s.ftb.lead ≤ 50 →
    let ready := (s.plan.entries.map PlanEntry.link).Nodup ∧ ∀ x ∈ s.plan.entries,
      x.outcome = none ∧ 1 ≤ x.link ∧ x.link ≤ 48 ∧ (s.link x.link).state ≠ .vacant ∧
      1 ≤ (s.link x.link).cfg.unit ∧ (s.link x.link).cfg.unit ≤ 24
    let far : Bool := match wanted with | some w => decide (3000 < (w - s.now).toInt) | none => false
    let e : FrameNo := match wanted with
      | some w => if (w - s.now).toInt < s.ftb.lead then framePlus s.now s.ftb.lead else w
      | none => framePlus s.now s.ftb.lead
    let bars (x : PlanEntry) : Bool := match (s.link x.link).state, x.target with
      | .retuning, _ | .reverting, _ | .lost, _ | .acquiring, some _ => true
      | _, _ => false
    let verdict : Option Result :=
      if s.mode = .standby then some .wrongMode
      else if s.plan.state ≠ .ready then some .wrongState
      else if s.plan.entries.any bars = true then some .wrongState
      else if far = true then some .badArgument
      else none
    let result (x : PlanEntry) : Option EntryOutcome := match x.target, (s.link x.link).state with
      | some _, .parked => some .moved
      | some step, .locked | some step, .fading => if (s.link x.link).assigned = some step then some .moved else none
      | some _, .idle => some .acquired
      | none, .idle => some .vacated
      | _, _ => none
    let room (u : Nat) := (s.unit u).waiting.length + s.plan.entries.length ≤ 32
    (∀ r, verdict = some r → Reaches .planLaunch s (Refuses r f s)) ∧
    (verdict = none → ready → Reaches .planLaunch s fun t =>
      Replies f (u8 0 ++ w32 e) s t ∧ Notified .planState 0 t ∧
      t.plan = { s.plan with
        state := if s.plan.entries.all (fun x => (result x).isSome) then .done else .applying,
        effective := some e,
        entries := s.plan.entries.map fun x => { x with outcome := result x } } ∧
      (∀ x ∈ s.plan.entries,
        let k := s.link x.link
        let y := t.link x.link
        let u := k.cfg.unit
        (result x = some .vacated → y.core = k.core) ∧
        (∀ step, x.target = some step → k.state = .locked ∨ k.state = .fading →
          (k.assigned = some step → y.core = k.core) ∧
          (k.assigned ≠ some step → y.assigned = k.assigned ∧ y.origin = some .plan ∧
            ((y.state = .retuning ∧ y.pending = some step ∧ y.effectiveFrame = some e ∧
                y.deadline = some (framePlus e k.cfg.confirmWindow)) ∨ (y.state = .reverting ∧ y.pending = none)) ∧
            (room u → y.state = .retuning ∧ Ordered u (.tune k.cfg.channel
              ((s.band k.cfg.band).p.baseKhz + 25 * step) e) (.rcRetune x.link) s t))) ∧
        (∀ step, x.target = some step → k.state = .parked → y.core = ({ k with assigned := some step }).core) ∧
        (∀ step, x.target = some step → k.state = .idle →
          y.state = .acquiring ∧ y.assigned = some step ∧ y.effectiveFrame = some e ∧
          y.deadline = some (framePlus e k.cfg.acquireLimit) ∧ y.silenceCounter = k.cfg.silenceLimit ∧
          (room u → Ordered u (.tune k.cfg.channel ((s.band k.cfg.band).p.baseKhz + 25 * step) e) (.lsTune x.link) s t)) ∧
        (x.target = none → k.state = .acquiring ∨ k.state = .locked ∨ k.state = .fading ∨ k.state = .parked →
          y.state = .parked ∧ y.assigned = k.assigned ∧
          (k.state = .acquiring → y.effectiveFrame = none ∧ y.deadline = none) ∧
          (room u → Ordered u (.mute k.cfg.channel e) (.rcVacate x.link) s t))) ∧
      (∀ l, (∀ x ∈ s.plan.entries, x.link ≠ l) → (t.link l).core = (s.link l).core) ∧
      (∀ b, (∀ x ∈ s.plan.entries, (s.link x.link).cfg.band ≠ b) → (t.band b).core = (s.band b).core) ∧
      (∀ b, 1 ≤ b → b ≤ 4 →
        let k := s.band b
        let y := t.band b
        let mine := s.plan.entries.filter fun x => decide ((s.link x.link).cfg.band = b)
        let taken (x : PlanEntry) : Option (Nat × Nat) := match x.target, (s.link x.link).state with
          | some step, .parked => if (s.link x.link).assigned = some step then none else some (step, 2)
          | some step, .locked | some step, .fading => if (s.link x.link).assigned = some step then none else some (step, 1)
          | some step, .idle => some (step, 1)
          | _, _ => none
        let held := mine.filterMap fun x => (taken x).map fun c => (c.1, (s.link x.link).cfg.hw)
        let barred (f : Spare) := held.any fun c =>
          decide (c.1 ≤ f.step + c.2 + k.p.gapCc) && decide (f.step ≤ c.1 + c.2 + k.p.gapCc)
        let masked (i : Nat) := held.any fun c => spanMeets c.1 c.2 (k.p.binSpan i)
        y.spares = k.spares.filter (fun f => !barred f) ∧
        y.bins = k.bins.zipIdx.map (fun (x, i) => if masked i then { level := none, hot := false } else x) ∧
        y.spectrumGen = k.spectrumGen + BitVec.ofNat 32 (k.bins.zipIdx.countP fun (x, i) => x.hot && masked i) ∧
        y.p = k.p ∧ y.exclusions = k.exclusions ∧ y.frozen = k.frozen ∧ y.defined = k.defined ∧
        (held ≠ [] → y.sparesFresh = false) ∧
        ((∀ x ∈ mine, room (s.link x.link).cfg.unit) →
          y.carrierGen = k.carrierGen + BitVec.ofNat 32 ((mine.filterMap taken).map Prod.snd).sum)) ∧
      KeepsBut (.links :: .bands :: .plan :: tailParts) s t)

/-! ## Requests: tally, lamps and talkback -/

/-- TALLY_INPUT_CONFIGURE, TALLY_VIRTUAL, TALLY_MAP_SET, TALLY_READ and ZONE_INTERLOCK: the settings each takes, for the items it
names alone; what each refuses; TALLY_READ's report of the edge flags before it clears those named; and an interlock's effect on the
LIVE routes at once (R139, R140, R141, R150, R151, R173). The model's choices: that a first entry number outside 1..64 is refused (log
entry 21); the layout of the sections (log entries 22 and 41); that SNAPSHOT and MAP replies carry no edge flags (log entry 40); and
that MAP answers up to 16 entries even past 240 bytes (log entry 27). -/
def Obligations.TallySettingsTaken : Prop :=
  ∀ (s : State) (f : HostFrame), s.shaped →
    let kept (t : State) : Prop := KeepsBut (.tr :: sendParts) s t
    (∀ a : InputConfig, Takes 0x30 f s → readInputConfig f.payload = some a →
      let k := if a.filterK < 1 then 1 else if 8 < a.filterK then 8 else a.filterK
      (a.mask = 0 → Reaches .tallyInputConfigure s (Refuses .badArgument f s)) ∧
      (a.mask ≠ 0 → Reaches .tallyInputConfigure s fun t =>
        Replies f (u8 0 ++ u8 k ++ flag a.inverted) s t ∧ t.tr = { s.tr with lines := t.tr.lines } ∧
        (∀ n, 1 ≤ n → n ≤ 32 → t.line n = if a.mask.testBit (n - 1)
          then { s.line n with filterK := k, inverted := a.inverted, run := 0 } else s.line n) ∧ kept t)) ∧
    (∀ mask values : Nat, Takes 0x32 f s → readVirtual f.payload = some (mask, values) →
      Reaches .tallyVirtual s fun t =>
        Replies f (u8 0 ++ set32 t.tr.virtuals) s t ∧ t.tr = { s.tr with virtuals := t.tr.virtuals } ∧
        (∀ n, 1 ≤ n → n ≤ 32 → slot false t.tr.virtuals n =
          if mask.testBit (n - 1) then values.testBit (n - 1) else slot false s.tr.virtuals n) ∧ kept t) ∧
    (∀ (n : Nat) (x : Option MapEntry), Takes 0x31 f s → readMapSet f.payload = some (n, x) →
      let input (e : MapEntry) : Nat := match e.input with | .line i => i | .virt i => i
      let fits (e : MapEntry) : Prop := 1 ≤ input e ∧ input e ≤ 32 ∧ (∀ z, e.zone = some z → z ≤ 4) ∧
        e.links.length ≤ 4 ∧ e.lamps.length ≤ 4 ∧ (∀ l ∈ e.links, 1 ≤ l ∧ l ≤ 48) ∧ (∀ m ∈ e.lamps, 1 ≤ m ∧ m ≤ 16) ∧
        e.links.Nodup ∧ e.lamps.Nodup
      let right := 1 ≤ n ∧ n ≤ 64 ∧ ∀ e, x = some e → fits e
      (¬ right → Reaches .tallyMapSet s (Refuses .badArgument f s)) ∧
      (right → s.mode = .run → Reaches .tallyMapSet s (Refuses .wrongMode f s)) ∧
      (right → s.mode = .standby → Reaches .tallyMapSet s fun t =>
        Replies f (u8 0 ++ opt MapEntry.bytes x) s t ∧ t.tr = { s.tr with map := s.tr.map.set (n - 1) x } ∧ kept t)) ∧
    (∀ (x : TallySection) (mask : Nat), Takes 0x33 f s → readTallyRead f.payload = some (x, mask) →
      let outside := match x with | .map first => first = 0 ∨ 64 < first | _ => False
      (outside → Reaches .tallyRead s (Refuses .badArgument f s)) ∧
      (¬ outside → Reaches .tallyRead s fun t =>
        Replies f (u8 0 ++ s.tallySection x) s t ∧ t.tr = { s.tr with lines := t.tr.lines } ∧
        (∀ n, 1 ≤ n → n ≤ 32 →
          t.line n = if mask.testBit (n - 1) then { s.line n with edge := false } else s.line n) ∧ kept t)) ∧
    ∀ (z : Nat) (on : Bool), Takes 0x34 f s → readInterlock f.payload = some (z, on) →
      let zone := slot Zone.reset s.tr.zones z
      (z = 0 ∨ 4 < z → Reaches .zoneInterlock s (Refuses .badArgument f s)) ∧
      (1 ≤ z → z ≤ 4 → Reaches .zoneInterlock s fun t =>
        Replies f (u8 0 ++ firstIf zone.onAir ++ firstIf on) s t ∧
        t.tr = { s.tr with zones := s.tr.zones.set (z - 1) { zone with speakerCut := on } } ∧
        (slot Zone.reset t.tk.zones z).speakerCut = on ∧
        (∀ r ∈ t.tk.routes, r.live = true → ∀ w, (t.station r.destination).kind = some .speaker →
          (t.station r.destination).zone = some w →
          ¬ ((slot Zone.reset t.tk.zones w).onAir = true ∧ (slot Zone.reset t.tk.zones w).speakerCut = true)) ∧
        KeepsBut (.tr :: tailParts) s t)

/-- LAMP_CONFIGURE is checked in its order and replaces the lamp's whole configuration, cadences clamped, with a restart where the
displayed state's cadence changes; nothing shown changes yet. PWM_PERIOD_START loads drive, invert and period_select as they then
stand, of that output alone, which is then active for its drive's ticks, high or, with invert, low (R158, R159, R160). -/
def Obligations.LampsConfiguredAndDriven : Prop :=
  (∀ (s : State) (f : HostFrame) (m : Nat) (c : LampConfig), s.shaped → Takes 0x38 f s →
    readLampConfigure f.payload = some (m, c) →
    let x := s.lamp m
    let source : Bool := match c.source with
      | .zone z => decide (1 ≤ z ∧ z ≤ 4) | .talk y => decide (1 ≤ y ∧ y ≤ 24) | .none | .tally => true
    let clamp (d : Cadence) : Cadence := ⟨min 15 d.onFrames, min 15 d.offFrames⟩
    let stored : LampConfig := { c with cadences := ⟨clamp c.cadences.off, clamp c.cadences.preview, clamp c.cadences.program,
      clamp c.cadences.talk, clamp c.cadences.call⟩ }
    let changed := decide (stored.cadences.at_ x.displayed ≠ x.cfg.cadences.at_ x.displayed)
    (m = 0 ∨ 16 < m ∨ source = false ∨ 14 < c.periodSelect → Reaches .lampConfigure s (Refuses .badArgument f s)) ∧
    (1 ≤ m → m ≤ 16 → source = true → c.periodSelect ≤ 14 → Reaches .lampConfigure s fun t =>
      Replies f (u8 0 ++ stored.bytes) s t ∧
      t.lamp m = { x with cfg := stored, restart := x.restart || changed } ∧
      (∀ n, n ≠ m → t.lamp n = s.lamp n) ∧ KeepsBut (.lamps :: sendParts) s t)) ∧
  ∀ (s : State) (m : Nat), s.shaped → s.owed = [] → 1 ≤ m → m ≤ 16 → Reaches (.pwmPeriodStart m) s fun t =>
    t.lamp m = { s.lamp m with drive := (s.lamp m).selected, driveInvert := (s.lamp m).cfg.invert,
                               drivePeriod := (s.lamp m).cfg.periodSelect } ∧
    (∀ tick, (t.lamp m).pinHigh tick = (decide (tick < (s.lamp m).selected) != (s.lamp m).cfg.invert) ∧
      (t.outputs true fun _ => tick).lamps[m - 1]? = some (decide (tick < (s.lamp m).selected))) ∧
    (∀ n, n ≠ m → t.lamp n = s.lamp n) ∧ KeepsBut [.lamps] s t

/-- GROUP_DEFINE: a group number outside 1..8, a list longer than 12, a station outside 1..24 or one named twice is refused with
BAD_ARGUMENT, then RUN with WRONG_MODE; otherwise the list replaces the group's members alone. STATION_DEFINE is checked in its
order and replaces the station's configuration whole, clamped, every key OFF and every working field at rest; kind none returns the
station to its defaults (R164, R165). That LINKED or IFB with no link is refused, and that kind none is held to every range but never
to CONFLICT (log entry 25, DEDUCED), and the priority of an undefined station (log entry 15), are the model's choices. -/
def Obligations.StationsAndGroupsDefined : Prop :=
  ∀ (s : State) (f : HostFrame), s.shaped →
    (∀ (g : Nat) (ms : List Nat), Takes 0x41 f s → readGroupDefine f.payload = some (g, ms) →
      let right := 1 ≤ g ∧ g ≤ 8 ∧ ms.length ≤ 12 ∧ (∀ m ∈ ms, 1 ≤ m ∧ m ≤ 24) ∧ ms.Nodup
      (¬ right → Reaches .groupDefine s (Refuses .badArgument f s)) ∧
      (right → s.mode = .run → Reaches .groupDefine s (Refuses .wrongMode f s)) ∧
      (right → s.mode = .standby → Reaches .groupDefine s fun t =>
        Replies f (u8 0) s t ∧ t.tk = { s.tk with groups := s.tk.groups.set (g - 1) ms } ∧
        KeepsBut (.tk :: sendParts) s t)) ∧
    ∀ (n : Nat) (x : Station), Takes 0x40 f s → readStationDefine f.payload = some (n, x) →
      let riding := x.kind = some .linked ∨ x.kind = some .ifb
      let wired := x.kind = some .panel ∨ x.kind = some .speaker
      let aims (k : Key) : Prop := match k.target with
        | .station m => 1 ≤ m ∧ m ≤ 24 ∧ m ≠ n
        | .group g => 1 ≤ g ∧ g ≤ 8
      let right := 1 ≤ n ∧ n ≤ 24 ∧ (riding → ∃ l, x.link = some l ∧ 1 ≤ l ∧ l ≤ 48) ∧ (wired → x.link = none) ∧
        (∀ z, x.zone = some z → z ≤ 4) ∧ x.priority ≤ 7 ∧
        (x.kind = some .speaker ∨ x.kind = some .ifb → x.keys = []) ∧ x.keys.length ≤ 8 ∧
        (∀ k ∈ x.keys, 1 ≤ k.number ∧ k.number ≤ 8 ∧ aims k) ∧ (x.keys.map Key.number).Nodup
      let clash := x.kind ≠ none ∧ x.link ≠ none ∧ ∃ m, 1 ≤ m ∧ m ≤ 24 ∧ m ≠ n ∧ (s.station m).kind ≠ none ∧
        (s.station m).link = x.link
      (¬ right → Reaches .stationDefine s (Refuses .badArgument f s)) ∧
      (right → s.mode = .run → Reaches .stationDefine s (Refuses .wrongMode f s)) ∧
      (right → s.mode = .standby → clash → Reaches .stationDefine s (Refuses .conflict f s)) ∧
      (right → s.mode = .standby → ¬ clash → Reaches .stationDefine s fun t =>
        let y := t.station n
        Replies f (u8 0 ++ t.stationBytes n) s t ∧
        (x.kind = none → y = Station.undefined) ∧
        (x.kind ≠ none → y = { x with
            tapWindow := max 2 (min 50 x.tapWindow), callFrames := max 1 (min 250 x.callFrames),
            dimDepth := min 31 x.dimDepth, keys := y.keys } ∧
          y.pulseEnd = none ∧ y.dimOrder = none ∧ y.dimRetry = false ∧ y.lampAcked = none ∧ y.lampOrder = none ∧
          y.lampRetry = none ∧ y.lastRefusal = none ∧ y.keys.Perm x.keys ∧
          ∀ k ∈ y.keys, k.state = .off ∧ k.pressed = false ∧ k.tapDeadline = none) ∧
        (∀ m, m ≠ n → t.station m = s.station m) ∧ t.tk = { s.tk with stations := t.tk.stations } ∧
        KeepsBut (.tk :: sendParts) s t)

/-- KEY_EVENT: the checks of R166 in order; a repeat has no effect; and any other event moves the key by its mode. A key that starts
talking gains a holder on every route it covers, unless the table has no room, when it stays OFF and the station is told; one that
stops loses them; and a CALL key starts a pulse on every covered station that has none (R144, R166 to R169, R171, R172). -/
def Obligations.KeyEventsTaken : Prop :=
  ∀ (s : State) (f : HostFrame) (x n : Nat) (down : Bool), s.shaped → s.routesSound → Takes 0x42 f s →
    readKeyPress f.payload = some ⟨x, n, down⟩ →
    let refused (r : Result) : Prop := Reaches .keyEvent s (Refuses r f s)
    let holders (y : State) (d : Nat) : Nat := ((y.tk.routes.find? fun r => decide (r.source = x ∧ r.destination = d)).map
      Route.holders).getD 0
    (x = 0 ∨ 24 < x ∨ n = 0 ∨ 8 < n → refused .badArgument) ∧
    (1 ≤ x → x ≤ 24 → 1 ≤ n → n ≤ 8 →
      (s.mode = .standby → refused .wrongMode) ∧
      (s.mode = .run → (s.station x).kind ≠ some .panel → refused .wrongState) ∧
      (s.mode = .run → (s.station x).kind = some .panel → (s.station x).key n = none → refused .wrongState) ∧
      ∀ k, s.mode = .run → (s.station x).kind = some .panel → (s.station x).key n = some k →
        let covered (d : Nat) : Bool := s.covers x k d && decide (1 ≤ d ∧ d ≤ 24)
        let fresh := (oneUpTo 24).countP fun d => covered d && decide (holders s d = 0)
        let moves : Option KeyState := if k.pressed = down then none else match k.mode, down, k.state with
          | .momentary, true, .off => some .held
          | .momentary, false, .held => some .off
          | .latch, true, .off => some .latched
          | .latch, true, .latched => some .off
          | .auto, true, .off => some .tapping
          | .auto, true, .latched => some .off
          | .auto, false, .tapping => some .latched
          | .auto, false, .held => some .off
          | _, _, _ => none
        let starts := k.state = .off ∧ moves ≠ none
        let barred := starts ∧ 64 < s.tk.routes.length + fresh
        let new : Key := { k with
          pressed := down,
          state := if barred then .off else moves.getD k.state,
          tapDeadline := if barred ∨ moves = none then k.tapDeadline else if moves = some .tapping
            then some (framePlus s.now (s.station x).tapWindow) else none }
        let calls := k.mode = .call ∧ down = true ∧ k.pressed = false
        Reaches .keyEvent s fun t =>
          Replies f (u8 0 ++ u8 new.state.code) s t ∧ (t.station x).key n = some new ∧
          (∀ m, m ≠ n → (t.station x).key m = (s.station x).key m) ∧ (∀ y, y ≠ x → (t.station y).keys = (s.station y).keys) ∧
          (barred → Notified .stationRefused x t ∧ (t.station x).lastRefusal = some (n, s.now)) ∧
          (∀ d, holders t d = if starts ∧ ¬ barred ∧ covered d = true then holders s d + 1
            else if moves = some .off ∧ covered d = true then holders s d - 1 else holders s d) ∧
          (∀ d, 1 ≤ d → d ≤ 24 → (t.station d).pulseEnd = if calls ∧ covered d = true ∧ (s.station d).pulseEnd = none
            then some (framePlus s.now (s.station x).callFrames) else (s.station d).pulseEnd) ∧
          (∀ l d, 1 ≤ l → l ≤ 48 → (s.link l).cfg.station = some d → calls → covered d = true → (s.station d).pulseEnd = none →
            (t.link l).wanted = { tally := slot .off s.tr.linkTally l, call := true }) ∧
          KeepsBut tailParts s t)

/-! ## Modes and resets -/

/-- START is refused in RUN; otherwise the part enters RUN, every defined link's watchdog starts afresh and an ACQUIRING link gets a
new deadline, and a SCAN_ASSIGN goes out for every defined band with a scan_unit (R28, R98, R195). -/
def Obligations.StartEntersRun : Prop :=
  ∀ (s : State) (f : HostFrame), s.shaped → Takes 0x70 f s → f.payload = [] →
    (s.mode = .run → Reaches .start s (Refuses .wrongMode f s)) ∧
    (s.mode = .standby → Reaches .start s fun t =>
      Replies f (u8 0) s t ∧ t.mode = .run ∧
      (∀ l, 1 ≤ l → l ≤ 48 → let k := s.link l
        (t.link l).core = (if k.cfg.kind = none then k else
          { k with silenceCounter := k.cfg.silenceLimit, deadline := if k.state = .acquiring
            then some (framePlus s.now k.cfg.acquireLimit) else k.deadline }).core) ∧
      (∀ b u, 1 ≤ b → b ≤ 4 → 1 ≤ u → u ≤ 24 → (s.band b).defined = true → (s.band b).p.scanUnit = some u →
        Ordered u (.scanAssign b ((s.band b).p.baseKhz + 25 * (s.band b).p.scanStart) (25 * (s.band b).p.binWidth)
          (s.band b).p.binCount) (.st b) s t ∨
        ((framePlus s.now 1, (⟨u, (s.band b).p.baseKhz + 25 * (s.band b).p.scanStart, 25 * (s.band b).p.binWidth,
          (s.band b).p.binCount⟩ : ScanOrder)) ∈ (t.band b).scanReissue ∧ 28 < (s.unit u).waiting.length)) ∧
      (∀ b, ({ t.band b with scanReissue := [] }).core = ({ s.band b with scanReissue := [] }).core) ∧
      KeepsBut (.mode :: .bands :: .links :: issueParts ++ afterParts) s t)

/-- STOP is refused in STANDBY, and while the plan is APPLYING or a move is in flight; otherwise the part enters STANDBY: the queue
is withdrawn with each job's treatment, every flag is cleared, tally is OFF and no zone on air, every lamp goes dark, every key, route
and pulse ends with its orders issued, and each camera in service without an order is sent OFF, with CALL only where the resolution came
before its pulse's end; and each LINKED station in service without a lamp order or a retry, whose acknowledged contents are not all OFF
with no source, is sent those, or its order fails and is retried at the next boundary (R69, R122, R154, R162, R180, R184, R196). That
an engine found DRAINING becomes IDLE is R70's table as log entry 18 reads it (DEDUCED). -/
def Obligations.StopEntersStandby : Prop :=
  ∀ (s : State) (f : HostFrame) (tkFirst : Bool), s.shaped → Takes 0x71 f s → f.payload = [] →
    let c := Instr.stop tkFirst
    let bars := s.plan.state = .applying ∨ ∃ k ∈ s.links, k.state = .retuning ∨ k.state = .reverting
    let full (t : State) := 32 ≤ (t.unit 31).waiting.length
    (s.mode = .standby → Reaches c s (Refuses .wrongMode f s)) ∧
    (s.mode = .run → bars → Reaches c s (Refuses .wrongState f s)) ∧
    (s.mode = .run → ¬ bars → Reaches c s fun t =>
      Replies f (u8 0) s t ∧ t.mode = .standby ∧ t.pe.queue = [] ∧
      t.pe.engine = (if s.pe.engine = .running then .draining else .idle) ∧
      (∀ j ∈ s.pe.queue, ∀ l step o, j.kind = .assignCheck l step o → 1 ≤ l → l ≤ 48 →
        (t.assignResult l).map AssignResult.outcome = some .stale ∧ Notified .linkStale l t) ∧
      (∀ j ∈ s.pe.queue, ∀ b number step hw l, j.kind = .query b number step hw l → 1 ≤ b → b ≤ 4 →
        (t.queryResult b).map QueryResult.outcome = some .discarded ∧ Notified .bandQuery b t) ∧
      t.plan = (if s.plan.state = .checking ∧ s.hasJob JobKind.isPlanCheck = true
        then { s.plan with state := .opened, checked := none } else s.plan) ∧
      (∀ b, (t.band b).sweepWanted = false) ∧
      (∀ l, (t.link l).rescue = if (s.link l).rescue = .exhausted then .exhausted else .none) ∧
      (∀ l, 1 ≤ l → l ≤ 48 → slot .off t.tr.linkTally l = .off ∧ (t.link l).wanted = ⟨.off, false⟩) ∧
      (∀ l, 1 ≤ l → l ≤ 48 → let k := s.link l
        let word : TallyWord := ⟨.off, !tkFirst && k.cfg.station.any s.called && decide (k.delivered ≠ some ⟨.off, true⟩)⟩
        k.cfg.kind = some .camera → k.state = .locked ∨ k.state = .fading → k.tallyOrder = none → k.retryAt = none →
        k.delivered ≠ some ⟨.off, false⟩ →
        (∃ id, (t.link l).tallyOrder = some { id := id, word := word, issueFrame := s.now }) ∨
          ((t.link l).tallyOrder = none ∧ (t.link l).retryAt = some (framePlus s.now 4))) ∧
      t.tr.snapFrame = none ∧ t.tr.snapLines = List.replicate 32 false ∧ t.tr.snapVirtuals = List.replicate 32 false ∧
      t.tr.lampTally = List.replicate 16 .off ∧ t.tr.zones = s.tr.zones.map (fun z => { z with onAir := false }) ∧
      t.tr.lines = s.tr.lines ∧ t.tr.virtuals = s.tr.virtuals ∧ t.tr.map = s.tr.map ∧ t.tk.zones = t.tr.zones ∧
      t.lampZones = List.replicate 4 false ∧
      t.lamps = s.lamps.map (fun x => { x with
        displayed := .off, phaseOn := true, remaining := 0, restart := true, selected := 0, heldTally := .off }) ∧
      t.tk.routes = [] ∧ (∀ y, (t.station y).pulseEnd = none ∧ (t.station y).keys = (s.station y).keys.map fun k =>
        { k with state := .off, pressed := false, tapDeadline := none }) ∧
      (∀ r ∈ s.tk.routes, r.live = true → 1 ≤ r.source → r.source ≤ 24 → 1 ≤ r.destination → r.destination ≤ 24 →
        Ordered 31 (.crosspoint false r.source r.destination) (.tkBreak r.source r.destination) s t ∨ full t) ∧
      (∀ y, 1 ≤ y → y ≤ 24 → (s.station y).kind = some .ifb → 0 < (s.station y).dimDepth →
        Ordered 31 (.dim y 0) (.tkDim y) s t ∨ full t) ∧
      (∀ y l, 1 ≤ y → y ≤ 24 → let k := s.station y
        let c := (s.link l).cfg
        let dark : LampContents := { keys := List.replicate 8 .off, source := none }
        k.kind = some .linked → k.link = some l → (s.link l).state = .locked ∨ (s.link l).state = .fading → k.lampOrder = none →
        k.lampRetry = none → (t.station y).lampAcked = k.lampAcked ∧
          (k.lampAcked = some dark → (t.station y).lampOrder = none ∧ (t.station y).lampRetry = none) ∧
          (k.lampAcked ≠ some dark → 1 ≤ c.unit → c.unit ≤ 24 →
            (Ordered c.unit (.talkLamp c.channel dark) (.tkLamp y) s t ∧ ∃ id, (t.station y).lampOrder = some (id, dark)) ∨
            ((t.station y).lampOrder = none ∧ (t.station y).lampRetry = some (framePlus s.now 1)))) ∧
      KeepsBut (.mode :: .plan :: .tr :: .lamps :: .lampZones :: tailParts) s t)

/-- RESTART gives every block its values after warm reset, in any state: configuration is kept, links return to IDLE, results, orders,
routes and notices go, and the timebase runs on. COLD_RESET gives every block its values after cold reset, with the bit rate of the
straps (R16, R38, R70, R99, R123, R136, R155, R163, R185, R197, R198). That an engine found DRAINING becomes IDLE at RESTART is R70's
table as log entry 18 reads it (DEDUCED); that waiting commands stay, and the priority of an undefined station, are the model's choices
(log entries 1 and 15). -/
def Obligations.ResetsTakeTheirValues : Prop :=
  (∀ (s : State) (f : HostFrame), s.shaped → Takes 0x72 f s → f.payload = [] → Reaches .restart s fun t =>
    Replies f (u8 0) s t ∧ t.mode = .standby ∧ Notified .deviceRestart 0 t ∧
    (∀ n ∈ t.nq, n = { cls := .device, obj := 0, causes := 2 }) ∧
    t.bands = s.bands.map (fun k => { k with
      frozen := false, carrierGen := 0, spectrumGen := 0, sweepWanted := false, spares := [], sparesFresh := false,
      bins := k.bins.map (fun _ => { level := none, hot := false }), scanReissue := [] }) ∧
    t.links = s.links.map (fun k => if k.cfg.kind = none then Link.vacant else
      { Link.vacant with cfg := k.cfg, state := .idle, silenceCounter := k.cfg.silenceLimit }) ∧
    t.pe.queue = [] ∧ t.pe.engine = (if s.pe.engine = .running then .draining else .idle) ∧ t.pe.queryNumber = 0 ∧
    (∀ n, t.assignResult n = none ∧ t.rescueResult n = none ∧ t.queryResult n = none) ∧
    t.plan = ⟨.idle, [], none, none, none⟩ ∧ (∀ u ∈ t.units, u = ⟨0, [], []⟩) ∧
    t.tr.lines = s.tr.lines.map (fun x => { x with edge := false }) ∧ t.tr.map = s.tr.map ∧
    t.tr.virtuals = List.replicate 32 false ∧ t.tr.snapFrame = none ∧ t.tr.snapLines = List.replicate 32 false ∧
    t.tr.snapVirtuals = List.replicate 32 false ∧ t.tr.linkTally = List.replicate 48 .off ∧
    t.tr.lampTally = List.replicate 16 .off ∧ t.lampZones = List.replicate 4 false ∧
    t.tr.zones = s.tr.zones.map (fun z => { z with onAir := false }) ∧
    t.lamps = s.lamps.map (fun x => { x with
      displayed := .off, phaseOn := true, remaining := 0, restart := true, selected := 0, heldTally := .off }) ∧
    t.tk.groups = s.tk.groups ∧ t.tk.routes = [] ∧ t.tk.breaks = [] ∧ t.tk.zones = t.tr.zones ∧
    t.tk.stations = s.tk.stations.map (fun x => { Station.undefined with
      kind := x.kind, link := x.link, zone := x.zone, priority := x.priority, dimDepth := x.dimDepth,
      tapWindow := x.tapWindow, callFrames := x.callFrames,
      keys := x.keys.map fun k => { k with state := .off, pressed := false, tapDeadline := none } }) ∧
    t.mp.pushMask = s.mp.pushMask ∧ t.mp.attnMask = s.mp.attnMask ∧ t.mp.bitRate = s.mp.bitRate ∧
    KeepsBut [.mode, .bands, .sweepFlags, .links, .rescues, .tallies, .pe, .plan, .units, .tr, .lamps, .lampZones, .tk, .mp,
      .notices] s t) ∧
  ∀ (s : State) (straps : BitVec 3), Reaches (.coldReset straps) s fun t =>
    t.mode = .standby ∧ t.mp.bitRate = straps ∧ t.mp.rx = [] ∧ t.mp.buffer = [] ∧ t.mp.refusals = [] ∧ t.mp.reply = none ∧
    t.mp.fetched = [] ∧ t.mp.sending = none ∧ t.mp.pushMask = 0 ∧ t.mp.attnMask = 0 ∧ t.mp.noticeNumber = 0 ∧
    t.nq = [{ cls := .device, obj := 0, causes := 1 }] ∧
    t.mp.lastSent = none ∧ t.bus = [] ∧ t.owed = [] ∧
    t.ftb.rate = .r50 ∧ t.ftb.lead = 6 ∧ t.ftb.refState = .absent ∧ t.ftb.goodCount = 0 ∧ t.ftb.measuredPeriod = 0 ∧
    t.ftb.goodPeriod = 20000 ∧ t.ftb.counter = 0 ∧ t.ftb.lastPulse = none ∧ t.ftb.nextInternal = some 20000 ∧
    (∀ b, (t.band b).defined = false ∧ (t.band b).p = ⟨0, 0, 0, 0, 0, 0, 0, 0, 0, 0, 0, 0, 0, none⟩ ∧
      (t.band b).frozen = false ∧ (t.band b).carrierGen = 0 ∧ (t.band b).spectrumGen = 0 ∧ (t.band b).sweepWanted = false ∧
      (t.band b).exclusions = [] ∧ (t.band b).bins = [] ∧ (t.band b).spares = [] ∧ (t.band b).sparesFresh = false ∧
      (t.band b).scanReissue = []) ∧
    (∀ l, let k := t.link l
      k.cfg.kind = none ∧ k.state = .vacant ∧ k.assigned = none ∧ k.pending = none ∧ k.badRun = 0 ∧ k.goodRun = 0 ∧
      k.fadeTimer = 0 ∧ k.rescue = .none ∧ k.origin = none ∧ k.effectiveFrame = none ∧ k.deadline = none ∧
      k.lastReport = none ∧ k.lostCause = none ∧ k.wanted = ⟨.off, false⟩ ∧ k.delivered = none ∧ k.tallyOrder = none ∧
      k.retryAt = none ∧ k.muteReissue = []) ∧
    t.pe.queue = [] ∧ t.pe.engine = .idle ∧ t.pe.queryNumber = 0 ∧
    (∀ n, t.assignResult n = none ∧ t.rescueResult n = none ∧ t.queryResult n = none) ∧
    t.plan = ⟨.idle, [], none, none, none⟩ ∧ (∀ u ∈ t.units, u = ⟨0, [], []⟩) ∧
    (∀ n, t.line n = { filterK := 2, inverted := false, filtered := false, run := 0, edge := false }) ∧
    t.tr.virtuals = List.replicate 32 false ∧ (∀ e ∈ t.tr.map, e = none) ∧ t.tr.snapLines = List.replicate 32 false ∧
    t.tr.snapVirtuals = List.replicate 32 false ∧ t.tr.snapFrame = none ∧ t.tr.linkTally = List.replicate 48 .off ∧
    t.tr.lampTally = List.replicate 16 .off ∧ t.tr.zones = List.replicate 4 { onAir := false, speakerCut := true } ∧
    (∀ m, t.lamp m =
      { cfg := ⟨.none, ⟨0, 0, 0, 0, 0⟩, ⟨⟨0, 0⟩, ⟨0, 0⟩, ⟨0, 0⟩, ⟨0, 0⟩, ⟨0, 0⟩⟩, false, 6⟩, displayed := .off, phaseOn := true,
        remaining := 0, restart := true, selected := 0, drive := 0, driveInvert := false, drivePeriod := 6,
        heldTally := .off }) ∧
    t.lampZones = List.replicate 4 false ∧
    (∀ y, t.station y =
      { kind := none, link := none, zone := none, priority := 0, dimDepth := 0, tapWindow := 12, callFrames := 50, keys := [],
        pulseEnd := none, dimOrder := none, dimRetry := false, lampAcked := none, lampOrder := none, lampRetry := none,
        lastRefusal := none }) ∧
    (∀ g ∈ t.tk.groups, g = []) ∧ t.tk.routes = [] ∧ t.tk.breaks = [] ∧
    t.tk.zones = List.replicate 4 { onAir := false, speakerCut := true } ∧
    t.pending = s.pending

/-! ## Packets of the Unit Bus -/

/-- REPORT: a malformed packet has no effect; in STANDBY only its acknowledgements are taken. An acknowledged order leaves its unit,
the place goes to the oldest waiting order that is no TALLY, and its issuer is told: a tally word or lamp contents are then
delivered. A number that no outstanding order carries is set aside. A key event reaches the LINKED station of its link, whose lamps are
then tested. In RUN the whole report is its acknowledgements, then its samples, then its key events, each as it is alone (R125, R128,
R129, R132, R134, R146, R166, R180). That a place is granted before the issuer is told (log entry 10), and that the steps its links and
keys are owed come before it (log entry 3), are the model's choices. -/
def Obligations.ReportsTaken : Prop :=
  (∀ (s : State) (bs : List Byte), readReport bs = none → exec (.report bs) s = .next s) ∧
  (∀ (s : State) (bs : List Byte) (r : Report), readReport bs = some r → s.mode = .standby →
    exec (.report bs) s = .next (finish s (acknowledgeAll r.unit r.acks s))) ∧
  (∀ (s : State) (bs : List Byte) (r : Report) (n : Byte), s.shaped → s.unitsSound → s.talkSettled →
    readReport bs = some r → r.acks = [n] → r.samples = [] → r.keys = [] →
    let u := s.unit r.unit
    Reaches (.report bs) s fun t =>
      (∀ o ∈ u.outstanding, o.number = some n →
        (∀ x ∈ (t.unit r.unit).orders, x.id ≠ o.id) ∧
        (∀ x ∈ u.orders, x.id ≠ o.id → x.displaceable = false → Holds x t) ∧
        (∀ w, u.waiting.find? (fun x => !x.isTally) = some w → w.displaceable = false →
          ∃ x ∈ (t.unit r.unit).outstanding, x.id = w.id ∧ x.body = w.body ∧ x.number = some u.nextNumber) ∧
        (∀ l x, o.issuer = .tr l → 1 ≤ l → l ≤ 48 → (s.link l).tallyOrder = some x → x.id = o.id →
          (t.link l).delivered = some x.word ∧ (t.link l).tallyOrder ≠ some x) ∧
        (∀ y lit, o.issuer = .tkLamp y → 1 ≤ y → y ≤ 24 → (s.station y).lampOrder = some (o.id, lit) →
          (t.station y).lampAcked = some lit)) ∧
      ((∀ o ∈ u.outstanding, o.number ≠ some n) → KeepsBut afterParts s t) ∧ KeepsBut tailParts s t) ∧
  (∀ (s : State) (bs : List Byte) (r : Report) (x : KeyReport) (l y : Nat) (k : Key), s.shaped → s.talkSettled → s.mode = .run →
    readReport bs = some r → r.acks = [] → r.samples = [] → r.keys = [x] → s.linkAt r.unit x.channel = some l →
    (s.link l).cfg.station = some y → 1 ≤ y → y ≤ 24 → 1 ≤ x.key → x.key ≤ 8 → (s.station y).key x.key = some k →
    (∀ o ∈ keySteps y x.key, o ∉ s.owed) →
    Reaches (.report bs) s fun t =>
      ((s.station y).kind = some .linked → ((t.station y).key x.key).map Key.pressed = some x.down) ∧
      ((s.station y).kind = some .linked → k.pressed ≠ x.down → (s.station y).lampOrder = none → (s.station y).lampRetry = none →
        (∃ m, (s.station y).link = some m ∧ ((s.link m).state = .locked ∨ (s.link m).state = .fading)) →
        (t.station y).lampAcked = some (t.lampContents y) ∨ (∃ id, (t.station y).lampOrder = some (id, t.lampContents y)) ∨
          ((t.station y).lampOrder = none ∧ (t.station y).lampRetry = some (framePlus s.now 1))) ∧
      ((s.station y).kind ≠ some .linked → KeepsBut afterParts s t) ∧ KeepsBut tailParts s t) ∧
  (∀ (s : State) (bs : List Byte) (r : Report), readReport bs = some r → s.mode = .run →
    exec (.report bs) s = exec (.report bs) (takeSome (s.reportSteps r) s)) ∧
  (∀ (s : State) (bs only : List Byte) (r : Report), readReport bs = some r → s.mode = .run →
    (∀ o ∈ s.reportSteps r, o ∉ s.owed) → readReport only = some { r with samples := [], keys := [] } →
    Reaches (.report only) s fun a =>
      exec (.report bs) s = .next (r.keys.foldl (reportKey r.unit) (r.samples.foldl (reportSample r.unit) a))) ∧
  ∀ (s : State) (bs : List Byte) (u : Nat), s.mode = .run → finish s s = s →
    (∀ x : Sample, readReport bs = some ⟨u, [x], [], []⟩ → (∀ o ∈ s.reportSteps ⟨u, [x], [], []⟩, o ∉ s.owed) →
      exec (.report bs) s = .next (reportSample u s x)) ∧
    ∀ x : KeyReport, readReport bs = some ⟨u, [], [x], []⟩ → (∀ o ∈ s.reportSteps ⟨u, [], [x], []⟩, o ∉ s.owed) →
      exec (.report bs) s = .next (reportKey u s x)

/-- A sample of a REPORT, in RUN: it is recorded and restarts the silence watchdog, is classed by lock, level, quality and tuned step,
and moves its link as the link's state says: acquisition, the fade filter, the return from LOST, or the confirmation of a retune or
revert, with the plan outcome of each (R75 to R79, R87, R89, R90, R95, R101, R102, R106, R133). That a return from LOST to LOCKED leaves
effective_frame and deadline as they stand is the model's choice (log entry 23). -/
def Obligations.SamplesMoveLinks : Prop :=
  ∀ (s : State) (bs : List Byte) (r : Report) (x : Sample), s.shaped → s.talkSettled → s.mode = .run →
    readReport bs = some r → r.acks = [] → r.keys = [] → r.samples = [x] → 1 ≤ x.channel → x.channel ≤ 4 →
    (s.linkAt r.unit x.channel = none → Reaches (.report bs) s (KeepsBut afterParts s)) ∧
    ∀ l, s.linkAt r.unit x.channel = some l → (∀ o ∈ sampleSteps l, o ∉ s.owed) → 1 ≤ (s.link l).cfg.band → (s.link l).cfg.band ≤ 4 →
      let k := s.link l
      let c := k.cfg
      let p := (s.band c.band).p
      let n := (x.khz - p.baseKhz) / 25
      let step : Option Nat := if x.khz = p.baseKhz + 25 * n ∧ n < p.steps then some n else none
      let battery := if 100 < x.battery then 100 else x.battery
      let bad := x.lock = false ∨ x.level < c.fadeLevel ∨ c.fadeQuality < x.quality ∨
        ((k.state = .locked ∨ k.state = .fading) ∧ step ≠ k.assigned)
      let good := ¬ bad ∧ c.recoverLevel ≤ x.level ∧ x.quality ≤ c.recoverQuality
      let badRun := if bad then min (k.badRun + 1) c.filterK else 0
      let goodRun := if good then min (k.goodRun + 1) c.filterK else 0
      let timely : Bool := match k.effectiveFrame with | some e => decide (0 ≤ (s.now - e).toInt) | none => false
      let e := framePlus s.now s.ftb.lead
      let seen : Link := { k with silenceCounter := c.silenceLimit
                                  lastReport := some ⟨x.level, x.quality, x.lock, step, battery, s.now⟩ }
      let fresh : Link := { seen with badRun := 0, goodRun := 0, lostCause := none }
      let done : Link := { fresh with state := .locked, effectiveFrame := none, deadline := none }
      let confirmed : Bool := decide (k.state = .retuning ∧ good ∧ step = k.pending) && timely
      let next : Link := match k.state with
        | .acquiring => if good ∧ step = k.assigned ∧ timely = true then done else seen
        | .locked => if bad ∧ c.filterK ≤ k.badRun + 1 then { fresh with state := .fading, fadeTimer := 0 }
            else { seen with badRun := badRun, goodRun := goodRun }
        | .fading => if good ∧ c.filterK ≤ k.goodRun + 1 then { fresh with state := .locked, fadeTimer := 0 }
            else { seen with badRun := badRun, goodRun := goodRun }
        | .lost => if step ≠ k.assigned then
              { fresh with state := .reverting, effectiveFrame := some e, deadline := some (framePlus e c.confirmWindow), origin := none }
            else if good ∧ c.filterK ≤ k.goodRun + 1 then { fresh with state := .locked }
            else { seen with badRun := badRun, goodRun := goodRun }
        | .retuning => if confirmed then { done with assigned := k.pending, pending := none, origin := none, moveOrder := none }
            else seen
        | .reverting => if good ∧ step = k.assigned ∧ timely = true then { done with origin := none } else seen
        | .vacant | .idle | .parked => seen
      let outcome : EntryOutcome := if k.state = .retuning then .moved else .reverted
      Reaches (.report bs) s fun t =>
        (t.link l).core = next.core ∧ (next.state ≠ k.state → Notified .linkState l t) ∧
        (battery < c.batteryLow → (∀ y, k.lastReport = some y → c.batteryLow ≤ y.battery) → Notified .linkBattery l t) ∧
        (k.state = .lost → step ≠ k.assigned → 1 ≤ c.unit → c.unit ≤ 24 →
          Ordered c.unit (.tune c.channel (p.baseKhz + 25 * k.assigned.getD 0) e) (.lsTune l) s t ∨ s.unitFull c.unit) ∧
        (k.state = .retuning ∨ k.state = .reverting → next.state = .locked → k.origin = some .plan → s.plan.state = .applying →
          ∀ y ∈ s.plan.entries, y.link = l → y.outcome = none → { y with outcome := some outcome } ∈ t.plan.entries) ∧
        LinkAlone l s t ∧ CarrierChanges c.band (if confirmed then 1 else 0) s t ∧
        KeepsBut (.links :: .bands :: .plan :: tailParts) s t

/-- SCAN_DATA: a malformed packet, or one for a band that is not defined, has no effect on the band. Otherwise each level goes to its
bin in turn: a masked bin stays; another rises at once, or falls by at most 4; it becomes hot at hot_level and cool 12 below; and
each such transition makes one spectrum change, which asks for a sweep, and raises a BAND notice (R21, R29, R30, R34, R125, R135). -/
def Obligations.ScanLevelsApplied : Prop :=
  (∀ (s : State) (bs : List Byte), s.owed = [] → readScanData bs = none → exec (.scanData bs) s = .next s) ∧
  ∀ (s : State) (bs : List Byte) (x : ScanData), s.shaped → s.owed = [] → readScanData bs = some x →
    let k := s.band x.band
    (k.defined = false → Reaches (.scanData bs) s (KeepsBut afterParts s)) ∧
    (k.defined = true → 1 ≤ x.band → x.band ≤ 4 → Reaches (.scanData bs) s fun t =>
      let applied (i : Nat) (y : Bin) : Bin := if i < x.first ∨ s.masked x.band i then y
        else match x.levels[i - x.first]? with
          | none => y
          | some v =>
            let level := match y.level with | none => v | some old => max v (old - 4)
            { level := some level, hot := if y.hot then decide (k.p.hotLevel < level + 12) else decide (k.p.hotLevel ≤ level) }
      let bins := k.bins.zipIdx.map fun (y, i) => applied i y
      let changes := (k.bins.zip bins).countP fun (y, z) => decide (y.hot ≠ z.hot)
      (t.band x.band).bins = bins ∧ (t.band x.band).spectrumGen = k.spectrumGen + BitVec.ofNat 32 changes ∧
      (0 < changes → Notified .bandSpectrum x.band t ∧ (t.band x.band).sparesFresh = false ∧ SweepAsked x.band t) ∧
      (t.band x.band).carrierGen = k.carrierGen ∧ (t.band x.band).spares = k.spares ∧ (t.band x.band).p = k.p ∧
      BandAlone x.band s t ∧ KeepsBut (.bands :: afterParts) s t)

/-- MATRIX_REPORT: an acknowledged order leaves the matrix unit's list; a make then stands CONFIRMED, and a break's pair leaves the
break list. In the same event, after the acknowledgements, whatever the report acknowledges, every LIVE route whose make FAILED is made
again, every pair without an outstanding break is broken again, and a failed DIM goes out with the depth now wanted (R129, R135, R176,
R177, R178). A FAILED make of which the unit still holds the order is the one case left to the acknowledgement. -/
def Obligations.MatrixReportsTaken : Prop :=
  (∀ (s : State) (bs : List Byte), s.owed = [] → readMatrixReport bs = none → exec (.matrixReport bs) s = .next s) ∧
  (∀ (s : State) (bs : List Byte) (n : Byte) (o : Order), s.shaped → s.owed = [] → s.unitsSound →
    readMatrixReport bs = some [n] → o ∈ (s.unit 31).outstanding → o.number = some n →
    Reaches (.matrixReport bs) s fun t =>
      (∀ x ∈ (t.unit 31).orders, x.id ≠ o.id) ∧
      (∀ a d, o.issuer = .tkBreak a d → ∀ b ∈ t.tk.breaks, b.source = a → b.destination = d → b.order ≠ some o.id) ∧
      (∀ a d, o.issuer = .tkBreak a d → s.talkSettled → s.routesSound →
        (∀ b ∈ s.tk.breaks, b.source = a → b.destination = d → b.order = some o.id) →
        ∀ b ∈ t.tk.breaks, ¬ (b.source = a ∧ b.destination = d)) ∧
      (∀ a d, o.issuer = .tkMake a d → s.talkSettled → s.routesSound → ∀ r ∈ s.tk.routes, r.source = a → r.destination = d →
        r.live = true → r.makeOrder = some o.id → { r with make := some .confirmed } ∈ t.tk.routes) ∧
      KeepsBut tailParts s t) ∧
  ∀ (s : State) (bs acks : List Byte), s.shaped → s.owed = [] → readMatrixReport bs = some acks →
    Reaches (.matrixReport bs) s fun t =>
      let sent (body : OrderBody) (i : Issuer) : Prop := Ordered 31 body i s t ∨ 32 ≤ (t.unit 31).waiting.length
      (∀ r ∈ s.tk.routes, r.live = true → r.make = some .failed → 1 ≤ r.source → r.source ≤ 24 → 1 ≤ r.destination →
        r.destination ≤ 24 → acks = [] ∨ (∀ o ∈ (s.unit 31).orders, r.makeOrder ≠ some o.id) →
        sent (.crosspoint true r.source r.destination) (.tkMake r.source r.destination)) ∧
      (∀ b ∈ s.tk.breaks, b.order = none → sent (.crosspoint false b.source b.destination) (.tkBreak b.source b.destination)) ∧
      (∀ y, 1 ≤ y → y ≤ 24 → (s.station y).kind = some .ifb → (s.station y).dimRetry = true → 0 < (s.station y).dimDepth →
        sent (.dim y (if (liveTo y s.tk.routes).isEmpty then 0 else (s.station y).dimDepth)) (.tkDim y)) ∧
      KeepsBut tailParts s t

/-! ## The evaluator engine -/

/-- ASSIGN_CHECK_COMPLETE: STALE where the link, its band or its half-width has changed since the job joined, the carriers have since
it started, or the band is frozen; else PASS or REFUSED by the margin of the candidate check over the snapshot. A pass holds the carrier,
prunes the spares and masks the bins near it, and the link enters ACQUIRING; each result is recorded, and the job leaves the queue (R23,
R31, R33, R59 to R61, R74, R86). That a move which a later one undoes still counts is the model's choice (log entry 42). -/
def Obligations.AssignChecksComplete : Prop :=
  ∀ (s : State) (l step : Nat) (override : Bool) (q : Snapshot), s.shaped → s.owed = [] → 1 ≤ l → l ≤ 48 →
    s.running = some (.assignCheck l step override, q) →
    let k := s.link l
    let b := k.cfg.band
    let worst := candidateCheck q.one override step q.linkHw l
    let stale := k.state ≠ .idle ∨ b ≠ q.linkBand ∨ k.cfg.hw ≠ q.linkHw ∨ (s.band b).frozen = true ∨
      (s.band q.one.band).carrierGen ≠ q.one.carrierGen ∨ ∃ j ∈ s.pe.queue, j.snap.isSome = true ∧ j.moved = true
    let result (o : AssignOutcome) (w : Option Constraint) : Option AssignResult :=
      some { outcome := o, step := step, override := override, gen := some q.one.carrierGen, worst := w }
    let e := framePlus s.now s.ftb.lead
    let leaves (t : State) : Prop :=
      (s.pe.queue.eraseP fun j => j.snap.isSome).map Job.kind <+: t.pe.queue.map Job.kind
    (stale → Reaches .assignCheckComplete s fun t =>
      t.assignResult l = result .stale none ∧ Notified .linkStale l t ∧ leaves t ∧ KeepsBut tailParts s t) ∧
    (¬ stale → worst.margin < 0 → Reaches .assignCheckComplete s fun t =>
      t.assignResult l = result .refused (some worst) ∧ Notified .linkRefused l t ∧ leaves t ∧ KeepsBut tailParts s t) ∧
    (¬ stale → 0 ≤ worst.margin → 1 ≤ b → b ≤ 4 → 1 ≤ k.cfg.unit → k.cfg.unit ≤ 24 → Reaches .assignCheckComplete s fun t =>
      t.assignResult l = result .pass (some worst) ∧ Notified .linkState l t ∧ leaves t ∧
      (t.link l).state = .acquiring ∧ (t.link l).assigned = some step ∧ (t.link l).effectiveFrame = some e ∧
      (t.link l).deadline = some (framePlus e k.cfg.acquireLimit) ∧ (t.link l).silenceCounter = k.cfg.silenceLimit ∧
      (t.link l).fadeTimer = 0 ∧
      (Ordered k.cfg.unit (.tune k.cfg.channel ((s.band b).p.baseKhz + 25 * step) e) (.lsTune l) s t ∨ s.unitFull k.cfg.unit) ∧
      (t.band b).spares = (s.band b).spares.filter (fun x => decide (x.step + k.cfg.hw + (s.band b).p.gapCc < step) ||
        decide (step + k.cfg.hw + (s.band b).p.gapCc < x.step)) ∧
      (t.band b).bins = (s.band b).bins.zipIdx.map (fun (x, i) =>
        if spanMeets step k.cfg.hw ((s.band b).p.binSpan i) then { level := none, hot := false } else x) ∧
      LinkAlone l s t ∧ CarrierChanges b 1 s t ∧ KeepsBut (.links :: .bands :: .plan :: tailParts) s t)

/-- PLAN_CHECK_COMPLETE gives the CHECKING plan its next state by R62's table; QUERY_COMPLETE replaces the band's query result; and
DRAIN_COMPLETE frees the engine, which then chooses the oldest waiting RESCUE_PICK, or else the oldest waiting job, and starts it on
a snapshot of the part; in RUN the flags are converted first (R54 to R57, R62, R64, R69). That it has no effect where the engine is not
DRAINING, and what an ASSIGN_CHECK of a VACANT link copies, are the model's choices (log entries 14 and 51). -/
def Obligations.PlanQueryAndDrainComplete : Prop :=
  (∀ (s : State) (q : Snapshot), s.shaped → s.owed = [] → s.running = some (.planCheck, q) →
    let worst := planWorst q.bands q.entries
    let stale := (∃ g ∈ q.bands, (s.band g.band).carrierGen ≠ g.carrierGen) ∨ ∃ x ∈ q.entries,
      (s.link x.link).cfg.kind.isSome ≠ x.defined ∨ (s.link x.link).cfg.band ≠ x.band ∨ (s.link x.link).cfg.hw ≠ x.hw
    let broken := ∃ x ∈ q.entries, x.defined = false ∨ ∃ step, x.target = some step ∧
      ∀ g ∈ q.bands, g.band = x.band → g.p.steps ≤ step
    let checked := some (q.bands.map fun g => (g.band, g.carrierGen))
    Reaches .planCheckComplete s fun t =>
      (s.plan.state ≠ .checking → t.plan = s.plan) ∧
      (s.plan.state = .checking → Notified .planState 0 t ∧
        (stale → t.plan = { s.plan with state := .opened, checked := none } ∧ Notified .planInvalidated 0 t) ∧
        (¬ stale → broken → t.plan = { s.plan with state := .rejected, worst := none }) ∧
        (¬ stale → ¬ broken → t.plan = { s.plan with
          state := if 0 ≤ worst.margin then .ready else .rejected, worst := some worst, checked := checked })) ∧
      KeepsBut (.plan :: afterParts) s t) ∧
  (∀ (s : State) (b : Nat) (number : BitVec 16) (step hw l : Nat) (q : Snapshot), s.shaped → s.owed = [] → 1 ≤ b → b ≤ 4 →
    s.running = some (.query b number step hw l, q) →
    let worst := candidateCheck q.one false step hw l
    Reaches .queryComplete s fun t =>
      t.queryResult b = some
        { number := number, step := step, hw := hw, link := l, worst := some worst,
          outcome := if 0 ≤ worst.margin then .pass else .fail,
          score := if 0 ≤ worst.margin then some (4 * min worst.margin 63 - scoreLevel q.one step) else none,
          gens := some (q.one.carrierGen, q.one.spectrumGen) } ∧
      (∀ c, c ≠ b → t.queryResult c = s.queryResult c) ∧ Notified .bandQuery b t ∧ KeepsBut afterParts s t) ∧
  ∀ s : State, s.owed = [] →
    (s.pe.engine ≠ .draining → exec .drainComplete s = .next s) ∧
    (s.pe.engine = .draining → s.mode = .standby → (∀ j ∈ s.pe.queue, j.snap = none) → Reaches .drainComplete s fun t =>
      (s.pe.queue = [] → t.pe = { s.pe with engine := .idle }) ∧
      (∀ j, (s.pe.queue.find? fun j => j.kind.isPick).or s.pe.queue.head? = some j →
        t.pe.engine = .running ∧ { j with snap := some (s.snapshot j.kind) } ∈ t.pe.queue ∧
        t.pe.queue.map Job.kind = s.pe.queue.map Job.kind) ∧ KeepsBut afterParts s t) ∧
    (s.pe.engine = .draining → s.mode = .run → (∀ j ∈ s.pe.queue, j.snap = none) → Reaches .drainComplete s fun t =>
      let kinds := t.pe.queue.map Job.kind
      s.pe.queue.map Job.kind <+: kinds ∧ (kinds = [] → t.pe.engine = .idle) ∧
      (∀ k, (kinds.find? JobKind.isPick).or kinds.head? = some k →
        t.pe.engine = .running ∧ ∃ j ∈ t.pe.queue, j.kind = k ∧ j.snap = some (s.snapshot k)) ∧ KeepsBut afterParts s t)

/-- SWEEP_COMPLETE installs the ranked list, without what a held carrier bars, as FRESH, and wakes the EXHAUSTED links of the band; a
stale sweep, or one of a band no longer defined, installs nothing. RESCUE_PICK_COMPLETE applies R67's and R68's tables: set aside,
tried again, exhausted, deferred, or a retune to the first spare that passes, with the rejected spares removed (R60, R66 to R68,
R120). That the result of a DEFERRED pick has no step and the passing entry's worst constraint, and that of an empty list none, is log
entry 19 (DEDUCED). -/
def Obligations.SweepAndPickComplete : Prop :=
  (∀ (s : State) (b : Nat) (q : Snapshot), s.shaped → s.owed = [] → 1 ≤ b → b ≤ 4 → q.one.band = b →
    s.running = some (.spareSweep b, q) →
    let k := s.band b
    let stale := k.carrierGen ≠ q.one.carrierGen ∨ k.spectrumGen ≠ q.one.spectrumGen
    let bars (x : Spare) (c : Carrier) : Bool :=
      decide (c.step ≤ x.step + c.hw + k.p.gapCc) && decide (x.step ≤ c.step + c.hw + k.p.gapCc)
    let list := ((sweepRanked q.one s.now).take 16).filter fun x => !(s.carrierSet b).any (bars x)
    Reaches .sweepComplete s fun t =>
      (k.defined = false → KeepsBut afterParts s t) ∧
      (k.defined = true → stale → KeepsBut afterParts s t ∧
        ((t.band b).sweepWanted = true ∨ t.hasJob (JobKind.isSweepOf b) = true)) ∧
      (k.defined = true → ¬ stale → (t.band b).core = ({ k with spares := list, sparesFresh := true }).core ∧
        BandAlone b s t ∧ Notified .bandSpares b t ∧
        (list ≠ [] → ∀ l, 1 ≤ l → l ≤ 48 → (s.link l).cfg.band = b → (s.link l).state = .fading →
          (s.link l).rescue = .exhausted → (s.link l).cfg.autoRescue = true →
          (t.link l).rescue = .wanted ∨ (t.link l).rescue = .picking) ∧ KeepsBut (.bands :: afterParts) s t)) ∧
  ∀ (s : State) (l attempt : Nat) (q : Snapshot), s.shaped → s.owed = [] → s.unitsSound → 1 ≤ l → l ≤ 48 →
    s.running = some (.rescuePick l attempt, q) → q.one.band = (s.link l).cfg.band → 1 ≤ q.one.band → q.one.band ≤ 4 →
    1 ≤ (s.link l).cfg.unit → (s.link l).cfg.unit ≤ 24 →
    let k := s.link l
    let b := q.one.band
    let band := s.band b
    let stale := band.carrierGen ≠ q.one.carrierGen ∨ band.spectrumGen ≠ q.one.spectrumGen
    let gone := k.state ≠ .fading ∨ k.rescue ≠ .picking
    let check (x : Spare) := candidateCheck q.one false x.step q.linkHw l
    let fails (x : Spare) : Bool := decide ((check x).margin < 0)
    let rejected := (q.one.spares.takeWhile fails).map Spare.step
    let chosen := q.one.spares.find? fun x => !fails x
    let keeps := band.spares.filter fun x => !rejected.contains x.step
    let result (o : RescueOutcome) (x : Option Spare) (w : Option Spare) : Option RescueResult :=
      some ⟨o, rejected.length + chosen.toList.length, band.spares.length - keeps.length, x.map Spare.step, w.map check⟩
    let e := framePlus s.now s.ftb.lead
    Reaches .rescuePickComplete s fun t =>
      (stale → KeepsBut tailParts s t ∧ (gone → k.rescue ≠ .wanted → (t.link l).rescue = k.rescue) ∧
        (¬ gone → attempt < 3 → (t.link l).rescue = .picking ∧ ∃ j ∈ t.pe.queue, j.kind = .rescuePick l (attempt + 1)) ∧
        (¬ gone → 3 ≤ attempt → (t.link l).rescue = .exhausted ∧ Notified .linkRescue l t)) ∧
      (¬ stale → gone → (t.band b).core = ({ band with spares := keeps }).core ∧ BandAlone b s t ∧ t.pe.rescue = s.pe.rescue ∧
        KeepsBut (.bands :: tailParts) s t) ∧
      (¬ stale → ¬ gone → chosen = none → (t.band b).spares = keeps ∧ (t.link l).rescue = .exhausted ∧
        t.rescueResult l = result .exhausted none q.one.spares.getLast? ∧ Notified .linkRescue l t ∧
        KeepsBut (.bands :: tailParts) s t) ∧
      (∀ x, ¬ stale → ¬ gone → chosen = some x → band.frozen = true → (t.band b).spares = keeps ∧
        (t.link l).rescue = .wanted ∧ t.rescueResult l = result .deferred none (some x) ∧ KeepsBut (.bands :: tailParts) s t) ∧
      (∀ x, ¬ stale → ¬ gone → chosen = some x → band.frozen = false →
        (t.link l).origin = some .rescue ∧ (t.link l).assigned = k.assigned ∧
        (((t.link l).state = .retuning ∧ (t.link l).pending = some x.step ∧ (t.link l).effectiveFrame = some e ∧
            (t.link l).deadline = some (framePlus e k.cfg.confirmWindow) ∧ CarrierChanges b 1 s t ∧
            Ordered k.cfg.unit (.tune k.cfg.channel (band.p.baseKhz + 25 * x.step) e) (.rcRetune l) s t) ∨
          (s.unitFull k.cfg.unit ∧ (t.link l).state = .reverting ∧ (t.link l).pending = none ∧ CarrierChanges b 2 s t)) ∧
        (t.band b).spares = keeps.filter (fun y => decide (y.step + k.cfg.hw + band.p.gapCc < x.step) ||
          decide (x.step + k.cfg.hw + band.p.gapCc < y.step)) ∧
        t.rescueResult l = result .chosen (some x) (some x) ∧ Notified .linkState l t ∧ Notified .linkRescue l t ∧
        LinkAlone l s t) ∧
      KeepsBut (.links :: .bands :: .plan :: tailParts) s t

/-- The set margin of a set of carriers is the least margin of all the constraints it forms: no pair is nearer than its spacing
allows, no carrier nearer to an exclusion or a hot bin, and none nearer to an intermodulation product of the others; the worst
constraint is one of them, the first in the order of R46; and a set that forms none has margin 4095. A candidate check takes the worst
over the held carriers of every other link with the candidate, of SPACING, EXCLUSION and HOT_BIN alone under the override flag; a plan
check over the final set of each touched band and the transitional SPACING constraints. A sweep ranks exactly its eligible candidates,
the highest score first (R39 to R46, R49 to R53). The band of the record of a plan that forms no constraint is the model's choice (log
entry 36). -/
def Obligations.WorstConstraintIsLeast : Prop :=
  (∀ (g : BandSnap) (override : Bool) (step hw l : Nat),
    Worst g.band (Forms g override fun c => (c ∈ g.held ∧ (l = 0 ∨ c.link ≠ l)) ∨
      c = { step := step, hw := hw, link := l, role := .candidate }) (candidateCheck g override step hw l)) ∧
  (∀ (bands : List BandSnap) (es : List EntrySnap),
    Worst ((bands.map BandSnap.band).headD 0) (fun x => ∃ g ∈ bands, Forms g false (InFinal g es) x ∨ Transits g es x)
      (planWorst bands es)) ∧
  ∀ (g : BandSnap) (cs : List Carrier),
    Worst g.band (Forms g false (· ∈ cs)) (evaluate g false cs) ∧
    let w := evaluate g false cs
    let all := constraints g false cs
    (all = [] → w.kind = .none ∧ w.margin = 4095) ∧
    (all ≠ [] → w ∈ all ∧ ∀ c ∈ all, w.margin ≤ c.margin ∧ c.worse w = false) ∧
    (∀ a ∈ cs, ∀ b ∈ cs, a.link ≠ b.link →
      w.margin ≤ |(a.step : Int) - b.step| - a.hw - b.hw - g.p.gapCc ∧
      ∀ v ∈ cs, a.link ≠ v.link → b.link ≠ v.link →
        w.margin ≤ |(v.step : Int) - (2 * a.step - b.step)| - v.hw - (2 * a.hw + b.hw) - g.p.gapIm3 ∧
        (0 < g.p.gapIm5 → w.margin ≤ |(v.step : Int) - (3 * a.step - 2 * b.step)| - v.hw - (3 * a.hw + 2 * b.hw) - g.p.gapIm5) ∧
        ∀ k ∈ cs, a.link ≠ k.link → b.link ≠ k.link → v.link ≠ k.link →
          w.margin ≤ |(v.step : Int) - (a.step + b.step - k.step)| - v.hw - (a.hw + b.hw + k.hw) - g.p.gapIm3x) ∧
    (∀ v ∈ cs, ∀ x ∈ g.exclusions ++ g.hot, x.lo ≤ x.hi →
      w.margin ≤ max 0 (max ((x.lo : Int) - v.step) (v.step - x.hi)) - v.hw - g.p.gapCc) ∧
    ∀ now : FrameNo, 1 ≤ g.p.spareStride → g.p.scanStart ≤ g.p.scanEnd →
      let ranked := sweepRanked g now
      let margin (step : Nat) := (candidateCheck g false step g.p.spareHw 0).margin
      ranked.Pairwise (fun x y => y.score < x.score ∨ (x.score = y.score ∧ x.step < y.step)) ∧
      ∀ x : Spare, x ∈ ranked ↔ (∃ i, x.step = g.p.scanStart + i * g.p.spareStride) ∧ x.step ≤ g.p.scanEnd ∧
        0 ≤ margin x.step ∧ x.score = 4 * min (margin x.step) 63 - scoreLevel g x.step ∧ x.sweepFrame = now
end

