-- ==== Sys2Proof/Laws/State.lean ====
section
/-! SUPPORT. What each update of the state leaves and changes, field by field. -/

namespace Sys2Proof.Machine

variable (s : State)

@[simp] theorem State.modBand_mode (b : Nat) (f : Band → Band) : (s.modBand b f).mode = s.mode := rfl
@[simp] theorem State.modBand_ftb (b : Nat) (f : Band → Band) : (s.modBand b f).ftb = s.ftb := rfl
@[simp] theorem State.modBand_bands (b : Nat) (f : Band → Band) : (s.modBand b f).bands = modSlot f s.bands b := rfl
@[simp] theorem State.modBand_links (b : Nat) (f : Band → Band) : (s.modBand b f).links = s.links := rfl
@[simp] theorem State.modBand_pe (b : Nat) (f : Band → Band) : (s.modBand b f).pe = s.pe := rfl
@[simp] theorem State.modBand_plan (b : Nat) (f : Band → Band) : (s.modBand b f).plan = s.plan := rfl
@[simp] theorem State.modBand_units (b : Nat) (f : Band → Band) : (s.modBand b f).units = s.units := rfl
@[simp] theorem State.modBand_nextOrderId (b : Nat) (f : Band → Band) : (s.modBand b f).nextOrderId = s.nextOrderId := rfl
@[simp] theorem State.modBand_bus (b : Nat) (f : Band → Band) : (s.modBand b f).bus = s.bus := rfl
@[simp] theorem State.modBand_tr (b : Nat) (f : Band → Band) : (s.modBand b f).tr = s.tr := rfl
@[simp] theorem State.modBand_lamps (b : Nat) (f : Band → Band) : (s.modBand b f).lamps = s.lamps := rfl
@[simp] theorem State.modBand_lampZones (b : Nat) (f : Band → Band) : (s.modBand b f).lampZones = s.lampZones := rfl
@[simp] theorem State.modBand_tk (b : Nat) (f : Band → Band) : (s.modBand b f).tk = s.tk := rfl
@[simp] theorem State.modBand_mp (b : Nat) (f : Band → Band) : (s.modBand b f).mp = s.mp := rfl
@[simp] theorem State.modBand_nq (b : Nat) (f : Band → Band) : (s.modBand b f).nq = s.nq := rfl
@[simp] theorem State.modBand_owed (b : Nat) (f : Band → Band) : (s.modBand b f).owed = s.owed := rfl
@[simp] theorem State.modBand_pending (b : Nat) (f : Band → Band) : (s.modBand b f).pending = s.pending := rfl

@[simp] theorem State.modLink_mode (l : Nat) (f : Link → Link) : (s.modLink l f).mode = s.mode := rfl
@[simp] theorem State.modLink_ftb (l : Nat) (f : Link → Link) : (s.modLink l f).ftb = s.ftb := rfl
@[simp] theorem State.modLink_bands (l : Nat) (f : Link → Link) : (s.modLink l f).bands = s.bands := rfl
@[simp] theorem State.modLink_links (l : Nat) (f : Link → Link) : (s.modLink l f).links = modSlot f s.links l := rfl
@[simp] theorem State.modLink_pe (l : Nat) (f : Link → Link) : (s.modLink l f).pe = s.pe := rfl
@[simp] theorem State.modLink_plan (l : Nat) (f : Link → Link) : (s.modLink l f).plan = s.plan := rfl
@[simp] theorem State.modLink_units (l : Nat) (f : Link → Link) : (s.modLink l f).units = s.units := rfl
@[simp] theorem State.modLink_nextOrderId (l : Nat) (f : Link → Link) : (s.modLink l f).nextOrderId = s.nextOrderId := rfl
@[simp] theorem State.modLink_bus (l : Nat) (f : Link → Link) : (s.modLink l f).bus = s.bus := rfl
@[simp] theorem State.modLink_tr (l : Nat) (f : Link → Link) : (s.modLink l f).tr = s.tr := rfl
@[simp] theorem State.modLink_lamps (l : Nat) (f : Link → Link) : (s.modLink l f).lamps = s.lamps := rfl
@[simp] theorem State.modLink_lampZones (l : Nat) (f : Link → Link) : (s.modLink l f).lampZones = s.lampZones := rfl
@[simp] theorem State.modLink_tk (l : Nat) (f : Link → Link) : (s.modLink l f).tk = s.tk := rfl
@[simp] theorem State.modLink_mp (l : Nat) (f : Link → Link) : (s.modLink l f).mp = s.mp := rfl
@[simp] theorem State.modLink_nq (l : Nat) (f : Link → Link) : (s.modLink l f).nq = s.nq := rfl
@[simp] theorem State.modLink_owed (l : Nat) (f : Link → Link) : (s.modLink l f).owed = s.owed := rfl
@[simp] theorem State.modLink_pending (l : Nat) (f : Link → Link) : (s.modLink l f).pending = s.pending := rfl

@[simp] theorem State.modLamp_mode (m : Nat) (f : Lamp → Lamp) : (s.modLamp m f).mode = s.mode := rfl
@[simp] theorem State.modLamp_ftb (m : Nat) (f : Lamp → Lamp) : (s.modLamp m f).ftb = s.ftb := rfl
@[simp] theorem State.modLamp_bands (m : Nat) (f : Lamp → Lamp) : (s.modLamp m f).bands = s.bands := rfl
@[simp] theorem State.modLamp_links (m : Nat) (f : Lamp → Lamp) : (s.modLamp m f).links = s.links := rfl
@[simp] theorem State.modLamp_pe (m : Nat) (f : Lamp → Lamp) : (s.modLamp m f).pe = s.pe := rfl
@[simp] theorem State.modLamp_plan (m : Nat) (f : Lamp → Lamp) : (s.modLamp m f).plan = s.plan := rfl
@[simp] theorem State.modLamp_units (m : Nat) (f : Lamp → Lamp) : (s.modLamp m f).units = s.units := rfl
@[simp] theorem State.modLamp_nextOrderId (m : Nat) (f : Lamp → Lamp) : (s.modLamp m f).nextOrderId = s.nextOrderId := rfl
@[simp] theorem State.modLamp_bus (m : Nat) (f : Lamp → Lamp) : (s.modLamp m f).bus = s.bus := rfl
@[simp] theorem State.modLamp_tr (m : Nat) (f : Lamp → Lamp) : (s.modLamp m f).tr = s.tr := rfl
@[simp] theorem State.modLamp_lamps (m : Nat) (f : Lamp → Lamp) : (s.modLamp m f).lamps = modSlot f s.lamps m := rfl
@[simp] theorem State.modLamp_lampZones (m : Nat) (f : Lamp → Lamp) : (s.modLamp m f).lampZones = s.lampZones := rfl
@[simp] theorem State.modLamp_tk (m : Nat) (f : Lamp → Lamp) : (s.modLamp m f).tk = s.tk := rfl
@[simp] theorem State.modLamp_mp (m : Nat) (f : Lamp → Lamp) : (s.modLamp m f).mp = s.mp := rfl
@[simp] theorem State.modLamp_nq (m : Nat) (f : Lamp → Lamp) : (s.modLamp m f).nq = s.nq := rfl
@[simp] theorem State.modLamp_owed (m : Nat) (f : Lamp → Lamp) : (s.modLamp m f).owed = s.owed := rfl
@[simp] theorem State.modLamp_pending (m : Nat) (f : Lamp → Lamp) : (s.modLamp m f).pending = s.pending := rfl

@[simp] theorem State.modUnit_mode (a : Nat) (f : UnitRec → UnitRec) : (s.modUnit a f).mode = s.mode := rfl
@[simp] theorem State.modUnit_ftb (a : Nat) (f : UnitRec → UnitRec) : (s.modUnit a f).ftb = s.ftb := rfl
@[simp] theorem State.modUnit_bands (a : Nat) (f : UnitRec → UnitRec) : (s.modUnit a f).bands = s.bands := rfl
@[simp] theorem State.modUnit_links (a : Nat) (f : UnitRec → UnitRec) : (s.modUnit a f).links = s.links := rfl
@[simp] theorem State.modUnit_pe (a : Nat) (f : UnitRec → UnitRec) : (s.modUnit a f).pe = s.pe := rfl
@[simp] theorem State.modUnit_plan (a : Nat) (f : UnitRec → UnitRec) : (s.modUnit a f).plan = s.plan := rfl
@[simp] theorem State.modUnit_units (a : Nat) (f : UnitRec → UnitRec) : (s.modUnit a f).units = modSlot f s.units (unitPlace a) := rfl
@[simp] theorem State.modUnit_nextOrderId (a : Nat) (f : UnitRec → UnitRec) : (s.modUnit a f).nextOrderId = s.nextOrderId := rfl
@[simp] theorem State.modUnit_bus (a : Nat) (f : UnitRec → UnitRec) : (s.modUnit a f).bus = s.bus := rfl
@[simp] theorem State.modUnit_tr (a : Nat) (f : UnitRec → UnitRec) : (s.modUnit a f).tr = s.tr := rfl
@[simp] theorem State.modUnit_lamps (a : Nat) (f : UnitRec → UnitRec) : (s.modUnit a f).lamps = s.lamps := rfl
@[simp] theorem State.modUnit_lampZones (a : Nat) (f : UnitRec → UnitRec) : (s.modUnit a f).lampZones = s.lampZones := rfl
@[simp] theorem State.modUnit_tk (a : Nat) (f : UnitRec → UnitRec) : (s.modUnit a f).tk = s.tk := rfl
@[simp] theorem State.modUnit_mp (a : Nat) (f : UnitRec → UnitRec) : (s.modUnit a f).mp = s.mp := rfl
@[simp] theorem State.modUnit_nq (a : Nat) (f : UnitRec → UnitRec) : (s.modUnit a f).nq = s.nq := rfl
@[simp] theorem State.modUnit_owed (a : Nat) (f : UnitRec → UnitRec) : (s.modUnit a f).owed = s.owed := rfl
@[simp] theorem State.modUnit_pending (a : Nat) (f : UnitRec → UnitRec) : (s.modUnit a f).pending = s.pending := rfl

@[simp] theorem State.modFtb_mode (f : Ftb → Ftb) : (s.modFtb f).mode = s.mode := rfl
@[simp] theorem State.modFtb_ftb (f : Ftb → Ftb) : (s.modFtb f).ftb = f s.ftb := rfl
@[simp] theorem State.modFtb_bands (f : Ftb → Ftb) : (s.modFtb f).bands = s.bands := rfl
@[simp] theorem State.modFtb_links (f : Ftb → Ftb) : (s.modFtb f).links = s.links := rfl
@[simp] theorem State.modFtb_pe (f : Ftb → Ftb) : (s.modFtb f).pe = s.pe := rfl
@[simp] theorem State.modFtb_plan (f : Ftb → Ftb) : (s.modFtb f).plan = s.plan := rfl
@[simp] theorem State.modFtb_units (f : Ftb → Ftb) : (s.modFtb f).units = s.units := rfl
@[simp] theorem State.modFtb_nextOrderId (f : Ftb → Ftb) : (s.modFtb f).nextOrderId = s.nextOrderId := rfl
@[simp] theorem State.modFtb_bus (f : Ftb → Ftb) : (s.modFtb f).bus = s.bus := rfl
@[simp] theorem State.modFtb_tr (f : Ftb → Ftb) : (s.modFtb f).tr = s.tr := rfl
@[simp] theorem State.modFtb_lamps (f : Ftb → Ftb) : (s.modFtb f).lamps = s.lamps := rfl
@[simp] theorem State.modFtb_lampZones (f : Ftb → Ftb) : (s.modFtb f).lampZones = s.lampZones := rfl
@[simp] theorem State.modFtb_tk (f : Ftb → Ftb) : (s.modFtb f).tk = s.tk := rfl
@[simp] theorem State.modFtb_mp (f : Ftb → Ftb) : (s.modFtb f).mp = s.mp := rfl
@[simp] theorem State.modFtb_nq (f : Ftb → Ftb) : (s.modFtb f).nq = s.nq := rfl
@[simp] theorem State.modFtb_owed (f : Ftb → Ftb) : (s.modFtb f).owed = s.owed := rfl
@[simp] theorem State.modFtb_pending (f : Ftb → Ftb) : (s.modFtb f).pending = s.pending := rfl

@[simp] theorem State.modPe_mode (f : Pe → Pe) : (s.modPe f).mode = s.mode := rfl
@[simp] theorem State.modPe_ftb (f : Pe → Pe) : (s.modPe f).ftb = s.ftb := rfl
@[simp] theorem State.modPe_bands (f : Pe → Pe) : (s.modPe f).bands = s.bands := rfl
@[simp] theorem State.modPe_links (f : Pe → Pe) : (s.modPe f).links = s.links := rfl
@[simp] theorem State.modPe_pe (f : Pe → Pe) : (s.modPe f).pe = f s.pe := rfl
@[simp] theorem State.modPe_plan (f : Pe → Pe) : (s.modPe f).plan = s.plan := rfl
@[simp] theorem State.modPe_units (f : Pe → Pe) : (s.modPe f).units = s.units := rfl
@[simp] theorem State.modPe_nextOrderId (f : Pe → Pe) : (s.modPe f).nextOrderId = s.nextOrderId := rfl
@[simp] theorem State.modPe_bus (f : Pe → Pe) : (s.modPe f).bus = s.bus := rfl
@[simp] theorem State.modPe_tr (f : Pe → Pe) : (s.modPe f).tr = s.tr := rfl
@[simp] theorem State.modPe_lamps (f : Pe → Pe) : (s.modPe f).lamps = s.lamps := rfl
@[simp] theorem State.modPe_lampZones (f : Pe → Pe) : (s.modPe f).lampZones = s.lampZones := rfl
@[simp] theorem State.modPe_tk (f : Pe → Pe) : (s.modPe f).tk = s.tk := rfl
@[simp] theorem State.modPe_mp (f : Pe → Pe) : (s.modPe f).mp = s.mp := rfl
@[simp] theorem State.modPe_nq (f : Pe → Pe) : (s.modPe f).nq = s.nq := rfl
@[simp] theorem State.modPe_owed (f : Pe → Pe) : (s.modPe f).owed = s.owed := rfl
@[simp] theorem State.modPe_pending (f : Pe → Pe) : (s.modPe f).pending = s.pending := rfl

@[simp] theorem State.modPlan_mode (f : Plan → Plan) : (s.modPlan f).mode = s.mode := rfl
@[simp] theorem State.modPlan_ftb (f : Plan → Plan) : (s.modPlan f).ftb = s.ftb := rfl
@[simp] theorem State.modPlan_bands (f : Plan → Plan) : (s.modPlan f).bands = s.bands := rfl
@[simp] theorem State.modPlan_links (f : Plan → Plan) : (s.modPlan f).links = s.links := rfl
@[simp] theorem State.modPlan_pe (f : Plan → Plan) : (s.modPlan f).pe = s.pe := rfl
@[simp] theorem State.modPlan_plan (f : Plan → Plan) : (s.modPlan f).plan = f s.plan := rfl
@[simp] theorem State.modPlan_units (f : Plan → Plan) : (s.modPlan f).units = s.units := rfl
@[simp] theorem State.modPlan_nextOrderId (f : Plan → Plan) : (s.modPlan f).nextOrderId = s.nextOrderId := rfl
@[simp] theorem State.modPlan_bus (f : Plan → Plan) : (s.modPlan f).bus = s.bus := rfl
@[simp] theorem State.modPlan_tr (f : Plan → Plan) : (s.modPlan f).tr = s.tr := rfl
@[simp] theorem State.modPlan_lamps (f : Plan → Plan) : (s.modPlan f).lamps = s.lamps := rfl
@[simp] theorem State.modPlan_lampZones (f : Plan → Plan) : (s.modPlan f).lampZones = s.lampZones := rfl
@[simp] theorem State.modPlan_tk (f : Plan → Plan) : (s.modPlan f).tk = s.tk := rfl
@[simp] theorem State.modPlan_mp (f : Plan → Plan) : (s.modPlan f).mp = s.mp := rfl
@[simp] theorem State.modPlan_nq (f : Plan → Plan) : (s.modPlan f).nq = s.nq := rfl
@[simp] theorem State.modPlan_owed (f : Plan → Plan) : (s.modPlan f).owed = s.owed := rfl
@[simp] theorem State.modPlan_pending (f : Plan → Plan) : (s.modPlan f).pending = s.pending := rfl

@[simp] theorem State.modTr_mode (f : Tr → Tr) : (s.modTr f).mode = s.mode := rfl
@[simp] theorem State.modTr_ftb (f : Tr → Tr) : (s.modTr f).ftb = s.ftb := rfl
@[simp] theorem State.modTr_bands (f : Tr → Tr) : (s.modTr f).bands = s.bands := rfl
@[simp] theorem State.modTr_links (f : Tr → Tr) : (s.modTr f).links = s.links := rfl
@[simp] theorem State.modTr_pe (f : Tr → Tr) : (s.modTr f).pe = s.pe := rfl
@[simp] theorem State.modTr_plan (f : Tr → Tr) : (s.modTr f).plan = s.plan := rfl
@[simp] theorem State.modTr_units (f : Tr → Tr) : (s.modTr f).units = s.units := rfl
@[simp] theorem State.modTr_nextOrderId (f : Tr → Tr) : (s.modTr f).nextOrderId = s.nextOrderId := rfl
@[simp] theorem State.modTr_bus (f : Tr → Tr) : (s.modTr f).bus = s.bus := rfl
@[simp] theorem State.modTr_tr (f : Tr → Tr) : (s.modTr f).tr = f s.tr := rfl
@[simp] theorem State.modTr_lamps (f : Tr → Tr) : (s.modTr f).lamps = s.lamps := rfl
@[simp] theorem State.modTr_lampZones (f : Tr → Tr) : (s.modTr f).lampZones = s.lampZones := rfl
@[simp] theorem State.modTr_tk (f : Tr → Tr) : (s.modTr f).tk = s.tk := rfl
@[simp] theorem State.modTr_mp (f : Tr → Tr) : (s.modTr f).mp = s.mp := rfl
@[simp] theorem State.modTr_nq (f : Tr → Tr) : (s.modTr f).nq = s.nq := rfl
@[simp] theorem State.modTr_owed (f : Tr → Tr) : (s.modTr f).owed = s.owed := rfl
@[simp] theorem State.modTr_pending (f : Tr → Tr) : (s.modTr f).pending = s.pending := rfl

@[simp] theorem State.modTk_mode (f : Tk → Tk) : (s.modTk f).mode = s.mode := rfl
@[simp] theorem State.modTk_ftb (f : Tk → Tk) : (s.modTk f).ftb = s.ftb := rfl
@[simp] theorem State.modTk_bands (f : Tk → Tk) : (s.modTk f).bands = s.bands := rfl
@[simp] theorem State.modTk_links (f : Tk → Tk) : (s.modTk f).links = s.links := rfl
@[simp] theorem State.modTk_pe (f : Tk → Tk) : (s.modTk f).pe = s.pe := rfl
@[simp] theorem State.modTk_plan (f : Tk → Tk) : (s.modTk f).plan = s.plan := rfl
@[simp] theorem State.modTk_units (f : Tk → Tk) : (s.modTk f).units = s.units := rfl
@[simp] theorem State.modTk_nextOrderId (f : Tk → Tk) : (s.modTk f).nextOrderId = s.nextOrderId := rfl
@[simp] theorem State.modTk_bus (f : Tk → Tk) : (s.modTk f).bus = s.bus := rfl
@[simp] theorem State.modTk_tr (f : Tk → Tk) : (s.modTk f).tr = s.tr := rfl
@[simp] theorem State.modTk_lamps (f : Tk → Tk) : (s.modTk f).lamps = s.lamps := rfl
@[simp] theorem State.modTk_lampZones (f : Tk → Tk) : (s.modTk f).lampZones = s.lampZones := rfl
@[simp] theorem State.modTk_tk (f : Tk → Tk) : (s.modTk f).tk = f s.tk := rfl
@[simp] theorem State.modTk_mp (f : Tk → Tk) : (s.modTk f).mp = s.mp := rfl
@[simp] theorem State.modTk_nq (f : Tk → Tk) : (s.modTk f).nq = s.nq := rfl
@[simp] theorem State.modTk_owed (f : Tk → Tk) : (s.modTk f).owed = s.owed := rfl
@[simp] theorem State.modTk_pending (f : Tk → Tk) : (s.modTk f).pending = s.pending := rfl

@[simp] theorem State.modMp_mode (f : Mp → Mp) : (s.modMp f).mode = s.mode := rfl
@[simp] theorem State.modMp_ftb (f : Mp → Mp) : (s.modMp f).ftb = s.ftb := rfl
@[simp] theorem State.modMp_bands (f : Mp → Mp) : (s.modMp f).bands = s.bands := rfl
@[simp] theorem State.modMp_links (f : Mp → Mp) : (s.modMp f).links = s.links := rfl
@[simp] theorem State.modMp_pe (f : Mp → Mp) : (s.modMp f).pe = s.pe := rfl
@[simp] theorem State.modMp_plan (f : Mp → Mp) : (s.modMp f).plan = s.plan := rfl
@[simp] theorem State.modMp_units (f : Mp → Mp) : (s.modMp f).units = s.units := rfl
@[simp] theorem State.modMp_nextOrderId (f : Mp → Mp) : (s.modMp f).nextOrderId = s.nextOrderId := rfl
@[simp] theorem State.modMp_bus (f : Mp → Mp) : (s.modMp f).bus = s.bus := rfl
@[simp] theorem State.modMp_tr (f : Mp → Mp) : (s.modMp f).tr = s.tr := rfl
@[simp] theorem State.modMp_lamps (f : Mp → Mp) : (s.modMp f).lamps = s.lamps := rfl
@[simp] theorem State.modMp_lampZones (f : Mp → Mp) : (s.modMp f).lampZones = s.lampZones := rfl
@[simp] theorem State.modMp_tk (f : Mp → Mp) : (s.modMp f).tk = s.tk := rfl
@[simp] theorem State.modMp_mp (f : Mp → Mp) : (s.modMp f).mp = f s.mp := rfl
@[simp] theorem State.modMp_nq (f : Mp → Mp) : (s.modMp f).nq = s.nq := rfl
@[simp] theorem State.modMp_owed (f : Mp → Mp) : (s.modMp f).owed = s.owed := rfl
@[simp] theorem State.modMp_pending (f : Mp → Mp) : (s.modMp f).pending = s.pending := rfl

@[simp] theorem State.modStation_mode (t : Nat) (f : Station → Station) : (s.modStation t f).mode = s.mode := rfl
@[simp] theorem State.modStation_ftb (t : Nat) (f : Station → Station) : (s.modStation t f).ftb = s.ftb := rfl
@[simp] theorem State.modStation_bands (t : Nat) (f : Station → Station) : (s.modStation t f).bands = s.bands := rfl
@[simp] theorem State.modStation_links (t : Nat) (f : Station → Station) : (s.modStation t f).links = s.links := rfl
@[simp] theorem State.modStation_pe (t : Nat) (f : Station → Station) : (s.modStation t f).pe = s.pe := rfl
@[simp] theorem State.modStation_plan (t : Nat) (f : Station → Station) : (s.modStation t f).plan = s.plan := rfl
@[simp] theorem State.modStation_units (t : Nat) (f : Station → Station) : (s.modStation t f).units = s.units := rfl
@[simp] theorem State.modStation_nextOrderId (t : Nat) (f : Station → Station) : (s.modStation t f).nextOrderId = s.nextOrderId := rfl
@[simp] theorem State.modStation_bus (t : Nat) (f : Station → Station) : (s.modStation t f).bus = s.bus := rfl
@[simp] theorem State.modStation_tr (t : Nat) (f : Station → Station) : (s.modStation t f).tr = s.tr := rfl
@[simp] theorem State.modStation_lamps (t : Nat) (f : Station → Station) : (s.modStation t f).lamps = s.lamps := rfl
@[simp] theorem State.modStation_lampZones (t : Nat) (f : Station → Station) : (s.modStation t f).lampZones = s.lampZones := rfl
@[simp] theorem State.modStation_tk (t : Nat) (f : Station → Station) : (s.modStation t f).tk = { s.tk with stations := modSlot f s.tk.stations t } := rfl
@[simp] theorem State.modStation_mp (t : Nat) (f : Station → Station) : (s.modStation t f).mp = s.mp := rfl
@[simp] theorem State.modStation_nq (t : Nat) (f : Station → Station) : (s.modStation t f).nq = s.nq := rfl
@[simp] theorem State.modStation_owed (t : Nat) (f : Station → Station) : (s.modStation t f).owed = s.owed := rfl
@[simp] theorem State.modStation_pending (t : Nat) (f : Station → Station) : (s.modStation t f).pending = s.pending := rfl

@[simp] theorem State.modLine_mode (n : Nat) (f : LineInput → LineInput) : (s.modLine n f).mode = s.mode := rfl
@[simp] theorem State.modLine_ftb (n : Nat) (f : LineInput → LineInput) : (s.modLine n f).ftb = s.ftb := rfl
@[simp] theorem State.modLine_bands (n : Nat) (f : LineInput → LineInput) : (s.modLine n f).bands = s.bands := rfl
@[simp] theorem State.modLine_links (n : Nat) (f : LineInput → LineInput) : (s.modLine n f).links = s.links := rfl
@[simp] theorem State.modLine_pe (n : Nat) (f : LineInput → LineInput) : (s.modLine n f).pe = s.pe := rfl
@[simp] theorem State.modLine_plan (n : Nat) (f : LineInput → LineInput) : (s.modLine n f).plan = s.plan := rfl
@[simp] theorem State.modLine_units (n : Nat) (f : LineInput → LineInput) : (s.modLine n f).units = s.units := rfl
@[simp] theorem State.modLine_nextOrderId (n : Nat) (f : LineInput → LineInput) : (s.modLine n f).nextOrderId = s.nextOrderId := rfl
@[simp] theorem State.modLine_bus (n : Nat) (f : LineInput → LineInput) : (s.modLine n f).bus = s.bus := rfl
@[simp] theorem State.modLine_tr (n : Nat) (f : LineInput → LineInput) : (s.modLine n f).tr = { s.tr with lines := modSlot f s.tr.lines n } := rfl
@[simp] theorem State.modLine_lamps (n : Nat) (f : LineInput → LineInput) : (s.modLine n f).lamps = s.lamps := rfl
@[simp] theorem State.modLine_lampZones (n : Nat) (f : LineInput → LineInput) : (s.modLine n f).lampZones = s.lampZones := rfl
@[simp] theorem State.modLine_tk (n : Nat) (f : LineInput → LineInput) : (s.modLine n f).tk = s.tk := rfl
@[simp] theorem State.modLine_mp (n : Nat) (f : LineInput → LineInput) : (s.modLine n f).mp = s.mp := rfl
@[simp] theorem State.modLine_nq (n : Nat) (f : LineInput → LineInput) : (s.modLine n f).nq = s.nq := rfl
@[simp] theorem State.modLine_owed (n : Nat) (f : LineInput → LineInput) : (s.modLine n f).owed = s.owed := rfl
@[simp] theorem State.modLine_pending (n : Nat) (f : LineInput → LineInput) : (s.modLine n f).pending = s.pending := rfl

@[simp] theorem raise_mode (c : Cause) (o : Nat) : (raise c o s).mode = s.mode := rfl
@[simp] theorem raise_ftb (c : Cause) (o : Nat) : (raise c o s).ftb = s.ftb := rfl
@[simp] theorem raise_bands (c : Cause) (o : Nat) : (raise c o s).bands = s.bands := rfl
@[simp] theorem raise_links (c : Cause) (o : Nat) : (raise c o s).links = s.links := rfl
@[simp] theorem raise_pe (c : Cause) (o : Nat) : (raise c o s).pe = s.pe := rfl
@[simp] theorem raise_plan (c : Cause) (o : Nat) : (raise c o s).plan = s.plan := rfl
@[simp] theorem raise_units (c : Cause) (o : Nat) : (raise c o s).units = s.units := rfl
@[simp] theorem raise_nextOrderId (c : Cause) (o : Nat) : (raise c o s).nextOrderId = s.nextOrderId := rfl
@[simp] theorem raise_bus (c : Cause) (o : Nat) : (raise c o s).bus = s.bus := rfl
@[simp] theorem raise_tr (c : Cause) (o : Nat) : (raise c o s).tr = s.tr := rfl
@[simp] theorem raise_lamps (c : Cause) (o : Nat) : (raise c o s).lamps = s.lamps := rfl
@[simp] theorem raise_lampZones (c : Cause) (o : Nat) : (raise c o s).lampZones = s.lampZones := rfl
@[simp] theorem raise_tk (c : Cause) (o : Nat) : (raise c o s).tk = s.tk := rfl
@[simp] theorem raise_mp (c : Cause) (o : Nat) : (raise c o s).mp = s.mp := rfl
@[simp] theorem raise_nq (c : Cause) (o : Nat) : (raise c o s).nq = joinNotice c o s.nq := rfl
@[simp] theorem raise_owed (c : Cause) (o : Nat) : (raise c o s).owed = s.owed := rfl
@[simp] theorem raise_pending (c : Cause) (o : Nat) : (raise c o s).pending = s.pending := rfl

/-! ## Tables numbered from 1 -/

variable {α β : Type}

@[simp] theorem modSlot_length (f : α → α) (xs : List α) (n : Nat) : (modSlot f xs n).length = xs.length := by
  cases n <;> simp [modSlot]

/-- A record that a table has is changed by an update of its number. -/
theorem slot_modSlot_self (d : α) (f : α → α) (xs : List α) {n : Nat} (h : 1 ≤ n) (h' : n ≤ xs.length) :
    slot d (modSlot f xs n) n = f (slot d xs n) := by
  obtain _ | k := n
  · omega
  · have : k < xs.length := h'
    simp [slot, modSlot, this]

/-- Every other record is left by it. -/
theorem slot_modSlot_other (d : α) (f : α → α) (xs : List α) {n m : Nat} (h : n ≠ m) :
    slot d (modSlot f xs n) m = slot d xs m := by
  obtain _ | k := n <;> obtain _ | j := m <;>
    simp_all [slot, modSlot, List.getD_eq_getElem?_getD]

/-- What an update does not change of a record, it does not change of the table. -/
theorem map_modSlot (g : α → β) (f : α → α) (xs : List α) (n : Nat) (h : ∀ x, g (f x) = g x) :
    (modSlot f xs n).map g = xs.map g := by
  cases n with
  | zero => rfl
  | succ k =>
    apply List.ext_getElem?
    intro i
    simp only [modSlot, List.getElem?_map, List.getElem?_modify]
    cases xs[i]? with
    | none => rfl
    | some x => by_cases hk : k = i <;> simp [hk, h]

/-- What no record loses by an update over the whole table, the table does not lose. -/
theorem map_map_same (g : α → β) (f : α → α) (xs : List α) (h : ∀ x, g (f x) = g x) : (xs.map f).map g = xs.map g := by
  simp [Function.comp_def, h]

end Sys2Proof.Machine
end

