-- ==== Sys2Proof/Laws/Frames.lean ====
section
/-! SUPPORT. The frame of each shared operation: the parts of the state it can change. Statements about a command's frame come
from these, composed, without unfolding an operation again. -/

namespace Sys2Proof.Machine

/-! ## Frames compose -/

theorem KeepsBut.refl (ps : List Part) (s : State) : KeepsBut ps s s := by
  intro p _; cases p <;> rfl

theorem Part.same_trans {p : Part} {s t u : State} (h : p.same s t) (k : p.same t u) : p.same s u := by
  cases p <;> exact Eq.trans k h

theorem KeepsBut.mono {ps qs : List Part} {s t : State} (h : KeepsBut ps s t) (sub : ps ⊆ qs) : KeepsBut qs s t :=
  fun p hp => h p fun hq => hp (sub hq)

theorem KeepsBut.trans {ps : List Part} {s t u : State} (h : KeepsBut ps s t) (k : KeepsBut ps t u) : KeepsBut ps s u :=
  fun p hp => Part.same_trans (h p hp) (k p hp)

/-- One frame and then another, both within a third. -/
theorem KeepsBut.andThen {ps qs rs : List Part} {s t u : State} (h : KeepsBut ps s t) (k : KeepsBut qs t u)
    (hp : ps ⊆ rs) (hq : qs ⊆ rs) : KeepsBut rs s u := (h.mono hp).trans (k.mono hq)

theorem KeepsBut.foldl {α : Type} {ps : List Part} (f : State → α → State) (h : ∀ s x, KeepsBut ps s (f s x))
    (xs : List α) (s : State) : KeepsBut ps s (xs.foldl f s) := by
  induction xs generalizing s with
  | nil => exact .refl ps s
  | cons x xs ih => exact (h s x).trans (ih _)

theorem KeepsBut.ite {ps : List Part} {c : Prop} [Decidable c] {s t u : State} (h : KeepsBut ps s t) (k : KeepsBut ps s u) :
    KeepsBut ps s (if c then t else u) := by
  split
  · exact h
  · exact k

/-! ## Updates of one record -/

section updates
variable (s : State)

theorem keeps_modBand_core (b : Nat) (f : Band → Band) (h : ∀ k, (f k).sweepWanted = k.sweepWanted) :
    KeepsBut [.bands] s (s.modBand b f) := by
  intro p hp
  cases p <;> first | rfl | exact map_modSlot _ _ _ _ h | exact absurd (by simp) hp

theorem keeps_modBand_flag (b : Nat) (f : Band → Band) (h : ∀ k, (f k).core = k.core) :
    KeepsBut [.sweepFlags] s (s.modBand b f) := by
  intro p hp
  cases p <;> first | rfl | exact map_modSlot _ _ _ _ h | exact absurd (by simp) hp

theorem keeps_modBand (b : Nat) (f : Band → Band) : KeepsBut [.bands, .sweepFlags] s (s.modBand b f) := by
  intro p hp; cases p <;> first | rfl | exact absurd (by simp) hp

theorem keeps_modLink (l : Nat) (f : Link → Link) : KeepsBut [.links, .rescues, .tallies] s (s.modLink l f) := by
  intro p hp; cases p <;> first | rfl | exact absurd (by simp) hp

theorem keeps_modLink_core (l : Nat) (f : Link → Link) (h : ∀ k, (f k).rescue = k.rescue)
    (h' : ∀ k, (f k).tallyFields = k.tallyFields) : KeepsBut [.links] s (s.modLink l f) := by
  intro p hp
  cases p <;> first
    | rfl | exact map_modSlot _ _ _ _ h | exact map_modSlot _ _ _ _ h' | exact absurd (by simp) hp

theorem keeps_modLink_noTally (l : Nat) (f : Link → Link) (h : ∀ k, (f k).tallyFields = k.tallyFields) :
    KeepsBut [.links, .rescues] s (s.modLink l f) := by
  intro p hp
  cases p <;> first | rfl | exact map_modSlot _ _ _ _ h | exact absurd (by simp) hp

theorem keeps_modLink_tally (l : Nat) (f : Link → Link) (h : ∀ k, (f k).core = k.core)
    (h' : ∀ k, (f k).rescue = k.rescue) : KeepsBut [.tallies] s (s.modLink l f) := by
  intro p hp
  cases p <;> first
    | rfl | exact map_modSlot _ _ _ _ h | exact map_modSlot _ _ _ _ h' | exact absurd (by simp) hp

theorem keeps_modLink_rescue (l : Nat) (f : Link → Link) (h : ∀ k, (f k).core = k.core)
    (h' : ∀ k, (f k).tallyFields = k.tallyFields) : KeepsBut [.rescues] s (s.modLink l f) := by
  intro p hp
  cases p <;> first
    | rfl | exact map_modSlot _ _ _ _ h | exact map_modSlot _ _ _ _ h' | exact absurd (by simp) hp

theorem keeps_mapLinks_rescue (f : Link → Link) (h : ∀ k, (f k).core = k.core)
    (h' : ∀ k, (f k).tallyFields = k.tallyFields) : KeepsBut [.rescues] s { s with links := s.links.map f } := by
  intro p hp
  cases p <;> first
    | rfl | exact map_map_same _ _ _ h | exact map_map_same _ _ _ h' | exact absurd (by simp) hp

theorem keeps_modLamp (m : Nat) (f : Lamp → Lamp) : KeepsBut [.lamps] s (s.modLamp m f) := by
  intro p hp; cases p <;> first | rfl | exact absurd (by simp) hp
theorem keeps_modUnit (a : Nat) (f : UnitRec → UnitRec) : KeepsBut [.units] s (s.modUnit a f) := by
  intro p hp; cases p <;> first | rfl | exact absurd (by simp) hp
theorem keeps_modFtb (f : Ftb → Ftb) : KeepsBut [.ftb] s (s.modFtb f) := by
  intro p hp; cases p <;> first | rfl | exact absurd (by simp) hp
theorem keeps_modPe (f : Pe → Pe) : KeepsBut [.pe] s (s.modPe f) := by
  intro p hp; cases p <;> first | rfl | exact absurd (by simp) hp
theorem keeps_modPlan (f : Plan → Plan) : KeepsBut [.plan] s (s.modPlan f) := by
  intro p hp; cases p <;> first | rfl | exact absurd (by simp) hp
theorem keeps_modTr (f : Tr → Tr) : KeepsBut [.tr] s (s.modTr f) := by
  intro p hp; cases p <;> first | rfl | exact absurd (by simp) hp
theorem keeps_modTk (f : Tk → Tk) : KeepsBut [.tk] s (s.modTk f) := by
  intro p hp; cases p <;> first | rfl | exact absurd (by simp) hp
theorem keeps_modMp (f : Mp → Mp) : KeepsBut [.mp] s (s.modMp f) := by
  intro p hp; cases p <;> first | rfl | exact absurd (by simp) hp
theorem keeps_modStation (t : Nat) (f : Station → Station) : KeepsBut [.tk] s (s.modStation t f) := keeps_modTk s _
theorem keeps_modLine (n : Nat) (f : LineInput → LineInput) : KeepsBut [.tr] s (s.modLine n f) := keeps_modTr s _
theorem keeps_raise (c : Cause) (o : Nat) : KeepsBut [.notices] s (raise c o s) := by
  intro p hp; cases p <;> first | rfl | exact absurd (by simp) hp

end updates

/-! ## Plan, bands and exclusions -/

/-- The parts that a change of the plan's state may change (R119). -/
def planParts : List Part := [.plan, .notices]

theorem keeps_setPlanState (new : PlanState) (s : State) : KeepsBut planParts s (setPlanState new s) := by
  unfold setPlanState
  exact .ite (.refl _ _) ((keeps_modPlan _ _).andThen (keeps_raise _ _ _) (by decide) (by decide))

theorem keeps_invalidatePlan (s : State) : KeepsBut planParts s (invalidatePlan s) :=
  ((keeps_modPlan _ _).andThen (keeps_setPlanState _ _) (by decide) (by decide) |>.andThen (keeps_raise _ _ _) (fun _ h => h)
    (by decide))

theorem keeps_planWatch (b : Nat) (s : State) : KeepsBut planParts s (planWatch b s) :=
  .ite (keeps_invalidatePlan s) (.refl _ _)

/-- The parts that holding and releasing carriers may change (R21 to R24, R112). -/
def carrierParts : List Part := [.bands, .sweepFlags, .plan, .notices]

theorem keeps_carrierChange (b : Nat) (s : State) : KeepsBut carrierParts s (carrierChange b s) :=
  (keeps_modBand _ _ _).andThen (keeps_planWatch _ _) (by decide) (by decide)

theorem keeps_hold (b f hw : Nat) (s : State) : KeepsBut carrierParts s (hold b f hw s) :=
  (keeps_carrierChange _ _).andThen (keeps_modBand _ _ _) (by decide) (by decide)

theorem keeps_release (b : Nat) (s : State) : KeepsBut carrierParts s (release b s) := keeps_carrierChange b s

theorem keeps_pruneAll (b : Nat) (s : State) : KeepsBut [.bands] s (pruneAll b s) := keeps_modBand_core _ _ _ fun _ => rfl

theorem keeps_applyLevel (b i v : Nat) (s : State) : KeepsBut carrierParts s (applyLevel b i v s) := by
  unfold applyLevel
  split
  · exact .refl _ _
  · refine .ite (.refl _ _) ?_
    refine .ite ((keeps_modBand _ _ _).mono (by decide)) ?_
    exact ((keeps_modBand _ _ _).andThen (keeps_modBand _ _ _) (rs := [.bands, .sweepFlags]) (by decide) (by decide)).andThen
      (keeps_raise _ _ _) (by decide) (by decide)

theorem keeps_applyLevels (b : Nat) (vs : List Nat) (i : Nat) (s : State) :
    KeepsBut carrierParts s (applyLevels b i vs s) := by
  induction vs generalizing i s with
  | nil => exact .refl _ _
  | cons v vs ih => exact (keeps_applyLevel b i v s).trans (ih _ _)

/-! ## Orders -/

theorem keeps_send (o : Order) (s : State) : KeepsBut [.units, .bus] s (send o s) := by
  intro p hp; cases p <;> first | rfl | exact absurd (by simp) hp

theorem keeps_tallyFailed (l id : Nat) (s : State) : KeepsBut [.tallies] s (tallyFailed l id s) := by
  unfold tallyFailed
  split
  · exact .ite (keeps_modLink_tally _ _ _ (fun _ => rfl) (fun _ => rfl)) (.refl _ _)
  · exact .refl _ _

theorem keeps_lampFailed (t id : Nat) (s : State) : KeepsBut [.tk] s (lampFailed t id s) := by
  unfold lampFailed
  split
  · exact .ite (keeps_modStation _ _ _) (.refl _ _)
  · exact .refl _ _

theorem keeps_displaced (o : Order) (s : State) : KeepsBut issueParts s (displaced o s) := by
  unfold displaced
  split
  · exact (keeps_tallyFailed _ _ _).mono (by decide)
  · exact (keeps_lampFailed _ _ _).mono (by decide)
  · exact .refl _ _

theorem keeps_joinWaiting (o : Order) (s : State) : KeepsBut issueParts s (joinWaiting o s).state := by
  unfold joinWaiting
  split
  · exact (keeps_modUnit _ _ _).mono (by decide)
  · exact .refl _ _

theorem keeps_place (o : Order) (s : State) : KeepsBut issueParts s (place o s).state := by
  unfold place
  dsimp only
  split
  · exact (keeps_send _ _).mono (by decide)
  · split
    · exact keeps_joinWaiting _ _
    · split
      · exact (((keeps_modUnit _ _ _).mono (by decide)).trans (keeps_displaced _ _)).trans ((keeps_send _ _).mono (by decide))
      · exact keeps_joinWaiting _ _

theorem keeps_nextOrderId (s : State) : KeepsBut [.orderIds] s { s with nextOrderId := s.nextOrderId + 1 } := by
  intro p hp; cases p <;> first | rfl | exact absurd (by simp) hp

theorem keeps_issue (a : Nat) (body : OrderBody) (i : Issuer) (s : State) : KeepsBut issueParts s (issue a body i s).state :=
  ((keeps_nextOrderId s).mono (by decide)).trans (keeps_place _ _)

theorem keeps_grantOne (a : Nat) (s : State) : KeepsBut [.units, .bus] s (grantOne a s) := by
  unfold grantOne
  split
  · exact .refl _ _
  · exact ((keeps_modUnit _ _ _).mono (by decide)).trans (keeps_send _ _)

theorem keeps_grant (a n : Nat) (s : State) : KeepsBut [.units, .bus] s (grant a n s) := by
  induction n generalizing s with
  | zero => exact .refl _ _
  | succ n ih => exact (keeps_grantOne a s).trans (ih _)

theorem keeps_withdraw (a id : Nat) (s : State) : KeepsBut [.units] s (withdraw a id s) := keeps_modUnit _ _ _

/-- The parts that the issue of a SCAN_ASSIGN may change (R28). -/
def scanParts : List Part := .bands :: issueParts

theorem keeps_scanFailed (b : Nat) (x : ScanOrder) (s : State) : KeepsBut [.bands] s (scanFailed b x s) :=
  keeps_modBand_core _ _ _ fun _ => rfl

theorem keeps_issueScanAssign (b : Nat) (x : ScanOrder) (s : State) : KeepsBut scanParts s (issueScanAssign b x s) := by
  unfold issueScanAssign
  dsimp only
  split
  · exact (keeps_issue _ _ _ _).andThen (keeps_scanFailed _ _ _) (by decide) (by decide)
  · exact (keeps_issue _ _ _ _).mono (by decide)

/-! ## Tally -/

/-- A change of a link's tally fields alone. -/
theorem keeps_tallyRecord (l : Nat) (f : Link → Link) (s : State) (h : ∀ k, (f k).core = k.core := by exact fun _ => rfl)
    (h' : ∀ k, (f k).rescue = k.rescue := by exact fun _ => rfl) : KeepsBut issueParts s (s.modLink l f) :=
  (keeps_modLink_tally s l f h h').mono (by decide)

theorem keeps_deliveryTest (l : Nat) (s : State) : KeepsBut issueParts s (deliveryTest l s) := by
  unfold deliveryTest
  dsimp only
  split
  · have h := keeps_issue (s.link l).cfg.unit (.tally (s.link l).cfg.channel (s.link l).wanted) (.tr l) s
    generalize issue (s.link l).cfg.unit (.tally (s.link l).cfg.channel (s.link l).wanted) (.tr l) s = r at h
    split
    · exact (h.trans (keeps_tallyRecord l _ _)).trans ((keeps_tallyFailed _ _ _).mono (by decide))
    · exact h.trans (keeps_tallyRecord l _ _)
  · exact .refl _ _

theorem keeps_rewant (l : Nat) (s : State) : KeepsBut issueParts s (rewant l s) :=
  (keeps_tallyRecord l (fun k => { k with wanted := s.wantedWord l }) s).trans (keeps_deliveryTest _ _)

theorem keeps_rewantAll (s : State) : KeepsBut issueParts s (rewantAll s) := .foldl _ (fun s l => keeps_rewant l s) _ _

theorem keeps_rewantStation (t : Nat) (s : State) : KeepsBut issueParts s (rewantStation t s) :=
  .foldl _ (fun s l => .ite (keeps_rewant l s) (.refl _ _)) _ _

theorem keeps_tallyAcked (l id : Nat) (s : State) : KeepsBut issueParts s (tallyAcked l id s) := by
  unfold tallyAcked
  split
  · split
    · exact (keeps_tallyRecord l _ s).trans (keeps_deliveryTest _ _)
    · exact .refl _ _
  · exact .refl _ _

theorem keeps_tallySees (l : Nat) (old : LinkState) (s : State) : KeepsBut issueParts s (tallySees l old s) := by
  unfold tallySees
  dsimp only
  split
  · exact .refl _ _
  · split
    · split
      · split
        · rename_i o _ _
          exact ((keeps_withdraw (s.link l).cfg.unit o.id s).mono (qs := issueParts) (by decide)).trans (keeps_tallyRecord l _ _)
        · exact .refl _ _
      · exact .refl _ _
    · split
      · exact keeps_deliveryTest _ _
      · exact .refl _ _

/-! ## Links -/

/-- The parts that a change of a link's state may change (R72, R148). -/
def stateParts : List Part := .links :: .rescues :: issueParts

/-- The parts that the events of links may change, their carriers and plan outcomes included. -/
def linkParts : List Part := .bands :: .sweepFlags :: .plan :: stateParts

theorem keeps_changeState (l : Nat) (new : LinkState) (c : Option LostCause) (s : State) :
    KeepsBut stateParts s (changeState l new c s) := by
  unfold changeState
  refine .ite (.refl _ _) ?_
  have h : KeepsBut stateParts s (s.modLink l (Link.enter new c)) :=
    (keeps_modLink_noTally s l (Link.enter new c) fun k => by unfold Link.enter; dsimp only; split <;> rfl).mono
      (ps := [.links, .rescues]) (by decide)
  exact (h.trans ((keeps_raise _ _ _).mono (by decide))).trans ((keeps_tallySees _ _ _).mono (by decide))

theorem keeps_issueTune (l step : Nat) (e : FrameNo) (i : Issuer) (s : State) :
    KeepsBut issueParts s (issueTune l step e i s).state := keeps_issue _ _ _ _
theorem keeps_issueMute (l : Nat) (e : FrameNo) (i : Issuer) (s : State) :
    KeepsBut issueParts s (issueMute l e i s).state := keeps_issue _ _ _ _

theorem keeps_parkMuteFailed (l : Nat) (s : State) : KeepsBut [.links, .notices] s (parkMuteFailed l s) := by
  have h : KeepsBut [.links, .notices] s (raise .linkMuteFailed l s) := (keeps_raise _ _ _).mono (by decide)
  exact .ite (h.trans ((keeps_modLink_core (raise .linkMuteFailed l s) l
    (fun k => { k with muteReissue := k.muteReissue ++ [framePlus s.now 1] }) (fun _ => rfl) (fun _ => rfl)).mono (ps := [.links])
      (qs := [.links, .notices]) (by decide))) h

theorem keeps_reportPark (l : Nat) (o : Bool) (s : State) : KeepsBut [.links, .notices] s (reportPark l o s) :=
  .ite (keeps_parkMuteFailed l s) (.refl _ _)

theorem keeps_finishPlan (s : State) : KeepsBut planParts s (finishPlan s) := .ite (keeps_setPlanState _ _) (.refl _ _)

theorem keeps_giveOutcome (l : Nat) (o : EntryOutcome) (s : State) : KeepsBut planParts s (giveOutcome l o s) :=
  .ite ((((keeps_modPlan _ _).mono (by decide)).trans ((keeps_raise _ _ _).mono (by decide))).trans (keeps_finishPlan _)) (.refl _ _)

theorem keeps_moveOutcome (l : Nat) (g : Option Origin) (o : EntryOutcome) (s : State) :
    KeepsBut planParts s (moveOutcome l g o s) := .ite (keeps_giveOutcome _ _ _) (.refl _ _)

/-- A change of a link's record that leaves its rescue status and tally fields. -/
theorem keeps_record (l : Nat) (f : Link → Link) (s : State) (h : ∀ k, (f k).rescue = k.rescue := by exact fun _ => rfl)
    (h' : ∀ k, (f k).tallyFields = k.tallyFields := by exact fun _ => rfl) : KeepsBut linkParts s (s.modLink l f) :=
  (keeps_modLink_core _ _ _ h h').mono (by decide)

theorem linkParts_state {s t : State} (h : KeepsBut stateParts s t) : KeepsBut linkParts s t := h.mono (by decide)
theorem linkParts_issue {s t : State} (h : KeepsBut issueParts s t) : KeepsBut linkParts s t := h.mono (by decide)
theorem linkParts_carrier {s t : State} (h : KeepsBut carrierParts s t) : KeepsBut linkParts s t := h.mono (by decide)
theorem linkParts_plan {s t : State} (h : KeepsBut planParts s t) : KeepsBut linkParts s t := h.mono (by decide)

theorem keeps_enterAcquiring (l : Nat) (e : FrameNo) (s : State) : KeepsBut linkParts s (enterAcquiring l e s) :=
  ((linkParts_state (keeps_changeState _ _ _ _)).trans (keeps_record _ _ _)).trans (linkParts_issue (keeps_issueTune _ _ _ _ _))

theorem keeps_startRevert (l : Nat) (s : State) : KeepsBut linkParts s (startRevert l s) :=
  ((((keeps_record l _ s).trans (linkParts_carrier (keeps_release _ _))).trans (linkParts_issue (keeps_issueTune _ _ _ _ _))).trans
    (keeps_record _ _ _)).trans (linkParts_state (keeps_changeState _ _ _ _))

theorem keeps_startRetune (l step : Nat) (e : FrameNo) (o : Origin) (s : State) :
    KeepsBut linkParts s (startRetune l step e o s) := by
  unfold startRetune
  have h (s1 s2 : State) (i : Nat) (h1 : KeepsBut linkParts s s1) (h2 : KeepsBut linkParts s1 s2) :
      KeepsBut linkParts s ((changeState l .retuning none s2).modLink l fun k =>
        { k with origin := some o, effectiveFrame := some e, deadline := some (framePlus e k.cfg.confirmWindow),
                 moveOrder := some i }) :=
    ((h1.trans h2).trans (linkParts_state (keeps_changeState _ _ _ _))).trans (keeps_record _ _ _)
  have h' := h _ _ (issueTune l step e (.rcRetune l)
      (hold (s.link l).cfg.band step (s.link l).cfg.hw (s.modLink l fun k => { k with pending := some step }))).id
    ((keeps_record l (fun k => { k with pending := some step }) s).trans
      (linkParts_carrier (keeps_hold (s.link l).cfg.band step (s.link l).cfg.hw _)))
    (linkParts_issue (keeps_issueTune l step e (.rcRetune l) _))
  exact .ite (h'.trans (keeps_startRevert _ _)) h'

theorem keeps_confirmRetune (l : Nat) (s : State) : KeepsBut linkParts s (confirmRetune l s) :=
  (((linkParts_carrier (keeps_release _ _)).trans (keeps_record _ _ _)).trans (linkParts_state (keeps_changeState _ _ _ _))).trans
    (linkParts_plan (keeps_moveOutcome _ _ _ _))

theorem keeps_confirmRevert (l : Nat) (s : State) : KeepsBut linkParts s (confirmRevert l s) :=
  ((keeps_record l _ s).trans (linkParts_state (keeps_changeState _ _ _ _))).trans (linkParts_plan (keeps_moveOutcome _ _ _ _))

theorem keeps_revertFails (l : Nat) (s : State) : KeepsBut linkParts s (revertFails l s) :=
  ((keeps_record l _ s).trans (linkParts_state (keeps_changeState _ _ _ _))).trans (linkParts_plan (keeps_moveOutcome _ _ _ _))

theorem keeps_abandonMove (l : Nat) (s : State) : KeepsBut linkParts s (abandonMove l s) := by
  have h := keeps_record l (fun k => { k with pending := none, origin := none, effectiveFrame := none, deadline := none }) s
  exact ((KeepsBut.ite (h.trans (linkParts_carrier (keeps_release _ _))) h).trans (linkParts_state (keeps_changeState _ _ _ _))).trans
    (linkParts_plan (keeps_moveOutcome _ _ _ _))

theorem keeps_goSilent (l : Nat) (s : State) : KeepsBut linkParts s (goSilent l s) := by
  have h := keeps_record l (fun k => { k with silenceCounter := 0 }) s
  unfold goSilent
  dsimp only
  split
  · exact h.trans (keeps_abandonMove _ _)
  · exact h.trans (keeps_abandonMove _ _)
  all_goals first
    | exact h.trans (linkParts_state (keeps_changeState _ _ _ _))
    | exact .refl _ _

theorem keeps_revertFromLost (l : Nat) (s : State) : KeepsBut linkParts s (revertFromLost l s) :=
  ((keeps_record l _ s).trans (linkParts_issue (keeps_issueTune _ _ _ _ _))).trans (linkParts_state (keeps_changeState _ _ _ _))

theorem keeps_countRun (l : Nat) (c : SampleClass) (s : State) : KeepsBut linkParts s (s.modLink l (·.countRun c)) :=
  keeps_record l _ s (fun _ => by cases c <;> rfl) (fun _ => by cases c <;> rfl)

theorem keeps_actOnSample (l : Nat) (x : TunedSample) (s : State) : KeepsBut linkParts s (actOnSample l x s) := by
  have st (n : LinkState) (c : Option LostCause) (t : State) : KeepsBut linkParts t (changeState l n c t) :=
    linkParts_state (keeps_changeState l n c t)
  unfold actOnSample
  dsimp only
  split
  · exact .ite ((st _ _ _).trans (keeps_record _ _ _)) (.refl _ _)
  · exact .ite ((keeps_countRun _ _ _).trans (st _ _ _)) (keeps_countRun _ _ _)
  · exact .ite ((keeps_countRun _ _ _).trans (st _ _ _)) (keeps_countRun _ _ _)
  · exact .ite (keeps_confirmRetune _ _) (.refl _ _)
  · exact .ite (keeps_confirmRevert _ _) (.refl _ _)
  · exact .ite (keeps_revertFromLost _ _) (.ite ((keeps_countRun _ _ _).trans (st _ _ _)) (keeps_countRun _ _ _))
  all_goals exact .refl _ _

theorem keeps_takeSample (l : Nat) (x : TunedSample) (s : State) : KeepsBut linkParts s (takeSample l x s) := by
  have h : KeepsBut linkParts s (if (s.link l).batteryCrosses x.battery then raise .linkBattery l s else s) :=
    .ite ((keeps_raise _ _ _).mono (by decide)) (.refl _ _)
  exact (h.trans (keeps_record _ _ _)).trans (keeps_actOnSample _ _ _)

/-! ## Talk Router -/

theorem KeepsBut.foldAct {α : Type} {ps : List Part} (f : Acting → α → Acting) (h : ∀ x a, KeepsBut ps x.1 (f x a).1)
    (as : List α) (x : Acting) : KeepsBut ps x.1 (as.foldl f x).1 := by
  induction as generalizing x with
  | nil => exact .refl ps x.1
  | cons a as ih => exact (h x a).trans (ih _)

theorem keeps_tkIssue (address : Nat) (body : OrderBody) (issuer : Issuer) (record : Nat → State → State)
    (h : ∀ id s, KeepsBut issueParts s (record id s)) (x : Acting) :
    KeepsBut issueParts x.1 (tkIssue address body issuer record x).1 :=
  (keeps_issue address body issuer x.1).trans (h _ _)

theorem keeps_tkRecord (f : Tk → Tk) (s : State) : KeepsBut issueParts s (s.modTk f) := (keeps_modTk s f).mono (by decide)

theorem keeps_joinBreak (a d id : Nat) (s : State) : KeepsBut issueParts s (joinBreak a d id s) := by
  unfold joinBreak
  dsimp only
  split
  · exact keeps_tkRecord _ _
  · split
    · split
      · exact keeps_tkRecord _ _
      · exact (keeps_tkRecord _ _).trans ((keeps_raise _ _ _).mono (by decide))
    · exact keeps_tkRecord _ _

theorem keeps_orderBreak (a d : Nat) (x : Acting) : KeepsBut issueParts x.1 (orderBreak a d x).1 :=
  keeps_tkIssue _ _ _ _ (fun id s => keeps_joinBreak a d id s) x
theorem keeps_orderMake (a d : Nat) (x : Acting) : KeepsBut issueParts x.1 (orderMake a d x).1 :=
  keeps_tkIssue _ _ _ _ (fun _ s => keeps_tkRecord _ s) x
theorem keeps_orderDim (t depth : Nat) (x : Acting) : KeepsBut issueParts x.1 (orderDim t depth x).1 :=
  keeps_tkIssue _ _ _ _ (fun _ s => keeps_tkRecord _ s) x
theorem keeps_orderLamp (t : Nat) (x : Acting) : KeepsBut issueParts x.1 (orderLamp t x).1 := by
  unfold orderLamp
  dsimp only
  split
  · exact keeps_tkIssue _ _ _ _ (fun _ s => keeps_tkRecord _ s) x
  · exact .refl _ _

theorem keeps_tkFailed (i : Issuer) (id : Nat) (s : State) : KeepsBut issueParts s (tkFailed i id s) := by
  unfold tkFailed
  split
  · exact .ite ((keeps_tkRecord _ _).trans ((keeps_raise _ _ _).mono (by decide))) (.refl _ _)
  · exact keeps_tkRecord _ _
  · exact .ite (keeps_tkRecord _ _) (.refl _ _)
  · exact (keeps_lampFailed _ _ _).mono (by decide)
  · exact .refl _ _

theorem keeps_reported (x : Acting) : KeepsBut issueParts x.1 (reported x) := .foldl _ (fun s _ => keeps_tkFailed _ _ s) _ _

theorem keeps_lampTest (t : Nat) (s : State) : KeepsBut issueParts s (lampTest t s) :=
  (keeps_orderLamp t (s, [])).trans (keeps_reported _)

theorem keeps_tkAcked (i : Issuer) (id : Nat) (s : State) : KeepsBut issueParts s (tkAcked i id s) := by
  unfold tkAcked
  split
  · exact keeps_tkRecord _ _
  · exact keeps_tkRecord _ _
  · split
    · exact .ite ((keeps_tkRecord _ _).trans (keeps_lampTest _ _)) (.refl _ _)
    · exact .refl _ _
  · exact .refl _ _

theorem keeps_crosspoints (before : List Route) (x : Acting) (d : Nat) :
    KeepsBut issueParts x.1 (crosspoints before x d).1 :=
  (KeepsBut.foldAct _ (fun x a => keeps_orderBreak a d x) _ x).trans (.foldAct _ (fun x a => keeps_orderMake a d x) _ _)

theorem keeps_dims (before : List Route) (x : Acting) (t : Nat) : KeepsBut issueParts x.1 (dims before x t).1 := by
  unfold dims
  dsimp only
  split
  · exact keeps_orderDim _ _ _
  · exact .refl _ _

theorem keeps_lamps (asked : Option Nat) (s0 : State) (x : Acting) (t : Nat) :
    KeepsBut issueParts x.1 (lamps asked s0 x t).1 := by
  unfold lamps
  split
  · exact keeps_orderLamp _ _
  · exact .refl _ _

theorem keeps_tkAfterFor (asked : Option Nat) (s0 s1 : State) : KeepsBut issueParts s1 (tkAfterFor asked s0 s1) :=
  ((((keeps_tkRecord _ s1).trans (.foldAct _ (fun x d => keeps_crosspoints _ x d) _ (s1.resettle, []))).trans
    (.foldAct _ (fun x t => keeps_dims _ x t) _ _)).trans (.foldAct _ (fun x t => keeps_lamps asked s0 x t) _ _)).trans
    (keeps_reported _)

theorem keeps_tkAfter (s0 s1 : State) : KeepsBut issueParts s1 (tkAfter s0 s1) := keeps_tkAfterFor none s0 s1

theorem keeps_setKey (t n : Nat) (f : Key → Key) (s : State) : KeepsBut issueParts s (setKey t n f s) := keeps_tkRecord _ s

theorem keeps_startTalking (t : Nat) (k : Key) (new : KeyState) (tap : Option FrameNo) (s : State) :
    KeepsBut issueParts s (startTalking t k new tap s) := by
  unfold startTalking
  dsimp only
  split
  · exact (keeps_tkRecord _ _).trans ((keeps_raise _ _ _).mono (by decide))
  · exact (keeps_setKey _ _ _ _).trans (keeps_tkRecord _ _)

theorem keeps_stopTalking (t : Nat) (k : Key) (s : State) : KeepsBut issueParts s (stopTalking t k s) :=
  (keeps_setKey _ _ _ _).trans (keeps_tkRecord _ _)

theorem keeps_startPulse (frames d : Nat) (s : State) : KeepsBut issueParts s (startPulse frames d s) :=
  .ite (.refl _ _) ((keeps_tkRecord _ s).trans (keeps_rewantStation _ _))

theorem keeps_endPulse (d : Nat) (s : State) : KeepsBut issueParts s (endPulse d s) :=
  (keeps_tkRecord _ s).trans (keeps_rewantStation _ _)

theorem keeps_keyActs (t : Nat) (k : Key) (down : Bool) (s : State) : KeepsBut issueParts s (keyActs t k down s) := by
  unfold keyActs
  split
  all_goals first
    | exact keeps_startTalking _ _ _ _ _
    | exact keeps_stopTalking _ _ _
    | exact keeps_setKey _ _ _ _
    | exact .foldl _ (fun s d => keeps_startPulse _ d s) _ _
    | exact .refl _ _

theorem keeps_pressKey (t n : Nat) (down : Bool) (s : State) : KeepsBut issueParts s (pressKey t n down s) := by
  unfold pressKey
  split
  · exact .refl _ _
  · exact .ite (.refl _ _) ((keeps_setKey _ _ _ _).trans (keeps_keyActs _ _ _ _))

theorem keeps_redim (x : Acting) (t : Nat) : KeepsBut issueParts x.1 (redim x t).1 := by
  unfold redim
  dsimp only
  split
  · exact keeps_orderDim _ _ _
  · exact .refl _ _

theorem keeps_matrixEvent (s : State) : KeepsBut issueParts s (matrixEvent s) :=
  (((KeepsBut.foldAct _ (fun x (p : Nat × Nat) => keeps_orderMake p.1 p.2 x) _ ((s, []) : Acting)).trans
    (.foldAct _ (fun x (b : Break) => keeps_orderBreak b.source b.destination x) _ _)).trans
    (.foldAct _ (fun x t => keeps_redim x t) _ _)).trans (keeps_reported _)

theorem keeps_stopDim (x : Acting) (t : Nat) : KeepsBut issueParts x.1 (stopDim x t).1 := by
  unfold stopDim
  split
  · exact keeps_orderDim _ _ _
  · exact .refl _ _

theorem keeps_stopPulses (resolved : Bool) (s : State) : KeepsBut issueParts s (stopPulses resolved s) :=
  .ite (.foldl _ (fun s t => .ite (keeps_endPulse t s) (.refl _ _)) _ _) (keeps_tkRecord _ _)

theorem keeps_tkStop (resolved : Bool) (s : State) : KeepsBut issueParts s (tkStop resolved s) := by
  unfold tkStop
  refine KeepsBut.trans (keeps_tkRecord (fun k => { k with stations := k.stations.map Station.keysOff }) s) ?_
  dsimp only
  generalize s.modTk (fun k => { k with stations := k.stations.map Station.keysOff }) = s1
  have h1 : KeepsBut issueParts s1 (stopRoutes s1).1 := (keeps_tkRecord _ s1).trans
    (.foldAct _ (fun x d => .foldAct _ (fun x a => keeps_orderBreak a d x) _ x) _ ((s1.modTk _, []) : Acting))
  refine KeepsBut.trans h1 ?_
  generalize stopRoutes s1 = x1
  refine KeepsBut.trans (keeps_stopPulses resolved x1.1) ?_
  generalize stopPulses resolved x1.1 = s2
  exact ((KeepsBut.foldAct _ (fun x t => keeps_stopDim x t) _ ((s2, x1.2) : Acting)).trans
    (.foldAct _ (fun x t => keeps_orderLamp t x) _ _)).trans (keeps_reported _)

/-! ## Lamp Drivers -/

/-- The parts that a frame step may change (R157). -/
def lampParts : List Part := [.lamps, .lampZones]

theorem keeps_frameStep (s : State) : KeepsBut lampParts s (frameStep s) := by
  intro p hp; cases p <;> first | rfl | exact absurd (by decide) hp
theorem keeps_stopLamps (s : State) : KeepsBut lampParts s (stopLamps s) := by
  intro p hp; cases p <;> first | rfl | exact absurd (by decide) hp

/-! ## Results of orders -/

theorem keeps_retuneFailed (l id : Nat) (s : State) : KeepsBut linkParts s (retuneFailed l id s) :=
  .ite (keeps_startRevert _ _) (.refl _ _)

theorem keeps_scanAssignFailed (b : Nat) (o : Order) (s : State) : KeepsBut [.bands] s (scanAssignFailed b o s) := by
  unfold scanAssignFailed
  split
  · exact keeps_scanFailed _ _ _
  · exact .refl _ _

theorem keeps_orderFailed (o : Order) (s : State) : KeepsBut linkParts s (orderFailed o s) := by
  unfold orderFailed
  split
  all_goals first
    | exact .refl _ _
    | exact keeps_retuneFailed _ _ _
    | exact (keeps_parkMuteFailed _ _).mono (by decide)
    | exact (keeps_raise _ _ _).mono (by decide)
    | exact (keeps_tallyFailed _ _ _).mono (by decide)
    | exact linkParts_issue (keeps_tkFailed _ _ _)
    | exact (keeps_scanAssignFailed _ _ _).mono (by decide)

theorem keeps_orderAcked (o : Order) (s : State) : KeepsBut issueParts s (orderAcked o s) := by
  unfold orderAcked
  split
  all_goals first
    | exact .refl _ _
    | exact keeps_tallyAcked _ _ _
    | exact keeps_tkAcked _ _ _

theorem keeps_acknowledge (a : Nat) (s : State) (n : Byte) : KeepsBut issueParts s (acknowledge a s n) := by
  unfold acknowledge
  split
  · exact .refl _ _
  · exact (((keeps_modUnit _ _ _).mono (by decide)).trans ((keeps_grant _ _ _).mono (by decide))).trans (keeps_orderAcked _ _)

theorem keeps_acknowledgeAll (a : Nat) (ns : List Byte) (s : State) : KeepsBut issueParts s (acknowledgeAll a ns s) :=
  .foldl _ (fun s n => keeps_acknowledge a s n) _ _

theorem keeps_expire (a : Nat) (s : State) : KeepsBut linkParts s (expire a s) :=
  (((keeps_modUnit s a (UnitRec.dropDue s.now)).mono (by decide)).trans ((keeps_grant _ _ _).mono (by decide))).trans
    (.foldl _ (fun s o => keeps_orderFailed o s) _ _)

/-! ## The evaluator -/

/-- The parts that conversion and the engine's choice may change (R55, R57). -/
def engineParts : List Part := [.pe, .rescues, .sweepFlags]

theorem keeps_convertRescue (s : State) (l : Nat) : KeepsBut engineParts s (convertRescue s l) :=
  .ite (((keeps_modPe s _).mono (by decide)).trans
    ((keeps_modLink_rescue _ l (fun k => { k with rescue := .picking }) (fun _ => rfl) (fun _ => rfl)).mono
      (by decide))) (.refl _ _)

theorem keeps_sweepFlag (b : Nat) (v : Bool) (s : State) :
    KeepsBut [.sweepFlags] s (s.modBand b fun k => { k with sweepWanted := v }) := keeps_modBand_flag s b _ fun _ => rfl

theorem keeps_convertSweep (s : State) (b : Nat) : KeepsBut engineParts s (convertSweep s b) :=
  .ite (((keeps_modPe s _).mono (by decide)).trans ((keeps_sweepFlag _ _ _).mono (by decide))) (.refl _ _)

theorem keeps_convert (s : State) : KeepsBut engineParts s (convert s) :=
  .ite ((KeepsBut.foldl _ keeps_convertRescue _ s).trans (.foldl _ keeps_convertSweep _ _)) (.refl _ _)

theorem keeps_startJob (j : Job) (s : State) : KeepsBut engineParts s (startJob j s) := by
  unfold startJob
  dsimp only
  split
  · exact ((keeps_modPe s _).mono (by decide)).trans ((keeps_sweepFlag _ _ _).mono (by decide))
  · exact (keeps_modPe s _).mono (by decide)

theorem keeps_choose (s : State) : KeepsBut engineParts s (choose s) := by
  unfold choose
  split
  · exact keeps_startJob _ _
  · exact .refl _ _

theorem keeps_pump (s : State) : KeepsBut engineParts s (pump s) := (keeps_convert s).trans (keeps_choose _)

/-! ## The transmit path -/

theorem keeps_mpRecord (f : Mp → Mp) (s : State) : KeepsBut sendParts s (s.modMp f) := (keeps_modMp s f).mono (by decide)

theorem keeps_sendNotice (w : TxKind) (n : Notice) (s : State) : KeepsBut sendParts s (sendNotice w n s) :=
  (keeps_mpRecord _ s).trans (keeps_mpRecord _ _)

theorem keeps_pushNotice (n : Notice) (s : State) : KeepsBut sendParts s (pushNotice n s) := by
  refine KeepsBut.trans (t := { s with nq := s.nq.eraseP fun m => decide (m = n) }) ?_ (keeps_sendNotice _ _ _)
  intro p hp; cases p <;> first | rfl | exact absurd (by decide) hp

theorem keeps_kick (s : State) : KeepsBut sendParts s (kick s) := by
  unfold kick
  split
  · exact .refl _ _
  · exact (keeps_mpRecord _ s).trans (keeps_mpRecord _ _)
  · exact (keeps_mpRecord _ s).trans (keeps_sendNotice _ _ _)
  · unfold sendReply
    split
    · exact keeps_pushNotice _ _
    · exact (keeps_mpRecord _ s).trans (keeps_mpRecord _ _)
  · unfold pushIfAny
    split
    · exact keeps_pushNotice _ _
    · exact .refl _ _

theorem keeps_after (s : State) : KeepsBut afterParts s (after s) :=
  (keeps_pump s).andThen (keeps_kick _) (by decide) (by decide)

/-! ## Whole events -/

/-- The parts that any event of links, orders, routes, jobs and notices may change. -/
def eventParts : List Part := linkParts ++ afterParts

theorem keeps_finishKey (asked : Option Nat) (s0 s1 : State) : KeepsBut eventParts s1 (finishKey asked s0 s1) :=
  (keeps_tkAfterFor asked s0 s1).andThen (keeps_after _) (by decide) (by decide)

theorem keeps_finish (s0 s1 : State) : KeepsBut eventParts s1 (finish s0 s1) :=
  (keeps_tkAfter s0 s1).andThen (keeps_after _) (by decide) (by decide)

theorem keeps_muteAgain (l : Nat) (s : State) : KeepsBut linkParts s (muteAgain l s) :=
  (linkParts_issue (keeps_issueMute _ _ _ _)).trans ((keeps_reportPark _ _ _).mono (by decide))

theorem keeps_owedStep (o : Owed) (s : State) : KeepsBut linkParts s (owedStep o s) := by
  cases o with
  | silence l => exact .ite (keeps_goSilent _ _) (.refl _ _)
  | acquire l => exact .ite (linkParts_state (keeps_changeState _ _ _ _)) (.refl _ _)
  | retune l => exact .ite (keeps_startRevert _ _) (.refl _ _)
  | revert l => exact .ite (keeps_revertFails _ _) (.refl _ _)
  | vacate l =>
    exact .ite (((linkParts_carrier (keeps_release _ s)).trans (linkParts_state (keeps_changeState _ _ _ _))).trans
      (linkParts_plan (keeps_giveOutcome _ _ _))) (.refl _ _)
  | orders a => exact keeps_expire _ _
  | tallyRetry l => exact .ite (linkParts_issue ((keeps_tallyRecord l _ s).trans (keeps_deliveryTest _ _))) (.refl _ _)
  | lampRetry t => exact .ite (linkParts_issue ((keeps_tkRecord _ s).trans (keeps_lampTest _ _))) (.refl _ _)
  | tap t n => exact .ite (linkParts_issue (keeps_setKey _ _ _ _)) (.refl _ _)
  | pulse t => exact .ite (linkParts_issue (keeps_endPulse _ _)) (.refl _ _)
  | scan b =>
    have h : KeepsBut linkParts s
        (s.modBand b fun k => { k with scanReissue := k.scanReissue.filter fun x => decide (x.1 ≠ s.now) }) :=
      (keeps_modBand_core s b (fun k => { k with scanReissue := k.scanReissue.filter fun x => decide (x.1 ≠ s.now) })
        fun _ => rfl).mono (by decide)
    exact h.trans (.foldl _ (fun s x => (keeps_issueScanAssign b x s).mono (by decide)) _ _)
  | mute l =>
    have h : KeepsBut linkParts s
        (s.modLink l fun k => { k with muteReissue := k.muteReissue.filter fun e => decide (e ≠ s.now) }) := keeps_record l _ s
    exact .ite (h.trans (.foldl _ (fun s _ => keeps_muteAgain l s) _ _)) h
  | fade l =>
    exact .ite (.ite ((keeps_modLink_rescue s l (fun k => { k with rescue := .wanted }) (fun _ => rfl) (fun _ => rfl)).mono (by decide)) (.refl _ _)) (.refl _ _)

/-- A marked check is a change of the evaluator's queue alone. -/
theorem keeps_jobsSeeMove (l : Nat) (s : State) : KeepsBut [.pe] s (jobsSeeMove l s) := keeps_modPe s _

/-- A good frame changes the Message Port and what it sends alone. -/
theorem keeps_takeFrame (s : State) (f : HostFrame) : KeepsBut sendParts s (takeFrame s f) :=
  ((keeps_modMp s _).mono (by decide)).trans (keeps_kick _)

theorem keeps_receiveBytes (bs : List Byte) (s : State) : KeepsBut sendParts s (receiveBytes bs s) :=
  (((keeps_modMp s _).mono (by decide)).trans (.foldl _ keeps_takeFrame _ _)).trans (keeps_kick _)

/-- A path that has chosen does not choose again. -/
theorem kick_of_sending (s : State) (h : s.mp.sending.isSome = true) : kick s = s := by
  unfold kick; split <;> simp_all

/-- While RESET is low the outputs depend on nothing (R198). -/
@[simp] theorem outputs_low (s : State) (tick : Nat → Nat) : s.outputs false tick = Outputs.held := rfl

/-- ATTN with RESET high (R192). -/
@[simp] theorem outputs_attn (s : State) (tick : Nat → Nat) : (s.outputs true tick).attn = s.attn := rfl

/-- The parts that the steps owed at a boundary may change. -/
def boundaryParts : List Part := .owed :: eventParts

theorem keeps_owed (xs : List Owed) (s : State) : KeepsBut [.owed] s { s with owed := xs } := by
  intro p hp; cases p <;> first | rfl | exact absurd (by decide) hp

theorem keeps_takeOwed (o : Owed) (s : State) : KeepsBut boundaryParts s (takeOwed o s) :=
  .ite ((((keeps_owed _ s).mono (by decide)).trans ((keeps_owedStep o _).mono (by decide))).trans
    ((keeps_finish _ _).mono (by decide))) (.refl _ _)

theorem keeps_takeSome (xs : List Owed) (s : State) : KeepsBut boundaryParts s (takeSome xs s) :=
  .foldl _ (fun s o => keeps_takeOwed o s) xs s

theorem keeps_settleOwed (s : State) : KeepsBut boundaryParts s (settleOwed s) :=
  (keeps_takeSome s.owed s).trans ((keeps_owed _ _).mono (by decide))

@[simp] theorem settleOwed_owed (s : State) : (settleOwed s).owed = [] := rfl

/-- With nothing owed, there is nothing to settle. -/
theorem settleOwed_of_nil (s : State) (h : s.owed = []) : settleOwed s = s := by
  cases s; cases h; rfl

end Sys2Proof.Machine
end

