-- ==== Sys2Proof/Tests/Slice0.lean ====
section
/-! SUPPORT. Tests of the model on small states. Expected values come from the spec, from the rule or worked figures that each
docstring names. The witnesses at the end show, for each statement with hypotheses, a state and operands that meet them. -/

namespace Sys2Proof.Tests

-- The theorems below are evaluated one after another: side by side they ask for more memory than a check allows.
set_option Elab.async false

open Sys2Proof Sys2Proof.Machine

/-! ## Well-formed commands (section 5.5 of the introduction, one ill-formed term for each check) -/

theorem test_wf_object_numbers :
    [Instr.silenceExpiry 0, .silenceExpiry 49, .muteReissue 49, .orderExpiry 0, .orderExpiry 25, .lampRetry 25, .callPulseEnd 0,
      .tapDeadline 25 1, .tapDeadline 1 9, .scanAssignReissue 5, .pwmPeriodStart 17, .edge 33 true, .edge 0 true].all
      (fun c => !c.wf) = true := by decide

theorem test_wf_byte_counts :
    [Instr.frameGood (List.replicate 247 0), .frameFailed (List.replicate 247 0), .report (List.replicate 255 0),
      .scanData (List.replicate 255 0), .matrixReport (List.replicate 255 0)].all (fun c => !c.wf) = true := by decide +kernel

theorem test_wf_accepts_the_bounds :
    [Instr.silenceExpiry 48, .orderExpiry 24, .orderExpiry 31, .tapDeadline 24 8, .scanAssignReissue 4, .pwmPeriodStart 16,
      .edge 32 true, .frameGood (List.replicate 246 0), .report (List.replicate 254 0), .identify].all Instr.wf = true := by
  decide +kernel

/-- No row of the table gives bits, so no word spells a command. -/
theorem test_no_word_spells_a_command : decodeTableWord 8 0x5A = none ∧ decodeTableWord 0 0 = none := by decide

/-! ## States to test on -/

/-- A request frame with tag 7. -/
def frame (kind : Nat) (payload : List Nat) : HostFrame := ⟨BitVec.ofNat 8 kind, 7, payload.map (BitVec.ofNat 8)⟩

/-- The state with one request waiting to be taken. -/
def ask (kind : Nat) (payload : List Nat) (s : State) : State := s.modMp fun m => { m with buffer := [frame kind payload] }

/-- The state with one step of the boundary owed. -/
def owing (o : Owed) (s : State) : State := { s with owed := [o] }

/-- The state after a command. -/
def next (c : Instr) (s : State) : State := match exec c s with | .next t => t | .fault _ | .refused _ => s

/-- The payload of the reply being sent after a command takes its request. -/
def replyTo (c : Instr) (kind : Nat) (payload : List Nat) (s : State) : List Nat :=
  ((next c (ask kind payload s)).mp.sending.map fun f => f.frame.payload.map BitVec.toNat).getD []

/-- A packet of a unit. -/
def packet (address kind : Nat) (payload : List Nat) : List Byte := envelope address kind (payload.map (BitVec.ofNat 8))

def spectrum : Band :=
  { Band.reset with
    defined := true
    p := { BandParams.zero with
      baseKhz := 470000, steps := 1024, gapCc := 6, gapIm3 := 4, gapIm3x := 2, spareHw := 2, spareStride := 4, scanStart := 0,
      scanEnd := 99, binWidth := 16, hotLevel := 60, unknownPenalty := 20, scanUnit := some 3 }
    bins := List.replicate 7 { level := none, hot := false } }

/-- A camera link in a state on a step; four links ride each unit. -/
def rides (l : Nat) (st : LinkState) (step : Option Nat) : Link :=
  { Link.vacant with
    cfg := { kind := some .camera, band := 1, hw := 2, unit := 1 + (l - 1) / 4, channel := 1 + (l - 1) % 4, station := none,
             fadeLevel := 40, recoverLevel := 52, fadeQuality := 160, recoverQuality := 96, filterK := 3, fadeLimit := 10,
             silenceLimit := 12, acquireLimit := 50, confirmWindow := 25, autoRescue := true, batteryLow := 20 }
    state := st, assigned := step, silenceCounter := 12 }

/-- Links 1 to 8: one in each state but VACANT, in the order of section 5.2. Link 2 stands LOCKED at step 400 with station 2. -/
def fleet : List Link :=
  [rides 1 .idle none,
   { rides 2 .locked (some 400) with cfg := { (rides 2 .locked none).cfg with station := some 2 } },
   { rides 3 .fading (some 432) with fadeTimer := 10 },
   { rides 4 .retuning (some 500) with pending := some 548, origin := some .plan, moveOrder := some 0,
                                       effectiveFrame := some 0, deadline := some 0 },
   { rides 5 .reverting (some 600) with origin := some .plan, effectiveFrame := some 0, deadline := some 0 },
   { rides 6 .acquiring (some 640) with effectiveFrame := some 0, deadline := some 0 },
   { rides 7 .parked (some 700) with muteReissue := [0] },
   { rides 8 .lost (some 760) with lostCause := some .silent }]

def keyOn (n : Nat) (target : KeyTarget) (mode : KeyMode) : Key :=
  { number := n, target := target, mode := mode, state := .off, pressed := false, tapDeadline := none }

/-- Stations 1 to 4: a PANEL with a key of each mode, a LINKED station on link 2, a SPEAKER in zone 1 and an IFB on link 2. -/
def floor : List Station :=
  [{ Station.undefined with kind := some .panel, priority := 3,
                            keys := [keyOn 1 (.station 3) .momentary, keyOn 2 (.group 1) .latch, keyOn 3 (.station 3) .auto,
                                     keyOn 4 (.station 3) .call] },
   { Station.undefined with kind := some .linked, link := some 2, keys := [keyOn 1 (.station 3) .momentary] },
   { Station.undefined with kind := some .speaker, zone := some 1 },
   { Station.undefined with kind := some .ifb, link := some 3, dimDepth := 3, dimRetry := true }]

/-- A part in STANDBY with a band, links, stations and one map entry: LINE 3 puts link 2, lamp 5 and zone 1 on PROGRAM. -/
def part : State :=
  { State.reset with
    bands := State.reset.bands.set 0 spectrum
    links := fleet ++ List.replicate 40 Link.vacant
    tr := { Tr.reset with map := Tr.reset.map.set 0 (some ⟨.line 3, true, some 1, [2], [5]⟩) }
    tk := { Tk.reset with stations := floor ++ List.replicate 20 Station.undefined, groups := Tk.reset.groups.set 0 [3, 4] }
    nextOrderId := 1 }

/-- The same part in RUN. -/
def live : State := { part with mode := .run }

/-- The part in STANDBY with no link holding a carrier. -/
def bare : State := { part with links := State.reset.links }

/-- The part in RUN with the staged plan in a stage. -/
def staged (st : PlanState) (es : List PlanEntry) : State :=
  { live with plan := { Plan.reset with state := st, entries := es, effective := some 0 } }

/-- The part in RUN with a job that runs on a snapshot of it. -/
def working (k : JobKind) (s : State) : State :=
  { s with pe := { s.pe with engine := .running, queue := [⟨k, some (s.snapshot k), false⟩] } }

/-! ## The timebase (chapter 1) -/

/-- R4 to R6: eight good periods lock, and no pulse before makes a boundary. -/
theorem test_eighth_good_period_locks :
    let s := { State.reset with ftb := { Ftb.reset with refState := .locking, goodCount := 7, lastPulse := some 1000 } }
    let t := next (.refPulse 21100 true) s
    t.ftb.refState = .locked ∧ t.ftb.goodCount = 8 ∧ t.ftb.goodPeriod = 20100 ∧ t.ftb.counter = 0 := by decide +kernel

/-- R1, R5: a period of 20,101 µs is outside the good window of rate code 3. -/
theorem test_period_past_the_window_is_bad :
    (next (.refPulse 21101 true) { State.reset with ftb :=
      { Ftb.reset with refState := .locking, goodCount := 7, lastPulse := some 1000 } }).ftb.goodCount = 0 := by decide +kernel

/-- R9, R124: the counter wraps at the boundary of the internal timer, and FRAME_MARK carries its low 16 bits. -/
theorem test_timer_boundary_wraps :
    let t := next (.internalTimerDue true) { State.reset with ftb := { Ftb.reset with counter := 0xFFFFFFFF } }
    t.ftb.counter = 0 ∧ t.ftb.nextInternal = some 40000 ∧ t.bus = [.frameMark 0 .absent] := by decide +kernel

/-- R7: the watchdog in LOCKED enters HOLDOVER and makes the missing boundary at once. -/
theorem test_watchdog_makes_the_missing_boundary :
    let t := next (.pulseWatchdogExpiry true) { State.reset with ftb :=
      { Ftb.reset with refState := .locked, goodCount := 8, lastPulse := some 100000, lastBoundary := 100000, nextInternal := none } }
    t.ftb.refState = .holdover ∧ t.ftb.lastBoundary = 130000 ∧ t.ftb.nextInternal = some 150000 := by decide +kernel

/-- R7, by hand: a boundary at the changeover point 9,900 and a good_period of 20,100 make the one-period point the watchdog's own
30,000, and the missing boundary is produced at once. -/
theorem test_watchdog_at_the_one_period_point :
    let t := next (.pulseWatchdogExpiry true) { State.reset with ftb :=
      { Ftb.reset with refState := .locked, goodCount := 8, lastPulse := some 0, lastBoundary := 9900, goodPeriod := 20100,
                       nextInternal := none } }
    t.ftb.refState = .holdover ∧ t.ftb.lastBoundary = 30000 ∧ t.ftb.nextInternal = some 50100 := by decide +kernel

/-- R12: a lead of 60 shows as 50. -/
theorem test_tb_configure_clamps : replyTo (.tbConfigure 5) 0x01 [3, 60] part = [0, 3, 50] := by decide +kernel

/-- R12: rate code 6, and another rate in RUN. -/
theorem test_tb_configure_refuses :
    replyTo (.tbConfigure 5) 0x01 [6, 6] part = [2] ∧ replyTo (.tbConfigure 5) 0x01 [0, 6] live = [4] := by decide +kernel

/-- R14, R16: rate code, lead, ABSENT, counter, measured_period (3 bytes), good_count, good_period. -/
theorem test_tb_status :
    replyTo .tbStatus 0x02 [] State.reset = [0, 3, 6, 0, 0, 0, 0, 0, 0, 0, 0, 0, 0x4E, 0x20] := by decide +kernel

/-- R11: frames too soon, far enough ahead and too far ahead of now. -/
theorem test_effective_frame :
    State.reset.effectiveFor (some 5) = some 6 ∧ State.reset.effectiveFor (some 3000) = some 3000 ∧
      State.reset.effectiveFor (some 3001) = none ∧ State.reset.effectiveFor (some 0xFFFFFFFF) = some 6 := by decide

/-! ## Bands and arithmetic (chapters 2 and 3) -/

/-- R17: 15 × 273 is one step short, so a window of 4096 steps in bins of 15 needs 274 bins. -/
theorem test_bin_count : ({ spectrum.p with scanEnd := 4095, binWidth := 15 } : BandParams).binCount = 274 ∧
    ({ spectrum.p with scanEnd := 4095 } : BandParams).binCount = 256 ∧ spectrum.p.binCount = 7 ∧
    spectrum.p.binSpan 6 = ⟨96, 111⟩ := by decide

/-- R17: in RUN, and while a link holds a carrier of the band. -/
theorem test_band_define_refuses :
    let p := [1, 7, 0x2B, 0xF0, 4, 0, 6, 4, 2, 0, 2, 4, 0, 0, 0, 99, 16, 60, 20, 3]
    replyTo .bandDefine 0x10 p live = [4] ∧ replyTo .bandDefine 0x10 p part = [5] := by decide +kernel

/-- R19: an undefined band. -/
theorem test_band_guards : replyTo .bandGuards 0x11 [2, 1, 1, 1, 1] part = [5] ∧
    replyTo .bandGuards 0x11 [1, 9, 4, 2, 0] part = [0, 9, 4, 2, 0] := by decide +kernel

/-- Section 2.4, worked sequence: 121..150 touches 100..120, and 140..210 then joins 200..240. -/
theorem test_exclusions_merge :
    exclInsert ⟨121, 150⟩ [⟨100, 120⟩, ⟨200, 240⟩] = [⟨100, 150⟩, ⟨200, 240⟩] ∧
      exclInsert ⟨140, 210⟩ [⟨100, 150⟩, ⟨200, 240⟩] = [⟨100, 240⟩] := by decide

/-- Section 2.4, worked sequence: removing 150..160 from 100..240 splits it. -/
theorem test_exclusions_split : exclDelete ⟨150, 160⟩ [⟨100, 240⟩] = [⟨100, 149⟩, ⟨161, 240⟩] := by decide

/-- R20, R25: EXCL_ADD for a frozen band. -/
theorem test_freeze_bars_exclusions :
    replyTo .bandFreeze 0x14 [1] part = [0, 0] ∧
      replyTo .exclAdd 0x12 [1, 0, 1, 0, 2] (part.modBand 1 fun k => { k with frozen := true }) = [7] := by decide +kernel

/-- Section 3.2 by hand: carriers of half-width 2 at 400 and 432; the product 2 × 400 − 432 = 368 with half-width 6 meets a
carrier at 380: 12 − 2 − 6 − 4 = 0, and spacing there is 20 − 2 − 2 − 6 = 10. -/
theorem test_worst_constraint :
    let g := { (part.bandSnap 1) with p := { spectrum.p with gapIm3x := 0 } }
    let w := evaluate g false [⟨400, 2, 1, .assigned⟩, ⟨432, 2, 2, .assigned⟩, ⟨380, 2, 3, .assigned⟩]
    w.kind = .im3Two ∧ w.margin = 0 ∧ w.product = 368 := by decide +kernel

/-- R29, R30: a level of 60 makes bin 0 hot; 48 after it decays to 56; a masked bin stays. -/
theorem test_scan_levels :
    let t := applyLevels 1 0 [60, 12] bare
    ((t.band 1).bins.take 2) = [⟨some 60, true⟩, ⟨some 12, false⟩] ∧ (t.band 1).spectrumGen = 1 ∧
      ((applyLevels 1 0 [48] t).band 1).bins.head? = some ⟨some 56, true⟩ := by decide +kernel

/-- R63: the query number 0, then 1; a step past the band. -/
theorem test_check_candidate :
    replyTo .checkCandidate 0x18 [1, 1, 0, 2, 0] part = [1, 0, 0] ∧ replyTo .checkCandidate 0x18 [1, 4, 0, 2, 0] part = [2] := by
  decide +kernel

/-! ## Links and plans (chapters 5 and 6) -/

/-- R73: another link with the same unit and channel; a carrier held. -/
theorem test_link_define_refuses :
    let give (l kind band unit channel : Nat) :=
      [l, kind, band, 2, unit, channel, 0, 40, 52, 160, 96, 3, 10, 12, 0, 50, 25, 0, 20]
    replyTo .linkDefine 0x20 (give 9 1 1 1 1) part = [10] ∧ replyTo .linkDefine 0x20 (give 2 0 1 9 1) part = [6] ∧
      replyTo .linkDefine 0x20 (give 9 1 2 9 1) part = [5] := by decide +kernel

/-- R61, R74: a change of band while the check of link 1 runs makes it STALE, and a definition that changes nothing does not. -/
theorem test_link_define_moves_check :
    let give (band : Nat) := [1, 0, band, 2, 1, 1, 0, 40, 52, 160, 96, 3, 10, 12, 0, 50, 25, 1, 20]
    let done (band : Nat) := next .linkDefine (ask 0x20 (give band)
      (working (.assignCheck 1 300 false) (live.modBand 2 fun _ => spectrum)))
    (done 2).pe.queue.map Job.moved = [true] ∧ (done 1).pe.queue.map Job.moved = [false] ∧
      ((next .assignCheckComplete (done 2)).assignResult 1).map AssignResult.outcome = some .stale := by decide +kernel

/-- R85: the checks on mode and state, and an admitted assignment. -/
theorem test_link_assign :
    replyTo .linkAssign 0x21 [1, 1, 0, 0] part = [4] ∧ replyTo .linkAssign 0x21 [2, 1, 0, 0] live = [5] ∧
      replyTo .linkAssign 0x21 [1, 4, 0, 0] live = [2] ∧ replyTo .linkAssign 0x21 [1, 1, 0, 0] live = [1] := by decide +kernel

/-- R94: two MUTEs of a link failed in one frame, and each is issued again; one that overflows waits for the next boundary. -/
theorem test_two_mutes_go_again :
    let s := owing (.mute 7) (live.modLink 7 fun k => { k with muteReissue := [0, 0] })
    let full := s.modUnit 2 fun u => { u with
      outstanding := (List.range 8).map fun n => ⟨50 + n, 2, .mute 1 9, .lsRelease 1, 9, some (BitVec.ofNat 8 n)⟩,
      waiting := (List.range 31).map fun n => ⟨60 + n, 2, .mute 1 9, .lsRelease 1, 9, none⟩ }
    ((next (.muteReissue 7) s).unit 2).outstanding.map (fun o => (o.issuer, o.deadline)) = [(.lsPark 7, 6), (.lsPark 7, 6)] ∧
      ((next (.muteReissue 7) s).link 7).muteReissue = [] ∧
      ((next (.muteReissue 7) full).unit 2).waiting.length = 32 ∧
      ((next (.muteReissue 7) full).link 7).muteReissue = [1] := by decide +kernel

/-- R94: a park's MUTE expires at the boundary at which an earlier one's re-issue is owed, and both are issued again. -/
theorem test_mute_expiry_keeps_the_reissue_owed :
    let s : State := { (live.modUnit 2 fun u => { u with outstanding := [⟨1, 2, .mute 3 0, .lsPark 7, 0, some 0⟩], nextNumber := 1 })
      with owed := [.orders 2, .mute 7] }
    let t := settleOwed s
    (t.link 7).muteReissue = [1] ∧ (t.unit 2).outstanding.map (fun o => (o.issuer, o.deadline)) = [(.lsPark 7, 6)] := by
  decide +kernel

/-- R91: a LOST link is parked with a MUTE; an ACQUIRING one may not be. -/
theorem test_link_park :
    ((next .linkPark (ask 0x23 [8] part)).link 8).state = .parked ∧
      ((next .linkPark (ask 0x23 [8] part)).unit 2).outstanding.map Order.body = [.mute 4 6] ∧
      replyTo .linkPark 0x23 [6] part = [5] := by decide +kernel

/-- R83, R84, R108: a retune abandoned by LINK_FORCE_SILENCE releases its pending carrier. -/
theorem test_force_silence :
    let t := next .linkForceSilence (ask 0x25 [4] live)
    (t.link 4).state = .lost ∧ (t.link 4).assigned = some 500 ∧ (t.link 4).pending = none ∧ (t.band 1).carrierGen = 1 := by
  decide +kernel

/-- R78: the third bad sample fades link 2. -/
theorem test_third_bad_sample_fades :
    let s := live.modLink 2 fun k => { k with badRun := 2 }
    ((takeSample 2 ⟨39, 90, true, some 400, 80⟩ s).link 2).state = .fading ∧
      ((takeSample 2 ⟨40, 90, true, some 400, 80⟩ s).link 2).badRun = 0 := by decide +kernel

/-- R89: a LOST link on another step is tuned back. -/
theorem test_lost_link_is_tuned_back :
    let t := takeSample 8 ⟨70, 20, true, some 400, 80⟩ live
    (t.link 8).state = .reverting ∧ (t.link 8).deadline = some 31 ∧
      (t.unit 2).outstanding.map Order.body = [.tune 4 489000 6] := by decide +kernel

/-- R105: at its deadline link 4 reverts to 500 + 6 frames. -/
theorem test_retune_deadline :
    let t := next (.retuneDeadline 4) (owing (.retune 4) live)
    (t.link 4).state = .reverting ∧ (t.link 4).effectiveFrame = some 6 ∧
      (t.unit 1).outstanding.map Order.body = [.tune 4 482500 6] := by decide +kernel

/-- R110: an entry for link 1 in a plan that is not OPEN, and in one that is. -/
theorem test_plan_entry :
    replyTo .planEntry 0x29 [1, 1, 0, 9] live = [5] ∧ replyTo .planEntry 0x29 [1, 1, 0, 9] (staged .opened []) = [0, 1] := by
  decide +kernel

/-- R113, R114: a plan for an IDLE link is DONE at its launch, with the effective frame in the reply. -/
theorem test_plan_launch :
    let s := staged .ready [⟨1, some 300, none⟩]
    replyTo .planLaunch 0x2B [0] s = [0, 0, 0, 0, 6] ∧ (next .planLaunch (ask 0x2B [0] s)).plan.state = .done ∧
      ((next .planLaunch (ask 0x2B [0] s)).link 1).state = .acquiring := by decide +kernel

/-! ## The Unit Bus (chapter 7) -/

/-- Section 7.3 by hand: the CRC-8 of the check string 123456789 under x⁸ + x² + x + 1 is F4. -/
theorem test_crc8 : crc8 [0x31, 0x32, 0x33, 0x34, 0x35, 0x36, 0x37, 0x38, 0x39] = 0xF4 := by decide +kernel

/-- R129: an acknowledgement delivers link 2's tally word. -/
theorem test_acknowledgement_delivers :
    let s := (deliveryTest 2 live).modFtb fun k => { k with counter := 1 }
    let t := next (.report (packet 1 0x20 [0, 0, 1, 0])) s
    (s.link 2).tallyOrder.isSome = true ∧ (t.link 2).delivered = some TallyWord.dark ∧ (t.unit 1).outstanding = [] := by
  decide +kernel

/-- R130, R147: an unacknowledged TALLY order of frame 0 expires at frame 3, and its retry hold ends at frame 4. -/
theorem test_tally_order_expires :
    let t := next (.orderExpiry 1) (owing (.orders 1) ((deliveryTest 2 live).modFtb fun k => { k with counter := 3 }))
    (t.link 2).tallyOrder = none ∧ (t.link 2).retryAt = some 4 ∧ (t.unit 1).outstanding = [] := by decide +kernel

/-- R125: a packet with a wrong CRC has no effect. -/
theorem test_bad_packet : next (.report [1, 0x20, 3, 0, 0, 0, 0]) live = live := by decide +kernel

/-! ## Tally, lamps and talkback (chapters 8 to 10) -/

/-- R137, R138: a low level is active; the second of two changes line 3. -/
theorem test_line_edge :
    let s := live.modLine 3 fun x => { x with run := 1 }
    ((next (.edge 3 false) s).line 3).filtered = true ∧ ((next (.edge 3 false) s).line 3).edge = true ∧
      ((next (.edge 3 true) s).line 3).run = 0 := by decide +kernel

/-- R142 to R145: the boundary puts link 2, lamp 5 and zone 1 on PROGRAM. -/
theorem test_boundary_resolves :
    let t := next (.internalTimerDue false) (live.modLine 3 fun x => { x with filtered := true })
    slot .off t.tr.linkTally 2 = .program ∧ slot .off t.tr.lampTally 5 = .program ∧
      (t.unit 1).outstanding.map Order.body = [.tally 2 ⟨.program, false⟩, .tally 3 ⟨.off, false⟩] := by decide +kernel

/-- R151: the edge flag of line 1 is reported set, and then cleared. -/
theorem test_tally_read_clears :
    let s := part.modLine 1 fun x => { x with edge := true }
    (replyTo .tallyRead 0x33 [0, 0, 0, 0, 1] s).take 5 = [0, 1, 2, 0, 0] ∧
      ((next .tallyRead (ask 0x33 [0, 0, 0, 0, 1] s)).line 1).edge = false := by decide +kernel

/-- R159: the period loads what was selected, and the pin is then active for that many ticks, low with invert. -/
theorem test_pwm_period :
    let x := (next (.pwmPeriodStart 5) (part.modLamp 5 fun x => { x with selected := 180 })).lamp 5
    x.drive = 180 ∧ x.pinHigh 179 = true ∧ x.pinHigh 180 = false ∧ ({ x with driveInvert := true } : Lamp).pinHigh 180 = true := by
  decide +kernel

/-- R157, R158, by hand: PROGRAM with 2 frames on and 1 off is lit, lit, dark, lit, as a zone stays ON_AIR. -/
theorem test_lamp_cadence :
    let x : Lamp := { Lamp.reset with
      cfg := { LampConfig.reset with source := .zone 1, levels := ⟨0, 0, 90, 0, 0⟩, cadences :=
        ⟨⟨0, 0⟩, ⟨0, 0⟩, ⟨2, 1⟩, ⟨0, 0⟩, ⟨0, 0⟩⟩ } }
    let y := x.stepTo .program
    [y, y.stepTo .program, (y.stepTo .program).stepTo .program, ((y.stepTo .program).stepTo .program).stepTo .program].map
      Lamp.selected = [90, 90, 0, 90] := by decide

/-- R167, R171, R174, R176: a MOMENTARY key talks: one LIVE route and its make. -/
theorem test_key_talks :
    let t := next .keyEvent (ask 0x42 [1, 1, 0] live)
    (t.tk.routes.map fun r => (r.source, r.destination, r.holders, r.live)) = [(1, 3, 1, true)] ∧
      (t.unit 31).outstanding.map Order.body = [.crosspoint true 1 3] ∧ replyTo .keyEvent 0x42 [1, 1, 0] live = [0, 1] := by
  decide +kernel

/-- R168: an AUTO key is TAPPING until now + 12. -/
theorem test_auto_key_taps :
    ((next .keyEvent (ask 0x42 [1, 3, 0] live)).station 1).key 3 =
      some { keyOn 3 (.station 3) .auto with state := .tapping, pressed := true, tapDeadline := some 12 } := by decide +kernel

/-- R166, R179: a release of a LATCH key on a LINKED station moves no key, and its lamps are tested all the same. -/
theorem test_key_event_tests_lamps :
    let s := live.modStation 2 fun x => { x with keys := [{ keyOn 1 (.station 3) .latch with pressed := true }] }
    (next (.report (packet 1 0x20 [0, 1, 2, 1, 0])) s).bus.map (fun p => match p with | .order o => some o.body | _ => none) =
      [some (.talkLamp 2 { keys := List.replicate 8 .off, source := none })] := by decide +kernel

/-- The routes of section 10.9 to station 20, as they stand when station 5 and then station 6 have pressed. -/
def summing : State :=
  let x (p : Nat) : Station := { Station.undefined with kind := some .panel, priority := p }
  let r (a : Nat) (live : Bool) : Route := ⟨a, 20, 1, live, false, false, !live, none, none⟩
  part.modTk fun k => { k with
    stations := [x 3, x 5, x 5, x 2, x 4, x 2] ++ List.replicate 18 (x 0)
    routes := [r 1 true, r 2 true, r 3 true, r 4 true, r 5 false, r 6 false] }

/-- E preempts D, F waits, and D is granted when A goes (section 10.9). -/
theorem test_four_talkers_and_two_more :
    let lives (s : State) := s.resettle.tk.routes.map fun r => (r.source, r.live, r.noSlot)
    lives summing = [(1, true, false), (2, true, false), (3, true, false), (4, false, true), (5, true, false), (6, false, true)] ∧
      lives (summing.resettle.modTk fun k => { k with routes := k.routes.drop 1 }) =
        [(2, true, false), (3, true, false), (4, true, false), (5, true, false), (6, false, true)] := by decide +kernel

/-- A TALK_LAMP outstanding at unit 3 shows its number though the station's link now names unit 1 (R181, section 7.1). -/
theorem test_lamp_order_number_at_its_unit :
    let lamp : Order := ⟨8, 3, .talkLamp 2 ⟨[], none⟩, .tkLamp 2, 3, some 0x2A⟩
    let s := part.modUnit 3 fun u => { u with outstanding := [lamp] }
    s.orderBytes 8 = [1, 0x2A] ∧ s.orderBytes 9 = [0] := by decide +kernel

/-- R165, R181, R186: group 1 of stations 3 and 4 is the set 00000C. -/
theorem test_groups_read : (replyTo .talkRead 0x43 [1, 0] part).take 5 = [0, 0, 0, 0x0C, 0] := by decide +kernel

/-! ## The Message Port and the modes (chapter 11) -/

/-- Section 11.1 by hand: the CRC-16 of the check string 123456789 with initial value FFFF is 29B1. -/
theorem test_crc16 : crc16 [0x31, 0x32, 0x33, 0x34, 0x35, 0x36, 0x37, 0x38, 0x39] = 0x29B1 := by decide +kernel

/-- R187, R188: a frame is buffered; a fifth is refused. -/
theorem test_frames_are_buffered :
    let full := part.modMp fun m => { m with buffer := List.replicate 4 (frame 0x74 []) }
    (next (.frameGood (frame 0x74 []).bytes) part).mp.buffer = [frame 0x74 []] ∧
      (next (.frameGood (frame 0x74 []).bytes) full).mp.sending = some ⟨.refusal, ⟨0xF4, 7, [9]⟩⟩ := by decide +kernel

/-- R188, R189: of six frames behind one another, the buffer takes four, the first refusal is sent at once and the second waits. -/
theorem test_frames_behind_one_another :
    let t := next (.frameGood ((List.replicate 6 (frame 0x74 []).bytes).flatten)) part
    t.mp.buffer.length = 4 ∧ t.mp.sending.map TxFrame.what = some .refusal ∧ t.mp.refusals.length = 1 := by decide +kernel

/-- R199: part code 7140, revision 1, vendor code 0B71. -/
theorem test_identify : replyTo .identify 0x74 [] part = [0, 0x1B, 0xE4, 1, 0x0B, 0x71] := by decide +kernel

/-- R188: kind 99 is no request code, and its reply has kind FF. -/
theorem test_unknown_request :
    ((next .unknownRequest (ask 0x99 [] part)).mp.sending.map fun f => (f.frame.kind, f.frame.payload)) = some (0xFF, [3]) := by
  decide +kernel

/-- R193: a fetch of the reset notice: one taken, none left. -/
theorem test_notice_fetch : replyTo .noticeFetch 0x76 [0] part = [0, 1, 0] := by decide +kernel

/-- R28, R195: START enters RUN and assigns band 1's scan unit. -/
theorem test_start :
    let t := next .start (ask 0x70 [] part)
    t.mode = .run ∧ (t.unit 3).outstanding.map Order.body = [.scanAssign 1 470000 400 7] := by decide +kernel

/-- R196: STOP is refused while link 4 is RETUNING. -/
theorem test_stop_refused : replyTo (.stop true) 0x71 [] live = [5] := by decide +kernel

/-- R144, R154: link 2 was last sent PROGRAM+CALL. Where its pulse ends first STOP sends it OFF, and otherwise OFF+CALL. -/
theorem test_stop_sends_off :
    let s := ((live.modLink 4 fun _ => Link.vacant).modLink 5 fun _ => Link.vacant).modStation 2 fun x => { x with pulseEnd := some 9 }
    let u := s.modLink 2 fun k => { k with delivered := some ⟨.program, true⟩ }
    let word (first : Bool) := ((next (.stop first) (ask 0x71 [] u)).link 2).tallyOrder.map TallyOrder.word
    word true = some ⟨.off, false⟩ ∧ word false = some ⟨.off, true⟩ := by decide +kernel

/-- R99, R197: RESTART returns link 2 to IDLE with its configuration. -/
theorem test_restart :
    let t := next .restart (ask 0x72 [] live)
    (t.link 2).state = .idle ∧ (t.link 2).cfg = (part.link 2).cfg ∧ t.mode = .standby := by decide +kernel

/-! ## Witnesses: states and operands that meet the hypotheses of the statements

Each is named after its statement. Where a statement has clauses over one input, the witness meets each at a boundary of its range. -/

/-- A request of a kind, with a payload, is the one to be taken. -/
abbrev Asked (kind : Nat) (payload : List Nat) (s : State) : Prop := Takes kind (frame kind payload) (ask kind payload s)

/-- The part in RUN after link 7 is unparked: an order outstanding, carriers held, notices queued. -/
def busy : State := next .linkUnpark (ask 0x24 [7] { live with pending := [.identify] })

/-- The part in RUN after key 1 of station 1 was pressed: one LIVE route, its make outstanding. -/
def talking : State := next .keyEvent (ask 0x42 [1, 1, 0] live)

theorem witness_StepTakesFront :
    { part with pending := [.identify] }.pending = .identify :: [] ∧ part.pending = [] := by decide +kernel

theorem witness_BoundaryStepsComeFirst : settles .tbStatus = true ∧ settles (.edge 1 true) = true := by decide

theorem witness_CounterAdvancesByOne : ∃ t, step { part with pending := [.internalTimerDue true] } = .next t := ⟨_, rfl⟩

/-- A step of the busy part answers a next state, and so does one of the part with a route. -/
theorem witness_steps_complete :
    ([busy, talking].all fun s => match step s with | .next _ => true | _ => false) = true := by decide +kernel

theorem witness_StepKeepsTables : busy.shaped ∧ busy.bounded := by decide +kernel
theorem witness_StepKeepsNoticesSingle : busy.noticesSingle ∧ 2 ≤ busy.nq.length := by decide +kernel
theorem witness_StepKeepsUnitsSound : busy.unitsSound ∧ (busy.unit 2).outstanding ≠ [] := by decide +kernel
theorem witness_StepKeepsTimebaseSound : busy.timebaseSound := by decide +kernel
theorem witness_StepKeepsLinksSound : busy.linksSound := by decide +kernel
theorem witness_StepKeepsRoutesSound : talking.routesSound ∧ talking.tk.routes ≠ [] := by decide +kernel
theorem witness_StepKeepsTalkSettled : talking.routesSound ∧ talking.routesMayTalk ∧ talking.talkSettled := by decide +kernel
/-- Of the routes to station 20, that of station 1 is LIVE, and that of station 6 waits. -/
theorem witness_StepKeepsTalkSettled_slots :
    summing.routesSound ∧ summing.tk.routes.map (fun r => (r.source, r.destination)) = [(1, 20), (2, 20), (3, 20), (4, 20), (5, 20), (6, 20)] ∧
      ∀ r ∈ summing.tk.routes, summing.mayRun r := by decide +kernel
theorem witness_StepKeepsTalkSettled_holders : talking.shaped ∧ talking.holdersCounted ∧ talking.talkers 1 3 = 1 := by decide +kernel

/-- Links 2 and 4 by the watchdog, link 4 by the host; link 1 is IDLE; link 49 is none of the part's. -/
theorem witness_SilenceMakesLost :
    let s := owing (.silence 4) (live.modLink 4 fun k => { k with silenceCounter := 0 })
    s.shaped ∧ (s.link 4).state.counted = true ∧ (s.link 4).cfg.band = 1 ∧ Due (.silence 4) s ∧ s.mode = .run ∧
      (s.link 4).silenceCounter = 0 ∧ Asked 0x25 [4] live ∧ readOne (frame 0x25 [4]).payload = some 4 ∧
      Asked 0x25 [1] live ∧ (live.link 1).state.counted = false ∧ Asked 0x25 [49] live ∧
      readOne (frame 0x25 [49]).payload = some 49 ∧ Asked 0x25 [] live ∧ readOne (frame 0x25 []).payload = none := by
  decide +kernel

/-- A retune of the plan's: link 4 is RETUNING with origin PLAN under an APPLYING plan. -/
theorem witness_SilenceMakesLost_plan :
    let s := owing (.silence 4) ((staged .applying [⟨4, some 548, none⟩]).modLink 4 fun k => { k with silenceCounter := 0 })
    s.shaped ∧ Due (.silence 4) s ∧ s.mode = .run ∧ (s.link 4).silenceCounter = 0 ∧ (s.link 4).state = .retuning ∧
      (s.link 4).origin = some .plan ∧ s.plan.state = .applying ∧ live.plan.state ≠ .applying := by decide +kernel

theorem witness_DeadlineMakesLost :
    let s := owing (.acquire 6) live
    let u := owing (.revert 5) live
    s.shaped ∧ s.mode = .run ∧ (s.link 6).deadline = some s.now ∧ Due (.acquire 6) s ∧ (s.link 6).state = .acquiring ∧
      (u.link 5).deadline = some u.now ∧ Due (.revert 5) u ∧ (u.link 5).state = .reverting ∧ u.plan.state ≠ .applying ∧
      (staged .applying [⟨5, some 650, none⟩]).plan.state = .applying ∧ (u.link 5).origin = some .plan := by decide +kernel

theorem witness_RetuneDeadlineReverts :
    let s := owing (.retune 4) live
    s.shaped ∧ s.mode = .run ∧ Due (.retune 4) s ∧ (s.link 4).state = .retuning ∧ (s.link 4).deadline = some s.now ∧
      (s.link 4).cfg.band = 1 ∧ (s.link 4).cfg.unit = 1 := by decide +kernel

theorem witness_VacateTakesEffect :
    let s := owing (.vacate 7) (staged .applying [⟨7, none, none⟩])
    s.shaped ∧ Due (.vacate 7) s ∧ s.plan.state = .applying ∧ s.plan.effective = some s.now ∧ (s.link 7).state = .parked ∧
      (∃ e ∈ s.plan.entries, e.link = 7 ∧ e.target = none ∧ e.outcome = none) ∧ (s.link 7).cfg.band = 1 := by decide +kernel

/-- The TUNE of link 4's retune and the MUTE of a release of link 1 are due. -/
theorem witness_OrdersExpire :
    let tune : Order := ⟨0, 1, .tune 4 483700 0, .rcRetune 4, 0, some 0⟩
    let mute : Order := ⟨1, 1, .mute 1 0, .lsRelease 1, 0, some 1⟩
    let s := owing (.orders 1) (live.modUnit 1 fun u => { u with outstanding := [tune, mute], nextNumber := 2 })
    s.shaped ∧ s.ftb.lead = 6 ∧ Due (.orders 1) s ∧ tune ∈ (s.unit 1).outstanding ∧ tune.deadline = s.now ∧
      (s.link 4).state = .retuning ∧ (s.link 4).moveOrder = some tune.id ∧ mute ∈ (s.unit 1).outstanding ∧
      mute.displaceable = false := by decide +kernel

/-- The MUTE of link 7's second park expires where the first one's re-issue is owed at the same boundary. -/
theorem witness_OrdersExpire_park :
    let mute : Order := ⟨1, 2, .mute 3 0, .lsPark 7, 0, some 0⟩
    let s := owing (.orders 2) (live.modUnit 2 fun u => { u with outstanding := [mute], nextNumber := 1 })
    s.shaped ∧ s.ftb.lead = 6 ∧ Due (.orders 2) s ∧ (s.link 7).state = .parked ∧ (s.link 7).muteReissue = [s.now] ∧
      mute ∈ (s.unit 2).outstanding ∧ mute.deadline = s.now := by decide +kernel

/-- The failures of a TALLY, a TALK_LAMP and a SCAN_ASSIGN of unit 3, all due. -/
theorem witness_OrdersExpire_retries :
    let tally : Order := ⟨7, 3, .tally 2 ⟨.program, false⟩, .tr 2, 3, some 0⟩
    let lamp : Order := ⟨8, 3, .talkLamp 2 (live.lampContents 2), .tkLamp 2, 3, some 1⟩
    let scan : Order := ⟨9, 3, .scanAssign 1 470000 400 7, .st 1, 3, none⟩
    let s := owing (.orders 3) ((((live.modFtb fun k => { k with counter := 3 }).modUnit 3
      fun u => { u with outstanding := [tally, lamp], waiting := [scan], nextNumber := 2 }).modLink 2
      fun k => { k with tallyOrder := some ⟨7, ⟨.program, false⟩, 0⟩ }).modStation 2
      fun x => { x with lampOrder := some (8, live.lampContents 2) })
    s.shaped ∧ s.ftb.lead = 6 ∧ Due (.orders 3) s ∧ tally ∈ (s.unit 3).outstanding ∧ lamp ∈ (s.unit 3).outstanding ∧
      scan ∈ (s.unit 3).waiting ∧ scan.deadline = s.now ∧ (s.link 2).tallyOrder = some ⟨7, ⟨.program, false⟩, 0⟩ ∧
      (s.station 2).lampOrder = some (lamp.id, live.lampContents 2) := by decide +kernel

/-- The make of a LIVE route, a break and a DIM, all due. -/
def failing : State :=
  owing (.orders 31) (((({ talking with nextOrderId := 22 } : State).modFtb fun k => { k with counter := 3 }).modUnit 31 fun u => { u with
    outstanding := u.outstanding ++ [⟨20, 31, .crosspoint false 5 6, .tkBreak 5 6, 3, some 1⟩, ⟨21, 31, .dim 4 0, .tkDim 4, 3, some 2⟩],
    nextNumber := 3 }).modTk fun k => { k with
      breaks := [⟨5, 6, some 20⟩], stations := k.stations.set 3 { (talking.station 4) with dimOrder := some 21 } })

theorem witness_OrdersExpire_matrix :
    failing.shaped ∧ failing.talkSettled ∧ failing.routesSound ∧ Due (.orders 31) failing ∧
      (failing.unit 31).outstanding.map (fun o => (o.id, o.issuer, o.deadline))
        = [(1, .tkMake 1 3, failing.now), (20, .tkBreak 5 6, failing.now), (21, .tkDim 4, failing.now)] := by decide +kernel

theorem witness_OrdersExpire_issuers :
    failing.tk.routes.map (fun r => (r.source, r.destination, r.live, r.makeOrder)) = [(1, 3, true, some 1)] ∧
      failing.tk.breaks = [⟨5, 6, some 20⟩] ∧ (failing.station 4).dimOrder = some 21 := by decide +kernel

/-- Unit 3 full, two of its MUTEs due, with a TALLY, a MUTE and a TALLY waiting. -/
def crowded : State :=
  let mute (i d : Nat) (n : Option Byte) : Order := ⟨i, 3, .mute 1 d, .lsRelease 1, d, n⟩
  let tally (i l : Nat) : Order := ⟨i, 3, .tally l ⟨.program, false⟩, .tr l, 5, none⟩
  owing (.orders 3) (({ live with nextOrderId := 61 } : State).modFtb (fun k => { k with counter := 3 }) |>.modUnit 3 fun u => { u with
    outstanding := (List.range 8).map fun i => mute (50 + i) (if i < 2 then 3 else 5) (some (BitVec.ofNat 8 i))
    waiting := [tally 58 1, mute 59 5 none, tally 60 2], nextNumber := 8 })

theorem witness_OrdersExpire_grants :
    crowded.shaped ∧ crowded.ftb.lead = 6 ∧ Due (.orders 3) crowded ∧ crowded.unitsSound ∧ crowded.talkSettled ∧
      ((crowded.unit 3).outstanding.filter fun o => decide (o.deadline = crowded.now)).map Order.id = [50, 51] ∧
      (∀ o ∈ (crowded.unit 3).orders, o.issuer = .lsRelease 1 ∨ o.issuer = .tr 1 ∨ o.issuer = .tr 2) ∧ (crowded.unit 3).waiting.map Order.isTally = [true, false, true] := by
  decide +kernel

/-- The two places go to the waiting MUTE and to the older TALLY, in that order (R128, R130). -/
theorem test_expiry_grants_places :
    let t := next (.orderExpiry 3) crowded
    (t.unit 3).outstanding.map Order.id = [52, 53, 54, 55, 56, 57, 59, 58] ∧ (t.unit 3).waiting.map Order.id = [60] ∧
      ((t.unit 3).outstanding.drop 6).map Order.number = [some 8, some 9] := by decide +kernel

theorem witness_RetryHoldsEnd :
    let s := owing (.tallyRetry 2) (live.modLink 2 fun k => { k with retryAt := some 0 })
    let u := owing (.lampRetry 2) (live.modStation 2 fun k => { k with lampRetry := some 0 })
    s.shaped ∧ s.talkSettled ∧ (s.link 2).cfg.unit = 1 ∧ Due (.tallyRetry 2) s ∧ (s.link 2).retryAt = some s.now ∧
      (s.link 2).cfg.kind = some .camera ∧ (s.link 2).delivered ≠ some (s.link 2).wanted ∧
      u.shaped ∧ u.talkSettled ∧ Due (.lampRetry 2) u ∧ (u.station 2).lampRetry = some u.now ∧
      (u.station 2).lampAcked ≠ some (u.lampContents 2) := by decide +kernel

theorem witness_RetryHoldsEnd_lamp :
    (live.station 2).kind = some .linked ∧ (live.station 2).link = some 2 ∧ (live.link 2).state = .locked ∧
      (live.station 2).lampOrder = none ∧ (live.link 2).cfg.unit = 1 := by decide

theorem witness_KeyDeadlinesCome :
    let k := { keyOn 3 (.station 3) .auto with state := .tapping, pressed := true, tapDeadline := some 0 }
    let s := owing (.tap 1 3) (setKey 1 3 (fun _ => k) live)
    let u := owing (.pulse 2) (live.modStation 2 fun x => { x with pulseEnd := some 0 })
    s.shaped ∧ s.talkSettled ∧ s.mode = .run ∧ Due (.tap 1 3) s ∧ (s.station 1).key 3 = some k ∧
      u.shaped ∧ u.mode = .run ∧ Due (.pulse 2) u ∧ (u.station 2).pulseEnd = some u.now := by decide +kernel

theorem witness_FailedOrdersIssuedAgain :
    let s := owing (.scan 1) (live.modBand 1 fun k => { k with
      scanReissue := [(0, ⟨3, 470000, 400, 7⟩), (0, ⟨24, 480000, 400, 7⟩), (1, ⟨3, 490000, 400, 7⟩)] })
    let u := owing (.mute 7) live
    s.shaped ∧ Due (.scan 1) s ∧ (s.now, ⟨3, 470000, 400, 7⟩) ∈ (s.band 1).scanReissue ∧ (s.band 1).p.scanUnit = some 3 ∧
      s.mode = .run ∧ (s.band 1).defined = true ∧
      u.shaped ∧ (u.link 7).cfg.unit = 2 ∧ Due (.mute 7) u ∧ u.now ∈ (u.link 7).muteReissue ∧
      (u.link 7).state = .parked := by decide +kernel

/-- Two MUTEs of link 7 are due again, and another a frame later; link 2 is LOCKED. -/
theorem witness_FailedOrdersIssuedAgain_mutes :
    let s := owing (.mute 7) (live.modLink 7 fun k => { k with muteReissue := [0, 1, 0] })
    let u := owing (.mute 2) (live.modLink 2 fun k => { k with muteReissue := [0] })
    s.shaped ∧ Due (.mute 7) s ∧ (s.link 7).state = .parked ∧ (s.link 7).muteReissue.count s.now = 2 ∧ (s.link 7).cfg.unit = 2 ∧
      u.shaped ∧ Due (.mute 2) u ∧ (u.link 2).state ≠ .parked ∧ (u.link 2).cfg.unit = 1 := by decide +kernel

theorem witness_FadeLimitWantsRescue :
    let s := owing (.fade 3) live
    s.shaped ∧ s.mode = .run ∧ Due (.fade 3) s ∧ (s.link 3).state = .fading ∧ (s.link 3).fadeTimer = (s.link 3).cfg.fadeLimit ∧
      (s.band 1).frozen = false ∧ (s.link 3).rescue = .none ∧ s.pe.queue = [] ∧ s.hasJob (JobKind.isPickOf 3) = false ∧
      ∀ k ∈ s.links, k.rescue ≠ .wanted := by
  decide +kernel

/-- The good window of rate code 3 is 19,900 to 20,100. -/
theorem witness_PulseBeforeLock :
    part.owed = [] ∧ part.ftb.refState = .absent ∧ Rate.r50.good 19900 = true ∧ Rate.r50.good 20100 = true ∧
      Rate.r50.good 19899 = false ∧ Rate.r50.good 20101 = false := by decide +kernel

theorem witness_PulseInLocked :
    let s := part.modFtb fun k => { k with refState := .locked, goodCount := 8, lastPulse := some 100 }
    s.owed = [] ∧ s.ftb.refState = .locked ∧ s.ftb.lastPulse.map (fun p => min (20100 - p) 1000000) = some 20000 ∧
      s.ftb.rate.good 20000 = true ∧ 20000 ≤ s.ftb.lastBoundary + s.ftb.goodPeriod := by decide +kernel

/-- An internal boundary at the changeover point of the locking pulse, and one past it; and a timer that does not run. -/
theorem witness_InternalTimerMakesBoundary :
    let s (due : Nat) := part.modFtb fun k =>
      { k with refState := .locked, goodCount := 8, lastPulse := some 1000, nextInternal := some due }
    (s 10900).owed = [] ∧ (s 10900).ftb.nextInternal = some 10900 ∧ 10900 ≤ 1000 + (20000 / 2 - 20000 / 200) ∧
      (s 10901).ftb.nextInternal = some 10901 ∧ 1000 + (20000 / 2 - 20000 / 200) < 10901 ∧
      (part.modFtb fun k => { k with nextInternal := none }).ftb.nextInternal = none := by decide +kernel

theorem witness_WatchdogExpires :
    let s := part.modFtb fun k => { k with refState := .locked, goodCount := 8, lastPulse := some 1000 }
    s.owed = [] ∧ s.ftb.lastPulse = some 1000 ∧ s.ftb.refState = .locked ∧ s.ftb.lastBoundary + s.ftb.goodPeriod ≤ 31000 ∧
      (s.modFtb fun k => { k with lastBoundary := 11001 }).ftb.lastBoundary + s.ftb.goodPeriod = 31001 := by decide +kernel

theorem witness_BoundaryInStandby : part.mode = .standby ∧ part.ftb.counter = 0 := by decide
theorem witness_BoundaryInRun : live.shaped ∧ live.mode = .run := by decide

theorem witness_LineSampleIsFiltered :
    live.shaped ∧ live.owed = [] ∧ (live.line 32).run + 1 < (live.line 32).filterK ∧ (live.line 33).filterK = 2 := by decide

/-- A full buffer with a place among the refusals; a length byte of 241; a frame whose CRC is 0000. -/
theorem witness_FramesAreReceived :
    let full := part.modMp fun m => { m with buffer := List.replicate 4 (frame 0x74 []) }
    part.owed = [] ∧ part.mp.rx = [] ∧ 4 ≤ full.mp.buffer.length ∧ full.mp.refusals.length < 4 ∧ full.mp.rx = [] ∧
      240 < (241 : Byte).toNat ∧ ([0, 0] : List Byte) ≠ u16 (crc16 [0, 0x74, 7]) ∧
      (0x5A : Byte) ∉ ([0, 0x74, 7] ++ [0, 0] : List Byte) := by decide +kernel

theorem witness_TransmitPathChooses : part.owed = [] := by decide

/-- A notice of a pushed class waits: with a reply after a reply, and alone. -/
theorem witness_TransmitPathChooses_pushed :
    let n : Notice := { cls := .device, obj := 0, causes := 1 }
    let s := { part with nq := [n], mp := { part.mp with pushMask := 64, lastSent := some .reply } }
    let u := s.modMp fun m => { m with reply := some (frame 0xF4 [0]) }
    s.owed = [] ∧ s.nq.find? (fun n => n.cls.within s.mp.pushMask) = some n ∧ s.mp.refusals = [] ∧ s.mp.reply = none ∧
      s.mp.fetched = [] ∧ u.mp.refusals = [] ∧ u.mp.reply = some (frame 0xF4 [0]) ∧ u.mp.lastSent = some .reply := by decide +kernel

/-- Kind 99 is in no catalogue; a BAND_READ with section code 4 and a START with one byte cannot be read. -/
theorem witness_UnreadableRequestsRefused :
    (ask 0x99 [] part).owed = [] ∧
      (ask 0x99 [] part).takes (fun k => !catalogue.contains k) = some (frame 0x99 []) ∧
      Asked 0x16 [1, 4] part ∧ readBandRead (frame 0x16 [1, 4]).payload = none ∧
      Asked 0x70 [0] part ∧ readNothing (frame 0x70 [0]).payload = none ∧
      part.takes (fun k => decide (k = 0x70)) = none := by decide +kernel

/-- Rate codes 5 and 6, and leads of 1 and 51. -/
theorem witness_TimebaseConfigured :
    Asked 0x01 [6, 1] part ∧ (frame 0x01 [6, 1]).payload = [6, 1] ∧ 5 < (6 : Byte).toNat ∧ Asked 0x01 [5, 51] live ∧
      Rate.r60.code = 5 ∧ live.mode = .run ∧ Rate.r60 ≠ live.ftb.rate ∧ Asked 0x01 [3, 51] live ∧ Rate.r50 = live.ftb.rate := by
  decide +kernel

/-- A pulse 30,000 µs before the request is within the limit of rate code 3. -/
theorem witness_RateChanges :
    let s := part.modFtb fun k => { k with lastArrival := some 1000 }
    Asked 0x01 [5, 6] s ∧ Rate.r60.code = 5 ∧ s.mode = .standby ∧ Rate.r60 ≠ s.ftb.rate ∧
      s.ftb.lastArrival = some 1000 ∧ 31000 ≤ 1000 + 3 * s.ftb.rate.nominal / 2 := by decide +kernel

/-- Masks of classes 1 to 7, and one with bit 7; fetches of 0 and of 9. -/
theorem witness_NoticesEnabledAndFetched :
    Asked 0x75 [127, 127] part ∧ (127 : Byte).toNat < 128 ∧ Asked 0x75 [128, 0] part ∧ 128 ≤ (128 : Byte).toNat ∧
      Asked 0x76 [0] part ∧ Asked 0x76 [9] part ∧ (frame 0x76 [9]).payload = [9] := by decide +kernel

/-- Bands 1 and 4 are defined or guarded, 5 is none of the part's; a held carrier and RUN refuse. -/
theorem witness_BandSettingsTaken :
    let p := [4, 7, 0x2B, 0xF0, 4, 0, 6, 4, 2, 0, 2, 4, 0, 0, 0, 99, 16, 60, 20, 4]
    let g := [1, 9, 4, 2, 0]
    bare.shaped ∧ Asked 0x10 p bare ∧ (readBandDefine (frame 0x10 p).payload).map Prod.fst = some 4 ∧
      (readBandDefine (frame 0x10 p).payload).all (fun a => a.2.valid bare 4) = true ∧ bare.mode = .standby ∧
      bare.carrierSet 4 = [] ∧ part.carrierSet 1 ≠ [] ∧ live.mode = .run ∧ Asked 0x11 g part ∧
      readGuards (frame 0x11 g).payload = some ⟨1, 9, 4, 2, 0⟩ ∧ (part.band 1).defined = true ∧
      (part.band 4).defined = false ∧ (part.band 1).p.gapCc < 9 := by decide +kernel

/-- 99,999 is below the least base_khz and 100,000 is it; scan_unit 3 is band 1's. -/
theorem witness_BandSettingsTaken_ranges :
    let p (base unit : Nat) := [4, 1, 0x86, base, 0, 1, 6, 4, 2, 0, 2, 16, 0, 0, 0, 0, 64, 60, 20, unit]
    let read (base unit : Nat) := (readBandDefine (frame 0x10 (p base unit)).payload).map fun a => (a.1, a.2.baseKhz, a.2.scanUnit)
    Asked 0x10 (p 0x9F 24) bare ∧ read 0x9F 24 = some (4, 99999, some 24) ∧ read 0xA0 24 = some (4, 100000, some 24) ∧
      read 0xA0 3 = some (4, 100000, some 3) ∧ (bare.band 1).defined = true ∧ (bare.band 1).p.scanUnit = some 3 := by
  decide +kernel

/-- A READY plan checked against band 1 as it stands, before new guards or a new range. -/
theorem witness_BandSettingsTaken_plan :
    let s := { part with plan := { part.plan with state := .ready, checked := some [(1, 0)] } }
    s.shaped ∧ Asked 0x11 [1, 9, 4, 2, 0] s ∧ (s.band 1).defined = true ∧ (s.band 1).frozen = false ∧ s.plan.state = .ready ∧
      s.plan.checked = some [(1, (s.band 1).carrierGen)] ∧ Asked 0x12 [1, 0, 1, 0, 2] s ∧
      readRange (frame 0x12 [1, 0, 1, 0, 2]).payload = some (1, ⟨1, 2⟩) := by decide +kernel

/-- The range 0..1023 fits band 1 and 0..1024 does not; a list of 32 is full. -/
theorem witness_ExclusionsRequested :
    let s := bare.modBand 1 fun k => { k with exclusions := (List.range 32).map fun i => ⟨3 * i, 3 * i⟩ }
    s.shaped ∧ Asked 0x12 [1, 3, 255, 3, 255] s ∧ readRange (frame 0x12 [1, 3, 255, 3, 255]).payload = some (1, ⟨1023, 1023⟩) ∧
      (s.band 1).defined = true ∧ (s.band 1).frozen = false ∧ 1023 < (s.band 1).p.steps ∧
      32 < (exclInsert ⟨1023, 1023⟩ (s.band 1).exclusions).length ∧
      (exclInsert ⟨94, 1023⟩ (s.band 1).exclusions).length ≤ 32 ∧ Asked 0x13 [1, 0, 0, 4, 0] s ∧
      readRange (frame 0x13 [1, 0, 0, 4, 0]).payload = some (1, ⟨0, 1024⟩) ∧ (s.band 1).p.steps ≤ 1024 := by decide +kernel

theorem witness_ExclusionListsChange :
    let xs : List StepRange := [⟨100, 120⟩, ⟨200, 240⟩]
    (∀ x ∈ xs, x.lo ≤ x.hi) ∧ xs.Pairwise (fun a b => a.hi + 2 ≤ b.lo) ∧ (121 : Nat) ≤ 150 := by decide

theorem witness_BandsFreezeAndThaw :
    let s := part.modBand 1 fun k => { k with frozen := true }
    s.shaped ∧ Asked 0x14 [1] part ∧ readOne (frame 0x14 [1]).payload = some 1 ∧ (part.band 1).defined = true ∧
      Asked 0x15 [1] s ∧ (s.band 1).frozen = true ∧ (s.link 3).state = .fading ∧
      (s.link 3).fadeTimer = (s.link 3).cfg.fadeLimit ∧ Asked 0x14 [4] part ∧ (part.band 4).defined = false ∧
      Asked 0x14 [5] part := by decide +kernel

/-- Each read at the last number of its objects, and the first past it. -/
theorem witness_ReadsAnswer :
    Asked 0x02 [] part ∧ Asked 0x73 [] part ∧ Asked 0x74 [] part ∧ Asked 0x16 [4, 3] part ∧
      readBandRead (frame 0x16 [4, 3]).payload = some (4, .spares) ∧ Asked 0x17 [1, 6] part ∧
      readTwo (frame 0x17 [1, 6]).payload = some (1, 6) ∧ Asked 0x26 [48] part ∧ Asked 0x26 [49] part ∧ Asked 0x2D [] part ∧
      Asked 0x39 [16] part ∧ Asked 0x39 [17] part ∧ Asked 0x43 [3, 0] part ∧ (part.talkSection 0 3).isSome = true ∧
      Asked 0x43 [4, 0] part := by decide +kernel

/-- Step 1023 of link 48 in band 1, and step 1024; a full queue; a sweep that runs. -/
theorem witness_ChecksAndSweepsJoin :
    let s := working (.spareSweep 1) part
    part.shaped ∧ Asked 0x18 [1, 3, 255, 2, 48] part ∧ readCandidate (frame 0x18 [1, 3, 255, 2, 48]).payload = some ⟨1, 1023, 2, 48⟩ ∧
      (part.band 1).p.steps = 1024 ∧ part.pe.queue.length < 8 ∧ Asked 0x19 [1] s ∧ s.hasJob (JobKind.isSweepOf 1) = true ∧
      (s.pe.queue.any fun j => j.kind.isSweepOf 1 && j.snap.isSome) = true ∧ s.pe.engine = .running ∧
      Asked 0x19 [1] part ∧ part.hasJob (JobKind.isSweepOf 1) = false := by decide +kernel

/-- Link 9 is defined, link 1 made VACANT, and link 49 refused. -/
theorem witness_LinkDefined :
    let give (l kind : Nat) := [l, kind, 1, 2, 9, 1, 0, 40, 52, 160, 96, 3, 10, 12, 0, 50, 25, 0, 20]
    part.shaped ∧ Asked 0x20 (give 9 1) part ∧ (readLinkDefine (frame 0x20 (give 9 1)).payload).map Prod.fst = some 9 ∧
      (part.link 9).state = .vacant ∧ (part.band 1).defined = true ∧ Asked 0x20 (give 1 4) part ∧
      (readLinkDefine (frame 0x20 (give 1 4)).payload).map (fun a => a.2.kind) = some none ∧ (part.link 1).carriers 1 = [] ∧
      Asked 0x20 (give 49 1) part ∧ (readLinkDefine (frame 0x20 (give 49 1)).payload).map Prod.fst = some 49 := by decide +kernel

/-- A check of link 1 is queued, and a definition of link 1 with half-width 3 moves it. -/
theorem witness_LinkDefined_moved :
    let s := live.modPe fun e => { e with queue := [⟨.assignCheck 1 300 false, none, false⟩] }
    let p := [1, 0, 1, 3, 1, 1, 0, 40, 52, 160, 96, 3, 10, 12, 0, 50, 25, 0, 20]
    s.shaped ∧ Asked 0x20 p s ∧ (readLinkDefine (frame 0x20 p).payload).map (fun a => (a.1, a.2.hw)) = some (1, 3) ∧
      (s.link 1).cfg.hw = 2 ∧ (s.link 1).state = .idle ∧ (s.link 1).carriers 1 = [] ∧ s.linkConflict 1 (s.link 1).cfg = false := by
  decide +kernel

/-- A READY plan has an entry for link 1, and the definition above moves the link. -/
theorem witness_LinkDefined_plan :
    let s := staged .ready [⟨1, some 300, none⟩]
    let p := [1, 0, 1, 3, 1, 1, 0, 40, 52, 160, 96, 3, 10, 12, 0, 50, 25, 0, 20]
    s.shaped ∧ Asked 0x20 p s ∧ (readLinkDefine (frame 0x20 p).payload).map (fun a => (a.1, a.2.hw)) = some (1, 3) ∧
      s.plan.state = .ready ∧ (∃ e ∈ s.plan.entries, e.link = 1) ∧ (s.link 1).cfg.hw = 2 ∧ (s.link 1).carriers 1 = [] := by
  decide +kernel

theorem witness_LinkAssignAdmitted :
    live.shaped ∧ Asked 0x21 [1, 3, 255, 1] live ∧ readAssign (frame 0x21 [1, 3, 255, 1]).payload = some ⟨1, 1023, true⟩ ∧
      live.mode = .run ∧ (live.link 1).state = .idle ∧ (live.band 1).frozen = false ∧ (live.band 1).p.steps = 1024 ∧
      live.pe.queue = [] ∧ readAssign (frame 0x21 [1, 4, 0, 1]).payload = some ⟨1, 1024, true⟩ := by decide +kernel

theorem witness_LinksReleasedAndParked :
    live.shaped ∧ live.unitsSound ∧ Asked 0x22 [2] live ∧ Asked 0x23 [8] live ∧ Asked 0x24 [7] live ∧
      readOne (frame 0x24 [7]).payload = some 7 ∧ (live.link 2).state = .locked ∧ (live.link 8).state = .lost ∧
      (live.link 7).state = .parked ∧ (live.link 2).cfg.unit = 1 ∧ (live.link 2).cfg.band = 1 ∧ (live.link 4).state = .retuning ∧
      readOne (frame 0x22 [0]).payload = some 0 := by decide +kernel

theorem witness_PlanIsStaged :
    let s := staged .opened [⟨2, some 410, none⟩]
    s.shaped ∧ Asked 0x28 [] part ∧ part.plan.state = .idle ∧ Asked 0x29 [2, 0] s ∧
      readPlanEntry (frame 0x29 [2, 0]).payload = some (2, none) ∧ Asked 0x29 [1, 1, 3, 255] s ∧
      readPlanEntry (frame 0x29 [1, 1, 3, 255]).payload = some (1, some 1023) ∧ Asked 0x2A [] s ∧ Asked 0x2C [] s ∧
      s.plan.state = .opened ∧ s.hasJob JobKind.isPlanCheck = false := by decide +kernel

/-- Entries for links LOCKED, FADING, PARKED and IDLE; frames at 3000 and 3001. -/
theorem witness_PlanIsLaunched :
    let s := staged .ready [⟨1, some 300, none⟩, ⟨2, some 410, none⟩, ⟨3, none, none⟩, ⟨7, some 720, none⟩]
    s.shaped ∧ s.unitsSound ∧ Asked 0x2B [1, 0, 0, 11, 184] s ∧
      readLaunch (frame 0x2B [1, 0, 0, 11, 184]).payload = some (some 3000) ∧ s.ftb.lead ≤ 50 ∧
      (s.plan.entries.map PlanEntry.link).Nodup ∧ (∀ x ∈ s.plan.entries, x.outcome = none ∧ 1 ≤ x.link ∧ x.link ≤ 48 ∧
        (s.link x.link).state ≠ .vacant ∧ 1 ≤ (s.link x.link).cfg.unit ∧ (s.link x.link).cfg.unit ≤ 24) ∧
      s.mode = .run ∧ s.plan.state = .ready ∧ ¬ (3000 < ((3000 : FrameNo) - s.now).toInt) ∧
      3000 < ((3001 : FrameNo) - s.now).toInt ∧ (s.unit 1).waiting.length + 4 ≤ 32 := by decide +kernel

theorem witness_TallySettingsTaken :
    part.shaped ∧ Asked 0x30 [0x80, 0, 0, 1, 9, 1] part ∧
      readInputConfig (frame 0x30 [0x80, 0, 0, 1, 9, 1]).payload = some ⟨0x80000001, 9, true⟩ ∧
      Asked 0x32 [0, 0, 0, 1, 0, 0, 0, 1] part ∧ readVirtual (frame 0x32 [0, 0, 0, 1, 0, 0, 0, 1]).payload = some (1, 1) ∧
      Asked 0x31 [64, 0] part ∧ readMapSet (frame 0x31 [64, 0]).payload = some (64, none) ∧
      Asked 0x31 [1, 1, 1, 32, 0, 4, 1, 48, 1, 16] part ∧
      readMapSet (frame 0x31 [1, 1, 1, 32, 0, 4, 1, 48, 1, 16]).payload = some (1, some ⟨.virt 32, true, some 4, [48], [16]⟩) ∧
      Asked 0x33 [2, 0, 0, 0, 0, 64] part ∧ readTallyRead (frame 0x33 [2, 0, 0, 0, 0, 64]).payload = some (.map 64, 0) ∧
      Asked 0x34 [4, 1] part ∧ readInterlock (frame 0x34 [4, 1]).payload = some (4, false) ∧
      readInterlock (frame 0x34 [5, 1]).payload = some (5, false) := by decide +kernel

theorem witness_LampsConfiguredAndDriven :
    let c := [16, 2, 4, 0, 1, 2, 3, 4, 16, 0, 0, 0, 0, 0, 0, 0, 0, 0, 1, 14]
    part.shaped ∧ part.owed = [] ∧ Asked 0x38 c part ∧
      (readLampConfigure (frame 0x38 c).payload).map (fun a => (a.1, a.2.source, a.2.periodSelect)) = some (16, .zone 4, 14) := by
  decide +kernel

theorem witness_StationsAndGroupsDefined :
    let x := [24, 0, 0, 4, 7, 0, 12, 50, 1, 8, 1, 8, 3]
    part.shaped ∧ Asked 0x41 [8, 2, 1, 24] part ∧ readGroupDefine (frame 0x41 [8, 2, 1, 24]).payload = some (8, [1, 24]) ∧
      readGroupDefine (frame 0x41 [9, 0]).payload = some (9, []) ∧ part.mode = .standby ∧ Asked 0x40 x part ∧
      (readStationDefine (frame 0x40 x).payload).map (fun a => (a.1, a.2.kind, a.2.keys.map Key.number))
        = some (24, some .panel, [8]) ∧
      (readStationDefine (frame 0x40 [5, 1, 2, 0, 0, 0, 12, 50, 0]).payload).map (fun a => a.2.link) = some (part.station 2).link :=
  by decide +kernel

/-- A press of key 1 (which starts talking), of key 4 (which calls), and on a station or key that is not there. -/
theorem witness_KeyEventsTaken :
    live.shaped ∧ live.routesSound ∧ Asked 0x42 [1, 1, 0] live ∧ readKeyPress (frame 0x42 [1, 1, 0]).payload = some ⟨1, 1, true⟩ ∧
      live.mode = .run ∧ (live.station 1).kind = some .panel ∧ (live.station 1).key 1 = some (keyOn 1 (.station 3) .momentary) ∧
      (live.station 1).key 4 = some (keyOn 4 (.station 3) .call) ∧ (live.station 1).key 8 = none ∧
      (live.station 2).kind ≠ some .panel ∧ readKeyPress (frame 0x42 [25, 8, 1]).payload = some ⟨25, 8, false⟩ ∧
      part.mode = .standby := by decide +kernel

theorem witness_StartEntersRun :
    part.shaped ∧ Asked 0x70 [] part ∧ part.mode = .standby ∧ (part.band 1).defined = true ∧ (part.band 1).p.scanUnit = some 3 ∧
      Asked 0x70 [] live ∧ live.mode = .run := by decide +kernel

/-- A part in RUN with no move in flight, a query that runs and a LIVE route; and the part with link 4 RETUNING. -/
theorem witness_StopEntersStandby :
    let s := working (.query 1 5 300 2 0) ((talking.modLink 4 fun _ => Link.vacant).modLink 5 fun _ => Link.vacant)
    let t := { s with mp := (ask 0x71 [] live).mp }
    t.shaped ∧ Takes 0x71 (frame 0x71 []) t ∧ t.mode = .run ∧ t.plan.state ≠ .applying ∧
      (∀ k ∈ t.links, k.state ≠ .retuning ∧ k.state ≠ .reverting) ∧ (∃ r ∈ t.tk.routes, r.live = true ∧ r.destination = 3) ∧
      (t.station 4).kind = some .ifb ∧ 0 < (t.station 4).dimDepth ∧ Asked 0x71 [] live ∧ (live.link 4).state = .retuning ∧
      Asked 0x71 [] part := by decide +kernel

/-- Link 2, a camera in service without a tally order, was delivered nothing. -/
theorem witness_StopEntersStandby_off :
    let s := (talking.modLink 4 fun _ => Link.vacant).modLink 5 fun _ => Link.vacant
    (s.link 2).cfg.kind = some .camera ∧ (s.link 2).state = .locked ∧ (s.link 2).tallyOrder = none ∧
      (s.link 2).retryAt = none ∧ (s.link 2).delivered ≠ some ⟨.off, false⟩ := by decide +kernel

/-- Station 2, LINKED, rides link 2 without a lamp order; its contents were never acknowledged. -/
theorem witness_StopEntersStandby_lamps :
    let s := (talking.modLink 4 fun _ => Link.vacant).modLink 5 fun _ => Link.vacant
    (s.station 2).kind = some .linked ∧ (s.station 2).link = some 2 ∧ (s.link 2).state = .locked ∧ (s.station 2).lampOrder = none ∧
      (s.station 2).lampRetry = none ∧ (s.station 2).lampAcked ≠ some ⟨List.replicate 8 .off, none⟩ ∧ (s.link 2).cfg.unit = 1 ∧
      ((s.modStation 2 fun k => { k with lampAcked := some ⟨List.replicate 8 .off, none⟩ }).station 2).lampOrder = none := by
  decide +kernel

theorem witness_ResetsTakeTheirValues : live.shaped ∧ Asked 0x72 [] live := by decide +kernel

/-- A TALLY order of link 2 is acknowledged, with a CROSSPOINT's number set aside; and key 1 of station 2 is pressed. -/
theorem witness_ReportsTaken :
    let s := deliveryTest 2 live
    let ack := packet 1 0x20 [0, 0, 1, 0]
    let key := packet 1 0x20 [0, 1, 2, 0x81, 0]
    readReport [] = none ∧ part.mode = .standby ∧ s.shaped ∧ s.unitsSound ∧ s.talkSettled ∧ readReport ack = some ⟨1, [], [], [0]⟩ ∧
      ((s.unit 1).outstanding.map Order.number) = [some 0] ∧ ((s.unit 1).outstanding.map Order.issuer) = [.tr 2] ∧
      live.talkSettled ∧ readReport key = some ⟨1, [], [⟨2, 1, true⟩], []⟩ ∧ live.linkAt 1 2 = some 2 ∧
      (live.link 2).cfg.station = some 2 ∧ (live.station 2).key 1 = some (keyOn 1 (.station 3) .momentary) ∧
      (live.station 2).kind = some .linked := by decide +kernel

/-- The oldest waiting MUTE is granted the place of the order acknowledged. -/
theorem witness_ReportsTaken_grant :
    let mute : Order := ⟨30, 1, .mute 3 6, .lsRelease 3, 6, none⟩
    let s := (deliveryTest 2 live).modUnit 1 fun u => { u with waiting := [mute] }
    s.shaped ∧ s.talkSettled ∧ (s.unit 1).waiting.find? (fun x => !x.isTally) = some mute ∧ mute.displaceable = false ∧
      ((s.unit 1).outstanding.map Order.number) = [some 0] ∧ (s.unit 1).nextNumber = 1 := by decide +kernel

/-- Number 0 is acknowledged beside a sample of link 2 and a key event; and each of those alone, with the part at rest. -/
theorem witness_ReportsTaken_whole :
    let sample := [2, 70, 20, 1, 7, 91, 0, 80]
    let all := packet 1 0x20 ([1] ++ sample ++ [1, 2, 0x81, 1, 0])
    (readReport all).isSome = true ∧ (readReport all).map (fun r => { r with samples := [], keys := [] })
        = readReport (packet 1 0x20 [0, 0, 1, 0]) ∧ live.mode = .run ∧ live.owed = [] ∧
      (readReport (packet 1 0x20 ([1] ++ sample ++ [0, 0]))).map (fun r => (r.samples.length, r.keys, r.acks)) = some (1, [], []) ∧
      readReport (packet 1 0x20 [0, 1, 2, 0x81, 0]) = some ⟨1, [], [⟨2, 1, true⟩], []⟩ := by decide +kernel

theorem witness_ReportsTaken_rest : finish busy busy = busy ∧ busy.mode = .run := by decide +kernel

/-- Key 1 of station 2 is not pressed, its link is LOCKED, and no lamp order is out. -/
theorem witness_ReportsTaken_lamps :
    (live.station 2).link = some 2 ∧ (live.link 2).state = .locked ∧ (live.station 2).lampOrder = none ∧
      (live.station 2).lampRetry = none ∧ (keyOn 1 (.station 3) .momentary).pressed ≠ true ∧
      (∀ o ∈ keySteps 2 1, o ∉ live.owed) := by decide +kernel

/-- A sample for each of the links 2, 4 and 8, and one for a channel that no link has. -/
theorem witness_SamplesMoveLinks :
    let from_ (u c : Nat) := packet u 0x20 [1, c, 70, 20, 1, 7, 100, 244, 80, 0, 0]
    live.shaped ∧ live.talkSettled ∧ live.mode = .run ∧ (readReport (from_ 1 4)).map (fun r => (r.acks, r.keys, r.samples)) =
        some ([], [], [⟨4, 70, 20, true, 484596, 80⟩]) ∧ live.linkAt 1 4 = some 4 ∧ live.linkAt 1 2 = some 2 ∧
      live.linkAt 2 4 = some 8 ∧ live.linkAt 3 1 = none ∧ (∀ o ∈ sampleSteps 4, o ∉ live.owed) ∧ (live.link 4).cfg.band = 1 := by decide +kernel

theorem witness_ScanLevelsApplied :
    let good := packet 3 0x21 [1, 0, 60, 12]
    bare.shaped ∧ bare.owed = [] ∧ readScanData good = some ⟨1, 0, [60, 12]⟩ ∧ (bare.band 1).defined = true ∧
      readScanData (packet 3 0x21 [4, 0, 60]) = some ⟨4, 0, [60]⟩ ∧ (bare.band 4).defined = false ∧ readScanData [] = none := by
  decide +kernel

/-- The make of a LIVE route is acknowledged. -/
theorem witness_MatrixReportsTaken :
    talking.shaped ∧ talking.owed = [] ∧ talking.unitsSound ∧ talking.talkSettled ∧ talking.routesSound ∧
      readMatrixReport (packet 31 0x22 [1, 0]) = some [0] := by decide +kernel

theorem witness_MatrixReportsTaken_make :
    (talking.unit 31).outstanding.map (fun o => (o.number, o.issuer, o.id)) = [(some 0, .tkMake 1 3, 1)] ∧
      talking.tk.routes.map (fun r => (r.source, r.destination, r.live, r.makeOrder)) = [(1, 3, true, some 1)] := by decide +kernel

/-- A break is acknowledged whose pair holds that order alone. -/
theorem witness_MatrixReportsTaken_break :
    let s := { failing with owed := [] }
    s.shaped ∧ s.owed = [] ∧ s.unitsSound ∧ s.talkSettled ∧ s.routesSound ∧ readMatrixReport (packet 31 0x22 [1, 1]) = some [1] ∧
      (s.unit 31).outstanding.map (fun o => (o.number, o.issuer, o.id))
        = [(some 0, .tkMake 1 3, 1), (some 1, .tkBreak 5 6, 20), (some 2, .tkDim 4, 21)] ∧ s.tk.breaks = [⟨5, 6, some 20⟩] := by
  decide +kernel

/-- A failed make, a pair without a break and a failed DIM go out again on any report that reads. -/
theorem witness_MatrixReportsTaken_again :
    let s := talking.modTk fun k =>
      { k with routes := k.routes.map fun r => { r with make := some .failed }, breaks := [⟨5, 6, none⟩] }
    readMatrixReport [] = none ∧ readMatrixReport (packet 31 0x22 [0]) = some [] ∧ s.shaped ∧ s.owed = [] ∧
      (s.station 4).dimRetry = true ∧ 0 < (s.station 4).dimDepth := by decide +kernel

/-- The matrix with a FAILED make whose order its unit holds no more, a pair without a break, and a break and a DIM outstanding. -/
def undone : State :=
  ({ failing with owed := [] } : State).modTk fun k => { k with
    routes := k.routes.map fun r => { r with make := some .failed, makeOrder := some 9 }, breaks := ⟨6, 5, none⟩ :: k.breaks }

/-- A report that acknowledges the break and the DIM. -/
theorem witness_MatrixReportsTaken_acknowledging :
    readMatrixReport (packet 31 0x22 [2, 1, 2]) = some [1, 2] ∧ undone.shaped ∧ undone.owed = [] ∧
      (undone.unit 31).orders.map Order.id = [1, 20, 21] ∧ undone.tk.routes.length = 1 ∧
      (undone.tk.routes.all fun r => r.live && decide (r.source = 1) && decide (r.destination = 3) && decide (r.make = some .failed)
        && decide (r.makeOrder = some 9)) = true ∧
      undone.tk.breaks = [⟨6, 5, none⟩, ⟨5, 6, some 20⟩] ∧ (undone.station 4).dimRetry = true := by decide +kernel

/-- Step 300 passes for link 1, step 401 is refused beside link 2, and a changed counter makes the check stale. -/
theorem witness_AssignChecksComplete :
    let s (step : Nat) := working (.assignCheck 1 step false) live
    let q := live.snapshot (.assignCheck 1 300 false)
    (s 300).shaped ∧ (s 300).owed = [] ∧ (s 300).running = some (.assignCheck 1 300 false, q) ∧ (live.link 1).state = .idle ∧
      (live.link 1).cfg.band = q.linkBand ∧ (live.link 1).cfg.hw = q.linkHw ∧ (live.band q.one.band).carrierGen = q.one.carrierGen ∧
      0 ≤ (candidateCheck q.one true 300 q.linkHw 1).margin ∧ (candidateCheck q.one true 401 q.linkHw 1).margin < 0 ∧
      (live.link 1).cfg.unit = 1 ∧ ((carrierChange 1 (s 300)).band 1).carrierGen ≠ q.one.carrierGen := by decide +kernel

theorem witness_PlanQueryAndDrainComplete :
    let s := working .planCheck (staged .checking [⟨7, some 720, none⟩])
    let u := working (.query 1 5 300 2 0) part
    let d := { part with pe := { part.pe with engine := .draining, queue := [⟨.spareSweep 1, none, false⟩, ⟨.rescuePick 3 1, none, false⟩] } }
    s.shaped ∧ s.owed = [] ∧ s.running.map Prod.fst = some .planCheck ∧ s.plan.state = .checking ∧
      u.shaped ∧ u.owed = [] ∧ u.running.map Prod.fst = some (.query 1 5 300 2 0) ∧
      d.owed = [] ∧ d.pe.engine = .draining ∧ d.mode = .standby ∧ (∀ j ∈ d.pe.queue, j.snap = none) ∧
      (d.pe.queue.find? fun j => j.kind.isPick).or d.pe.queue.head? = some ⟨.rescuePick 3 1, none, false⟩ := by decide +kernel

/-- The part in RUN whose engine drains with link 3 wanted, and with nothing queued. -/
theorem witness_PlanQueryAndDrainComplete_run :
    let d := { live with pe := { live.pe with engine := .draining } }
    d.owed = [] ∧ d.pe.engine = .draining ∧ d.mode = .run ∧ (∀ j ∈ d.pe.queue, j.snap = none) ∧
      (next .drainComplete d).pe.engine = .idle ∧
      (next .drainComplete (d.modLink 3 fun k => { k with rescue := .wanted })).pe.engine = .running := by decide +kernel

/-- A sweep of band 1. -/
theorem witness_SweepAndPickComplete :
    let s := working (.spareSweep 1) bare
    s.shaped ∧ s.owed = [] ∧ (s.running.map fun r => r.2.one.band) = some 1 ∧ (s.band 1).defined = true := by decide +kernel

/-- Link 3 wants a pick over one spare. -/
def wants : State := (live.modLink 3 fun k => { k with rescue := .picking }).modBand 1 fun k => { k with spares := [⟨40, 232, 0⟩] }

/-- A pick for link 3, whose counters still stand. -/
theorem witness_SweepAndPickComplete_pick :
    let u := working (.rescuePick 3 1) wants
    let q := wants.snapshot (.rescuePick 3 1)
    u.shaped ∧ u.owed = [] ∧ u.unitsSound ∧ u.running = some (.rescuePick 3 1, q) ∧ q.one.band = (u.link 3).cfg.band ∧
      (u.link 3).cfg.unit = 1 ∧ (u.link 3).state = .fading ∧ (u.link 3).rescue = .picking ∧
      (u.band 1).carrierGen = q.one.carrierGen := by decide +kernel

theorem witness_SweepAndPickComplete_stands :
    let u := working (.rescuePick 3 1) wants
    let q := wants.snapshot (.rescuePick 3 1)
    (u.band 1).spectrumGen = q.one.spectrumGen ∧ (u.band 1).frozen = false := by decide +kernel

theorem witness_WorstConstraintIsLeast :
    1 ≤ (part.bandSnap 1).p.spareStride ∧ (part.bandSnap 1).p.scanStart ≤ (part.bandSnap 1).p.scanEnd := by decide

/-- A band that holds the carriers of links 1 and 7. -/
def pair : BandSnap :=
  { band := 1, p := spectrum.p, held := [⟨300, 2, 1, .assigned⟩, ⟨400, 2, 7, .assigned⟩], exclusions := [], hot := [], bins := [],
    spares := [], carrierGen := 0, spectrumGen := 0 }

/-- Link 7 may move to step 310, its own carrier set aside, with 10 − 2 − 2 − 6 steps to spare (R40, R49). A carrier of no link on step
200 stands on the product 2 × 300 − 400 of both, unless the override forms none (R42, R50). -/
theorem witness_WorstConstraintIsLeast_candidate :
    (candidateCheck pair false 310 2 7).margin = 0 ∧ (candidateCheck pair true 310 2 7).margin = 0 ∧
      (candidateCheck pair false 200 2 0).kind = .im3Two ∧ (candidateCheck pair false 200 2 0).margin = -12 ∧
      (candidateCheck pair true 200 2 0).kind = .spacing ∧ (candidateCheck pair true 200 2 0).margin = 90 := by decide +kernel

/-- A plan that moves link 1 to step 405, while link 7 moves away from 400: the transitional spacing fails (R51, R52). -/
theorem witness_WorstConstraintIsLeast_plan :
    let w := planWorst [pair] [⟨1, some 405, 1, 2, true⟩, ⟨7, some 500, 1, 2, true⟩]
    w.kind = .spacing ∧ w.margin = -5 ∧ w.victim.map Point.step = some 400 := by decide +kernel

end Sys2Proof.Tests
end

/-! The requests CHECK_CANDIDATE and SPARE_SWEEP. A request that is taken gives one reply, which the transmit path keeps or sends; a
job that joins the queue then stands in it through the conversion of flags and the engine's choice. From these two, each request comes
by the checks it makes. -/

namespace Sys2Proof.Machine

section requests

/-! ## Requests and their replies (R189, R190) -/

variable {α : Type} {code : Nat} {f : HostFrame} {s s1 : State} {read : List Byte → Option α} {act : α → State → Answered}
  {rest : State → State → State} {a : α}

/-- A reply that waits still waits after the transmit path's choice, or it is the frame chosen (R189, choices 1 to 4). -/
theorem kick_keeps_reply {r : HostFrame} (h : s.mp.reply = some r) :
    (kick s).mp.buffer = s.mp.buffer ∧
      ((kick s).mp.reply = some r ∨ (kick s).mp.sending = some { what := .reply, frame := r }) := by
  unfold kick
  split
  case h_1 => exact ⟨rfl, .inl h⟩
  case h_2 => exact ⟨rfl, .inl h⟩
  case h_3 _ hr _ => simp [h] at hr
  case h_4 g _ _ hr =>
    obtain rfl : r = g := Option.some.inj (h.symm.trans hr)
    unfold sendReply
    split
    · exact ⟨rfl, .inl h⟩
    · exact ⟨rfl, .inr rfl⟩
  case h_5 _ hr _ => simp [h] at hr

/-- The engine does not touch the Message Port. -/
@[simp] theorem pump_mp (s : State) : (pump s).mp = s.mp := keeps_pump s .mp (by decide)

/-- The reply to the oldest request, once put, is made by the transmit path's choice. -/
theorem replies_of_kick {p : List Byte} (hmp : s1.mp = (dropHead s).mp) : Replies f p s (kick (putReply f p s1)) := by
  obtain ⟨hbuf, hreply⟩ := kick_keeps_reply (s := putReply f p s1) rfl
  exact ⟨hbuf.trans (congrArg Mp.buffer hmp), hreply⟩

/-- So it is where the engine goes on first. -/
theorem replies_of_after {p : List Byte} (hmp : s1.mp = (dropHead s).mp) : Replies f p s (after (putReply f p s1)) := by
  obtain ⟨hbuf, hreply⟩ := kick_keeps_reply (s := pump (putReply f p s1)) (by rw [pump_mp]; rfl)
  exact ⟨hbuf.trans (by rw [pump_mp]; exact congrArg Mp.buffer hmp), hreply⟩

@[simp] theorem dropHead_band (s : State) (b : Nat) : (dropHead s).band b = s.band b := rfl
@[simp] theorem dropHead_pe (s : State) : (dropHead s).pe = s.pe := rfl
@[simp] theorem dropHead_queueRoom (s : State) : (dropHead s).queueRoom = s.queueRoom := rfl
@[simp] theorem dropHead_hasJob (s : State) (p : JobKind → Bool) : (dropHead s).hasJob p = s.hasJob p := rfl

theorem keeps_dropHead (s : State) : KeepsBut [.mp] s (dropHead s) := keeps_modMp s _

theorem keeps_putReply (f : HostFrame) (p : List Byte) (s : State) : KeepsBut [.mp] s (putReply f p s) := keeps_modMp s _

/-- What a request does that is taken and whose payload is read. -/
theorem request_of_takes (ht : Takes code f s) (hr : read f.payload = some a) :
    request code read act rest s =
      let r := act a (dropHead s)
      let s1 := putReply f r.2 r.1
      .next (if carriedOut r.2 then rest s s1 else kick s1) := by
  simp [request, settleOwed_of_nil s ht.1, ht.2, answer, hr]

/-- A request that its owner refuses is refused (R190). -/
theorem request_refuses {r : Result} (ht : Takes code f s) (hr : read f.payload = some a)
    (hact : act a (dropHead s) = refuse r (dropHead s)) (hcode : carriedOut (u8 r.code) = false) :
    ∃ t, request code read act rest s = .next t ∧ Refuses r f s t := by
  refine ⟨kick (putReply f (u8 r.code) (dropHead s)), ?_, replies_of_kick rfl, ?_⟩
  · rw [request_of_takes ht hr, hact]
    simp [refuse, hcode]
  · exact (((keeps_dropHead s).mono (by decide)).trans ((keeps_putReply _ _ _).mono (by decide))).trans (keeps_kick _)

/-- A request that its owner accepts leaves the engine and the transmit path to go on from the state it gives. -/
theorem request_accepts {body : List Byte} (ht : Takes code f s) (hr : read f.payload = some a)
    (hact : act a (dropHead s) = acceptedWith body s1) :
    request code read act afterJob s = .next (after (putReply f (u8 1 ++ body) s1)) := by
  rw [request_of_takes ht hr, hact]
  rfl

/-- A change within the frame of the engine stays within it when the request's reply is made. -/
theorem keeps_after_reply {p : List Byte} (h : KeepsBut afterParts (dropHead s) s1) :
    KeepsBut afterParts s (after (putReply f p s1)) :=
  ((((keeps_dropHead s).mono (by decide)).trans h).trans ((keeps_putReply f p s1).mono (by decide))).trans (keeps_after _)

end requests

/-! ## The queue while the engine goes on (R54 to R57) -/

/-- What the jobs of the queue are about, in its order. -/
def State.jobKinds (s : State) : List JobKind := s.pe.queue.map Job.kind

theorem hasJob_iff (s : State) (p : JobKind → Bool) : s.hasJob p = true ↔ ∃ k ∈ s.jobKinds, p k = true := by
  simp [State.hasJob, State.jobKinds]

@[simp] theorem jobKinds_joinQueue (k : JobKind) (s : State) : (joinQueue k s).jobKinds = s.jobKinds ++ [k] := by
  simp [State.jobKinds, joinQueue]

theorem hasJob_joinQueue {p : JobKind → Bool} {k : JobKind} (h : p k = true) (s : State) : (joinQueue k s).hasJob p = true :=
  (hasJob_iff _ p).2 ⟨k, by simp, h⟩

/-- A job of the same kind in the place of another leaves the kinds. -/
theorem map_kind_replaceFirst {j j' : Job} (h : j'.kind = j.kind) (q : List Job) :
    (replaceFirst j j' q).map Job.kind = q.map Job.kind := by
  induction q with
  | nil => rfl
  | cons x xs ih =>
    by_cases hx : x = j
    · simp [replaceFirst, hx, h]
    · simp [replaceFirst, hx, ih]

/-- The engine has gone on from `s` to `t`: no job has left the queue and no query number was given; no sweep flag was set, and while a
job ran, it runs on and the flag of a band that has a sweep stands. -/
structure EngineGoesOn (s t : State) : Prop where
  jobs : s.jobKinds ⊆ t.jobKinds
  number : t.pe.queryNumber = s.pe.queryNumber
  running : s.pe.engine = .running → t.pe.engine = .running
  noFlag : ∀ b, (s.band b).sweepWanted = false → (t.band b).sweepWanted = false
  flag : s.pe.engine = .running → ∀ b, s.hasJob (JobKind.isSweepOf b) = true →
    (t.band b).sweepWanted = (s.band b).sweepWanted

namespace EngineGoesOn

variable {s t u : State}

theorem refl (s : State) : EngineGoesOn s s := ⟨fun _ h => h, rfl, id, fun _ => id, fun _ _ _ => rfl⟩

theorem hasJob (h : EngineGoesOn s t) {p : JobKind → Bool} (hp : s.hasJob p = true) : t.hasJob p = true := by
  obtain ⟨k, hk, hpk⟩ := (hasJob_iff s p).1 hp
  exact (hasJob_iff t p).2 ⟨k, h.jobs hk, hpk⟩

theorem trans (h : EngineGoesOn s t) (k : EngineGoesOn t u) : EngineGoesOn s u where
  jobs := fun _ hx => k.jobs (h.jobs hx)
  number := k.number.trans h.number
  running := fun hr => k.running (h.running hr)
  noFlag := fun b hb => k.noFlag b (h.noFlag b hb)
  flag := fun hr b hb => (k.flag (h.running hr) b (h.hasJob hb)).trans (h.flag hr b hb)

theorem foldl {α : Type} (f : State → α → State) (h : ∀ s x, EngineGoesOn s (f s x)) (xs : List α) (s : State) :
    EngineGoesOn s (xs.foldl f s) := by
  induction xs generalizing s with
  | nil => exact refl s
  | cons x xs ih => exact (h s x).trans (ih _)

end EngineGoesOn

/-- A band's flag after the flag of band `b` is cleared. -/
theorem sweepWanted_clear (s : State) (b c : Nat) :
    ((s.modBand b fun k => { k with sweepWanted := false }).band c).sweepWanted =
      if c = b then false else (s.band c).sweepWanted := by
  split
  case isTrue h =>
    subst h
    obtain _ | k := c
    · rfl
    · by_cases hk : k < s.bands.length
      · exact congrArg Band.sweepWanted (slot_modSlot_self Band.reset _ s.bands (Nat.succ_pos k) hk)
      · simp [State.band, State.modBand, slot, modSlot, hk, Band.reset]
  case isFalse h =>
    exact congrArg Band.sweepWanted (slot_modSlot_other Band.reset _ s.bands (Ne.symm h))

theorem goesOn_joinQueue (k : JobKind) (s : State) : EngineGoesOn s (joinQueue k s) :=
  ⟨by simp, rfl, id, fun _ => id, fun _ _ _ => rfl⟩

theorem goesOn_convertRescue (s : State) (l : Nat) : EngineGoesOn s (convertRescue s l) := by
  unfold convertRescue
  split
  · have h := goesOn_joinQueue (.rescuePick l 1) s
    exact ⟨h.jobs, h.number, h.running, h.noFlag, h.flag⟩
  · exact .refl s

/-- A band's flag is converted only where the band has no sweep (R57). -/
theorem goesOn_convertSweep (s : State) (b : Nat) : EngineGoesOn s (convertSweep s b) := by
  unfold convertSweep
  split
  case isFalse => exact .refl s
  case isTrue h =>
    obtain ⟨-, -, -, hnone⟩ := h
    have hjoin := goesOn_joinQueue (.spareSweep b) s
    refine ⟨hjoin.jobs, hjoin.number, hjoin.running, fun c hc => ?_, fun _ c hc => ?_⟩
    · rw [sweepWanted_clear]
      split
      · rfl
      · exact hc
    · have hcb : c ≠ b := by rintro rfl; simp [hnone] at hc
      rw [sweepWanted_clear, if_neg hcb]
      rfl

theorem goesOn_convert (s : State) : EngineGoesOn s (convert s) := by
  unfold convert
  split
  · exact (EngineGoesOn.foldl _ goesOn_convertRescue _ s).trans (.foldl _ goesOn_convertSweep _ _)
  · exact .refl s

@[simp] theorem jobKinds_startJob (j : Job) (s : State) : (startJob j s).jobKinds = s.jobKinds := by
  unfold startJob
  dsimp only
  split
  all_goals exact map_kind_replaceFirst (j := j) (j' := { j with snap := some (s.snapshot j.kind) }) rfl s.pe.queue

theorem queryNumber_startJob (j : Job) (s : State) : (startJob j s).pe.queryNumber = s.pe.queryNumber := by
  unfold startJob
  split <;> rfl

theorem sweepWanted_startJob (j : Job) {s : State} {c : Nat} (h : (s.band c).sweepWanted = false) :
    ((startJob j s).band c).sweepWanted = false := by
  unfold startJob
  dsimp only
  split
  · rw [sweepWanted_clear]
    split
    · rfl
    · exact h
  · exact h

/-- The engine chooses only when it is idle, so a running job keeps every flag (R55). -/
theorem goesOn_choose (s : State) : EngineGoesOn s (choose s) := by
  unfold choose
  split
  case h_1 j hidle _ =>
    have hnot : s.pe.engine ≠ .running := by simp [hidle]
    exact ⟨by simp, queryNumber_startJob j s, fun h => absurd h hnot, fun _ => sweepWanted_startJob j, fun h => absurd h hnot⟩
  case h_2 => exact .refl s

theorem goesOn_pump (s : State) : EngineGoesOn s (pump s) := (goesOn_convert s).trans (goesOn_choose _)

/-- A field of a record of a table is that of the table of that field. -/
theorem slot_map {α β : Type} (g : α → β) (d : α) (xs : List α) (n : Nat) : slot (g d) (xs.map g) n = g (slot d xs n) := by
  cases n with
  | zero => rfl
  | succ k => exact List.getD_map ..

/-- Two states with the same sweep flags have the same flag of each band. -/
theorem sweepWanted_of_same {s t : State} (h : Part.sweepFlags.same s t) (b : Nat) :
    (t.band b).sweepWanted = (s.band b).sweepWanted := by
  have hslot (u : State) : (u.band b).sweepWanted = slot false (u.bands.map Band.sweepWanted) b :=
    (slot_map Band.sweepWanted Band.reset u.bands b).symm
  rw [hslot, hslot, h]

/-- The transmit path's choice leaves the engine as it is. -/
theorem goesOn_kick (s : State) : EngineGoesOn s (kick s) := by
  have hpe : (kick s).pe = s.pe := keeps_kick s .pe (by decide)
  have hflag := sweepWanted_of_same (keeps_kick s .sweepFlags (by decide))
  exact ⟨by simp [State.jobKinds, hpe], by rw [hpe], by rw [hpe]; exact id, fun b h => (hflag b).trans h,
    fun _ b _ => hflag b⟩

theorem goesOn_after (s : State) : EngineGoesOn s (after s) := (goesOn_pump s).trans (goesOn_kick _)

/-- The engine goes on from the state a request gave, once its reply is put. -/
theorem goesOn_after_reply (f : HostFrame) (p : List Byte) (s : State) : EngineGoesOn s (after (putReply f p s)) := by
  have h := goesOn_after (putReply f p s)
  exact ⟨h.jobs, h.number, h.running, h.noFlag, h.flag⟩

/-! ## What the two requests answer (R63, R65) -/

theorem isBand_iff (b : Nat) : isBand b = true ↔ 1 ≤ b ∧ b ≤ 4 := by
  simp only [isBand, oneTo, Bool.and_eq_true, decide_eq_true_eq]
  rfl

theorem isBand_eq_false_iff (b : Nat) : isBand b = false ↔ b = 0 ∨ 4 < b := by
  rw [← Bool.not_eq_true, isBand_iff]
  omega

theorem queueRoom_iff (s : State) : s.queueRoom = true ↔ s.pe.queue.length < 8 := decide_eq_true_iff

theorem queueRoom_eq_false_iff (s : State) : s.queueRoom = false ↔ 8 ≤ s.pe.queue.length := by
  rw [← Bool.not_eq_true, queueRoom_iff, Nat.not_lt]

/-- A query joins the queue under the query number, which advances (R63). -/
def joinQuery (a : Candidate) (s : State) : State :=
  (joinQueue (.query a.band s.pe.queryNumber a.step a.hw a.link) s).modPe fun e => { e with queryNumber := e.queryNumber + 1 }

theorem keeps_joinQueue (k : JobKind) (s : State) : KeepsBut [.pe] s (joinQueue k s) := keeps_modPe s _

theorem keeps_joinQuery (a : Candidate) (s : State) : KeepsBut [.pe] s (joinQuery a s) :=
  (keeps_joinQueue _ s).trans (keeps_modPe _ _)

/-- While the band's sweep runs, its flag asks for another (R65). -/
def askAgain (b : Nat) (s : State) : State :=
  if s.sweepRuns b then s.modBand b fun k => { k with sweepWanted := true } else s

theorem keeps_askAgain (b : Nat) (s : State) : KeepsBut [.sweepFlags] s (askAgain b s) := .ite (keeps_sweepFlag _ _ _) (.refl _ _)

theorem askAgain_pe (b : Nat) (s : State) : (askAgain b s).pe = s.pe := keeps_askAgain b s .pe (by decide)
theorem askAgain_mp (b : Nat) (s : State) : (askAgain b s).mp = s.mp := keeps_askAgain b s .mp (by decide)

theorem sweepWanted_askAgain {s : State} {b : Nat} (hruns : s.sweepRuns b = true) (hb : 1 ≤ b) (hb' : b ≤ s.bands.length) :
    ((askAgain b s).band b).sweepWanted = true := by
  rw [askAgain, if_pos hruns]
  exact congrArg Band.sweepWanted (slot_modSlot_self Band.reset _ s.bands hb hb')

section answers

variable {s : State}

theorem checkCandidate_of_no_object {a : Candidate} (h : a.band = 0 ∨ 4 < a.band ∨ 48 < a.link) :
    checkCandidate a s = refuse .badArgument s := by
  have h' : isBand a.band = false ∨ Config.links < a.link := by
    rw [isBand_eq_false_iff, or_assoc]
    exact h
  rw [checkCandidate, if_pos h']

/-- CHECK_CANDIDATE for a band and a link that the part has. -/
theorem checkCandidate_of_object {a : Candidate} (hb : 1 ≤ a.band) (hb' : a.band ≤ 4) (hl : a.link ≤ 48) :
    checkCandidate a s =
      if (s.band a.band).defined = false then refuse .wrongState s
      else if (s.band a.band).p.steps ≤ a.step then refuse .badArgument s
      else if s.queueRoom = false then refuse .busy s
      else acceptedWith (u16 s.pe.queryNumber.toNat) (joinQuery a s) := by
  have h' : ¬ (isBand a.band = false ∨ Config.links < a.link) := by
    rw [isBand_eq_false_iff]
    change ¬ (_ ∨ 48 < a.link)
    omega
  rw [checkCandidate, if_neg h']
  rfl

theorem askSweep_of_no_band {b : Nat} (h : b = 0 ∨ 4 < b) : askSweep b s = refuse .badArgument s := by
  rw [askSweep, if_pos ((isBand_eq_false_iff b).2 h)]

/-- SPARE_SWEEP for a band that the part has. -/
theorem askSweep_of_band {b : Nat} (hb : 1 ≤ b) (hb' : b ≤ 4) :
    askSweep b s =
      if (s.band b).defined = false then refuse .wrongState s
      else if s.hasJob (JobKind.isSweepOf b) then acceptedWith [] (askAgain b s)
      else if s.queueRoom = false then refuse .busy s
      else acceptedWith [] ((joinQueue (.spareSweep b) s).modBand b fun k => { k with sweepWanted := false }) := by
  rw [askSweep, if_neg (by simp [(isBand_iff b).2 ⟨hb, hb'⟩])]
  rfl

end answers

section settled

variable {s : State} {f : HostFrame}

/-- A query that passes the checks of R63 joins the queue, and its number is answered. -/
theorem checkCandidate_joins {a : Candidate} (ht : Takes 0x18 f s) (hr : readCandidate f.payload = some a)
    (hact : checkCandidate a (dropHead s) = acceptedWith (u16 s.pe.queryNumber.toNat) (joinQuery a (dropHead s))) :
    Reaches .checkCandidate s fun t =>
      Replies f (u8 1 ++ u16 s.pe.queryNumber.toNat) s t ∧ t.pe.queryNumber = s.pe.queryNumber + 1 ∧
        (∃ j ∈ t.pe.queue, j.kind = .query a.band s.pe.queryNumber a.step a.hw a.link) ∧ KeepsBut afterParts s t := by
  have hgo := goesOn_after_reply f (u8 1 ++ u16 s.pe.queryNumber.toNat) (joinQuery a (dropHead s))
  have hjoined : JobKind.query a.band s.pe.queryNumber a.step a.hw a.link ∈ (joinQuery a (dropHead s)).jobKinds := by
    change _ ∈ (joinQueue (.query a.band s.pe.queryNumber a.step a.hw a.link) (dropHead s)).jobKinds
    simp
  exact ⟨_, request_accepts ht hr hact, replies_of_after rfl, hgo.number, List.mem_map.1 (hgo.jobs hjoined),
    keeps_after_reply ((keeps_joinQuery a _).mono (by decide))⟩

/-- A sweep joins the queue of a band that has none, and the band's flag falls (R65). -/
theorem spareSweep_joins {b : Nat} (ht : Takes 0x19 f s) (hr : readOne f.payload = some b)
    (hact : askSweep b (dropHead s) =
      acceptedWith [] ((joinQueue (.spareSweep b) (dropHead s)).modBand b fun k => { k with sweepWanted := false })) :
    Reaches .spareSweep s fun t =>
      Replies f (u8 1) s t ∧ t.hasJob (JobKind.isSweepOf b) = true ∧ (t.band b).sweepWanted = false ∧
        KeepsBut afterParts s t := by
  have hgo := goesOn_after_reply f (u8 1 ++ [])
    ((joinQueue (.spareSweep b) (dropHead s)).modBand b fun k => { k with sweepWanted := false })
  have hjob : (joinQueue (.spareSweep b) (dropHead s)).hasJob (JobKind.isSweepOf b) = true :=
    hasJob_joinQueue (by simp [JobKind.isSweepOf]) _
  have hflag := sweepWanted_clear (joinQueue (.spareSweep b) (dropHead s)) b b
  rw [if_pos rfl] at hflag
  exact ⟨_, request_accepts ht hr hact, replies_of_after rfl, hgo.hasJob hjob, hgo.noFlag b hflag,
    keeps_after_reply (((keeps_joinQueue _ _).mono (by decide)).trans ((keeps_sweepFlag _ _ _).mono (by decide)))⟩

/-- A band that has a sweep is asked for no second one; while its sweep runs, its flag asks for another (R65). -/
theorem spareSweep_answered {b : Nat} (hs : s.shaped) (hb : 1 ≤ b) (hb' : b ≤ 4) (hhas : s.hasJob (JobKind.isSweepOf b) = true)
    (ht : Takes 0x19 f s) (hr : readOne f.payload = some b)
    (hact : askSweep b (dropHead s) = acceptedWith [] (askAgain b (dropHead s))) :
    Reaches .spareSweep s fun t =>
      Replies f (u8 1) s t ∧ t.hasJob (JobKind.isSweepOf b) = true ∧
        (s.sweepRuns b = true → s.pe.engine = .running → (t.band b).sweepWanted = true) ∧ KeepsBut afterParts s t := by
  have hgo := goesOn_after_reply f (u8 1 ++ []) (askAgain b (dropHead s))
  have hpe : (askAgain b (dropHead s)).pe = s.pe := askAgain_pe b _
  have hjob : (askAgain b (dropHead s)).hasJob (JobKind.isSweepOf b) = true := by rw [State.hasJob, hpe]; exact hhas
  refine ⟨_, request_accepts ht hr hact, replies_of_after (askAgain_mp b _), hgo.hasJob hjob, fun hruns heng => ?_,
    keeps_after_reply ((keeps_askAgain b _).mono (by decide))⟩
  rw [hgo.flag (by rw [hpe, heng]) b hjob]
  exact sweepWanted_askAgain (s := dropHead s) hruns hb (hb'.trans_eq hs.1.symm)

end settled

/-- Settles O40: each request by its checks in turn, and then by what an accepted one leaves. -/
theorem checksAndSweepsJoin : Obligations.ChecksAndSweepsJoin := by
  intro s f hs
  refine ⟨fun a ht hr => ⟨fun hbad => ?_, fun hb hb' hl => ?_⟩,
    fun b ht hr => ⟨fun hbad => ?_, fun hb hb' hdef => ?_, fun hb hb' hdef => ?_⟩⟩
  · exact request_refuses ht hr (checkCandidate_of_no_object hbad) rfl
  · have hchecks := checkCandidate_of_object (s := dropHead s) hb hb' hl
    refine ⟨fun hdef => ?_, fun hdef hstep => ?_, fun hdef hstep hfull => ?_, fun hdef hstep hlen => ?_⟩
    · exact request_refuses ht hr (hchecks.trans (if_pos hdef)) rfl
    · exact request_refuses (r := .badArgument) ht hr (by simp [hchecks, hdef, hstep]) rfl
    · have hroom := (queueRoom_eq_false_iff s).2 hfull
      exact request_refuses (r := .busy) ht hr (by simp [hchecks, hdef, hstep, hroom]) rfl
    · have hroom := (queueRoom_iff s).2 hlen
      exact checkCandidate_joins ht hr (by simp [hchecks, hdef, hstep, hroom])
  · exact request_refuses ht hr (askSweep_of_no_band hbad) rfl
  · exact request_refuses ht hr ((askSweep_of_band hb hb').trans (if_pos hdef)) rfl
  · have hchecks := askSweep_of_band (s := dropHead s) hb hb'
    refine ⟨fun hnone hfull => ?_, fun hnone hlen => ?_, fun hhas => ?_⟩
    · have hroom := (queueRoom_eq_false_iff s).2 hfull
      exact request_refuses (r := .busy) ht hr (by simp [hchecks, hdef, hnone, hroom]) rfl
    · have hroom := (queueRoom_iff s).2 hlen
      exact spareSweep_joins ht hr (by simp [hchecks, hdef, hnone, hroom])
    · exact spareSweep_answered hs hb hb' hhas ht hr (by simp [hchecks, hdef, hhas])

end Sys2Proof.Machine

/-! The request LINK_ASSIGN. The first check of R85 that fails gives the code of the refusal; where none fails, a job joins the queue,
and it stands there through the engine's choice, as the jobs above do. -/

namespace Sys2Proof.Machine

/-! ## The answer of LINK_ASSIGN (R85) -/

theorem isLink_eq_false_iff (l : Nat) : isLink l = false ↔ l = 0 ∨ 48 < l := by
  simp only [isLink, oneTo, Bool.and_eq_false_iff, decide_eq_false_iff_not, Nat.not_le, Nat.lt_one_iff]
  rfl

/-- The code of the first check of R85 that fails, where one does. -/
def assignRefusal (a : Assign) (s : State) : Option Result :=
  let k := s.link a.link
  let band := s.band k.cfg.band
  if a.link = 0 ∨ 48 < a.link then some .badArgument
  else if s.mode = .standby then some .wrongMode
  else if k.state ≠ .idle then some .wrongState
  else if band.frozen = true then some .frozen
  else if band.p.steps ≤ a.step then some .badArgument
  else if s.hasJob (JobKind.isAssignOf a.link) = true then some .wrongState
  else if 8 ≤ s.pe.queue.length then some .busy
  else none

/-- The job that an accepted LINK_ASSIGN becomes. -/
abbrev Assign.job (a : Assign) : JobKind := .assignCheck a.link a.step a.override

/-- LINK_ASSIGN refuses by its checks, or its job joins the queue. -/
theorem assignLink_eq (a : Assign) (s : State) :
    assignLink a s =
      (assignRefusal a s).elim (acceptedWith [] (joinQueue a.job s)) (refuse · s) := by
  simp only [assignLink, assignRefusal, isLink_eq_false_iff, queueRoom_eq_false_iff]
  split_ifs <;> rfl

section assign

variable {s t : State} {f : HostFrame} {a : Assign}

/-- No check of R85 answers a code that stands for a request carried out. -/
theorem carriedOut_assignRefusal {r : Result} (h : assignRefusal a s = some r) : carriedOut (u8 r.code) = false := by
  simp only [assignRefusal, ne_eq, ite_not] at h
  repeat' split at h
  all_goals cases h <;> rfl

/-- Two states with the same link records have the same record of each link. -/
theorem linkCore_of_same (h : Part.links.same s t) (l : Nat) : (t.link l).core = (s.link l).core := by
  have hslot (u : State) : (u.link l).core = slot Link.vacant.core (u.links.map Link.core) l :=
    (slot_map Link.core Link.vacant u.links l).symm
  rw [hslot, hslot, h]

/-- A request that passes the checks of R85 joins the queue, and no link changes. -/
theorem linkAssign_joins (ht : Takes 0x21 f s) (hr : readAssign f.payload = some a)
    (hact : assignLink a (dropHead s) = acceptedWith [] (joinQueue a.job (dropHead s))) :
    Reaches .linkAssign s fun t =>
      Replies f (u8 1) s t ∧ (∃ j ∈ t.pe.queue, j.kind = a.job) ∧
        (t.link a.link).core = (s.link a.link).core ∧ KeepsBut afterParts s t := by
  have hgo := goesOn_after_reply f (u8 1 ++ []) (joinQueue a.job (dropHead s))
  have hjoined : a.job ∈ (joinQueue a.job (dropHead s)).jobKinds := by simp
  have hkeeps : KeepsBut afterParts s (after (putReply f (u8 1 ++ []) _)) :=
    keeps_after_reply ((keeps_joinQueue a.job (dropHead s)).mono (by decide))
  exact ⟨_, request_accepts ht hr hact, replies_of_after rfl, List.mem_map.1 (hgo.jobs hjoined),
    linkCore_of_same (hkeeps .links (by decide)) a.link, hkeeps⟩

end assign

/-- Settles O42: the verdict of the statement is the code of the first check that fails. -/
theorem linkAssignAdmitted : Obligations.LinkAssignAdmitted := by
  intro s f a _ ht hr k band waits verdict
  have hverdict : verdict = assignRefusal a (dropHead s) := rfl
  have hact := assignLink_eq a (dropHead s)
  rw [← hverdict] at hact
  refine ⟨fun r hsome => ?_, fun hnone => ?_⟩
  · rw [hsome] at hact
    exact request_refuses ht hr hact (carriedOut_assignRefusal (hverdict.symm.trans hsome))
  · rw [hnone] at hact
    exact linkAssign_joins ht hr hact

end Sys2Proof.Machine

/-! The requests PLAN_OPEN, PLAN_ENTRY, PLAN_CLOSE and PLAN_ABANDON. The staged plan and its notice stand through what follows a
request: the engine touches neither, and the transmit path keeps the notice or sends it. PLAN_ENTRY and PLAN_CLOSE refuse by the first
check that fails, as LINK_ASSIGN does above. -/

namespace Sys2Proof.Machine

/-! ## A raised notice is on its way (R191, R192) -/

section notices

variable {s : State} {c : Cause} {o : Nat}

/-- A notice of an object waits in the queue with a cause in its set. -/
def Waits (c : Cause) (o : Nat) (s : State) : Prop := ∃ n ∈ s.nq, n.isFor c.cls o = true ∧ c.within n.causes = true

theorem notified_of_waits (h : Waits c o s) : Notified c o s := by
  obtain ⟨n, hn, hfor, hin⟩ := h
  exact ⟨n, hfor, hin, .inl hn⟩

/-- The queue alone says which notices wait. -/
theorem Waits.of_same {t : State} (h : Waits c o s) (hnq : t.nq = s.nq) : Waits c o t := by
  obtain ⟨n, hn, hfor⟩ := h
  exact ⟨n, hnq ▸ hn, hfor⟩

theorem within_set (c : Cause) : c.within c.set = true := by cases c <;> decide

theorem within_or_set (c : Cause) (x : BitVec 16) : c.within (x ||| c.set) = true := by
  have h : c.set.getLsbD c.bit = true := within_set c
  simp [Cause.within, h]

/-- A raised cause joins the waiting notice of its class and object, or waits in a new one (R191). -/
theorem waits_raise (c : Cause) (o : Nat) (s : State) : Waits c o (raise c o s) := by
  unfold Waits
  rw [raise_nq, joinNotice]
  split
  case isTrue h =>
    obtain ⟨n, hn, hfor⟩ := List.any_eq_true.1 h
    exact ⟨{ n with causes := n.causes ||| c.set }, List.mem_map.2 ⟨n, hn, if_pos hfor⟩, hfor, within_or_set c _⟩
  case isFalse =>
    exact ⟨{ cls := c.cls, obj := o, causes := c.set }, by simp, by simp [Notice.isFor], within_set c⟩

/-- Where a notice is pushed, it is the one that waited, or that one still waits. -/
theorem notified_pushNotice (h : Waits c o s) (m : Notice) : Notified c o (pushNotice m s) := by
  obtain ⟨n, hn, hfor, hin⟩ := h
  by_cases hnm : n = m
  · subst hnm
    exact ⟨n, hfor, hin, .inr ⟨_, _, rfl⟩⟩
  · exact ⟨n, hfor, hin, .inl ((List.mem_eraseP_of_neg (by simpa using hnm)).2 hn)⟩

/-- The transmit path's choice takes no notice from the queue but the one it pushes (R189). -/
theorem notified_kick (h : Waits c o s) : Notified c o (kick s) := by
  unfold kick
  split
  case h_1 | h_2 | h_3 => exact notified_of_waits (h.of_same rfl)
  case h_4 =>
    unfold sendReply
    split
    · exact notified_pushNotice h _
    · exact notified_of_waits (h.of_same rfl)
  case h_5 =>
    unfold pushIfAny
    split
    · exact notified_pushNotice h _
    · exact notified_of_waits h

theorem notified_after_reply (f : HostFrame) (p : List Byte) (h : Waits c o s) : Notified c o (after (putReply f p s)) :=
  notified_kick ((h.of_same (t := putReply f p s) rfl).of_same (keeps_pump _ .notices (by decide)))

end notices

/-! ## The plan's state and what follows a request of the plan -/

@[simp] theorem setPlanState_plan (st : PlanState) (s : State) : (setPlanState st s).plan = { s.plan with state := st } := by
  unfold setPlanState
  split
  case isTrue h => rw [← h]
  case isFalse => rfl

/-- A change of the plan's state raises its notice (R119). -/
theorem waits_setPlanState {st : PlanState} {s : State} (h : s.plan.state ≠ st) : Waits .planState 0 (setPlanState st s) := by
  rw [setPlanState, if_neg h]
  exact waits_raise _ _ _

theorem emptyPlan_plan (st : PlanState) (s : State) : (emptyPlan st s).plan = ⟨st, [], none, none, none⟩ := by
  simp [emptyPlan, Plan.empty, Plan.reset]

theorem keeps_emptyPlan (st : PlanState) (s : State) : KeepsBut planParts s (emptyPlan st s) :=
  ((keeps_modPlan s _).mono (by decide)).trans (keeps_setPlanState st _)

/-- A request that its owner carries out leaves the engine and the transmit path to go on from the state it gives. -/
theorem request_oks {α : Type} {code : Nat} {f : HostFrame} {s s1 : State} {read : List Byte → Option α}
    {act : α → State → Answered} {a : α} {body : List Byte} (ht : Takes code f s) (hr : read f.payload = some a)
    (hact : act a (dropHead s) = okWith body s1) :
    request code read act afterJob s = .next (after (putReply f (u8 0 ++ body) s1)) := by
  rw [request_of_takes ht hr, hact]
  rfl

section staged

variable {s s1 : State} {f : HostFrame} {p : List Byte}

/-- The plan is the one that the request gave. -/
theorem plan_after_reply (f : HostFrame) (p : List Byte) (s : State) : (after (putReply f p s)).plan = s.plan :=
  keeps_after (putReply f p s) .plan (by decide)

/-- The frame of a request that changes the plan and what the engine may. -/
theorem keeps_staged_reply (h : KeepsBut (.plan :: afterParts) (dropHead s) s1) :
    KeepsBut (.plan :: afterParts) s (after (putReply f p s1)) :=
  (((keeps_dropHead s).mono (by decide)).trans h).trans
    (((keeps_putReply f p s1).mono (by decide)).trans ((keeps_after _).mono (by decide)))

/-- A request that empties the plan into another state (R109, R117). -/
theorem reaches_emptyPlan {c : Instr} {st : PlanState} (hst : s.plan.state ≠ st)
    (hexec : exec c s = .next (after (putReply f (u8 0) (emptyPlan st (dropHead s))))) :
    Reaches c s fun t =>
      Replies f (u8 0) s t ∧ t.plan = ⟨st, [], none, none, none⟩ ∧ Notified .planState 0 t ∧
        KeepsBut (.plan :: afterParts) s t := by
  have hkeeps := keeps_emptyPlan st (dropHead s)
  have hwaits : Waits .planState 0 (emptyPlan st (dropHead s)) := waits_setPlanState hst
  exact ⟨_, hexec, replies_of_after (hkeeps .mp (by decide)), (plan_after_reply f _ _).trans (emptyPlan_plan st _),
    notified_after_reply f _ hwaits, keeps_staged_reply (hkeeps.mono (by decide))⟩

end staged

/-! ## The entries of the plan (R110) -/

/-- The entries of the other links. -/
abbrev othersThan (l : Nat) (es : List PlanEntry) : List PlanEntry := es.filter fun e => decide (e.link ≠ l)

theorem insertBy_eq_orderedInsert {α : Type} (before : α → α → Bool) (a : α) (xs : List α) :
    insertBy before a xs = xs.orderedInsert (fun x y => before x y = true) a := by
  induction xs with
  | nil => rfl
  | cons x xs ih => rw [insertBy, List.orderedInsert_cons, ih]

theorem insertBy_perm {α : Type} (before : α → α → Bool) (a : α) (xs : List α) : (insertBy before a xs).Perm (a :: xs) := by
  rw [insertBy_eq_orderedInsert]
  exact List.perm_orderedInsert _ a xs

/-- An entry for a link without one goes into its place by link number. -/
theorem ascending_insertBy {x : PlanEntry} {es : List PlanEntry} (hes : es.Pairwise fun a b => a.link < b.link)
    (hx : ∀ e ∈ es, e.link ≠ x.link) :
    (insertBy (fun a b => decide (a.link < b.link)) x es).Pairwise fun a b => a.link < b.link := by
  induction es with
  | nil => simp [insertBy]
  | cons y ys ih =>
    obtain ⟨hy, hys⟩ := List.pairwise_cons.1 hes
    rw [insertBy]
    split
    case isTrue h =>
      have hxy : x.link < y.link := of_decide_eq_true h
      refine List.pairwise_cons.2 ⟨fun e he => ?_, hes⟩
      obtain rfl | he := List.mem_cons.1 he
      · exact hxy
      · exact hxy.trans (hy e he)
    case isFalse h =>
      have hyx : y.link < x.link := by
        have hne := hx y List.mem_cons_self
        have hle : ¬ x.link < y.link := by simpa using h
        omega
      refine List.pairwise_cons.2 ⟨fun e he => ?_, ih hys fun e he => hx e (List.mem_cons_of_mem y he)⟩
      obtain rfl | he := List.mem_cons.1 ((insertBy_perm _ x ys).mem_iff.1 he)
      · exact hyx
      · exact hy e he

theorem putEntry_perm (l : Nat) (target : Option Nat) (es : List PlanEntry) :
    (putEntry l target es).Perm ({ link := l, target := target, outcome := none } :: othersThan l es) := insertBy_perm _ _ _

theorem putEntry_length (l : Nat) (target : Option Nat) (es : List PlanEntry) :
    (putEntry l target es).length = (othersThan l es).length + 1 := (putEntry_perm l target es).length_eq

theorem putEntry_ascending {l : Nat} {target : Option Nat} {es : List PlanEntry}
    (hes : es.Pairwise fun a b => a.link < b.link) : (putEntry l target es).Pairwise fun a b => a.link < b.link :=
  ascending_insertBy (hes.filter _) fun _ he => of_decide_eq_true (List.mem_filter.1 he).2

/-! ## What the requests answer (R109 to R111, R117) -/

/-- The code of the first check of R110 that fails, where one does. -/
def entryRefusal (l : Nat) (target : Option Nat) (s : State) : Option Result :=
  let band := s.band (s.link l).cfg.band
  if l = 0 ∨ 48 < l then some .badArgument
  else if s.plan.state ≠ .opened then some .wrongState
  else if (s.link l).cfg.kind = none then some .wrongState
  else if band.frozen = true then some .frozen
  else if target.any (fun step => decide (band.p.steps ≤ step)) = true then some .badArgument
  else if 16 ≤ (othersThan l s.plan.entries).length then some .full
  else none

/-- The code of the first check of R111 that fails, where one does. -/
def closeRefusal (s : State) : Option Result :=
  if s.plan.state ≠ .opened then some .wrongState
  else if (s.plan.entries.any fun e => (s.link e.link).cfg.kind.isNone) = true then some .wrongState
  else if s.hasJob JobKind.isPlanCheck = true ∨ 8 ≤ s.pe.queue.length then some .busy
  else none

/-- The plan with an entry put among its entries. -/
def enterEntry (l : Nat) (target : Option Nat) (s : State) : State :=
  s.modPlan fun p => { p with entries := putEntry l target s.plan.entries }

/-- The plan is CHECKING, and a PLAN_CHECK has joined the queue (R111). -/
def beginCheck (s : State) : State := setPlanState .checking (joinQueue .planCheck s)

theorem planFull_iff (n : Nat) : Config.planEntries < n + 1 ↔ 16 ≤ n := Nat.lt_succ_iff

/-- PLAN_ENTRY refuses by its checks, or its entry is put. -/
theorem enterPlan_eq (l : Nat) (target : Option Nat) (s : State) :
    enterPlan (l, target) s =
      (entryRefusal l target s).elim (okWith (u8 ((othersThan l s.plan.entries).length + 1)) (enterEntry l target s))
        (refuse · s) := by
  simp only [enterPlan, entryRefusal, isLink_eq_false_iff, putEntry_length, planFull_iff]
  split_ifs <;> rfl

/-- PLAN_CLOSE refuses by its checks, or the check of the plan begins. -/
theorem closePlan_eq (s : State) :
    closePlan () s = (closeRefusal s).elim (acceptedWith [] (beginCheck s)) (refuse · s) := by
  simp only [closePlan, closeRefusal, Bool.or_eq_true, Bool.not_eq_true', queueRoom_eq_false_iff]
  split_ifs <;> rfl

/-- No check of R110 answers a code that stands for a request carried out. -/
theorem carriedOut_entryRefusal {l : Nat} {target : Option Nat} {s : State} {r : Result}
    (h : entryRefusal l target s = some r) : carriedOut (u8 r.code) = false := by
  simp only [entryRefusal] at h
  split_ifs at h <;> cases h <;> rfl

/-- No check of R111 answers a code that stands for a request carried out. -/
theorem carriedOut_closeRefusal {s : State} {r : Result} (h : closeRefusal s = some r) : carriedOut (u8 r.code) = false := by
  simp only [closeRefusal] at h
  split_ifs at h <;> cases h <;> rfl

theorem closeRefusal_of_not_opened {s : State} (h : s.plan.state ≠ .opened) : closeRefusal s = some .wrongState := if_pos h

theorem keeps_enterEntry (l : Nat) (target : Option Nat) (s : State) : KeepsBut [.plan] s (enterEntry l target s) :=
  keeps_modPlan s _

theorem keeps_beginCheck (s : State) : KeepsBut (.pe :: planParts) s (beginCheck s) :=
  ((keeps_joinQueue .planCheck s).mono (by decide)).trans ((keeps_setPlanState .checking _).mono (by decide))

section settled

variable {s : State} {f : HostFrame}

/-- An entry that passes the checks of R110 is put, and the number of entries is answered. -/
theorem planEntry_puts {l : Nat} {target : Option Nat} (ht : Takes 0x29 f s) (hr : readPlanEntry f.payload = some (l, target))
    (hact : enterPlan (l, target) (dropHead s) =
      okWith (u8 ((othersThan l s.plan.entries).length + 1)) (enterEntry l target (dropHead s))) :
    Reaches .planEntry s fun t =>
      Replies f (u8 0 ++ u8 ((othersThan l s.plan.entries).length + 1)) s t ∧
        t.plan = { s.plan with entries := t.plan.entries } ∧
        t.plan.entries.Perm ({ link := l, target := target, outcome := none } :: othersThan l s.plan.entries) ∧
        (s.plan.entries.Pairwise (fun a b => a.link < b.link) → t.plan.entries.Pairwise fun a b => a.link < b.link) ∧
        KeepsBut (.plan :: afterParts) s t := by
  have hplan (p : List Byte) : (after (putReply f p (enterEntry l target (dropHead s)))).plan =
      { s.plan with entries := putEntry l target s.plan.entries } := plan_after_reply f p _
  refine ⟨_, request_oks ht hr hact, replies_of_after rfl, ?_, ?_, ?_,
    keeps_staged_reply ((keeps_enterEntry l target (dropHead s)).mono (by decide))⟩
  · rw [hplan]
  · rw [hplan]
    exact putEntry_perm l target _
  · rw [hplan]
    exact putEntry_ascending

/-- A plan that passes the checks of R111 is CHECKING, and its job stands in the queue. -/
theorem planClose_checks (ht : Takes 0x2A f s) (hr : readNothing f.payload = some ()) (hst : s.plan.state = .opened)
    (hact : closePlan () (dropHead s) = acceptedWith [] (beginCheck (dropHead s))) :
    Reaches .planClose s fun t =>
      Replies f (u8 1) s t ∧ t.plan = { s.plan with state := .checking } ∧ (∃ j ∈ t.pe.queue, j.kind = .planCheck) ∧
        Notified .planState 0 t ∧ KeepsBut (.plan :: afterParts) s t := by
  have hkeeps := keeps_beginCheck (dropHead s)
  have hjob : JobKind.planCheck ∈ (beginCheck (dropHead s)).jobKinds := by
    have hpe : (beginCheck (dropHead s)).pe = (joinQueue .planCheck (dropHead s)).pe :=
      keeps_setPlanState .checking _ .pe (by decide)
    rw [State.jobKinds, hpe]
    exact List.mem_map.2 ⟨_, List.mem_append_right _ List.mem_cons_self, rfl⟩
  have hwaits : Waits .planState 0 (beginCheck (dropHead s)) := by
    refine waits_setPlanState ?_
    change s.plan.state ≠ .checking
    simp [hst]
  have hgo := goesOn_after_reply f (u8 1 ++ []) (beginCheck (dropHead s))
  exact ⟨_, request_accepts ht hr hact, replies_of_after (hkeeps .mp (by decide)),
    (plan_after_reply f _ _).trans (setPlanState_plan .checking _), List.mem_map.1 (hgo.jobs hjob),
    notified_after_reply f _ hwaits, keeps_staged_reply (hkeeps.mono (by decide))⟩

theorem readNothing_of_nil {p : List Byte} (h : p = []) : readNothing p = some () := h ▸ rfl

/-- PLAN_OPEN by the plan's state (R109). -/
theorem openPlan_refuses (h : s.plan.state = .opened ∨ s.plan.state = .checking ∨ s.plan.state = .ready ∨
    s.plan.state = .applying) : openPlan () s = refuse .wrongState s := by
  rcases h with h | h | h | h <;> simp [openPlan, h]

theorem openPlan_empties (h : s.plan.state = .idle ∨ s.plan.state = .rejected ∨ s.plan.state = .done) :
    openPlan () s = okWith [] (emptyPlan .opened s) := by
  rcases h with h | h | h <;> simp [openPlan, h]

/-- PLAN_ABANDON by the plan's state (R117). -/
theorem abandonPlan_empties (happ : s.plan.state ≠ .applying) (hidle : s.plan.state ≠ .idle) :
    abandonPlan () s = okWith [] (emptyPlan .idle s) := by
  unfold abandonPlan
  split
  case h_1 h => exact absurd h hidle
  case h_7 h => exact absurd h happ
  all_goals rfl

theorem abandonPlan_of_idle (h : s.plan.state = .idle) : abandonPlan () s = okWith [] s := by simp [abandonPlan, h]

theorem abandonPlan_of_applying (h : s.plan.state = .applying) : abandonPlan () s = refuse .wrongState s := by
  simp [abandonPlan, h]

end settled

/-- Settles O44: PLAN_OPEN and PLAN_ABANDON by the plan's state; for PLAN_ENTRY and PLAN_CLOSE the verdict of the statement is the code
of the first check that fails. -/
theorem planIsStaged : Obligations.PlanIsStaged := by
  intro s f _ refused kept st
  refine ⟨fun ht hp => ?_, fun l target ht hr => ?_, fun ht hp => ?_, fun ht hp => ?_⟩
  · have hr := readNothing_of_nil hp
    refine ⟨fun hst => request_refuses ht hr (openPlan_refuses hst) rfl, fun hst => ?_⟩
    have hne : s.plan.state ≠ .opened := fun h => by simp [st, h] at hst
    exact reaches_emptyPlan hne (request_oks ht hr (openPlan_empties hst))
  · intro band others verdict
    have hverdict : verdict = entryRefusal l target (dropHead s) := by cases target <;> rfl
    have hact := enterPlan_eq l target (dropHead s)
    rw [← hverdict] at hact
    refine ⟨fun r hsome => ?_, fun hnone => ?_⟩
    · rw [hsome] at hact
      exact request_refuses ht hr hact (carriedOut_entryRefusal (hverdict.symm.trans hsome))
    · rw [hnone] at hact
      exact planEntry_puts ht hr hact
  · intro verdict
    have hr := readNothing_of_nil hp
    have hverdict : verdict = closeRefusal (dropHead s) := rfl
    have hact := closePlan_eq (dropHead s)
    rw [← hverdict] at hact
    refine ⟨fun r hsome => ?_, fun hnone => ?_⟩
    · rw [hsome] at hact
      exact request_refuses ht hr hact (carriedOut_closeRefusal (hverdict.symm.trans hsome))
    · have hst : s.plan.state = .opened := by
        by_contra h
        exact absurd (hnone.symm.trans (hverdict.trans (closeRefusal_of_not_opened h))) (by simp)
      rw [hnone] at hact
      exact planClose_checks ht hr hst hact
  · have hr := readNothing_of_nil hp
    refine ⟨fun hst => request_refuses ht hr (abandonPlan_of_applying hst) rfl, fun hst => ?_, fun happ hidle => ?_⟩
    · exact ⟨_, request_oks ht hr (abandonPlan_of_idle hst), replies_of_after rfl, keeps_after_reply (.refl _ _)⟩
    · exact reaches_emptyPlan hidle (request_oks ht hr (abandonPlan_empties happ hidle))

end Sys2Proof.Machine

/-! The samples of the tally lines. A sample changes the record of its line and nothing else of the tables; where it makes an edge, the
notice of the edge waits, and the transmit path keeps it or sends it, as with the plan's notice above. -/

namespace Sys2Proof.Machine

/-! ## One sample of a line input (R137, R138) -/

section sampled

variable {x : LineInput} {high : Bool}

theorem sampled_of_agrees (h : x.active high = x.filtered) : x.sampled high = ({ x with run := 0 }, false) := if_pos h

theorem sampled_of_short_run (h : x.active high ≠ x.filtered) (hrun : x.run + 1 < x.filterK) :
    x.sampled high = ({ x with run := x.run + 1 }, false) := by
  rw [LineInput.sampled, if_neg h, if_neg hrun.not_ge]

theorem sampled_of_full_run (h : x.active high ≠ x.filtered) (hrun : x.filterK ≤ x.run + 1) :
    x.sampled high = ({ x with filtered := x.active high, run := 0, edge := true }, true) := by
  rw [LineInput.sampled, if_neg h, if_pos hrun]

end sampled

/-! ## The line's record and its notice -/

section sample

variable {s : State} {n : Nat} {high : Bool} {x : LineInput}

theorem line_modLine_self (f : LineInput → LineInput) (hn : 1 ≤ n) (hn' : n ≤ s.tr.lines.length) :
    (s.modLine n f).line n = f (s.line n) := slot_modSlot_self _ f _ hn hn'

theorem line_modLine_other (f : LineInput → LineInput) {m : Nat} (h : m ≠ n) : (s.modLine n f).line m = s.line m :=
  slot_modSlot_other _ f _ h.symm

/-- A sample without an edge changes its line's record alone. -/
theorem sampleLine_of_quiet (h : (s.line n).sampled high = (x, false)) : sampleLine n high s = s.modLine n fun _ => x := by
  simp [sampleLine, h]

/-- A sample with an edge raises the INPUT notice too (R153). -/
theorem sampleLine_of_edge (h : (s.line n).sampled high = (x, true)) :
    sampleLine n high s = raise .inputEdge 0 (s.modLine n fun _ => x) := by
  simp [sampleLine, h]

/-- With an edge or without, the Tally Resolver differs in the sampled line's record alone. -/
theorem sampleLine_tr (n : Nat) (high : Bool) (s : State) :
    (sampleLine n high s).tr = (s.modLine n fun _ => ((s.line n).sampled high).1).tr := by
  rcases h : (s.line n).sampled high with ⟨x, _ | _⟩
  · rw [sampleLine_of_quiet h]
  · rw [sampleLine_of_edge h, raise_tr]

theorem keeps_sampleLine (n : Nat) (high : Bool) (s : State) : KeepsBut (.tr :: sendParts) s (sampleLine n high s) :=
  .ite ((keeps_modLine s n _).andThen (keeps_raise _ _ _) (by decide) (by decide)) ((keeps_modLine s n _).mono (by decide))

/-- The transmit path's choice leaves the Tally Resolver as the sample gave it. -/
theorem edge_tr (n : Nat) (high : Bool) (s : State) :
    (kick (sampleLine n high s)).tr = (s.modLine n fun _ => ((s.line n).sampled high).1).tr :=
  (keeps_kick _ .tr (by decide)).trans (sampleLine_tr n high s)

theorem edge_line_self (hn : 1 ≤ n) (hn' : n ≤ s.tr.lines.length) :
    (kick (sampleLine n high s)).line n = ((s.line n).sampled high).1 := by
  rw [State.line, edge_tr]
  exact line_modLine_self _ hn hn'

theorem edge_line_other {m : Nat} (h : m ≠ n) : (kick (sampleLine n high s)).line m = s.line m := by
  rw [State.line, edge_tr]
  exact line_modLine_other _ h

/-- With no step owed, the event of EDGE is the sample and then the transmit path's choice. -/
theorem exec_edge (howed : s.owed = []) : exec (.edge n high) s = .next (kick (sampleLine n high s)) := by
  change execEdge n high s = _
  rw [execEdge, event, settleOwed_of_nil s howed]

end sample

/-- Settles O28, by the three outcomes of one sample: it agrees, it is one more of a run too short yet, or it is the filter_k-th that
disagrees. -/
theorem lineSampleIsFiltered : Obligations.LineSampleIsFiltered := by
  intro s n high hshaped howed hn hn' x sample
  obtain ⟨-, -, -, -, -, hlines, -⟩ := hshaped
  have hself : (kick (sampleLine n high s)).line n = (x.sampled high).1 := edge_line_self hn (hn'.trans_eq hlines.symm)
  refine ⟨_, exec_edge howed, fun hagree => ?_, fun hdiffer hrun => ?_, fun hdiffer hrun => ?_,
    fun m hm => edge_line_other hm, ?_, (keeps_sampleLine n high s).trans ((keeps_kick _).mono (by decide))⟩
  · have hx := sampled_of_agrees (x := x) (high := high) hagree
    exact ⟨hself.trans (congrArg Prod.fst hx), congrArg kick (sampleLine_of_quiet hx)⟩
  · have hx := sampled_of_short_run (x := x) (high := high) hdiffer hrun
    exact ⟨hself.trans (congrArg Prod.fst hx), congrArg kick (sampleLine_of_quiet hx)⟩
  · have hx := sampled_of_full_run (x := x) (high := high) hdiffer hrun
    refine ⟨hself.trans (congrArg Prod.fst hx), ?_⟩
    rw [sampleLine_of_edge hx]
    exact notified_kick (waits_raise _ _ _)
  · rw [edge_tr]
    rfl

end Sys2Proof.Machine

/-! What a command does as a whole: the frame of every request's owner, the frame of every command, and from these the queue of
commands and the Frame Timebase (chapter 1). -/

namespace Sys2Proof.Machine

-- One theorem at a time: all at once, their threads together outgrow the memory limit of the check.
set_option Elab.async false

/-! ## The frame of an answer (R190) -/

/-- An answer changes only some parts of the state it is given. -/
def Answers (ps : List Part) (s : State) (r : Answered) : Prop := KeepsBut ps s r.1

namespace Answers

variable {ps : List Part} {s t : State} {r r' : Answered}

theorem refuse (c : Result) : Answers ps s (refuse c s) := .refl ps s
theorem ok {body : List Byte} (h : KeepsBut ps s t) : Answers ps s (okWith body t) := h
theorem accepted {body : List Byte} (h : KeepsBut ps s t) : Answers ps s (acceptedWith body t) := h
theorem read {body : List Byte} : Answers ps s (okWith body s) := .refl ps s
theorem ite {c : Prop} [Decidable c] (h : Answers ps s r) (k : Answers ps s r') : Answers ps s (if c then r else r') := by
  split
  · exact h
  · exact k
/-- A check that refuses, before the rest. -/
theorem check {c : Prop} [Decidable c] {code : Result} (k : Answers ps s r') :
    Answers ps s (if c then Machine.refuse code s else r') := .ite (.refuse code) k
theorem mono {qs : List Part} (h : Answers ps s r) (sub : ps ⊆ qs) : Answers qs s r := KeepsBut.mono h sub

end Answers

/-! ## Requests of bands and links -/

theorem answers_defineBand (a : Nat × BandParams) (s : State) : Answers carrierParts s (defineBand a s) :=
  .check (.check (.check (.check (.ok
    ((((keeps_modBand _ _ _).mono (by decide)).trans (keeps_carrierChange _ _)).trans ((keeps_modBand _ _ _).mono (by decide)))))))

theorem answers_guardBand (g : Guards) (s : State) : Answers carrierParts s (guardBand g s) := by
  have h : KeepsBut carrierParts s (carrierChange g.band (s.modBand g.band (Band.guard g))) :=
    ((keeps_modBand s _ _).mono (by decide)).trans (keeps_carrierChange _ _)
  exact .check (.check (.ok (.ite (h.trans ((keeps_pruneAll _ _).mono (by decide))) h)))

theorem answers_changeExclusions (change : StepRange → List StepRange → List StepRange) (a : Nat × StepRange) (s : State) :
    Answers carrierParts s (changeExclusions change a s) :=
  .check (.check (.check (.check (.check (.ok (((keeps_modBand _ _ _).mono (by decide)).trans (keeps_carrierChange _ _)))))))

/-- The parts that a change of a band's frozen flag may change (R20). -/
def freezeParts : List Part := [.bands, .rescues, .notices]

theorem keeps_setFrozen (b : Nat) (v : Bool) (s : State) :
    KeepsBut freezeParts s (raise .bandFreeze b (s.modBand b fun k => { k with frozen := v })) :=
  ((keeps_modBand_core s b (fun k => { k with frozen := v }) fun _ => rfl).mono (by decide)).trans
    ((keeps_raise _ _ _).mono (by decide))

theorem answers_freezeBand (b : Nat) (s : State) : Answers freezeParts s (freezeBand b s) :=
  .check (.check (.ok (.ite (.refl _ _) (keeps_setFrozen b true s))))

theorem unfreezeLink_core (b : Nat) (k : Link) : (unfreezeLink b k).core = k.core := by unfold unfreezeLink; split <;> rfl
theorem unfreezeLink_tallyFields (b : Nat) (k : Link) : (unfreezeLink b k).tallyFields = k.tallyFields := by
  unfold unfreezeLink; split <;> rfl

theorem keeps_thaw (b : Nat) (s : State) : KeepsBut freezeParts s (thaw b s) :=
  (keeps_setFrozen b false s).trans
    ((keeps_mapLinks_rescue _ _ (unfreezeLink_core b) (unfreezeLink_tallyFields b)).mono (by decide))

theorem answers_unfreezeBand (b : Nat) (s : State) : Answers freezeParts s (unfreezeBand b s) :=
  .check (.check (.ok (.ite (keeps_thaw b s) (.refl _ _))))

theorem answers_readBand (a : Nat × BandSection) (s : State) : Answers [] s (readBand a s) := .check .read

theorem answers_readScan (a : Nat × Nat) (s : State) : Answers [] s (readScan a s) := .check (.check .read)

theorem answers_checkCandidate (a : Candidate) (s : State) : Answers [.pe] s (checkCandidate a s) :=
  .check (.check (.check (.check (.accepted (keeps_joinQuery a s)))))

theorem answers_askSweep (b : Nat) (s : State) : Answers [.pe, .sweepFlags] s (askSweep b s) :=
  .check (.check (.ite (.accepted ((keeps_askAgain b s).mono (by decide)))
    (.check (.accepted (((keeps_joinQueue _ s).mono (by decide)).trans ((keeps_sweepFlag _ _ _).mono (by decide)))))))

/-- The parts that the requests of links may change, the mark of an ASSIGN_CHECK included. -/
def defineParts : List Part := .pe :: linkParts

theorem keeps_planSeesDefine (l : Nat) (old new : LinkConfig) (s : State) : KeepsBut planParts s (planSeesDefine l old new s) :=
  .ite (keeps_invalidatePlan s) (.refl _ _)

theorem keeps_vacateLink (l : Nat) (s : State) : KeepsBut linkParts s (vacateLink l s) := by
  have h : KeepsBut linkParts s (s.modLink l fun _ => Link.vacant) := (keeps_modLink s l _).mono (by decide)
  exact ((h.trans (.ite (.refl _ _) ((keeps_raise _ _ _).mono (by decide)))).trans
    (linkParts_plan (keeps_planSeesDefine l _ _ _))).trans (linkParts_issue (keeps_rewant l _))

theorem keeps_storeLink (l : Nat) (c : LinkConfig) (s : State) : KeepsBut linkParts s (storeLink l c s) := by
  have h : KeepsBut linkParts s (s.modLink l (Link.redefine c)) := (keeps_modLink s l _).mono (by decide)
  exact ((h.trans (.ite (linkParts_state (keeps_changeState _ _ _ _)) (.refl _ _))).trans
    (linkParts_plan (keeps_planSeesDefine l _ _ _))).trans (linkParts_issue (keeps_rewant l _))

theorem answers_defineLink (a : Nat × LinkConfig) (s : State) : Answers defineParts s (defineLink a s) := by
  have h : KeepsBut defineParts s (if a.2.kind.isSome then storeLink a.1 a.2.clamped s else vacateLink a.1 s) :=
    KeepsBut.mono (ps := linkParts) (.ite (keeps_storeLink _ _ _) (keeps_vacateLink _ _)) (by decide)
  exact .check (.check (.check (.check (.check (.check (.check (.ok
    (.ite (h.trans ((keeps_jobsSeeMove _ _).mono (by decide))) h))))))))

theorem answers_assignLink (a : Assign) (s : State) : Answers [.pe] s (assignLink a s) :=
  .check (.check (.check (.check (.check (.check (.check (.accepted (keeps_joinQueue _ s))))))))

theorem keeps_giveUp (l : Nat) (s : State) : KeepsBut linkParts s (giveUp l s) := by
  have h : KeepsBut linkParts s (giveOutcome l .vacated (changeState l .idle none
      (release (s.link l).cfg.band (issueMute l s.nextEffective (.lsRelease l) s).state))) :=
    (((linkParts_issue (keeps_issueMute l _ _ s)).trans (linkParts_carrier (keeps_release _ _))).trans
      (linkParts_state (keeps_changeState l _ _ _))).trans (linkParts_plan (keeps_giveOutcome l _ _))
  exact .ite (h.trans ((keeps_raise _ _ _).mono (by decide))) h

theorem answers_releaseLink (l : Nat) (s : State) : Answers linkParts s (releaseLink l s) :=
  .check (.check (.check (.ok (keeps_giveUp l s))))

theorem keeps_park (l : Nat) (s : State) : KeepsBut linkParts s (park l s) :=
  ((linkParts_issue (keeps_issueMute l _ _ s)).trans (linkParts_state (keeps_changeState l _ _ _))).trans
    ((keeps_reportPark l _ _).mono (by decide))

theorem answers_parkLink (l : Nat) (s : State) : Answers linkParts s (parkLink l s) :=
  .check (.check (.ite (.ok (keeps_park l s)) (.refuse _)))

theorem answers_unparkLink (l : Nat) (s : State) : Answers linkParts s (unparkLink l s) :=
  .check (.check (.check (.check (.ok ((keeps_enterAcquiring l _ s).trans (linkParts_plan (keeps_giveOutcome l _ _)))))))

theorem answers_forceSilence (l : Nat) (s : State) : Answers linkParts s (forceSilence l s) :=
  .check (.check (.ok (keeps_goSilent l s)))

theorem answers_readLink (l : Nat) (s : State) : Answers [] s (readLink l s) := .check .read

/-! ## Requests of the plan -/

theorem answers_openPlan (a : Unit) (s : State) : Answers planParts s (openPlan a s) := by
  unfold openPlan
  split
  all_goals first | exact .ok (keeps_emptyPlan _ _) | exact .refuse _

theorem answers_enterPlan (a : Nat × Option Nat) (s : State) : Answers [.plan] s (enterPlan a s) :=
  .check (.check (.check (.check (.check (.check (.ok (keeps_modPlan s _)))))))

theorem answers_closePlan (a : Unit) (s : State) : Answers (.pe :: planParts) s (closePlan a s) :=
  .check (.check (.check (.accepted (keeps_beginCheck s))))

theorem keeps_takeStep (l step : Nat) (e : FrameNo) (s : State) : KeepsBut linkParts s (takeStep l step e s) :=
  ((keeps_record l (fun k => { k with assigned := some step }) s).trans (linkParts_carrier (keeps_hold _ _ _ _))).trans
    (keeps_enterAcquiring l e _)

theorem keeps_moveParked (l step : Nat) (s : State) : KeepsBut linkParts s (moveParked l step s) :=
  ((linkParts_carrier (keeps_release _ s)).trans (keeps_record l (fun k => { k with assigned := some step }) _)).trans
    (linkParts_carrier (keeps_hold _ _ _ _))

theorem keeps_startVacate (l : Nat) (e : FrameNo) (s : State) : KeepsBut linkParts s (startVacate l e s) := by
  have h := ((linkParts_issue (keeps_issueMute l e (.rcVacate l) s)).trans
    (linkParts_state (keeps_changeState l .parked none _))).trans
    (keeps_record l (fun k => if (s.link l).state = .acquiring then { k with effectiveFrame := none, deadline := none } else k) _
      (fun k => by split <;> rfl) (fun k => by split <;> rfl))
  exact .ite (h.trans ((keeps_raise _ _ _).mono (by decide))) h

theorem keeps_applyEntry (e : FrameNo) (s : State) (x : PlanEntry) : KeepsBut linkParts s (applyEntry e s x) := by
  have outcome (o : EntryOutcome) (t : State) : KeepsBut linkParts t (giveOutcome x.link o t) :=
    linkParts_plan (keeps_giveOutcome x.link o t)
  unfold applyEntry
  dsimp only
  generalize x.target = target
  generalize (s.link x.link).state = state
  cases target with
  | none =>
    cases state with
    | idle => exact outcome _ _
    | acquiring | locked | fading | parked => exact keeps_startVacate _ _ _
    | vacant | retuning | reverting | lost => exact .refl _ _
  | some step =>
    cases state with
    | locked | fading => exact .ite (outcome _ _) (keeps_startRetune _ _ _ _ _)
    | parked => exact KeepsBut.trans (.ite (.refl _ _) (keeps_moveParked _ _ _)) (outcome _ _)
    | idle => exact (keeps_takeStep _ _ _ _).trans (outcome _ _)
    | vacant | acquiring | retuning | reverting | lost => exact .refl _ _

theorem keeps_launch (e : FrameNo) (s : State) : KeepsBut linkParts s (launch e s) :=
  (((((keeps_modPlan s _).mono (by decide)).trans (keeps_setPlanState _ _)).mono (ps := planParts) (by decide)).trans
    (.foldl _ (keeps_applyEntry e) _ _)).trans (linkParts_plan (keeps_finishPlan _))

theorem answers_launchPlan (a : Option FrameNo) (s : State) : Answers linkParts s (launchPlan a s) := by
  refine .check (.check (.check ?_))
  split
  · exact .refuse _
  · exact .ok (keeps_launch _ s)

theorem answers_abandonPlan (a : Unit) (s : State) : Answers planParts s (abandonPlan a s) := by
  unfold abandonPlan
  split
  all_goals first | exact .ok (keeps_emptyPlan _ _) | exact .ok (.refl _ _) | exact .refuse _

theorem answers_readPlan (a : Unit) (s : State) : Answers [] s (readPlan a s) := .read

/-! ## Requests of tally, lamps and talkback -/

theorem answers_configureInputs (a : InputConfig) (s : State) : Answers [.tr] s (configureInputs a s) :=
  .check (.ok (keeps_modTr s _))
theorem answers_setVirtual (a : Nat × Nat) (s : State) : Answers [.tr] s (setVirtual a s) := .ok (keeps_modTr s _)
theorem answers_setMap (a : Nat × Option MapEntry) (s : State) : Answers [.tr] s (setMap a s) :=
  .check (.check (.check (.ok (keeps_modTr s _))))
theorem answers_readTally (a : TallySection × Nat) (s : State) : Answers [.tr] s (readTally a s) :=
  .check (.ok (keeps_modTr s _))

theorem keeps_interlock (z : Nat) (on : Bool) (s : State) : KeepsBut [.tr, .tk] s (interlock z on s) :=
  ((keeps_modTr s _).mono (by decide)).trans ((keeps_modTk _ _).mono (by decide))

theorem answers_setInterlock (a : Nat × Bool) (s : State) : Answers [.tr, .tk] s (setInterlock a s) :=
  .check (.ok (keeps_interlock _ _ s))
theorem answers_configureLamp (a : Nat × LampConfig) (s : State) : Answers [.lamps] s (configureLamp a s) :=
  .check (.check (.check (.ok (keeps_modLamp s _ _))))
theorem answers_readLamp (m : Nat) (s : State) : Answers [] s (readLamp m s) := .check .read
theorem answers_defineStation (a : Nat × Station) (s : State) : Answers [.tk] s (defineStation a s) :=
  .check (.check (.check (.check (.check (.check (.ok (keeps_modStation s _ _)))))))
theorem answers_defineGroup (a : Nat × List Nat) (s : State) : Answers [.tk] s (defineGroup a s) :=
  .check (.check (.check (.ok (keeps_modTk s _))))
theorem answers_keyRequest (a : KeyPress) (s : State) : Answers issueParts s (keyRequest a s) :=
  .check (.check (.check (.check (.ok (keeps_pressKey _ _ _ s)))))

theorem answers_readTalk (a : Nat × Nat) (s : State) : Answers [] s (readTalk a s) := by
  unfold readTalk
  split
  · exact .read
  · exact .refuse _

/-! ## Requests of modes and notices -/

/-- The parts that START may change (R195, R28, R98). -/
def startParts : List Part := .mode :: .links :: scanParts

theorem Link.start_rescue (now : FrameNo) (k : Link) : (k.start now).rescue = k.rescue := by unfold Link.start; split <;> rfl
theorem Link.start_tallyFields (now : FrameNo) (k : Link) : (k.start now).tallyFields = k.tallyFields := by
  unfold Link.start; split <;> rfl

theorem keeps_startScan (s : State) (b : Nat) : KeepsBut startParts s (startScan s b) := by
  unfold startScan
  split
  · exact (keeps_issueScanAssign _ _ s).mono (by decide)
  · exact .refl _ _

theorem keeps_startLinks (s : State) :
    KeepsBut startParts s { s with mode := .run, links := s.links.map (Link.start s.now) } := by
  intro p hp
  cases p <;> first
    | rfl | exact absurd (by decide) hp | exact map_map_same _ _ _ (Link.start_rescue s.now)

theorem keeps_enterRun (s : State) : KeepsBut startParts s (enterRun s) :=
  (keeps_startLinks s).trans (.foldl _ keeps_startScan _ _)

theorem answers_startPart (a : Unit) (s : State) : Answers startParts s (startPart a s) := .check (.ok (keeps_enterRun s))

/-- The parts that the withdrawal of the evaluator's work may change (R69). -/
def withdrawParts : List Part := [.pe, .sweepFlags, .rescues, .plan, .notices]

theorem keeps_withdrawJob (s : State) (j : Job) : KeepsBut withdrawParts s (withdrawJob s j) := by
  unfold withdrawJob
  split
  · exact ((keeps_modPe s _).mono (by decide)).trans ((keeps_raise _ _ _).mono (by decide))
  · exact .ite ((keeps_invalidatePlan s).mono (by decide)) (.refl _ _)
  · exact ((keeps_modPe s _).mono (by decide)).trans ((keeps_raise _ _ _).mono (by decide))
  all_goals exact .refl _ _

theorem Link.clearRescue_core (k : Link) : k.clearRescue.core = k.core := by unfold Link.clearRescue; split <;> rfl
theorem Link.clearRescue_tallyFields (k : Link) : k.clearRescue.tallyFields = k.tallyFields := by
  unfold Link.clearRescue; split <;> rfl

theorem keeps_clearFlags (s : State) : KeepsBut withdrawParts s
    { s with bands := s.bands.map fun k => { k with sweepWanted := false }, links := s.links.map Link.clearRescue } := by
  intro p hp
  cases p <;> first
    | rfl
    | exact absurd (by decide) hp
    | exact map_map_same _ _ _ fun _ => rfl
    | exact map_map_same _ _ _ Link.clearRescue_core
    | exact map_map_same _ _ _ Link.clearRescue_tallyFields

theorem keeps_withdrawAll (s : State) : KeepsBut withdrawParts s (withdrawAll s) :=
  ((KeepsBut.foldl _ keeps_withdrawJob s.pe.queue s).trans ((keeps_modPe _ _).mono (by decide))).trans (keeps_clearFlags _)

/-- The parts that STOP may change (R196). -/
def stopParts : List Part := .mode :: .tr :: .lamps :: .lampZones :: (withdrawParts ++ issueParts)

theorem keeps_stopTally (s : State) : KeepsBut stopParts s (stopTally s) :=
  ((keeps_modTr s _).mono (by decide)).trans ((keeps_rewantAll _).mono (by decide))

theorem keeps_mode (m : Mode) (s : State) : KeepsBut [.mode] s { s with mode := m } := by
  intro p hp; cases p <;> first | rfl | exact absurd (by simp) hp

theorem keeps_enterStandby (tkFirst : Bool) (s : State) : KeepsBut stopParts s (enterStandby tkFirst s) := by
  have hw : KeepsBut stopParts s (withdrawAll { s with mode := .standby }) :=
    ((keeps_mode .standby s).mono (by decide)).trans ((keeps_withdrawAll _).mono (by decide))
  have hk (r : Bool) (t : State) : KeepsBut stopParts t (tkStop r t) := (keeps_tkStop r t).mono (by decide)
  exact ((hw.trans (.ite ((hk _ _).trans (keeps_stopTally _)) ((keeps_stopTally _).trans (hk _ _)))).trans
    ((keeps_stopLamps _).mono (by decide))).trans ((keeps_modTk _ _).mono (by decide))

theorem answers_stopPart (tkFirst : Bool) (a : Unit) (s : State) : Answers stopParts s (stopPart tkFirst a s) :=
  .check (.check (.ok (keeps_enterStandby tkFirst s)))

/-- The parts that warm reset may change: all but the timebase, the ids, the bus, the Message Port and the work owed (R197). -/
def warmParts : List Part :=
  [.mode, .bands, .sweepFlags, .links, .rescues, .tallies, .pe, .plan, .units, .tr, .lamps, .lampZones, .tk, .notices]

theorem answers_restartPart (a : Unit) (s : State) : Answers warmParts s (restartPart a s) := by
  intro p hp
  cases p <;> first | rfl | exact absurd (by decide) hp

theorem answers_readStatus (a : Unit) (s : State) : Answers [] s (readStatus a s) := .read
theorem answers_identifyPart (a : Unit) (s : State) : Answers [] s (identifyPart a s) := .read
theorem answers_enableNotices (a : Nat × Nat) (s : State) : Answers [.mp] s (enableNotices a s) := .check (.ok (keeps_modMp s _))
theorem answers_fetchNotices (n : Nat) (s : State) : Answers sendParts s (fetchNotices n s) := by
  intro p hp
  cases p <;> first | rfl | exact absurd (by decide) hp

end Sys2Proof.Machine

/-! The frame of every command, and the statements that follow from it: the step takes the front of the queue, every command
completes, the steps of a boundary come first, and the timebase is moved by five commands alone. -/

namespace Sys2Proof.Machine

-- One theorem at a time: all at once, their threads together outgrow the memory limit of the check.
set_option Elab.async false

/-! ## The boundary (R9) and the timebase (chapter 1) -/

/-- The parts that the events of a part in one mode may change, without its timebase. -/
def workParts : List Part := [.tr, .bus, .lamps, .lampZones] ++ boundaryParts

/-- The parts that a step of the timebase may change, the boundary it may make included. -/
def clockParts : List Part := .ftb :: workParts

theorem keeps_presentZones (s : State) : KeepsBut [.tk] s (presentZones s) := keeps_modTk s _

theorem keeps_endPulses (s : State) : KeepsBut issueParts s (endPulses s) :=
  .foldl _ (fun s t => .ite (keeps_endPulse t s) (.refl _ _)) _ _

theorem keeps_resolveNow (s : State) : KeepsBut workParts s (resolveNow s) :=
  ((keeps_modTr s _).mono (by decide)).trans ((keeps_rewantAll _).mono (by decide))

theorem keeps_presentNow (tkFirst : Bool) (s : State) : KeepsBut workParts s (presentNow tkFirst s) := by
  have hz (t : State) : KeepsBut workParts t (presentZones t) := (keeps_presentZones t).mono (by decide)
  have hf (t : State) : KeepsBut workParts t (frameStep t) := (keeps_frameStep t).mono (by decide)
  have hk (t u : State) : KeepsBut workParts u (tkAfter t u) := (keeps_tkAfter t u).mono (by decide)
  have he : KeepsBut workParts (presentZones s) (endPulses (presentZones s)) := (keeps_endPulses _).mono (by decide)
  exact .ite ((((hz s).trans he).trans (hk s _)).trans (hf _)) (((hf s).trans (hz _)).trans (hk _ _))

theorem Link.count_rescue (k : Link) : k.count.rescue = k.rescue := by
  unfold Link.count; dsimp only; split <;> split <;> rfl
theorem Link.count_tallyFields (k : Link) : k.count.tallyFields = k.tallyFields := by
  unfold Link.count; dsimp only; split <;> split <;> rfl

theorem keeps_countLinks (s : State) : KeepsBut [.links] s (countLinks s) := by
  intro p hp
  cases p <;> first
    | rfl
    | exact map_map_same _ _ _ Link.count_rescue
    | exact map_map_same _ _ _ Link.count_tallyFields
    | exact absurd (by simp) hp

theorem keeps_runBoundary (tkFirst : Bool) (s : State) : KeepsBut workParts s (runBoundary tkFirst s) :=
  ((keeps_resolveNow s).trans (keeps_presentNow tkFirst _)).trans ((keeps_countLinks _).mono (by decide))

theorem keeps_beginFrameAt (t : Nat) (s : State) : KeepsBut [.ftb, .bus] s (beginFrameAt t s) := by
  intro p hp; cases p <;> first | rfl | exact absurd (by simp) hp

theorem keeps_boundaryAt (t : Nat) (tkFirst : Bool) (s : State) : KeepsBut clockParts s (boundaryAt t tkFirst s) := by
  have hb : KeepsBut clockParts s (beginFrameAt t s) := (keeps_beginFrameAt t s).mono (by decide)
  unfold boundaryAt
  cases s.mode
  · exact hb.trans ((keeps_owed _ _).mono (by decide))
  · exact (hb.trans ((keeps_runBoundary tkFirst _).mono (by decide))).trans ((keeps_owed _ _).mono (by decide))

theorem keeps_clock (f : Ftb → Ftb) (s : State) : KeepsBut clockParts s (s.modFtb f) := (keeps_modFtb s f).mono (by decide)

theorem keeps_raiseClock (c : Cause) (o : Nat) (s : State) : KeepsBut clockParts s (raise c o s) :=
  (keeps_raise s c o).mono (by decide)

theorem keeps_repace (pace t : Nat) (tkFirst : Bool) (s : State) : KeepsBut clockParts s (repace pace t tkFirst s) :=
  .ite ((keeps_clock _ s).trans (keeps_boundaryAt _ _ _)) (keeps_clock _ s)

theorem keeps_timerBoundary (due pace : Nat) (tkFirst : Bool) (s : State) :
    KeepsBut clockParts s (timerBoundary due pace tkFirst s) := (keeps_clock _ s).trans (keeps_boundaryAt _ _ _)

theorem keeps_timerDue (tkFirst : Bool) (s : State) : KeepsBut clockParts s (timerDue tkFirst s) := by
  unfold timerDue
  split
  · exact .refl _ _
  · split
    · exact .ite (keeps_timerBoundary _ _ _ _) (keeps_clock _ _)
    all_goals exact keeps_timerBoundary _ _ _ _

theorem keeps_inHoldover (s : State) : KeepsBut clockParts s (inHoldover s) := (keeps_clock _ s).trans (keeps_raiseClock _ _ _)

theorem keeps_missHoldover (t : Nat) (tkFirst : Bool) (s : State) : KeepsBut clockParts s (missHoldover t tkFirst s) :=
  .ite (((keeps_inHoldover s).trans (keeps_clock _ _)).trans (keeps_boundaryAt _ _ _)) ((keeps_inHoldover s).trans (keeps_clock _ _))

theorem keeps_enterLocking (s : State) : KeepsBut clockParts s (enterLocking s) :=
  (keeps_clock _ s).trans (keeps_raiseClock _ _ _)

theorem keeps_pulseInLocking (period : Option Nat) (s : State) : KeepsBut clockParts s (pulseInLocking period s) := by
  unfold pulseInLocking
  split
  · exact .refl _ _
  · exact .ite (.ite (((keeps_clock _ s).trans (keeps_clock _ _)).trans (keeps_raiseClock _ _ _)) (keeps_clock _ s))
      (keeps_clock _ s)

theorem keeps_pulseInLocked (t : Nat) (period : Option Nat) (tkFirst : Bool) (s : State) :
    KeepsBut clockParts s (pulseInLocked t period tkFirst s) := by
  unfold pulseInLocked
  split
  · exact (keeps_clock _ s).trans (keeps_boundaryAt _ _ _)
  · exact (keeps_inHoldover s).trans (keeps_repace _ _ _ _)

theorem keeps_pulseAt (t : Nat) (tkFirst : Bool) (s : State) : KeepsBut clockParts s (pulseAt t tkFirst s) := by
  unfold pulseAt
  refine KeepsBut.trans (keeps_clock (Ftb.recordPulse t) s) ?_
  dsimp only
  split
  · exact keeps_enterLocking _
  · exact (keeps_enterLocking _).trans (keeps_repace _ _ _ _)
  · exact keeps_pulseInLocking _ _
  · exact keeps_pulseInLocked _ _ _ _

theorem keeps_watchdogExpires (tkFirst : Bool) (s : State) : KeepsBut clockParts s (watchdogExpires tkFirst s) := by
  unfold watchdogExpires
  split
  · exact keeps_clock _ _
  · exact keeps_missHoldover _ _ _
  · exact .refl _ _

theorem keeps_changeRate (r : Rate) (t : Nat) (s : State) : KeepsBut clockParts s (changeRate r t s) :=
  (((keeps_clock _ s).trans (keeps_raiseClock _ _ _)).trans (keeps_raiseClock _ _ _)).trans (keeps_repace _ _ _ _)

theorem answers_configureTimebase (t : Nat) (a : Nat × Nat) (s : State) : Answers clockParts s (configureTimebase t a s) := by
  unfold configureTimebase
  split
  · exact .refuse _
  · exact .check (.ok ((keeps_clock _ s).trans (.ite (.refl _ _) (keeps_changeRate _ _ _))))

/-! ## Packets and completions -/

theorem keeps_reportSample (u : Nat) (s : State) (x : Sample) : KeepsBut boundaryParts s (reportSample u s x) := by
  unfold reportSample
  split
  · exact .refl _ _
  · exact ((keeps_takeSample _ _ s).mono (by decide)).trans ((keeps_finish s _).mono (by decide))

theorem keeps_reportKey (u : Nat) (s : State) (x : KeyReport) : KeepsBut boundaryParts s (reportKey u s x) := by
  unfold reportKey
  split
  · exact .refl _ _
  · exact .ite (((keeps_pressKey _ _ _ s).mono (by decide)).trans ((keeps_finishKey _ s _).mono (by decide))) (.refl _ _)

theorem keeps_takeReport (r : Report) (s : State) : KeepsBut boundaryParts s (takeReport r s) := by
  have h : KeepsBut boundaryParts s (finish s (acknowledgeAll r.unit r.acks s)) :=
    ((keeps_acknowledgeAll _ _ s).mono (by decide)).trans ((keeps_finish s _).mono (by decide))
  exact .ite ((h.trans (.foldl _ (keeps_reportSample _) _ _)).trans (.foldl _ (keeps_reportKey _) _ _)) h

theorem keeps_acceptReport (r : Report) (s : State) : KeepsBut boundaryParts s (acceptReport r s) :=
  KeepsBut.trans (.ite (keeps_takeSome _ s) (.refl _ _)) (keeps_takeReport r _)

theorem keeps_takeScanData (x : ScanData) (s : State) : KeepsBut carrierParts s (takeScanData x s) :=
  .ite (keeps_applyLevels _ _ _ s) (.refl _ _)

theorem keeps_takeMatrixReport (acks : List Byte) (s : State) : KeepsBut issueParts s (takeMatrixReport acks s) :=
  (keeps_acknowledgeAll _ _ s).trans (keeps_matrixEvent _)

theorem keeps_leaveQueue (s : State) : KeepsBut [.pe] s (leaveQueue s) := keeps_modPe s _

theorem keeps_assignDone (l step : Nat) (o : Bool) (q : Snapshot) (s : State) :
    KeepsBut eventParts s (assignDone l step o q s) := by
  have hr (r : AssignResult) : KeepsBut eventParts s (setAssignResult l r s) := (keeps_modPe s _).mono (by decide)
  have hn (c : Cause) (r : AssignResult) : KeepsBut eventParts s (raise c l (setAssignResult l r s)) :=
    (hr r).trans ((keeps_raise _ _ _).mono (by decide))
  exact .ite (hn _ _) (.ite ((hr _).trans ((keeps_takeStep _ _ _ _).mono (by decide))) (hn _ _))

theorem keeps_planDone (q : Snapshot) (s : State) : KeepsBut planParts s (planDone q s) := by
  have hp (f : Plan → Plan) (st : PlanState) : KeepsBut planParts s (setPlanState st (s.modPlan f)) :=
    ((keeps_modPlan s f).mono (by decide)).trans (keeps_setPlanState _ _)
  exact .ite (.refl _ _) (.ite (keeps_invalidatePlan s) (.ite (hp _ _) (hp _ _)))

theorem keeps_queryDone (b : Nat) (n : BitVec 16) (step hw link : Nat) (q : Snapshot) (s : State) :
    KeepsBut [.pe, .notices] s (queryDone b n step hw link q s) :=
  ((keeps_modPe s _).mono (by decide)).trans ((keeps_raise _ _ _).mono (by decide))

theorem rearm_core (b : Nat) (k : Link) : (rearm b k).core = k.core := by unfold rearm; split <;> rfl
theorem rearm_tallyFields (b : Nat) (k : Link) : (rearm b k).tallyFields = k.tallyFields := by unfold rearm; split <;> rfl

/-- The parts that the completion of a sweep may change (R66). -/
def sweepParts : List Part := [.bands, .sweepFlags, .rescues, .notices]

theorem keeps_sweepDone (b : Nat) (q : Snapshot) (s : State) : KeepsBut sweepParts s (sweepDone b q s) := by
  have h : KeepsBut sweepParts s
      (raise .bandSpares b (s.modBand b fun k => { k with spares := sweepList b q s, sparesFresh := true })) :=
    ((keeps_modBand s b _).mono (by decide)).trans ((keeps_raise _ _ _).mono (by decide))
  exact .ite (.refl _ _) (.ite ((keeps_modBand s b _).mono (by decide))
    (.ite h (h.trans ((keeps_mapLinks_rescue _ _ (rearm_core b) (rearm_tallyFields b)).mono (by decide)))))

theorem keeps_setRescue (l : Nat) (v : Rescue) (s : State) : KeepsBut [.rescues] s (s.modLink l fun k => { k with rescue := v }) :=
  keeps_modLink_rescue s l _ (fun _ => rfl) fun _ => rfl

theorem keeps_pickDone (l : Nat) (q : Snapshot) (s : State) : KeepsBut eventParts s (pickDone l q s) := by
  have hb (b : Nat) (f : Band → Band) (t : State) : KeepsBut eventParts t (t.modBand b f) := (keeps_modBand t b f).mono (by decide)
  have hr (r : RescueResult) (t : State) : KeepsBut eventParts t (setRescueResult l r t) := (keeps_modPe t _).mono (by decide)
  have hl (v : Rescue) (t : State) : KeepsBut eventParts t (t.modLink l fun k => { k with rescue := v }) :=
    (keeps_setRescue l v t).mono (by decide)
  have hn (t : State) : KeepsBut eventParts t (raise .linkRescue l t) := (keeps_raise t _ _).mono (by decide)
  unfold pickDone
  refine .ite (hb _ _ s) ?_
  dsimp only
  split
  · exact (((hb _ _ s).trans (hr _ _)).trans (hl _ _)).trans (hn _)
  · exact .ite (((hb _ _ s).trans (hr _ _)).trans (hl _ _))
      (((((hb _ _ s).trans (hr _ _)).trans ((keeps_startRetune _ _ _ _ _).mono (by decide))).trans (hb _ _ _)).trans (hn _))

theorem keeps_rescueDone (l attempt : Nat) (q : Snapshot) (s : State) : KeepsBut eventParts s (rescueDone l attempt q s) := by
  have hq (t : State) : KeepsBut eventParts t (leaveQueue t) := (keeps_leaveQueue t).mono (by decide)
  have hl : KeepsBut eventParts s (raise .linkRescue l (s.modLink l fun k => { k with rescue := .exhausted })) :=
    ((keeps_setRescue l .exhausted s).mono (by decide)).trans ((keeps_raise _ _ _).mono (by decide))
  exact .ite (.ite (hq s) (.ite ((hq s).trans ((keeps_joinQueue _ _).mono (by decide))) (hl.trans (hq _))))
    ((keeps_pickDone l q s).trans (hq _))

/-- The completion of a job is an event within its frame. -/
theorem keeps_completion (s : State) : KeepsBut eventParts s (completeAssign s) ∧ KeepsBut eventParts s (completePlan s) ∧
    KeepsBut eventParts s (completeQuery s) ∧ KeepsBut eventParts s (completeSweep s) ∧ KeepsBut eventParts s (completePick s) ∧
      KeepsBut eventParts s (completeDrain s) := by
  have hq (t : State) : KeepsBut eventParts t (leaveQueue t) := (keeps_leaveQueue t).mono (by decide)
  have ha (t : State) : KeepsBut eventParts t (after t) := (keeps_after t).mono (by decide)
  refine ⟨?_, ?_, ?_, ?_, ?_, ?_⟩
  · unfold completeAssign; split
    · exact ((keeps_assignDone _ _ _ _ s).trans (hq _)).trans (keeps_finish _ _)
    · exact .refl _ _
  · unfold completePlan; split
    · exact (((keeps_planDone _ s).mono (by decide)).trans (hq _)).trans (ha _)
    · exact .refl _ _
  · unfold completeQuery; split
    · exact (((keeps_queryDone _ _ _ _ _ _ s).mono (by decide)).trans (hq _)).trans (ha _)
    · exact .refl _ _
  · unfold completeSweep; split
    · exact (((keeps_sweepDone _ _ s).mono (by decide)).trans (hq _)).trans (ha _)
    · exact .refl _ _
  · unfold completePick; split
    · exact (keeps_rescueDone _ _ _ s).trans (keeps_finish _ _)
    · exact .refl _ _
  · unfold completeDrain; split
    · exact ((keeps_modPe s _).mono (by decide)).trans (ha _)
    all_goals exact .refl _ _

/-! ## The shapes of commands -/

/-- A request answers a next state, whose frame holds those of its owner and of what follows it. -/
theorem reaches_request {α : Type} {code : Nat} {read : List Byte → Option α} {act : α → State → Answered}
    {rest : State → State → State} {ps qs rs : List Part} (hact : ∀ a s, Answers ps s (act a s))
    (hrest : ∀ s0 s1, KeepsBut qs s1 (rest s0 s1)) (hp : ps ⊆ rs) (hq : qs ⊆ rs) (hb : boundaryParts ⊆ rs) (s : State) :
    ∃ t, request code read act rest s = .next t ∧ KeepsBut rs s t := by
  have hs : KeepsBut rs s (settleOwed s) := (keeps_settleOwed s).mono hb
  have hmp : [.mp] ⊆ rs := List.Subset.trans (by decide : [.mp] ⊆ boundaryParts) hb
  have hsend : sendParts ⊆ rs := List.Subset.trans (by decide : sendParts ⊆ boundaryParts) hb
  unfold request
  dsimp only
  split
  · exact ⟨_, rfl, hs⟩
  · rename_i f _
    have ha : Answers rs (dropHead (settleOwed s)) (answer f read act (dropHead (settleOwed s))) := by
      unfold answer
      split
      · exact .refuse _
      · exact (hact _ _).mono hp
    have h := (hs.trans ((keeps_dropHead _).mono hmp)).trans
      (KeepsBut.trans ha ((keeps_putReply f (answer f read act (dropHead (settleOwed s))).2 _).mono hmp))
    exact ⟨_, rfl, h.trans (.ite ((hrest _ _).mono hq) ((keeps_kick _).mono hsend))⟩

theorem keeps_afterRead (s0 s1 : State) : KeepsBut sendParts s1 (afterRead s0 s1) := keeps_kick s1
theorem keeps_afterJob (s0 s1 : State) : KeepsBut afterParts s1 (afterJob s0 s1) := keeps_after s1

/-- An event comes after the steps owed, within its frame. -/
theorem reaches_event {act : State → State} {ps rs : List Part} (hact : ∀ s, KeepsBut ps s (act s)) (hp : ps ⊆ rs)
    (hb : boundaryParts ⊆ rs) (s : State) : ∃ t, event act s = .next t ∧ KeepsBut rs s t :=
  ⟨_, rfl, ((keeps_settleOwed s).mono hb).trans ((hact _).mono hp)⟩

theorem reaches_dueStep {rs : List Part} (o : Owed) (hb : boundaryParts ⊆ rs) (s : State) :
    ∃ t, dueStep o s = .next t ∧ KeepsBut rs s t := ⟨_, rfl, (keeps_takeOwed o s).mono hb⟩

/-- Every part but the timebase and the commands that wait. -/
def stillParts : List Part :=
  [.mode, .bands, .sweepFlags, .links, .rescues, .tallies, .pe, .plan, .units, .orderIds, .bus, .tr, .lamps, .lampZones, .tk, .mp,
   .notices, .owed]

/-- Every command but COLD_RESET answers a next state; it leaves the commands that wait, and the timebase unless it is one of the
five that may move it. -/
theorem exec_reaches (c : Instr) (s : State) (hc : ∀ straps, c ≠ .coldReset straps) :
    ∃ t, exec c s = .next t ∧ KeepsBut (if movesTimebase c then .ftb :: stillParts else stillParts) s t := by
  have hb : boundaryParts ⊆ stillParts := by decide
  have ht : boundaryParts ⊆ .ftb :: stillParts := by decide
  have hafter (t : State) : KeepsBut afterParts t (after t) := keeps_after t
  cases c with
  | coldReset straps => exact absurd rfl (hc straps)
  | refPulse t k => exact reaches_event (ps := clockParts) (fun s => (keeps_pulseAt t k s).trans ((hafter _).mono (by decide))) (by decide) ht s
  | internalTimerDue k => exact reaches_event (ps := clockParts) (fun s => (keeps_timerDue k s).trans ((hafter _).mono (by decide))) (by decide) ht s
  | pulseWatchdogExpiry k =>
    exact reaches_event (ps := clockParts) (fun s => (keeps_watchdogExpires k s).trans ((hafter _).mono (by decide))) (by decide) ht s
  | tbConfigure t => exact reaches_request (answers_configureTimebase t) keeps_afterJob (by decide) (by decide) ht s
  | fadeTimerLimit | silenceExpiry | acquireDeadline | retuneDeadline | revertDeadline | vacateEffective | orderExpiry | tallyRetry
  | lampRetry | tapDeadline | callPulseEnd | scanAssignReissue | muteReissue => exact reaches_dueStep _ hb s
  | pwmPeriodStart m => exact reaches_event (fun s => keeps_modLamp s m _) (by decide) hb s
  | edge n h => exact reaches_event (fun s => (keeps_sampleLine n h s).trans ((keeps_kick _).mono (by decide))) (by decide) hb s
  | frameGood bs | frameFailed bs => exact reaches_event (keeps_receiveBytes bs) (by decide) hb s
  | frameAbandoned => exact reaches_event (fun s => keeps_modMp s _) (by decide) hb s
  | transmitPathFree => exact reaches_event (fun s => (keeps_mpRecord _ s).trans (keeps_kick _)) (by decide) hb s
  | unknownRequest =>
    have hs : KeepsBut stillParts s (settleOwed s) := (keeps_settleOwed s).mono hb
    show ∃ t, execUnknownRequest s = .next t ∧ KeepsBut stillParts s t
    unfold execUnknownRequest
    dsimp only
    split
    · exact ⟨_, rfl, hs⟩
    · exact ⟨_, rfl, ((hs.trans ((keeps_dropHead _).mono (by decide))).trans ((keeps_putReply _ _ _).mono (by decide))).trans
        ((keeps_kick _).mono (by decide))⟩
  | tbStatus => exact reaches_request (ps := []) (fun _ s => .read) keeps_afterRead (by decide) (by decide) hb s
  | bandDefine => exact reaches_request answers_defineBand keeps_afterJob (by decide) (by decide) hb s
  | bandGuards => exact reaches_request answers_guardBand keeps_afterJob (by decide) (by decide) hb s
  | exclAdd => exact reaches_request (answers_changeExclusions _) keeps_afterJob (by decide) (by decide) hb s
  | exclRemove => exact reaches_request (answers_changeExclusions _) keeps_afterJob (by decide) (by decide) hb s
  | bandFreeze => exact reaches_request answers_freezeBand keeps_afterJob (by decide) (by decide) hb s
  | bandUnfreeze => exact reaches_request answers_unfreezeBand keeps_afterJob (by decide) (by decide) hb s
  | bandRead => exact reaches_request answers_readBand keeps_afterRead (by decide) (by decide) hb s
  | scanRead => exact reaches_request answers_readScan keeps_afterRead (by decide) (by decide) hb s
  | checkCandidate => exact reaches_request answers_checkCandidate keeps_afterJob (by decide) (by decide) hb s
  | spareSweep => exact reaches_request answers_askSweep keeps_afterJob (by decide) (by decide) hb s
  | linkDefine => exact reaches_request answers_defineLink keeps_finish (by decide) (by decide) hb s
  | linkAssign => exact reaches_request answers_assignLink keeps_afterJob (by decide) (by decide) hb s
  | linkRelease => exact reaches_request answers_releaseLink keeps_finish (by decide) (by decide) hb s
  | linkPark => exact reaches_request answers_parkLink keeps_finish (by decide) (by decide) hb s
  | linkUnpark => exact reaches_request answers_unparkLink keeps_finish (by decide) (by decide) hb s
  | linkForceSilence => exact reaches_request answers_forceSilence keeps_finish (by decide) (by decide) hb s
  | linkRead => exact reaches_request answers_readLink keeps_afterRead (by decide) (by decide) hb s
  | planOpen => exact reaches_request answers_openPlan keeps_afterJob (by decide) (by decide) hb s
  | planEntry => exact reaches_request answers_enterPlan keeps_afterJob (by decide) (by decide) hb s
  | planClose => exact reaches_request answers_closePlan keeps_afterJob (by decide) (by decide) hb s
  | planLaunch => exact reaches_request answers_launchPlan keeps_finish (by decide) (by decide) hb s
  | planAbandon => exact reaches_request answers_abandonPlan keeps_afterJob (by decide) (by decide) hb s
  | planRead => exact reaches_request answers_readPlan keeps_afterRead (by decide) (by decide) hb s
  | tallyInputConfigure => exact reaches_request answers_configureInputs keeps_afterRead (by decide) (by decide) hb s
  | tallyMapSet => exact reaches_request answers_setMap keeps_afterRead (by decide) (by decide) hb s
  | tallyVirtual => exact reaches_request answers_setVirtual keeps_afterRead (by decide) (by decide) hb s
  | tallyRead => exact reaches_request answers_readTally keeps_afterRead (by decide) (by decide) hb s
  | zoneInterlock => exact reaches_request answers_setInterlock keeps_finish (by decide) (by decide) hb s
  | lampConfigure => exact reaches_request answers_configureLamp keeps_afterRead (by decide) (by decide) hb s
  | lampRead => exact reaches_request answers_readLamp keeps_afterRead (by decide) (by decide) hb s
  | stationDefine => exact reaches_request answers_defineStation keeps_afterRead (by decide) (by decide) hb s
  | groupDefine => exact reaches_request answers_defineGroup keeps_afterRead (by decide) (by decide) hb s
  | keyEvent => exact reaches_request answers_keyRequest keeps_finish (by decide) (by decide) hb s
  | talkRead => exact reaches_request answers_readTalk keeps_afterRead (by decide) (by decide) hb s
  | start => exact reaches_request answers_startPart keeps_afterJob (by decide) (by decide) hb s
  | stop k => exact reaches_request (answers_stopPart k) keeps_afterJob (by decide) (by decide) hb s
  | restart => exact reaches_request answers_restartPart keeps_afterJob (by decide) (by decide) hb s
  | status => exact reaches_request answers_readStatus keeps_afterRead (by decide) (by decide) hb s
  | identify => exact reaches_request answers_identifyPart keeps_afterRead (by decide) (by decide) hb s
  | noticeEnable => exact reaches_request answers_enableNotices keeps_afterRead (by decide) (by decide) hb s
  | noticeFetch => exact reaches_request answers_fetchNotices keeps_afterRead (by decide) (by decide) hb s
  | report bs =>
    show ∃ t, execReport bs s = .next t ∧ KeepsBut stillParts s t
    unfold execReport
    split
    · exact ⟨_, rfl, .refl _ _⟩
    · exact ⟨_, rfl, (keeps_acceptReport _ s).mono hb⟩
  | scanData bs =>
    show ∃ t, execScanData bs s = .next t ∧ KeepsBut stillParts s t
    refine reaches_event (ps := carrierParts ++ afterParts) (fun s => ?_) (by decide) hb s
    split
    · exact .refl _ _
    · exact ((keeps_takeScanData _ s).mono (by decide)).trans ((hafter _).mono (by decide))
  | matrixReport bs =>
    show ∃ t, execMatrixReport bs s = .next t ∧ KeepsBut stillParts s t
    refine reaches_event (ps := eventParts) (fun s => ?_) (by decide) hb s
    split
    · exact .refl _ _
    · exact ((keeps_takeMatrixReport _ s).mono (by decide)).trans (keeps_finish s _)
  | assignCheckComplete => exact reaches_event (fun s => (keeps_completion s).1) (by decide) hb s
  | planCheckComplete => exact reaches_event (fun s => (keeps_completion s).2.1) (by decide) hb s
  | queryComplete => exact reaches_event (fun s => (keeps_completion s).2.2.1) (by decide) hb s
  | sweepComplete => exact reaches_event (fun s => (keeps_completion s).2.2.2.1) (by decide) hb s
  | rescuePickComplete => exact reaches_event (fun s => (keeps_completion s).2.2.2.2.1) (by decide) hb s
  | drainComplete => exact reaches_event (fun s => (keeps_completion s).2.2.2.2.2) (by decide) hb s

/-! ## The queue of commands -/

/-- Settles O1. -/
theorem stepTakesFront : Obligations.StepTakesFront :=
  ⟨fun s c rest h => by simp [step, h], fun s h => by simp [step, h]⟩

/-- Settles O2: cold reset keeps the queue as it is written, and every other command by its frame. -/
theorem everyCommandCompletes : Obligations.EveryCommandCompletes := by
  intro c s
  by_cases hc : ∃ straps, c = .coldReset straps
  · obtain ⟨straps, rfl⟩ := hc
    exact ⟨_, rfl, rfl⟩
  · obtain ⟨t, ht, hkeeps⟩ := exec_reaches c s fun straps h => hc ⟨straps, h⟩
    exact ⟨t, ht, hkeeps .pending (by split <;> decide)⟩

/-! ## The steps of a boundary come first -/

theorem settleOwed_settleOwed (s : State) : settleOwed (settleOwed s) = settleOwed s := settleOwed_of_nil _ rfl

theorem event_settleOwed (act : State → State) (s : State) : event act s = event act (settleOwed s) := by
  simp [event, settleOwed_settleOwed]

theorem request_settleOwed {α : Type} (code : Nat) (read : List Byte → Option α) (act : α → State → Answered)
    (rest : State → State → State) (s : State) : request code read act rest s = request code read act rest (settleOwed s) := by
  simp [request, settleOwed_settleOwed]

/-- Settles O3: an event and a request settle what is owed before they act, and settling twice is settling once. -/
theorem boundaryStepsComeFirst : Obligations.BoundaryStepsComeFirst := by
  intro c s hc
  refine ⟨rfl, ?_⟩
  cases c
  case unknownRequest =>
    show execUnknownRequest s = execUnknownRequest (settleOwed s)
    simp [execUnknownRequest, settleOwed_settleOwed]
  case refPulse t k => exact event_settleOwed (fun s => after (pulseAt t k s)) s
  case internalTimerDue k => exact event_settleOwed (fun s => after (timerDue k s)) s
  case pulseWatchdogExpiry k => exact event_settleOwed (fun s => after (watchdogExpires k s)) s
  case pwmPeriodStart m => exact event_settleOwed (fun s => s.modLamp m Lamp.load) s
  case edge n high => exact event_settleOwed (fun s => kick (sampleLine n high s)) s
  case frameAbandoned => exact event_settleOwed (fun s => s.modMp fun m => { m with rx := [] }) s
  case transmitPathFree => exact event_settleOwed (fun s => kick (s.modMp fun m => { m with sending := none })) s
  case scanData bs =>
    exact event_settleOwed (fun s => match readScanData bs with
      | none => s
      | some x => after (takeScanData x s)) s
  case matrixReport bs =>
    exact event_settleOwed (fun s => match readMatrixReport bs with
      | none => s
      | some acks => finish s (takeMatrixReport acks s)) s
  all_goals first
    | exact absurd hc Bool.false_ne_true
    | exact event_settleOwed _ s
    | exact request_settleOwed _ _ _ _ s

end Sys2Proof.Machine

/-! What an event is made of: every operation of the part is a chain of elementary changes, each of one block and within its bounds.
An invariant that every elementary change keeps is then kept by every step. -/

namespace Sys2Proof.Machine

-- One theorem at a time: all at once, their threads together outgrow the memory limit of the check.
set_option Elab.async false

/-! ## Elementary changes -/

/-- The tables of the Tally Resolver have their sizes. -/
def Tr.shaped (r : Tr) : Prop :=
  r.lines.length = Config.inputs ∧ r.virtuals.length = Config.inputs ∧ r.map.length = Config.mapEntries
    ∧ r.linkTally.length = Config.links ∧ r.lampTally.length = Config.lamps ∧ r.zones.length = Config.zones

/-- The tables of the Plan Evaluator keep their sizes, and its queue its capacity. -/
structure Pe.Keeps (e e' : Pe) : Prop where
  queue : e.queue.length ≤ Config.jobs → e'.queue.length ≤ Config.jobs
  assign : e'.assign.length = e.assign.length
  rescue : e'.rescue.length = e.rescue.length
  query : e'.query.length = e.query.length

/-- The route table in itself, as `State.routesSound` has it. -/
def Tk.sound (k : Tk) : Prop :=
  k.routes.length ≤ Config.routes ∧ (k.routes.map fun r => (r.source, r.destination)).Nodup
    ∧ (∀ r ∈ k.routes, 1 ≤ r.holders ∧ (liveTo r.destination k.routes).length ≤ Config.slots)
    ∧ ∀ x ∈ k.stations, x.priority ≤ 7

/-- The tables of the Talk Router keep their sizes, its break list its capacity and its routes their bounds. -/
structure Tk.Keeps (k k' : Tk) : Prop where
  stations : k'.stations.length = k.stations.length
  groups : k'.groups.length = k.groups.length
  breaks : k.breaks.length ≤ Config.breaks → k'.breaks.length ≤ Config.breaks
  sound : k.sound → k'.sound

/-- A unit gives up orders alone. -/
structure UnitRec.Drops (u u' : UnitRec) : Prop where
  next : u'.nextNumber = u.nextNumber
  outstanding : u'.outstanding.Sublist u.outstanding
  waiting : u'.waiting.Sublist u.waiting

/-- A tally order of a link is one that a link had, or one whose id has been taken. -/
def State.knowsOrder (s : State) (k : Link) : Prop :=
  k.tallyOrder = none ∨ (∃ k' ∈ s.links, k'.tallyOrder = k.tallyOrder) ∨ ∃ x, k.tallyOrder = some x ∧ x.id < s.nextOrderId

/-- What of a station bears on the holders of routes (R171): whether it is defined, and what its keys cover and whether they talk. -/
def Station.talk (x : Station) : Option StationKind × List (Nat × KeyTarget × Bool) :=
  (x.kind, x.keys.map fun k => (k.number, k.target, k.state.talking))

/-- What of a route its keys make: its pair and its holders. -/
def Route.held (r : Route) : Nat × Nat × Nat := (r.source, r.destination, r.holders)

/-- No key talks or stops, and no route gains or loses a holder. -/
structure Tk.Held (k k' : Tk) : Prop where
  groups : k'.groups = k.groups
  stations : k'.stations.map Station.talk = k.stations.map Station.talk
  routes : k'.routes.map Route.held = k.routes.map Route.held

/-- How far changes reach: links may change in more than their tally fields and rescue status, or keys, their holders and the mode may
change. -/
structure Reach where
  links : Bool
  keys : Bool

/-- Changes that leave the links but mildly changed. -/
def Reach.narrow : Reach := ⟨false, true⟩

/-- Every change. -/
def Reach.full : Reach := ⟨true, true⟩

/-- A change of a link's record in its tally fields and its rescue status alone, which leaves a sound record sound. -/
structure Link.Mild (k k' : Link) : Prop where
  core : k'.core = k.core
  rescue : k'.rescue ≠ .none → k.rescue ≠ .none ∨ k.state = .fading
  tally : k'.delivered.isSome = true ∨ k'.tallyOrder.isSome = true →
    (k.delivered.isSome = true ∨ k.tallyOrder.isSome = true) ∨ k.cfg.kind = some .camera

/-- One elementary change inside an event: of one block, within its bounds; notices are raised alone. It reaches as far as `wide`
says. -/
inductive Change (wide : Reach) (s : State) : State → Prop
  | raise (c : Cause) (o : Nat) : Change wide s (raise c o s)
  | mode (hk : wide.keys = true) (m : Mode) : Change wide s { s with mode := m }
  | ftb (k : Ftb) (h : 2 ≤ s.ftb.lead ∧ s.ftb.lead ≤ 50 → 2 ≤ k.lead ∧ k.lead ≤ 50) : Change wide s { s with ftb := k }
  | bands (bs : List Band) (hlen : bs.length = s.bands.length)
      (h : (∀ k ∈ s.bands, k.bounded) → ∀ k ∈ bs, k.bounded) : Change wide s { s with bands := bs }
  | mild (ks : List Link) (hm : List.Forall₂ Link.Mild s.links ks) (h : ∀ k ∈ ks, s.knowsOrder k) : Change wide s { s with links := ks }
  | links (hw : wide.links = true) (ks : List Link) (hlen : ks.length = s.links.length) (h : ∀ k ∈ ks, s.knowsOrder k) : Change wide s { s with links := ks }
  | pe (e : Pe) (h : s.pe.Keeps e) : Change wide s { s with pe := e }
  | plan (p : Plan) (h : s.plan.entries.length ≤ Config.planEntries → p.entries.length ≤ Config.planEntries) :
      Change wide s { s with plan := p }
  | issue (a : Nat) (body : OrderBody) (i : Issuer) : Change wide s (issue a body i s).state
  | free (a n : Nat) (f : UnitRec → UnitRec) (h : ∀ u : UnitRec, u.Drops (f u))
      (hn : (f (s.unit a)).outstanding.length + n ≤ (s.unit a).outstanding.length) : Change wide s (grant a n (s.modUnit a f))
  | drop (a : Nat) (f : UnitRec → UnitRec) (h : ∀ u : UnitRec, u.Drops (f u)) : Change wide s (s.modUnit a f)
  | bus (b : List Packet) : Change wide s { s with bus := b }
  | tr (r : Tr) (h : s.tr.shaped → r.shaped) : Change wide s { s with tr := r }
  | lamps (ls : List Lamp) (h : ls.length = s.lamps.length) : Change wide s { s with lamps := ls }
  | lampZones (zs : List Bool) (h : zs.length = s.tr.zones.length) : Change wide s { s with lampZones := zs }
  | tk (k : Tk) (h : s.tk.Keeps k) (hz : k.zones.length = s.tk.zones.length ∨ k.zones.length = s.tr.zones.length)
      (hk : wide.keys = true ∨ s.tk.Held k) : Change wide s { s with tk := k }
  | owed (os : List Owed) : Change wide s { s with owed := os }

/-- A chain of elementary changes. -/
def Acts (wide : Reach) (s t : State) : Prop := Relation.ReflTransGen (Change wide) s t

/-! ## Chains compose -/

namespace Acts

variable {wide : Reach} {s t u : State}

theorem refl (s : State) : Acts wide s s := Relation.ReflTransGen.refl
theorem trans (h : Acts wide s t) (k : Acts wide t u) : Acts wide s u := Relation.ReflTransGen.trans h k
theorem one (h : Change wide s t) : Acts wide s t := Relation.ReflTransGen.single h

theorem ite {c : Prop} [Decidable c] (h : Acts wide s t) (k : Acts wide s u) : Acts wide s (if c then t else u) := by
  split
  · exact h
  · exact k

theorem foldl {α : Type} (f : State → α → State) (h : ∀ s x, Acts wide s (f s x)) (xs : List α) (s : State) :
    Acts wide s (xs.foldl f s) := by
  induction xs generalizing s with
  | nil => exact refl s
  | cons x xs ih => exact (h s x).trans (ih _)

theorem foldAct {α : Type} (f : Acting → α → Acting) (h : ∀ x a, Acts wide x.1 (f x a).1) (as : List α) (x : Acting) :
    Acts wide x.1 (as.foldl f x).1 := by
  induction as generalizing x with
  | nil => exact refl x.1
  | cons a as ih => exact (h x a).trans (ih _)

/-- A property that every elementary change keeps is kept by a chain of them. -/
theorem keeps {P : State → Prop} (hP : ∀ s t, Change wide s t → P s → P t) (h : Acts wide s t) (hs : P s) : P t := by
  induction h with
  | refl => exact hs
  | tail _ hc ih => exact hP _ _ hc ih

end Acts

/-! ## Updates of one record -/

section updates
variable {wide : Reach} {keyed : Bool} (s : State)

theorem mem_modSlot {α : Type} {f : α → α} {xs : List α} {n : Nat} {y : α} (h : y ∈ modSlot f xs n) :
    y ∈ xs ∨ ∃ x ∈ xs, y = f x := by
  cases n with
  | zero => exact .inl h
  | succ k =>
    obtain ⟨i, hi, rfl⟩ := List.getElem_of_mem h
    have hi' : i < xs.length := by simpa [modSlot] using hi
    simp only [modSlot, List.getElem_modify]
    split
    · exact .inr ⟨xs[i], List.getElem_mem hi', rfl⟩
    · exact .inl (List.getElem_mem hi')

theorem acts_raise (c : Cause) (o : Nat) : Acts wide s (raise c o s) := .one (.raise c o)

theorem acts_modFtb (f : Ftb → Ftb) (h : ∀ k, (f k).lead = k.lead := by exact fun _ => rfl) : Acts wide s (s.modFtb f) :=
  .one (.ftb (f s.ftb) (by rw [h]; exact id))

theorem acts_modBand (b : Nat) (f : Band → Band) (h : ∀ k, Band.bounded k → Band.bounded (f k)) : Acts wide s (s.modBand b f) :=
  .one (.bands (modSlot f s.bands b) (modSlot_length _ _ _) fun hs k hk => by
    obtain hk | ⟨k', hk', rfl⟩ := mem_modSlot hk
    · exact hs k hk
    · exact h k' (hs k' hk'))

/-- A band's flags and counters do not bear on its bounds. -/
theorem acts_bandFlags (b : Nat) (f : Band → Band)
    (h : ∀ k : Band, (f k).exclusions = k.exclusions ∧ (f k).spares.length ≤ k.spares.length ∧ (f k).defined = k.defined ∧
      (f k).bins.length = k.bins.length ∧ (f k).p.binCount = k.p.binCount) : Acts wide s (s.modBand b f) :=
  acts_modBand s b f fun k hk => by
    obtain ⟨hx, hp, hd, hb, hc⟩ := h k
    obtain ⟨h1, h2, h3⟩ := hk
    exact ⟨by rw [hx]; exact h1, hp.trans h2, by rw [hd, hb, hc]; exact h3⟩

/-- A link's record changes in all but its tally order, or loses it. -/
theorem acts_modLink (l : Nat) (f : Link → Link)
    (h : ∀ k, (f k).tallyOrder = k.tallyOrder ∨ (f k).tallyOrder = none := by exact fun _ => .inl rfl) : Acts ⟨true, keyed⟩ s (s.modLink l f) :=
  .one (.links rfl (modSlot f s.links l) (modSlot_length _ _ _) fun k hk => by
    obtain hk | ⟨k', hk', rfl⟩ := mem_modSlot hk
    · exact .inr (.inl ⟨k, hk, rfl⟩)
    · obtain h | h := h k'
      · exact .inr (.inl ⟨k', hk', h.symm⟩)
      · exact .inl h)

theorem acts_mapLinks (f : Link → Link)
    (h : ∀ k, (f k).tallyOrder = k.tallyOrder := by exact fun _ => rfl) : Acts ⟨true, keyed⟩ s { s with links := s.links.map f } :=
  .one (.links rfl _ (List.length_map _) fun k hk => by
    obtain ⟨k', hk', rfl⟩ := List.mem_map.1 hk
    exact .inr (.inl ⟨k', hk', (h k').symm⟩))

theorem forall₂_modSlot {α : Type} {R : α → α → Prop} (hrefl : ∀ x, R x x) {d : α} {f : α → α} {xs : List α} {n : Nat}
    (h : R (slot d xs n) (f (slot d xs n))) : List.Forall₂ R xs (modSlot f xs n) := by
  refine List.forall₂_iff_get.2 ⟨(modSlot_length _ _ _).symm, fun i hi hi' => ?_⟩
  cases n with
  | zero => exact hrefl _
  | succ k =>
    simp only [modSlot, List.get_eq_getElem, List.getElem_modify]
    split
    · rename_i hik
      subst hik
      rwa [slot, List.getD_eq_getElem _ _ hi] at h
    · exact hrefl _

theorem Link.Mild.refl (k : Link) : k.Mild k := ⟨rfl, .inl, .inl⟩

/-- A link's record changes mildly, and takes over no order that no link had or no id stands for. -/
theorem acts_mildLink (l : Nat) (f : Link → Link) (hm : (s.link l).Mild (f (s.link l)))
    (h : ∀ k, (f k).tallyOrder = k.tallyOrder ∨ (f k).tallyOrder = none ∨
      ∃ x, (f k).tallyOrder = some x ∧ x.id < s.nextOrderId := by exact fun _ => .inl rfl) : Acts wide s (s.modLink l f) :=
  .one (.mild (modSlot f s.links l) (forall₂_modSlot Link.Mild.refl hm) fun k hk => by
    obtain hk | ⟨k', hk', rfl⟩ := mem_modSlot hk
    · exact .inr (.inl ⟨k, hk, rfl⟩)
    · obtain h | h | h := h k'
      · exact .inr (.inl ⟨k', hk', h.symm⟩)
      · exact .inl h
      · exact .inr (.inr h))

theorem acts_mildLinks (f : Link → Link) (hm : ∀ k : Link, k.Mild (f k)) (h : ∀ k, (f k).tallyOrder = k.tallyOrder := by exact fun _ => rfl) :
    Acts wide s { s with links := s.links.map f } :=
  .one (.mild _ (List.forall₂_map_right_iff.2 (List.forall₂_same.2 fun k _ => hm k)) fun k hk => by
    obtain ⟨k', hk', rfl⟩ := List.mem_map.1 hk
    exact .inr (.inl ⟨k', hk', (h k').symm⟩))

theorem acts_modPlan (f : Plan → Plan) (h : ∀ p, (f p).entries.length ≤ p.entries.length := by exact fun _ => le_rfl) :
    Acts wide s (s.modPlan f) := .one (.plan (f s.plan) (h s.plan).trans)

theorem acts_modPe (f : Pe → Pe) (h : s.pe.Keeps (f s.pe)) : Acts wide s (s.modPe f) := .one (.pe (f s.pe) h)

theorem acts_modTr (f : Tr → Tr) (h : s.tr.shaped → (f s.tr).shaped) : Acts wide s (s.modTr f) := .one (.tr (f s.tr) h)

theorem acts_modLamp (m : Nat) (f : Lamp → Lamp) : Acts wide s (s.modLamp m f) := .one (.lamps _ (modSlot_length _ _ _))

theorem acts_modTk (f : Tk → Tk) (h : s.tk.Keeps (f s.tk)) (hz : (f s.tk).zones.length = s.tk.zones.length := by exact rfl)
    (hk : wide.keys = true ∨ s.tk.Held (f s.tk) := by exact .inr ⟨rfl, rfl, rfl⟩) :
    Acts wide s (s.modTk f) := .one (.tk (f s.tk) h (.inl hz) hk)

theorem talk_modSlot {f : Station → Station} (h : ∀ x, (f x).talk = x.talk) (xs : List Station) (t : Nat) :
    (modSlot f xs t).map Station.talk = xs.map Station.talk := map_modSlot _ _ _ _ h

/-- A station's record changes in all but its priority. -/
theorem acts_setStationBut (t : Nat) (f : Station → Station) (h : ∀ x, (f x).priority = x.priority)
    (hk : wide.keys = true ∨ ∀ x, (f x).talk = x.talk) : Acts wide s (s.modStation t f) :=
  acts_modTk s _
    { stations := modSlot_length _ _ _, groups := rfl, breaks := id,
      sound := fun ⟨hlen, hnodup, hroutes, hpri⟩ => ⟨hlen, hnodup, hroutes, fun x hx => by
        obtain hx | ⟨y, hy, rfl⟩ := mem_modSlot hx
        · exact hpri x hx
        · exact (h y).trans_le (hpri y hy)⟩ } rfl
    (hk.imp_right fun h => ⟨rfl, talk_modSlot h _ _, rfl⟩)

/-- A station's record changes in neither its priority nor its keys. -/
theorem acts_modStation (t : Nat) (f : Station → Station) (h : ∀ x, (f x).priority = x.priority := by exact fun _ => rfl)
    (hk : ∀ x, (f x).talk = x.talk := by exact fun _ => rfl) : Acts wide s (s.modStation t f) :=
  acts_setStationBut s t f h (.inr hk)

/-- The routes change in what their bounds do not bear on. -/
theorem Tk.keeps_of_routes {k k' : Tk} (hst : k'.stations = k.stations) (hgr : k'.groups = k.groups)
    (hbr : k.breaks.length ≤ Config.breaks → k'.breaks.length ≤ Config.breaks) (hr : k.sound → k'.sound) : k.Keeps k' :=
  ⟨by rw [hst], by rw [hgr], hbr, hr⟩

theorem acts_breaks (bs : List Break) (h : s.tk.breaks.length ≤ Config.breaks → bs.length ≤ Config.breaks) :
    Acts wide s (s.modTk fun k => { k with breaks := bs }) :=
  acts_modTk s _ (Tk.keeps_of_routes rfl rfl h id)

theorem acts_breaksMap (f : Break → Break) :
    Acts wide s (s.modTk fun k => { k with breaks := k.breaks.map f }) :=
  acts_breaks s (s.tk.breaks.map f) (by simp)

theorem acts_breaksFilter (f : Break → Bool) :
    Acts wide s (s.modTk fun k => { k with breaks := k.breaks.filter f }) :=
  acts_breaks s (s.tk.breaks.filter f) (List.length_filter_le _ _).trans

end updates

/-! ## Changes of the route table that keep its bounds (R170, R171, R174) -/

/-- A change of one route that keeps its pair and its holders, and makes it LIVE nowhere. -/
structure Route.Tame (f : Route → Route) : Prop where
  source : ∀ r, (f r).source = r.source
  destination : ∀ r, (f r).destination = r.destination
  holders : ∀ r, r.holders ≤ (f r).holders
  live : ∀ r, (f r).live = true → r.live = true

theorem liveTo_map_length {f : Route → Route} (hf : Route.Tame f) (d : Nat) (rs : List Route) :
    (liveTo d (rs.map f)).length ≤ (liveTo d rs).length := by
  simp only [liveTo, ← List.countP_eq_length_filter, List.countP_map]
  refine List.countP_mono_left fun r _ h => ?_
  simp only [Function.comp, hf.destination, Bool.and_eq_true, decide_eq_true_eq] at h ⊢
  exact ⟨h.1, hf.live r h.2⟩

/-- Tame changes of every route keep the bounds of the table. -/
theorem Tk.sound_mapRoutes {k : Tk} {f : Route → Route} (hf : Route.Tame f) (h : k.sound) :
    Tk.sound { k with routes := k.routes.map f } := by
  obtain ⟨hlen, hnodup, hroutes, hpri⟩ := h
  refine ⟨by simpa using hlen, ?_, fun r hr => ?_, hpri⟩
  · simpa [Function.comp_def, hf.source, hf.destination] using hnodup
  · obtain ⟨r', hr', rfl⟩ := List.mem_map.1 hr
    obtain ⟨hholds, hlive⟩ := hroutes r' hr'
    exact ⟨hholds.trans (hf.holders r'), by
      rw [hf.destination]; exact (liveTo_map_length hf _ _).trans hlive⟩

theorem liveTo_sublist {rs rs' : List Route} (h : rs'.Sublist rs) (d : Nat) :
    (liveTo d rs').length ≤ (liveTo d rs).length := (h.filter _).length_le

/-- Dropping routes keeps the bounds of the table. -/
theorem Tk.sound_sublist {k : Tk} {rs : List Route} (hs : rs.Sublist k.routes) (h : k.sound) : Tk.sound { k with routes := rs } := by
  obtain ⟨hlen, hnodup, hroutes, hpri⟩ := h
  refine ⟨hs.length_le.trans hlen, hnodup.sublist (hs.map _), fun r hr => ?_, hpri⟩
  obtain ⟨hholds, hlive⟩ := hroutes r (hs.subset hr)
  exact ⟨hholds, (liveTo_sublist hs _).trans hlive⟩

theorem Tk.held_of_routes {k : Tk} {rs : List Route} (h : rs.map Route.held = k.routes.map Route.held) : k.Held { k with routes := rs } :=
  ⟨rfl, rfl, h⟩

theorem held_map {f : Route → Route} (h : ∀ r, (f r).held = r.held) (rs : List Route) :
    (rs.map f).map Route.held = rs.map Route.held := by
  rw [List.map_map]
  exact List.map_congr_left fun r _ => h r

theorem acts_mapRoutes {wide : Reach} (s : State) {f : Route → Route} (hf : Route.Tame f)
    (hh : ∀ r, (f r).holders = r.holders := by exact fun _ => rfl) :
    Acts wide s (s.modTk fun k => { k with routes := k.routes.map f }) :=
  acts_modTk s _ (Tk.keeps_of_routes rfl rfl id (Tk.sound_mapRoutes hf)) rfl (.inr ⟨rfl, rfl, held_map (fun r => by
    rw [Route.held, hf.source, hf.destination, hh]; rfl) _⟩)

theorem Route.tame_ite {p : Route → Bool} {f : Route → Route} (hf : Route.Tame f) : Route.Tame fun r => if p r then f r else r :=
  ⟨fun r => by split; exacts [hf.source r, rfl], fun r => by split; exacts [hf.destination r, rfl],
    fun r => by split; exacts [hf.holders r, le_rfl], fun r => by split; exacts [hf.live r, id]⟩

theorem Route.tame_makes (m : Option Make) (o : Option Nat) : Route.Tame fun r => { r with make := m, makeOrder := o } :=
  ⟨fun _ => rfl, fun _ => rfl, fun _ => le_rfl, fun _ => id⟩

theorem Route.tame_make (m : Option Make) : Route.Tame fun r => { r with make := m } :=
  ⟨fun _ => rfl, fun _ => rfl, fun _ => le_rfl, fun _ => id⟩

@[simp] theorem State.suspend_source (s : State) (r : Route) : (s.suspend r).source = r.source := by
  unfold State.suspend; dsimp only; split <;> rfl
@[simp] theorem State.suspend_destination (s : State) (r : Route) : (s.suspend r).destination = r.destination := by
  unfold State.suspend; dsimp only; split <;> rfl
@[simp] theorem State.suspend_holders (s : State) (r : Route) : (s.suspend r).holders = r.holders := by
  unfold State.suspend; dsimp only; split <;> rfl
theorem State.live_of_suspend {s : State} {r : Route} (h : (s.suspend r).live = true) : r.live = true := by
  revert h; unfold State.suspend; dsimp only; split
  · exact fun h => absurd h Bool.false_ne_true
  · exact id

theorem tame_suspend (s : State) : Route.Tame s.suspend :=
  ⟨s.suspend_source, s.suspend_destination, fun r => (s.suspend_holders r).ge, fun _ => State.live_of_suspend⟩

/-! ### Settling (R174) -/

theorem bestRoute_mem {pr : Nat → Nat} {rs : List Route} {w : Route} (h : bestRoute pr rs = some w) : w ∈ rs := by
  cases rs with
  | nil => cases h
  | cons r rs =>
    cases Option.some.inj h
    clear h
    induction rs generalizing r with
    | nil => exact List.mem_singleton.2 rfl
    | cons x xs ih =>
      rw [List.foldl_cons]
      split
      · exact List.mem_cons_of_mem _ (ih x)
      · obtain h | h := List.mem_cons.1 (ih r)
        · rw [h]; exact List.mem_cons_self
        · exact List.mem_cons_of_mem _ (List.mem_cons_of_mem _ h)

theorem victimRoute_mem {pr : Nat → Nat} {rs : List Route} {w : Route} (h : victimRoute pr rs = some w) : w ∈ rs := by
  cases rs with
  | nil => cases h
  | cons r rs =>
    cases Option.some.inj h
    clear h
    induction rs generalizing r with
    | nil => exact List.mem_singleton.2 rfl
    | cons x xs ih =>
      rw [List.foldl_cons]
      split
      · exact List.mem_cons_of_mem _ (ih x)
      · obtain h | h := List.mem_cons.1 (ih r)
        · rw [h]; exact List.mem_cons_self
        · exact List.mem_cons_of_mem _ (List.mem_cons_of_mem _ h)

/-- In a table without a pair twice, a route is known by its pair. -/
theorem Route.eq_of_joins {rs : List Route} (hnodup : (rs.map fun r => (r.source, r.destination)).Nodup) {r v : Route}
    (hr : r ∈ rs) (hv : v ∈ rs) (h : r.joins v.source v.destination = true) : r = v := by
  simp only [Route.joins, Bool.and_eq_true, decide_eq_true_eq] at h
  exact List.inj_on_of_nodup_map hnodup hr hv (Prod.ext h.1 h.2)

theorem Route.joins_self (v : Route) : v.joins v.source v.destination = true := by simp [Route.joins]

theorem countP_add_le {α : Type} {p q p' q' : α → Bool} {xs : List α}
    (h : ∀ x ∈ xs, (p x).toNat + (q x).toNat ≤ (p' x).toNat + (q' x).toNat) :
    xs.countP p + xs.countP q ≤ xs.countP p' + xs.countP q' := by
  induction xs with
  | nil => simp
  | cons x xs ih =>
    have hx := h x List.mem_cons_self
    have hxs := ih fun y hy => h y (List.mem_cons_of_mem _ hy)
    have toNat_ite (b : Bool) : (if b = true then 1 else 0) = b.toNat := by cases b <;> rfl
    simp only [List.countP_cons, toNat_ite]
    omega

/-- A pair stands in the table once at most. -/
theorem countP_joins_le_one {rs : List Route} (hnodup : (rs.map fun r => (r.source, r.destination)).Nodup) (a d : Nat) :
    rs.countP (Route.joins a d) ≤ 1 := by
  have h : rs.countP (Route.joins a d) = (rs.map fun r => (r.source, r.destination)).count (a, d) := by
    rw [List.count, List.countP_map]
    refine List.countP_congr fun r _ => ?_
    simp [Route.joins, Prod.ext_iff]
  rw [h]
  exact List.nodup_iff_count_le_one.1 hnodup _

/-- What a step of settling makes of a route: the one that wins goes LIVE, and the one it displaces, where it does, is preempted. -/
def Route.settled (w : Nat) (v : Option Nat) (d : Nat) (r : Route) : Route :=
  if r.joins w d then r.goLive else if v.any fun v => r.joins v d then r.preempted else r

@[simp] theorem Route.settled_source (w : Nat) (v : Option Nat) (d : Nat) (r : Route) : (r.settled w v d).source = r.source := by
  unfold Route.settled; split <;> [rfl; (split <;> rfl)]
@[simp] theorem Route.settled_destination (w : Nat) (v : Option Nat) (d : Nat) (r : Route) :
    (r.settled w v d).destination = r.destination := by
  unfold Route.settled; split <;> [rfl; (split <;> rfl)]
@[simp] theorem Route.settled_holders (w : Nat) (v : Option Nat) (d : Nat) (r : Route) : (r.settled w v d).holders = r.holders := by
  unfold Route.settled; split <;> [rfl; (split <;> rfl)]

/-- The one step of settling, said once: a best eligible route goes LIVE, into a free slot or into that of a LIVE route of lower
priority (R174). -/
theorem settleStep_cases {pr : Nat → Nat} {d : Nat} {rs rs' : List Route} (h : settleStep pr d rs = some rs') :
    ∃ w, bestRoute pr (eligibleTo d rs) = some w ∧
      ((liveTo d rs).length < Config.slots ∧ rs' = rs.map (Route.settled w.source none d) ∨
        Config.slots ≤ (liveTo d rs).length ∧ ∃ v, victimRoute pr (liveTo d rs) = some v ∧ pr v.source < pr w.source ∧
          rs' = rs.map (Route.settled w.source (some v.source) d)) := by
  unfold settleStep at h
  split at h
  · cases h
  · rename_i w hw
    refine ⟨w, hw, ?_⟩
    split at h
    · rename_i hroom
      exact .inl ⟨hroom, (Option.some.inj h).symm⟩
    · rename_i hfull
      refine .inr ⟨Nat.le_of_not_lt hfull, ?_⟩
      split at h
      · cases h
      · rename_i v hv
        split at h
        · rename_i hlt
          refine ⟨v, hv, hlt, (Option.some.inj h).symm⟩
        · cases h

theorem mem_eligibleTo {d : Nat} {rs : List Route} {w : Route} :
    w ∈ eligibleTo d rs ↔ w ∈ rs ∧ w.destination = d ∧ w.live = false ∧ w.onAir = false ∧ w.linkDown = false := by
  simp [eligibleTo, Route.eligible, and_assoc]

theorem mem_liveTo {d : Nat} {rs : List Route} {w : Route} : w ∈ liveTo d rs ↔ w ∈ rs ∧ w.destination = d ∧ w.live = true := by
  simp [liveTo]

theorem liveTo_length (d : Nat) (rs : List Route) :
    (liveTo d rs).length = rs.countP fun r => decide (r.destination = d) && r.live := List.countP_eq_length_filter.symm

/-- A step of settling leaves the LIVE routes of every destination within its slots. -/
theorem settleStep_slots {pr : Nat → Nat} {d : Nat} {rs rs' : List Route} (h : settleStep pr d rs = some rs')
    (hnodup : (rs.map fun r => (r.source, r.destination)).Nodup) (e : Nat)
    (hslots : (liveTo e rs).length ≤ Config.slots) : (liveTo e rs').length ≤ Config.slots := by
  obtain ⟨w, hw, hcase⟩ := settleStep_cases h
  obtain ⟨hwmem, hwd, hwlive, -⟩ := mem_eligibleTo.1 (bestRoute_mem hw)
  have hcount (v : Option Nat) : (liveTo e (rs.map (Route.settled w.source v d))).length =
      rs.countP fun r => decide (r.destination = e) && (r.settled w.source v d).live := by
    rw [liveTo_length, List.countP_map]
    exact List.countP_congr fun r _ => by simp
  rw [liveTo_length] at hslots
  by_cases hed : e = d
  · subst hed
    have hone := countP_joins_le_one hnodup w.source e
    obtain ⟨hroom, rfl⟩ | ⟨-, v, hv, -, rfl⟩ := hcase
    · rw [liveTo_length] at hroom
      rw [hcount]
      have := countP_add_le (xs := rs) (p := fun r => decide (r.destination = e) && (r.settled w.source none e).live)
        (q := fun _ => false) (p' := fun r => decide (r.destination = e) && r.live) (q' := Route.joins w.source e) (by
          intro r _
          by_cases hr : r.joins w.source e = true
          · rw [hr]
            exact (Bool.toNat_le _).trans (Nat.le_add_left _ _)
          · simp [Route.settled, hr])
      simp only [List.countP_false] at this
      omega
    · obtain ⟨hvmem, hvd, hvlive⟩ := mem_liveTo.1 (victimRoute_mem hv)
      have hvone : 1 ≤ rs.countP (Route.joins v.source e) := by
        refine List.countP_pos_iff.2 ⟨v, hvmem, ?_⟩
        rw [← hvd]; exact v.joins_self
      rw [hcount]
      have := countP_add_le (xs := rs)
        (p := fun r => decide (r.destination = e) && (r.settled w.source (some v.source) e).live)
        (q := Route.joins v.source e) (p' := fun r => decide (r.destination = e) && r.live) (q' := Route.joins w.source e) (by
          intro r hr
          by_cases hrw : r.joins w.source e = true
          · have hrw' : r = w := Route.eq_of_joins hnodup hr hwmem (by rw [hwd]; exact hrw)
            have hrv : r.joins v.source e = false := by
              by_contra hrv
              have : r = v := Route.eq_of_joins hnodup hr hvmem (by rw [hvd]; simpa using hrv)
              rw [← this, hrw', hwlive] at hvlive
              cases hvlive
            rw [hrw, hrv]
            exact (Bool.toNat_le _).trans (Nat.le_add_left _ _)
          · by_cases hrv : r.joins v.source e = true
            · have hrv' : r = v := Route.eq_of_joins hnodup hr hvmem (by rw [hvd]; exact hrv)
              subst hrv'
              simp [Route.settled, hrw, hrv, Route.preempted, hvd, hvlive]
            · simp [Route.settled, hrw, hrv])
      omega
  · have hsame (v : Option Nat) (r : Route) : (decide (r.destination = e) && (r.settled w.source v d).live) =
        (decide (r.destination = e) && r.live) := by
      by_cases hr : r.destination = e
      · have hj (a : Nat) : r.joins a d = false := by simp [Route.joins, hr, hed]
        have : (v.any fun v => r.joins v d) = false := by cases v <;> simp [hj]
        rw [Route.settled, if_neg (by simp [hj]), if_neg (by simp [this])]
      · simp [hr]
    obtain ⟨-, rfl⟩ | ⟨-, v, -, -, rfl⟩ := hcase <;> rw [hcount] <;> simpa only [hsame] using hslots

/-- A step of settling keeps the bounds of the table. -/
theorem Tk.sound_settleStep {k : Tk} {pr : Nat → Nat} {d : Nat} {rs : List Route} (h : settleStep pr d k.routes = some rs)
    (hk : k.sound) : Tk.sound { k with routes := rs } := by
  obtain ⟨hlen, hnodup, hroutes, hpri⟩ := hk
  obtain ⟨w, v, rfl⟩ : ∃ w v, rs = k.routes.map (Route.settled w v d) := by
    obtain ⟨w, -, ⟨-, rfl⟩ | ⟨-, v, -, -, rfl⟩⟩ := settleStep_cases h
    exacts [⟨_, _, rfl⟩, ⟨_, _, rfl⟩]
  refine ⟨by simpa using hlen, by simpa [Function.comp_def] using hnodup, fun r hr => ?_, hpri⟩
  obtain ⟨r', hr', rfl⟩ := List.mem_map.1 hr
  obtain ⟨hholds, hlive⟩ := hroutes r' hr'
  exact ⟨by simpa using hholds, by rw [Route.settled_destination]; exact settleStep_slots h hnodup _ hlive⟩

theorem Tk.sound_settle (pr : Nat → Nat) (d n : Nat) {k : Tk} (hk : k.sound) :
    Tk.sound { k with routes := settle pr d n k.routes } := by
  induction n generalizing k with
  | zero => exact hk
  | succ n ih =>
    unfold settle
    split
    · exact hk
    · rename_i rs h
      exact ih (k := { k with routes := rs }) (Tk.sound_settleStep h hk)

theorem Tk.sound_settleAll (pr : Nat → Nat) {k : Tk} (hk : k.sound) : Tk.sound { k with routes := settleAll pr k.routes } := by
  unfold settleAll
  generalize oneUpTo Config.stations = ds
  induction ds generalizing k with
  | nil => exact hk
  | cons d ds ih => exact ih (k := { k with routes := settle pr d 33 k.routes }) (Tk.sound_settle pr d 33 hk)

/-! ### Holders (R171) -/

theorem settleStep_held {pr : Nat → Nat} {d : Nat} {rs rs' : List Route} (h : settleStep pr d rs = some rs') :
    rs'.map Route.held = rs.map Route.held := by
  have hmap (w : Nat) (v : Option Nat) : (rs.map (Route.settled w v d)).map Route.held = rs.map Route.held :=
    held_map (fun r => by rw [Route.held, Route.settled_source, Route.settled_destination, Route.settled_holders]; rfl) rs
  obtain ⟨w, -, ⟨-, rfl⟩ | ⟨-, v, -, -, rfl⟩⟩ := settleStep_cases h
  · exact hmap _ _
  · exact hmap _ _

theorem settle_held (pr : Nat → Nat) (d n : Nat) (rs : List Route) : (settle pr d n rs).map Route.held = rs.map Route.held := by
  induction n generalizing rs with
  | zero => rfl
  | succ n ih =>
    unfold settle
    split
    · rfl
    · exact (ih _).trans (settleStep_held ‹_›)

theorem settleAll_held (pr : Nat → Nat) (rs : List Route) : (settleAll pr rs).map Route.held = rs.map Route.held := by
  unfold settleAll
  induction oneUpTo Config.stations generalizing rs with
  | nil => rfl
  | cons d ds ih => exact (ih _).trans (settle_held pr d 33 rs)

theorem State.newRoute_live (s : State) (a d : Nat) : (s.newRoute a d).live = false := by
  by_contra h
  exact Bool.false_ne_true (State.live_of_suspend (Bool.eq_true_of_not_eq_false h))

theorem Route.tame_hold : Route.Tame fun r => { r with holders := r.holders + 1 } :=
  ⟨fun _ => rfl, fun _ => rfl, fun _ => Nat.le_succ _, fun _ => id⟩

/-- The routes after one destination is covered (R171). -/
def State.addHolder (s : State) (a : Nat) (rs : List Route) (d : Nat) : List Route :=
  if rs.any (Route.joins a d) then rs.map fun r => if r.joins a d then { r with holders := r.holders + 1 } else r
  else rs ++ [s.newRoute a d]

theorem State.addHolders_eq (s : State) (a : Nat) (ds : List Nat) : s.addHolders a ds = ds.foldl (s.addHolder a) s.tk.routes := rfl

@[simp] theorem State.newRoute_source (s : State) (a d : Nat) : (s.newRoute a d).source = a := by simp [State.newRoute]
@[simp] theorem State.newRoute_destination (s : State) (a d : Nat) : (s.newRoute a d).destination = d := by simp [State.newRoute]
@[simp] theorem State.newRoute_holders (s : State) (a d : Nat) : (s.newRoute a d).holders = 1 := by simp [State.newRoute]

theorem any_joins_iff {a d : Nat} {rs : List Route} : rs.any (Route.joins a d) = true ↔ ∃ r ∈ rs, r.source = a ∧ r.destination = d := by
  simp [Route.joins]

/-- A destination that is covered takes no more room in the table than its pair lacks. -/
theorem Tk.sound_addHolder {k : Tk} (s : State) (a d : Nat) (hk : k.sound)
    (hroom : k.routes.any (Route.joins a d) = false → k.routes.length < Config.routes) :
    Tk.sound { k with routes := s.addHolder a k.routes d } := by
  unfold State.addHolder
  split
  · exact Tk.sound_mapRoutes (Route.tame_ite (p := Route.joins a d) Route.tame_hold) hk
  · rename_i hnone
    obtain ⟨hlen, hnodup, hroutes, hpri⟩ := hk
    have hlive (e : Nat) : (liveTo e (k.routes ++ [s.newRoute a d])).length = (liveTo e k.routes).length := by
      simp [liveTo_length, List.countP_append, State.newRoute_live]
    refine ⟨?_, ?_, fun r hr => ?_, hpri⟩
    · simpa using hroom (by simpa using hnone)
    · rw [List.map_append, List.nodup_append]
      refine ⟨hnodup, by simp, fun x hx y hy hxy => hnone (any_joins_iff.2 ?_)⟩
      obtain ⟨r, hr, rfl⟩ := List.mem_map.1 hx
      obtain rfl : y = (a, d) := by simpa using hy
      exact ⟨r, hr, congrArg Prod.fst hxy, congrArg Prod.snd hxy⟩
    · dsimp only at hr ⊢
      rw [hlive]
      obtain hr | hr := List.mem_append.1 hr
      · exact hroutes r hr
      · rw [List.mem_singleton.1 hr]
        refine ⟨by simp, ?_⟩
        rw [State.newRoute_destination]
        by_cases he : ∃ r' ∈ k.routes, r'.destination = d
        · obtain ⟨r', hr', rfl⟩ := he
          exact (hroutes r' hr').2
        · have : liveTo d k.routes = [] := List.filter_eq_nil_iff.2 fun r hr => by
            have : r.destination ≠ d := fun h => he ⟨r, hr, h⟩
            simp [this]
          simp [this]

theorem addHolder_any {s : State} {a d e : Nat} {rs : List Route} (h : rs.any (Route.joins a e) = true) :
    (s.addHolder a rs d).any (Route.joins a e) = true := by
  unfold State.addHolder
  split
  · obtain ⟨r, hr, hs, hd⟩ := any_joins_iff.1 h
    exact any_joins_iff.2 ⟨_, List.mem_map_of_mem hr, by split <;> exact hs, by split <;> exact hd⟩
  · rw [List.any_append, h, Bool.true_or]

theorem Tk.sound_addHolders {k : Tk} (s : State) (a : Nat) (ds : List Nat) (hk : k.sound)
    (hroom : k.routes.length + (ds.countP fun d => !k.routes.any (Route.joins a d)) ≤ Config.routes) :
    Tk.sound { k with routes := ds.foldl (s.addHolder a) k.routes } := by
  induction ds generalizing k with
  | nil => exact hk
  | cons d ds ih =>
    refine ih (k := { k with routes := s.addHolder a k.routes d }) (Tk.sound_addHolder s a d hk fun hd => ?_) ?_
    · rw [List.countP_cons, if_pos (by simp [hd])] at hroom
      omega
    · have hmono : (ds.countP fun e => !(s.addHolder a k.routes d).any (Route.joins a e)) ≤
          ds.countP fun e => !k.routes.any (Route.joins a e) :=
        List.countP_mono_left fun e _ he => by
          by_contra hc
          rw [Bool.not_eq_true, Bool.not_eq_false'] at hc
          rw [addHolder_any hc] at he
          cases he
      rw [List.countP_cons] at hroom
      by_cases hd : k.routes.any (Route.joins a d) = true
      · have : (s.addHolder a k.routes d).length = k.routes.length := by simp [State.addHolder, hd]
        dsimp only
        omega
      · have : (s.addHolder a k.routes d).length = k.routes.length + 1 := by simp [State.addHolder, hd]
        rw [if_pos (by simpa using hd)] at hroom
        dsimp only
        omega

/-- A route that loses its last holder leaves the table, and the others keep one. -/
theorem Tk.sound_dropHolders {k : Tk} (a : Nat) (ds : List Nat) (hk : k.sound) :
    Tk.sound { k with routes := dropHolders a ds k.routes } := by
  obtain ⟨hlen, hnodup, hroutes, hpri⟩ := hk
  have hf (r : Route) : (if decide (r.source = a) && ds.contains r.destination then { r with holders := r.holders - 1 } else r) =
      { r with holders := if decide (r.source = a) && ds.contains r.destination then r.holders - 1 else r.holders } := by
    split <;> rfl
  unfold dropHolders
  simp only [hf]
  refine ⟨(List.length_filter_le _ _).trans (by simpa using hlen), (List.Nodup.sublist (List.filter_sublist.map _) ?_),
    fun r hr => ?_, hpri⟩
  · simpa [Function.comp_def] using hnodup
  · obtain ⟨hr, hne⟩ := List.mem_filter.1 hr
    obtain ⟨r', hr', rfl⟩ := List.mem_map.1 hr
    refine ⟨Nat.one_le_iff_ne_zero.2 (by simpa using hne), ?_⟩
    refine (liveTo_sublist List.filter_sublist _).trans ?_
    have := (hroutes r' hr').2
    simpa [liveTo_length, List.countP_map, Function.comp_def] using this

end Sys2Proof.Machine

/-! Every operation of the part is a chain of elementary changes: block by block, in the order of the model. -/

namespace Sys2Proof.Machine

-- One theorem at a time: all at once, their threads together outgrow the memory limit of the check.
set_option Elab.async false

variable {wide : Reach} {keyed : Bool}

/-! ## Plan and bands -/

theorem acts_setPlanState (new : PlanState) (s : State) : Acts wide s (setPlanState new s) :=
  .ite (.refl s) ((acts_modPlan s fun p => { p with state := new }).trans (acts_raise _ _ _))

theorem acts_invalidatePlan (s : State) : Acts wide s (invalidatePlan s) :=
  ((acts_modPlan s fun p => { p with checked := none }).trans (acts_setPlanState _ _)).trans (acts_raise _ _ _)

theorem acts_planWatch (b : Nat) (s : State) : Acts wide s (planWatch b s) := .ite (acts_invalidatePlan s) (.refl s)

theorem acts_carrierChange (b : Nat) (s : State) : Acts wide s (carrierChange b s) :=
  (acts_bandFlags s b (fun k => { k with carrierGen := k.carrierGen + 1, sparesFresh := false, sweepWanted := true })
    fun _ => ⟨rfl, le_rfl, rfl, rfl, rfl⟩).trans (acts_planWatch b _)

theorem spectrumChanges_bounded (n : Nat) {k : Band} (h : k.bounded) : (spectrumChanges n k).bounded := by
  unfold spectrumChanges; split <;> exact h

theorem Band.prune_bounded (f hw : Nat) {k : Band} (h : k.bounded) : (k.prune f hw).bounded := by
  obtain ⟨hx, hs, hb⟩ := h
  exact ⟨hx, (List.length_filter_le _ _).trans hs, hb⟩

theorem Band.mask_bounded (f hw : Nat) {k : Band} (h : k.bounded) : (k.mask f hw).bounded := by
  obtain ⟨hx, hs, hb⟩ := h
  exact spectrumChanges_bounded _ ⟨hx, hs, fun hd => by simpa using hb hd⟩

theorem acts_hold (b f hw : Nat) (s : State) : Acts wide s (hold b f hw s) :=
  (acts_carrierChange b s).trans
    (acts_modBand _ b _ fun _ h => Band.mask_bounded f hw (Band.prune_bounded f hw h))

theorem acts_release (b : Nat) (s : State) : Acts wide s (release b s) := acts_carrierChange b s

theorem acts_pruneAll (b : Nat) (s : State) : Acts wide s (pruneAll b s) :=
  acts_bandFlags s b _ fun _ => ⟨rfl, List.length_filter_le _ _, rfl, rfl, rfl⟩

theorem acts_applyLevel (b i v : Nat) (s : State) : Acts wide s (applyLevel b i v s) := by
  unfold applyLevel
  split
  · exact .refl s
  · rename_i x _
    have hset : Acts wide s (s.modBand b fun k =>
        { k with bins := k.bins.set i (Bin.mk (some (x.follow v)) ((s.band b).hotAfter x (x.follow v))) }) :=
      acts_bandFlags s b _ fun _ => ⟨rfl, le_rfl, rfl, List.length_set, rfl⟩
    exact .ite (.refl s) (.ite hset
      ((hset.trans (acts_modBand _ b _ fun _ => spectrumChanges_bounded 1)).trans (acts_raise _ _ _)))

theorem acts_applyLevels (b : Nat) (vs : List Nat) (i : Nat) (s : State) : Acts wide s (applyLevels b i vs s) := by
  induction vs generalizing i s with
  | nil => exact .refl s
  | cons v vs ih => exact (acts_applyLevel b i v s).trans (ih _ _)

/-! ## Orders -/

theorem acts_issue (a : Nat) (body : OrderBody) (i : Issuer) (s : State) : Acts wide s (issue a body i s).state := .one (.issue a body i)

theorem acts_withdraw (a id : Nat) (s : State) : Acts wide s (withdraw a id s) :=
  .one (.drop a _ fun _ => ⟨rfl, .refl _, List.filter_sublist⟩)

/-- A link that loses its tally order changes mildly, whenever it is tried again. -/
theorem Link.Mild.dropOrder (k : Link) (r : Option FrameNo) : k.Mild { k with tallyOrder := none, retryAt := r } :=
  ⟨rfl, .inl, fun h => .inl (.inl (h.elim id fun h => absurd h Bool.false_ne_true))⟩

theorem acts_tallyFailed (l id : Nat) (s : State) : Acts wide s (tallyFailed l id s) := by
  unfold tallyFailed
  split
  · exact .ite (acts_mildLink s l _ (.dropOrder _ _) fun _ => .inr (.inl rfl)) (.refl s)
  · exact .refl s

theorem acts_lampFailed (t id : Nat) (s : State) : Acts wide s (lampFailed t id s) := by
  unfold lampFailed
  split
  · exact .ite (acts_modStation s t _) (.refl s)
  · exact .refl s

theorem acts_scanFailed (b : Nat) (x : ScanOrder) (s : State) : Acts wide s (scanFailed b x s) :=
  acts_bandFlags s b _ fun _ => ⟨rfl, le_rfl, rfl, rfl, rfl⟩

theorem acts_issueScanAssign (b : Nat) (x : ScanOrder) (s : State) : Acts wide s (issueScanAssign b x s) :=
  .ite ((acts_issue _ _ _ s).trans (acts_scanFailed b x _)) (acts_issue _ _ _ s)

/-! ### What an issue says of its order -/

theorem joinWaiting_id (o : Order) (s : State) : (joinWaiting o s).id = o.id := by unfold joinWaiting; split <;> rfl
theorem joinWaiting_nextOrderId (o : Order) (s : State) : (joinWaiting o s).state.nextOrderId = s.nextOrderId := by
  unfold joinWaiting; split <;> rfl

theorem displaced_nextOrderId (o : Order) (s : State) : (displaced o s).nextOrderId = s.nextOrderId := by
  unfold displaced
  split
  · exact keeps_tallyFailed _ _ s .orderIds (by decide)
  · exact keeps_lampFailed _ _ s .orderIds (by decide)
  · rfl

theorem place_id (o : Order) (s : State) : (place o s).id = o.id := by
  unfold place
  dsimp only
  split
  · rfl
  · split
    · exact joinWaiting_id _ _
    · split
      · rfl
      · exact joinWaiting_id _ _

theorem place_nextOrderId (o : Order) (s : State) : (place o s).state.nextOrderId = s.nextOrderId := by
  unfold place
  dsimp only
  split
  · rfl
  · split
    · exact joinWaiting_nextOrderId _ _
    · split
      · exact displaced_nextOrderId _ _
      · exact joinWaiting_nextOrderId _ _

/-- An order is known by the id that was next. -/
@[simp] theorem issue_id (a : Nat) (body : OrderBody) (i : Issuer) (s : State) : (issue a body i s).id = s.nextOrderId := place_id _ _
@[simp] theorem issue_nextOrderId (a : Nat) (body : OrderBody) (i : Issuer) (s : State) :
    (issue a body i s).state.nextOrderId = s.nextOrderId + 1 := place_nextOrderId _ _

/-! ## Tally -/

theorem Link.kind_of_deliverable {k : Link} (h : k.deliverable = true) : k.cfg.kind = some .camera := by
  simp only [Link.deliverable, Bool.and_eq_true, decide_eq_true_eq] at h
  obtain ⟨⟨⟨⟨hk, -⟩, -⟩, -⟩, -⟩ := h
  exact hk

theorem acts_deliveryTest (l : Nat) (s : State) : Acts wide s (deliveryTest l s) := by
  unfold deliveryTest
  dsimp only
  split
  · rename_i hd
    let r := issue (s.link l).cfg.unit (.tally (s.link l).cfg.channel (s.link l).wanted) (.tr l) s
    have hcamera : (r.state.link l).cfg.kind = some .camera := by
      have hcore : (r.state.link l).core = (s.link l).core := linkCore_of_same (keeps_issue _ _ _ s .links (by decide)) l
      rw [show (r.state.link l).cfg = (s.link l).cfg from (congrArg Link.cfg hcore :)]
      exact Link.kind_of_deliverable hd
    have hrec : Acts wide s (r.state.modLink l fun k =>
        { k with tallyOrder := some { id := r.id, word := (s.link l).wanted, issueFrame := s.now } }) :=
      (acts_issue _ _ _ s).trans (acts_mildLink _ l _ ⟨rfl, .inl, fun _ => .inr hcamera⟩
        fun _ => .inr (.inr ⟨_, rfl, by simp [r]⟩))
    exact .ite (hrec.trans (acts_tallyFailed _ _ _)) hrec
  · exact .refl s

theorem acts_rewant (l : Nat) (s : State) : Acts wide s (rewant l s) :=
  (acts_mildLink s l (fun k => { k with wanted := s.wantedWord l }) ⟨rfl, .inl, .inl⟩).trans (acts_deliveryTest l _)

theorem acts_rewantAll (s : State) : Acts wide s (rewantAll s) := .foldl _ (fun s l => acts_rewant l s) _ s

theorem acts_rewantStation (t : Nat) (s : State) : Acts wide s (rewantStation t s) :=
  .foldl _ (fun s l => .ite (acts_rewant l s) (.refl s)) _ s

theorem acts_tallyAcked (l id : Nat) (s : State) : Acts wide s (tallyAcked l id s) := by
  unfold tallyAcked
  split
  · rename_i t ht
    refine .ite ((acts_mildLink s l (fun k => { k with delivered := some t.word, tallyOrder := none }) ?_
      fun _ => .inr (.inl rfl)).trans (acts_deliveryTest l _)) (.refl s)
    exact ⟨rfl, .inl, fun _ => .inl (.inr (by rw [ht]; rfl))⟩
  · exact .refl s

theorem acts_tallySees (l : Nat) (old : LinkState) (s : State) : Acts wide s (tallySees l old s) := by
  unfold tallySees
  dsimp only
  refine .ite (.refl s) (.ite ?_ (.ite (acts_deliveryTest l s) (.refl s)))
  split
  · exact .ite ((acts_withdraw _ _ s).trans (acts_mildLink _ l _ (.dropOrder _ _) fun _ => .inr (.inl rfl))) (.refl s)
  · exact .refl s

/-! ## Links -/

theorem Link.enter_tallyOrder (new : LinkState) (c : Option LostCause) (k : Link) :
    (Link.enter new c k).tallyOrder = k.tallyOrder := by
  unfold Link.enter; dsimp only; split <;> rfl

theorem acts_changeState (l : Nat) (new : LinkState) (c : Option LostCause) (s : State) : Acts ⟨true, keyed⟩ s (changeState l new c s) :=
  .ite (.refl s) (((acts_modLink s l _ fun k => .inl (Link.enter_tallyOrder new c k)).trans (acts_raise _ _ _)).trans
    (acts_tallySees l _ _))

theorem acts_issueTune (l step : Nat) (e : FrameNo) (i : Issuer) (s : State) : Acts wide s (issueTune l step e i s).state :=
  acts_issue _ _ _ s
theorem acts_issueMute (l : Nat) (e : FrameNo) (i : Issuer) (s : State) : Acts wide s (issueMute l e i s).state := acts_issue _ _ _ s

theorem acts_parkMuteFailed (l : Nat) (s : State) : Acts ⟨true, keyed⟩ s (parkMuteFailed l s) :=
  .ite ((acts_raise s _ _).trans (acts_modLink _ l fun k => { k with muteReissue := k.muteReissue ++ [framePlus s.now 1] }))
    (acts_raise s _ _)

theorem acts_reportPark (l : Nat) (o : Bool) (s : State) : Acts ⟨true, keyed⟩ s (reportPark l o s) := .ite (acts_parkMuteFailed l s) (.refl s)

theorem acts_finishPlan (s : State) : Acts wide s (finishPlan s) := .ite (acts_setPlanState _ s) (.refl s)

theorem acts_giveOutcome (l : Nat) (o : EntryOutcome) (s : State) : Acts wide s (giveOutcome l o s) :=
  .ite (((acts_modPlan s (fun p => { p with entries := p.entries.map fun e => if e.openFor l then { e with outcome := some o } else e })
    fun _ => by simp).trans (acts_raise _ _ _)).trans (acts_finishPlan _)) (.refl s)

theorem acts_moveOutcome (l : Nat) (g : Option Origin) (o : EntryOutcome) (s : State) : Acts wide s (moveOutcome l g o s) :=
  .ite (acts_giveOutcome l o s) (.refl s)

theorem acts_enterAcquiring (l : Nat) (e : FrameNo) (s : State) : Acts ⟨true, keyed⟩ s (enterAcquiring l e s) :=
  ((acts_changeState l _ _ s).trans (acts_modLink _ l _)).trans (acts_issueTune _ _ _ _ _)

theorem acts_startRevert (l : Nat) (s : State) : Acts ⟨true, keyed⟩ s (startRevert l s) :=
  ((((acts_modLink s l fun k => { k with pending := none }).trans (acts_release _ _)).trans (acts_issueTune _ _ _ _ _)).trans
    (acts_modLink _ l _)).trans (acts_changeState _ _ _ _)

theorem acts_startRetune (l step : Nat) (e : FrameNo) (o : Origin) (s : State) : Acts ⟨true, keyed⟩ s (startRetune l step e o s) := by
  have h := (((acts_modLink (keyed := keyed) s l fun k => { k with pending := some step }).trans
    (acts_hold (s.link l).cfg.band step (s.link l).cfg.hw _)).trans (acts_issueTune l step e (.rcRetune l) _)).trans
    (acts_changeState l .retuning none _)
  have h' := h.trans (acts_modLink _ l fun k =>
    { k with origin := some o, effectiveFrame := some e, deadline := some (framePlus e k.cfg.confirmWindow),
             moveOrder := some (issueTune l step e (.rcRetune l)
              (hold (s.link l).cfg.band step (s.link l).cfg.hw (s.modLink l fun k => { k with pending := some step }))).id })
  exact .ite (h'.trans (acts_startRevert l _)) h'

theorem acts_confirmRetune (l : Nat) (s : State) : Acts ⟨true, keyed⟩ s (confirmRetune l s) :=
  (((acts_release _ s).trans (acts_modLink _ l _)).trans (acts_changeState _ _ _ _)).trans (acts_moveOutcome _ _ _ _)

theorem acts_confirmRevert (l : Nat) (s : State) : Acts ⟨true, keyed⟩ s (confirmRevert l s) :=
  ((acts_modLink s l _).trans (acts_changeState _ _ _ _)).trans (acts_moveOutcome _ _ _ _)

theorem acts_revertFails (l : Nat) (s : State) : Acts ⟨true, keyed⟩ s (revertFails l s) :=
  ((acts_modLink s l _).trans (acts_changeState _ _ _ _)).trans (acts_moveOutcome _ _ _ _)

theorem acts_abandonMove (l : Nat) (s : State) : Acts ⟨true, keyed⟩ s (abandonMove l s) := by
  have h := acts_modLink (keyed := keyed) s l fun k => { k with pending := none, origin := none, effectiveFrame := none, deadline := none }
  exact ((Acts.ite (h.trans (acts_release _ _)) h).trans (acts_changeState _ _ _ _)).trans (acts_moveOutcome _ _ _ _)

theorem acts_goSilent (l : Nat) (s : State) : Acts ⟨true, keyed⟩ s (goSilent l s) := by
  have h := acts_modLink (keyed := keyed) s l fun k => { k with silenceCounter := 0 }
  unfold goSilent
  dsimp only
  cases (s.link l).state with
  | retuning | reverting => exact h.trans (acts_abandonMove l _)
  | acquiring | locked | fading => exact h.trans (acts_changeState _ _ _ _)
  | vacant | idle | parked | lost => exact .refl s

theorem acts_revertFromLost (l : Nat) (s : State) : Acts ⟨true, keyed⟩ s (revertFromLost l s) :=
  ((acts_modLink s l _).trans (acts_issueTune _ _ _ _ _)).trans (acts_changeState _ _ _ _)

theorem acts_countRun (l : Nat) (c : SampleClass) (s : State) : Acts ⟨true, keyed⟩ s (s.modLink l (·.countRun c)) :=
  acts_modLink s l _ fun _ => .inl (by cases c <;> rfl)

theorem acts_actOnSample (l : Nat) (x : TunedSample) (s : State) : Acts ⟨true, keyed⟩ s (actOnSample l x s) := by
  unfold actOnSample
  dsimp only
  cases (s.link l).state with
  | acquiring => exact .ite ((acts_changeState _ _ _ _).trans (acts_modLink _ l _)) (.refl s)
  | locked | fading => exact .ite ((acts_countRun _ _ _).trans (acts_changeState _ _ _ _)) (acts_countRun _ _ _)
  | retuning => exact .ite (acts_confirmRetune _ _) (.refl s)
  | reverting => exact .ite (acts_confirmRevert _ _) (.refl s)
  | lost =>
    exact .ite (acts_revertFromLost _ _) (.ite ((acts_countRun _ _ _).trans (acts_changeState _ _ _ _)) (acts_countRun _ _ _))
  | vacant | idle | parked => exact .refl s

theorem acts_takeSample (l : Nat) (x : TunedSample) (s : State) : Acts ⟨true, keyed⟩ s (takeSample l x s) :=
  ((Acts.ite (acts_raise s _ _) (.refl s)).trans (acts_modLink _ l _)).trans (acts_actOnSample l x _)

theorem acts_fadeTest (l : Nat) (s : State) : Acts wide s (fadeTest l s) := by
  unfold fadeTest
  dsimp only
  split
  · rename_i h
    exact acts_mildLink s l _ ⟨rfl, fun _ => .inr h.1, .inl⟩
  · exact .refl s

/-! ## Talk Router -/

/-- A key changes. -/
theorem acts_setKey (hk : wide.keys = true) (t n : Nat) (f : Key → Key) (s : State) : Acts wide s (setKey t n f s) :=
  acts_setStationBut s t _ (fun _ => rfl) (.inl hk)

/-- A key changes in neither what it covers nor whether it talks. -/
theorem acts_setKeyQuietly (t n : Nat) (f : Key → Key) (s : State)
    (h : ∀ k : Key, (f k).number = k.number ∧ (f k).target = k.target ∧ (f k).state.talking = k.state.talking) :
    Acts wide s (setKey t n f s) :=
  acts_modStation s t _ (fun _ => rfl) fun x => Prod.ext rfl ((List.map_map ..).trans (List.map_congr_left fun k _ => by
    obtain ⟨hn, ht, hs⟩ := h k
    show ((if k.number = n then f k else k).number, (if k.number = n then f k else k).target,
      (if k.number = n then f k else k).state.talking) = _
    split_ifs
    · rw [hn, ht, hs]
    · rfl))

/-- A key TAPPING at its deadline is HELD: it talks as before (R168). -/
theorem acts_tapEnds (t n : Nat) (s : State) : Acts wide s (tapEnds t n s) :=
  acts_setKeyQuietly t n _ s fun k => by
    split_ifs with h
    · exact ⟨rfl, rfl, by rw [h]; rfl⟩
    · exact ⟨rfl, rfl, rfl⟩

theorem acts_tkIssue (address : Nat) (body : OrderBody) (issuer : Issuer) (record : Nat → State → State)
    (h : ∀ id s, Acts wide s (record id s)) (x : Acting) : Acts wide x.1 (tkIssue address body issuer record x).1 :=
  (acts_issue address body issuer x.1).trans (h _ _)

theorem acts_joinBreak (a d id : Nat) (s : State) : Acts wide s (joinBreak a d id s) := by
  unfold joinBreak
  dsimp only
  split
  · exact acts_breaksMap s _
  · split
    · rename_i b rest heq
      split
      · rename_i hlt
        exact acts_breaks s (s.tk.breaks ++ [{ source := a, destination := d, order := some id }])
          fun _ => by simpa using Nat.succ_le_of_lt hlt
      · exact (acts_breaks s (rest ++ [{ source := a, destination := d, order := some id }])
          fun h => by rw [heq] at h; simpa using h).trans (acts_raise _ _ _)
    · exact acts_breaks s [{ source := a, destination := d, order := some id }] fun _ => by simp [Config.breaks]

theorem acts_orderBreak (a d : Nat) (x : Acting) : Acts wide x.1 (orderBreak a d x).1 := acts_tkIssue _ _ _ _ (acts_joinBreak a d) x

theorem acts_recordMake (a d id : Nat) (s : State) : Acts wide s (recordMake a d id s) :=
  (acts_mapRoutes s (Route.tame_ite (p := Route.joins a d) (Route.tame_makes (some .outstanding) (some id))) fun _ => by
    split <;> rfl).trans
    (acts_breaksFilter _ fun b => !(decide (b.source = a) && decide (b.destination = d)))

theorem acts_orderMake (a d : Nat) (x : Acting) : Acts wide x.1 (orderMake a d x).1 := acts_tkIssue _ _ _ _ (acts_recordMake a d) x

theorem acts_orderDim (t depth : Nat) (x : Acting) : Acts wide x.1 (orderDim t depth x).1 :=
  acts_tkIssue _ _ _ _ (fun _ s => acts_modStation s t _) x

theorem acts_orderLamp (t : Nat) (x : Acting) : Acts wide x.1 (orderLamp t x).1 := by
  unfold orderLamp
  dsimp only
  split
  · exact acts_tkIssue _ _ _ _ (fun _ s => acts_modStation s t _) x
  · exact .refl _

theorem acts_tkFailed (i : Issuer) (id : Nat) (s : State) : Acts wide s (tkFailed i id s) := by
  unfold tkFailed
  split
  · exact .ite ((acts_mapRoutes s (Route.tame_ite (Route.tame_make _)) fun _ => by split <;> rfl).trans (acts_raise _ _ _)) (.refl s)
  · exact acts_breaksMap s _
  · exact .ite (acts_modStation s _ _) (.refl s)
  · exact acts_lampFailed _ _ s
  · exact .refl s

theorem acts_reported (x : Acting) : Acts wide x.1 (reported x) := .foldl _ (fun s _ => acts_tkFailed _ _ s) _ _

theorem acts_lampTest (t : Nat) (s : State) : Acts wide s (lampTest t s) := (acts_orderLamp t (s, [])).trans (acts_reported _)

theorem acts_tkAcked (i : Issuer) (id : Nat) (s : State) : Acts wide s (tkAcked i id s) := by
  unfold tkAcked
  split
  · rename_i a d
    exact acts_mapRoutes s (Route.tame_ite (p := fun r => r.joins a d && r.live && decide (r.makeOrder = some id)) (Route.tame_make _))
      fun _ => by split <;> rfl
  · exact acts_breaksFilter s _
  · split
    · exact .ite ((acts_modStation s _ _).trans (acts_lampTest _ _)) (.refl s)
    · exact .refl s
  · exact .refl s

theorem acts_crosspoints (before : List Route) (x : Acting) (d : Nat) : Acts wide x.1 (crosspoints before x d).1 :=
  (Acts.foldAct _ (fun x a => acts_orderBreak a d x) _ x).trans (.foldAct _ (fun x a => acts_orderMake a d x) _ _)

theorem acts_dims (before : List Route) (x : Acting) (t : Nat) : Acts wide x.1 (dims before x t).1 := by
  unfold dims
  dsimp only
  split
  · exact acts_orderDim _ _ _
  · exact .refl _

theorem acts_lamps (asked : Option Nat) (s0 : State) (x : Acting) (t : Nat) : Acts wide x.1 (lamps asked s0 x t).1 := by
  unfold lamps
  split
  · exact acts_orderLamp _ _
  · exact .refl _

/-- Settling keeps the bounds of the table, and every route's holders. -/
theorem acts_settleAll (pr : Nat → Nat) (s : State) : Acts wide s (s.modTk fun k => { k with routes := settleAll pr k.routes }) :=
  have hkeeps : s.tk.Keeps { s.tk with routes := settleAll pr s.tk.routes } := Tk.keeps_of_routes rfl rfl id (Tk.sound_settleAll pr)
  .one (.tk _ hkeeps (.inl rfl) (.inr (Tk.held_of_routes (settleAll_held pr s.tk.routes))))

theorem acts_resettle (s : State) : Acts wide s s.resettle :=
  (acts_mapRoutes s (tame_suspend s) fun r => State.suspend_holders s r).trans (acts_settleAll s.priority _)

theorem acts_tkAfterFor (asked : Option Nat) (s0 s1 : State) : Acts wide s1 (tkAfterFor asked s0 s1) :=
  ((((acts_resettle s1).trans (.foldAct _ (fun x d => acts_crosspoints _ x d) _ (s1.resettle, []))).trans
    (.foldAct _ (fun x t => acts_dims _ x t) _ _)).trans (.foldAct _ (fun x t => acts_lamps asked s0 x t) _ _)).trans
    (acts_reported _)

theorem acts_tkAfter (s0 s1 : State) : Acts wide s1 (tkAfter s0 s1) := acts_tkAfterFor none s0 s1

theorem acts_presentZones (s : State) : Acts wide s (presentZones s) :=
  .one (.tk { s.tk with zones := s.tr.zones } ⟨rfl, rfl, id, id⟩ (.inr rfl) (.inr ⟨rfl, rfl, rfl⟩))

theorem acts_startTalking (hk : wide.keys = true) (t : Nat) (k : Key) (new : KeyState) (tap : Option FrameNo) (s : State) :
    Acts wide s (startTalking t k new tap s) := by
  unfold startTalking
  dsimp only
  split
  · exact (acts_modStation s t _).trans (acts_raise _ _ _)
  · rename_i hroom
    refine (acts_setKey hk t k.number _ s).trans (acts_modTk _ (fun tk => { tk with routes := s.addHolders t (s.covered t k) })
      (Tk.keeps_of_routes rfl rfl id fun h => ?_) rfl (.inl hk))
    have hlen : s.tk.routes.length ≤ Config.routes := h.1
    have hfits : s.tk.routes.length + ((s.covered t k).countP fun d => !s.tk.routes.any (Route.joins t d)) ≤ Config.routes := by
      omega
    exact Tk.sound_addHolders s t (s.covered t k) h hfits

theorem acts_stopTalking (hk : wide.keys = true) (t : Nat) (k : Key) (s : State) : Acts wide s (stopTalking t k s) :=
  (acts_setKey hk t k.number _ s).trans (acts_modTk _ (fun tk => { tk with routes := dropHolders t (s.covered t k) tk.routes })
    (Tk.keeps_of_routes rfl rfl id fun h => Tk.sound_dropHolders t _ h) rfl (.inl hk))

theorem acts_startPulse (frames d : Nat) (s : State) : Acts wide s (startPulse frames d s) :=
  .ite (.refl s) ((acts_modStation s d _).trans (acts_rewantStation d _))

theorem acts_endPulse (d : Nat) (s : State) : Acts wide s (endPulse d s) := (acts_modStation s d _).trans (acts_rewantStation d _)

theorem acts_keyActs (hk : wide.keys = true) (t : Nat) (k : Key) (down : Bool) (s : State) : Acts wide s (keyActs t k down s) := by
  unfold keyActs
  split
  · exact acts_startTalking hk _ _ _ _ _
  · exact acts_stopTalking hk _ _ _
  · exact acts_startTalking hk _ _ _ _ _
  · exact acts_stopTalking hk _ _ _
  · exact acts_startTalking hk _ _ _ _ _
  · exact acts_stopTalking hk _ _ _
  · exact acts_setKey hk _ _ _ _
  · exact acts_stopTalking hk _ _ _
  · exact .foldl _ (fun s d => acts_startPulse _ d s) _ _
  · exact .refl s

theorem acts_pressKey (hk : wide.keys = true) (t n : Nat) (down : Bool) (s : State) : Acts wide s (pressKey t n down s) := by
  unfold pressKey
  split
  · exact .refl s
  · exact .ite (.refl s) ((acts_setKey hk _ _ _ _).trans (acts_keyActs hk _ _ _ _))

theorem acts_redim (x : Acting) (t : Nat) : Acts wide x.1 (redim x t).1 := by
  unfold redim
  dsimp only
  split
  · exact acts_orderDim _ _ _
  · exact .refl _

theorem acts_matrixEvent (s : State) : Acts wide s (matrixEvent s) :=
  (((Acts.foldAct _ (fun x (p : Nat × Nat) => acts_orderMake p.1 p.2 x) _ ((s, []) : Acting)).trans
    (.foldAct _ (fun x (b : Break) => acts_orderBreak b.source b.destination x) _ _)).trans
    (.foldAct _ (fun x t => acts_redim x t) _ _)).trans (acts_reported _)

theorem acts_stopDim (x : Acting) (t : Nat) : Acts wide x.1 (stopDim x t).1 := by
  unfold stopDim
  split
  · exact acts_orderDim _ _ _
  · exact .refl _

/-- A change of every station's record in all but its priority. -/
theorem acts_mapStations (s : State) (f : Station → Station) (h : ∀ x, (f x).priority = x.priority)
    (hk : wide.keys = true ∨ ∀ x, (f x).talk = x.talk) :
    Acts wide s (s.modTk fun k => { k with stations := k.stations.map f }) :=
  acts_modTk s _
    { stations := List.length_map _, groups := rfl, breaks := id,
      sound := fun ⟨hlen, hnodup, hroutes, hpri⟩ => ⟨hlen, hnodup, hroutes, fun x hx => by
        obtain ⟨y, hy, rfl⟩ := List.mem_map.1 hx
        exact (h y).trans_le (hpri y hy)⟩ } rfl
    (hk.imp_right fun h => ⟨rfl, (List.map_map ..).trans (List.map_congr_left fun x _ => h x), rfl⟩)

theorem acts_stopPulses (resolved : Bool) (s : State) : Acts wide s (stopPulses resolved s) :=
  .ite (.foldl _ (fun s t => .ite (acts_endPulse t s) (.refl s)) _ _) (acts_mapStations s _ (fun _ => rfl) (.inr fun _ => rfl))

theorem acts_stopRoutes (hk : wide.keys = true) (s : State) : Acts wide s (stopRoutes s).1 :=
  (acts_modTk s (fun k => { k with routes := [] })
    (Tk.keeps_of_routes rfl rfl id fun h => Tk.sound_sublist (List.nil_sublist _) h) rfl (.inl hk)).trans
    (.foldAct (fun x d => (liveSources d s.tk.routes).foldl (fun x a => orderBreak a d x) x)
      (fun x d => .foldAct _ (fun x a => acts_orderBreak a d x) _ x) (oneUpTo Config.stations)
      ((s.modTk fun k => { k with routes := [] }, []) : Acting))

theorem acts_tkStop (hk : wide.keys = true) (resolved : Bool) (s : State) : Acts wide s (tkStop resolved s) := by
  have h1 : Acts wide s _ := (acts_mapStations s Station.keysOff (fun _ => rfl) (.inl hk)).trans (acts_stopRoutes hk _)
  exact ((h1.trans (acts_stopPulses resolved _)).trans
    ((Acts.foldAct _ (fun x t => acts_stopDim x t) _
      ((stopPulses resolved (stopRoutes (s.modTk fun k => { k with stations := k.stations.map Station.keysOff })).1,
        (stopRoutes (s.modTk fun k => { k with stations := k.stations.map Station.keysOff })).2) : Acting)).trans
      (.foldAct _ (fun x t => acts_orderLamp t x) _ _))).trans (acts_reported _)

/-! ## Lamp Drivers -/

theorem acts_takeLampValues (s : State) : Acts wide s (takeLampValues s) :=
  (Acts.one (.lampZones (s.tr.zones.map (·.onAir)) (List.length_map _))).trans
    (.one (.lamps (s.lamps.zipIdx.map fun (x, i) => { x with heldTally := slot .off s.tr.lampTally (i + 1) }) (by simp)))

theorem acts_mapLamps (s : State) (f : Lamp → Lamp) : Acts wide s { s with lamps := s.lamps.map f } :=
  .one (.lamps _ (List.length_map _))

theorem acts_frameStep (s : State) : Acts wide s (frameStep s) := (acts_takeLampValues s).trans (acts_mapLamps _ _)
theorem acts_stopLamps (s : State) : Acts wide s (stopLamps s) := (acts_takeLampValues s).trans (acts_mapLamps _ _)

/-! ## Results of orders -/

theorem acts_orderFailed (o : Order) (s : State) : Acts ⟨true, keyed⟩ s (orderFailed o s) := by
  unfold orderFailed
  cases o.issuer with
  | lsTune | rcRevert => exact .refl s
  | rcRetune l => exact .ite (acts_startRevert l s) (.refl s)
  | lsPark l => exact acts_parkMuteFailed l s
  | lsRelease l | rcVacate l => exact acts_raise s _ _
  | tr l => exact acts_tallyFailed _ _ s
  | st b =>
    dsimp only
    unfold scanAssignFailed
    split
    · exact acts_scanFailed _ _ s
    · exact .refl s
  | tkMake | tkBreak | tkDim | tkLamp => exact acts_tkFailed _ _ s

theorem acts_orderAcked (o : Order) (s : State) : Acts wide s (orderAcked o s) := by
  unfold orderAcked
  cases o.issuer with
  | tr l => exact acts_tallyAcked _ _ s
  | tkMake | tkBreak | tkDim | tkLamp => exact acts_tkAcked _ _ s
  | lsTune | lsPark | lsRelease | rcRetune | rcRevert | rcVacate | st => exact .refl s

theorem acts_acknowledge (a : Nat) (s : State) (n : Byte) : Acts wide s (acknowledge a s n) := by
  unfold acknowledge
  split
  · exact .refl s
  · rename_i o ho
    refine (Acts.one (.free a 1 (fun u => { u with outstanding := u.outstanding.eraseP (Order.carries n) })
      (fun _ => ⟨rfl, List.eraseP_sublist, .refl _⟩) ?_)).trans (acts_orderAcked _ _)
    have hmem := List.mem_of_find?_eq_some ho
    have hpos := List.length_pos_of_mem hmem
    have hlen := List.length_eraseP_of_mem hmem (List.find?_some ho)
    dsimp only
    omega

theorem acts_acknowledgeAll (a : Nat) (ns : List Byte) (s : State) : Acts wide s (acknowledgeAll a ns s) :=
  .foldl _ (fun s n => acts_acknowledge a s n) _ s

theorem acts_expire (a : Nat) (s : State) : Acts ⟨true, keyed⟩ s (expire a s) := by
  refine (Acts.one (.free a _ (UnitRec.dropDue s.now) (fun _ => ⟨rfl, List.filter_sublist, List.filter_sublist⟩) ?_)).trans
    (.foldl _ (fun s o => acts_orderFailed o s) _ _)
  have hlen := List.length_eq_countP_add_countP (Order.due s.now) (l := (s.unit a).outstanding)
  simp only [UnitRec.dropDue, ← List.countP_eq_length_filter, Bool.not_eq_true] at hlen ⊢
  simp only [Bool.decide_eq_false] at hlen
  omega

/-! ## The evaluator -/

/-- The queue alone changes, within its capacity. -/
theorem acts_queue (s : State) (f : Pe → Pe) (hq : s.pe.queue.length ≤ Config.jobs → (f s.pe).queue.length ≤ Config.jobs)
    (ha : (f s.pe).assign.length = s.pe.assign.length := by exact rfl)
    (hr : (f s.pe).rescue.length = s.pe.rescue.length := by exact rfl)
    (hy : (f s.pe).query.length = s.pe.query.length := by exact rfl) : Acts wide s (s.modPe f) := acts_modPe s f ⟨hq, ha, hr, hy⟩

theorem acts_joinQueue (k : JobKind) (s : State) (h : s.pe.queue.length < Config.jobs) : Acts wide s (joinQueue k s) :=
  acts_queue s _ fun _ => by simpa using Nat.succ_le_of_lt h

theorem length_lt_of_queueRoom {s : State} (h : s.queueRoom = true) : s.pe.queue.length < Config.jobs := of_decide_eq_true h

theorem acts_convertRescue (s : State) (l : Nat) : Acts wide s (convertRescue s l) := by
  unfold convertRescue
  split
  · rename_i h
    obtain ⟨hroom, hwanted, -⟩ := h
    have hset : (s.link l).rescue ≠ .none := by rw [hwanted]; exact fun h => by cases h
    exact (acts_joinQueue _ s (length_lt_of_queueRoom hroom)).trans (acts_mildLink _ l _ ⟨rfl, fun _ => .inl hset, .inl⟩)
  · exact .refl s

theorem acts_sweepFlag (b : Nat) (v : Bool) (s : State) : Acts wide s (s.modBand b fun k => { k with sweepWanted := v }) :=
  acts_bandFlags s b _ fun _ => ⟨rfl, le_rfl, rfl, rfl, rfl⟩

theorem acts_convertSweep (s : State) (b : Nat) : Acts wide s (convertSweep s b) := by
  unfold convertSweep
  split
  · rename_i h
    exact (acts_joinQueue _ s (length_lt_of_queueRoom h.1)).trans (acts_sweepFlag b false _)
  · exact .refl s

theorem acts_convert (s : State) : Acts wide s (convert s) :=
  .ite ((Acts.foldl _ acts_convertRescue _ s).trans (.foldl _ acts_convertSweep _ _)) (.refl s)

theorem length_replaceFirst (j j' : Job) (q : List Job) : (replaceFirst j j' q).length = q.length := by
  induction q with
  | nil => rfl
  | cons x xs ih => unfold replaceFirst; split <;> simp [ih]

theorem acts_startJob (j : Job) (s : State) : Acts wide s (startJob j s) := by
  have h : Acts wide s (s.modPe fun e =>
      { e with engine := .running, queue := replaceFirst j { j with snap := some (s.snapshot j.kind) } e.queue }) :=
    acts_queue s _ fun h => (length_replaceFirst _ _ _).trans_le h
  unfold startJob
  dsimp only
  split
  · exact h.trans (acts_sweepFlag _ _ _)
  · exact h

theorem acts_choose (s : State) : Acts wide s (choose s) := by
  unfold choose
  split
  · exact acts_startJob _ _
  · exact .refl s

theorem acts_pump (s : State) : Acts wide s (pump s) := (acts_convert s).trans (acts_choose _)

theorem acts_leaveQueue (s : State) : Acts wide s (leaveQueue s) :=
  acts_queue s _ fun h => List.eraseP_sublist.length_le.trans h

theorem acts_setAssignResult (l : Nat) (r : AssignResult) (s : State) : Acts wide s (setAssignResult l r s) :=
  acts_queue s _ id (modSlot_length _ _ _)
theorem acts_setRescueResult (l : Nat) (r : RescueResult) (s : State) : Acts wide s (setRescueResult l r s) :=
  acts_queue s _ id rfl (modSlot_length _ _ _)
theorem acts_setQueryResult (b : Nat) (r : QueryResult) (s : State) : Acts wide s (setQueryResult b r s) :=
  acts_queue s _ id rfl rfl (modSlot_length _ _ _)

theorem acts_takeStep (l step : Nat) (e : FrameNo) (s : State) : Acts ⟨true, keyed⟩ s (takeStep l step e s) :=
  ((acts_modLink s l fun k => { k with assigned := some step }).trans (acts_hold _ _ _ _)).trans (acts_enterAcquiring l e _)

theorem acts_assignDone (l step : Nat) (o : Bool) (q : Snapshot) (s : State) : Acts ⟨true, keyed⟩ s (assignDone l step o q s) :=
  .ite ((acts_setAssignResult _ _ s).trans (acts_raise _ _ _))
    (.ite ((acts_setAssignResult _ _ s).trans (acts_takeStep _ _ _ _)) ((acts_setAssignResult _ _ s).trans (acts_raise _ _ _)))

theorem acts_planDone (q : Snapshot) (s : State) : Acts wide s (planDone q s) :=
  .ite (.refl s) (.ite (acts_invalidatePlan s)
    (.ite ((acts_modPlan s _).trans (acts_setPlanState _ _)) ((acts_modPlan s _).trans (acts_setPlanState _ _))))

theorem acts_queryDone (b : Nat) (n : BitVec 16) (step hw link : Nat) (q : Snapshot) (s : State) :
    Acts wide s (queryDone b n step hw link q s) := (acts_setQueryResult _ _ s).trans (acts_raise _ _ _)

theorem sweepList_length (b : Nat) (q : Snapshot) (s : State) : (sweepList b q s).length ≤ Config.spares :=
  (List.length_filter_le _ _).trans (List.length_take_le _ _)

/-- A link whose rescue status is set while it has one changes mildly. -/
theorem Link.Mild.setRescue {k : Link} (h : k.rescue ≠ .none ∨ k.state = .fading) (v : Rescue) : k.Mild { k with rescue := v } :=
  ⟨rfl, fun _ => h, .inl⟩

theorem mild_rearm (b : Nat) (k : Link) : k.Mild (rearm b k) := by
  unfold rearm
  split
  · rename_i h
    exact .setRescue (.inr h.2.1) _
  · exact .refl k

theorem mild_clearRescue (k : Link) : k.Mild k.clearRescue := by
  unfold Link.clearRescue
  split
  · exact ⟨rfl, fun h => absurd rfl h, .inl⟩
  · exact .refl k

theorem acts_sweepDone (b : Nat) (q : Snapshot) (s : State) : Acts wide s (sweepDone b q s) := by
  have h : Acts wide s (raise .bandSpares b (s.modBand b fun k => { k with spares := sweepList b q s, sparesFresh := true })) :=
    (acts_modBand s b (fun k => { k with spares := sweepList b q s, sparesFresh := true }) fun _ ⟨hx, _, hb⟩ => ⟨hx, sweepList_length b q s, hb⟩).trans (acts_raise _ _ _)
  exact .ite (.refl s) (.ite (acts_sweepFlag b true s)
    (.ite h (h.trans (acts_mildLinks _ _ (mild_rearm b) fun k => by unfold rearm; split <;> rfl))))

theorem acts_dropSpares (b : Nat) (f : Spare → Bool) (s : State) :
    Acts wide s (s.modBand b fun k => { k with spares := k.spares.filter f }) :=
  acts_bandFlags s b _ fun _ => ⟨rfl, List.length_filter_le _ _, rfl, rfl, rfl⟩

theorem acts_setRescue (l : Nat) (v : Rescue) (s : State) (h : pickChanged l s = false) :
    Acts wide s (s.modLink l fun k => { k with rescue := v }) := by
  simp only [pickChanged, Bool.or_eq_false_iff, decide_eq_false_iff_not, not_not] at h
  exact acts_mildLink s l _ (.setRescue (.inr h.1) v)

theorem acts_pickDone (l : Nat) (q : Snapshot) (s : State) : Acts ⟨true, keyed⟩ s (pickDone l q s) := by
  unfold pickDone
  dsimp only
  split
  · exact acts_dropSpares _ _ s
  · rename_i hpick
    have hpick := Bool.eq_false_of_not_eq_true hpick
    split
    · exact (((acts_dropSpares _ _ s).trans (acts_setRescueResult _ _ _)).trans (acts_setRescue l _ _ hpick)).trans (acts_raise _ _ _)
    · exact .ite (((acts_dropSpares _ _ s).trans (acts_setRescueResult _ _ _)).trans (acts_setRescue l _ _ hpick))
        (((((acts_dropSpares _ _ s).trans (acts_setRescueResult _ _ _)).trans (acts_startRetune _ _ _ _ _)).trans
          (acts_dropSpares _ _ _)).trans (acts_raise _ _ _))

/-- The job that runs makes room for one when it leaves the queue. -/
theorem length_eraseP_running_lt {s : State} (h : s.running.isSome = true) (hq : s.pe.queue.length ≤ Config.jobs) :
    (s.pe.queue.eraseP fun j => j.snap.isSome).length < Config.jobs := by
  obtain ⟨p, hp⟩ := Option.isSome_iff_exists.1 h
  have hex : ∃ j ∈ s.pe.queue, j.snap.isSome = true := by
    unfold State.running at hp
    split at hp
    · obtain ⟨j, hj, hs⟩ := List.exists_of_findSome?_eq_some hp
      exact ⟨j, hj, by cases hsn : j.snap <;> simp_all⟩
    · cases hp
  obtain ⟨j, hj, hs⟩ := hex
  have hlen : (s.pe.queue.eraseP fun j => j.snap.isSome).length = s.pe.queue.length - 1 :=
    List.length_eraseP_of_mem hj (by simpa using hs)
  have hpos : 0 < s.pe.queue.length := List.length_pos_of_mem hj
  omega

theorem acts_rescueDone (l attempt : Nat) (q : Snapshot) (s : State) (h : s.running.isSome = true) :
    Acts ⟨true, keyed⟩ s (rescueDone l attempt q s) := by
  have hagain : Acts ⟨true, keyed⟩ s (joinQueue (.rescuePick l (attempt + 1)) (leaveQueue s)) :=
    acts_queue s (fun e => { e with queue := (e.queue.eraseP fun j => j.snap.isSome) ++
        [{ kind := .rescuePick l (attempt + 1), snap := none, moved := false }], engine := .idle })
      fun hq => by simpa using Nat.succ_le_of_lt (length_eraseP_running_lt h hq)
  unfold rescueDone
  split
  · split
    · exact acts_leaveQueue s
    · rename_i hpick
      exact .ite hagain (((acts_setRescue l _ s (Bool.eq_false_of_not_eq_true hpick)).trans (acts_raise _ _ _)).trans
        (acts_leaveQueue _))
  · exact (acts_pickDone l q s).trans (acts_leaveQueue _)

theorem acts_withdrawJob (s : State) (j : Job) : Acts wide s (withdrawJob s j) := by
  unfold withdrawJob
  cases j.kind with
  | assignCheck => exact (acts_setAssignResult _ _ s).trans (acts_raise _ _ _)
  | planCheck => exact .ite (acts_invalidatePlan s) (.refl s)
  | query => exact (acts_setQueryResult _ _ s).trans (acts_raise _ _ _)
  | spareSweep | rescuePick => exact .refl s

theorem acts_withdrawAll (s : State) : Acts wide s (withdrawAll s) := by
  have h : Acts wide s _ := (Acts.foldl _ acts_withdrawJob s.pe.queue s).trans
    (acts_queue _ (fun e => { e with queue := [], engine := e.engine.drained }) fun _ => Nat.zero_le _)
  refine (h.trans (.one (.bands (_ : List Band) (List.length_map (fun k : Band => { k with sweepWanted := false }))
    fun hb k hk => ?_))).trans (acts_mildLinks _ Link.clearRescue mild_clearRescue fun k => by unfold Link.clearRescue; split <;> rfl)
  obtain ⟨k', hk', rfl⟩ := List.mem_map.1 hk
  exact hb k' hk'

end Sys2Proof.Machine

/-! Every command is a chain of moves: elementary changes inside events, what the Message Port does between them, and warm reset. -/

namespace Sys2Proof.Machine

-- One theorem at a time: all at once, their threads together outgrow the memory limit of the check.
set_option Elab.async false

variable {wide : Reach} {keyed : Bool}

/-! ## Moves -/

/-- The buffer and the refusal replies keep their capacities. -/
structure Mp.Keeps (m m' : Mp) : Prop where
  buffer : m.buffer.length ≤ Config.buffer → m'.buffer.length ≤ Config.buffer
  refusals : m.refusals.length ≤ Config.refusals → m'.refusals.length ≤ Config.refusals

/-- One move of the part: an elementary change, a change of the Message Port, notices taken from the queue, or warm reset. -/
inductive Move (wide : Reach) (s : State) : State → Prop
  | change {t : State} (h : Change wide s t) : Move wide s t
  | mp (m : Mp) (h : s.mp.Keeps m) : Move wide s { s with mp := m }
  | dequeue (q : List Notice) (h : q.Sublist s.nq) : Move wide s { s with nq := q }
  | warm (hw : wide.links = true) (hk : wide.keys = true) : Move wide s (warmReset s)

/-- A chain of moves. -/
def Moves (wide : Reach) (s t : State) : Prop := Relation.ReflTransGen (Move wide) s t

theorem Acts.moves {s t : State} (h : Acts wide s t) : Moves wide s t := by
  induction h with
  | refl => exact .refl
  | tail _ hc ih => exact ih.tail (.change hc)

namespace Moves

variable {s t u : State}

theorem refl (s : State) : Moves wide s s := Relation.ReflTransGen.refl
theorem trans (h : Moves wide s t) (k : Moves wide t u) : Moves wide s u := Relation.ReflTransGen.trans h k
theorem one (h : Move wide s t) : Moves wide s t := Relation.ReflTransGen.single h
/-- An event's changes, then what follows it. -/
theorem andThen (h : Acts wide s t) (k : Moves wide t u) : Moves wide s u := h.moves.trans k

theorem ite {c : Prop} [Decidable c] (h : Moves wide s t) (k : Moves wide s u) : Moves wide s (if c then t else u) := by
  split
  · exact h
  · exact k

theorem foldl {α : Type} (f : State → α → State) (h : ∀ s x, Moves wide s (f s x)) (xs : List α) (s : State) :
    Moves wide s (xs.foldl f s) := by
  induction xs generalizing s with
  | nil => exact refl s
  | cons x xs ih => exact (h s x).trans (ih _)

/-- A property that every move keeps is kept by a chain of them. -/
theorem keeps {P : State → Prop} (hP : ∀ s t, Move wide s t → P s → P t) (h : Moves wide s t) (hs : P s) : P t := by
  induction h with
  | refl => exact hs
  | tail _ hm ih => exact hP _ _ hm ih

end Moves

/-! ## The transmit path and the receiver -/

theorem moves_modMp (s : State) (f : Mp → Mp) (h : s.mp.Keeps (f s.mp)) : Moves wide s (s.modMp f) := .one (.mp (f s.mp) h)

/-- A change of the Message Port that leaves its buffer and its refusal replies. -/
theorem moves_mpRest (s : State) (f : Mp → Mp) (hb : (f s.mp).buffer = s.mp.buffer := by exact rfl)
    (hr : (f s.mp).refusals = s.mp.refusals := by exact rfl) : Moves wide s (s.modMp f) :=
  moves_modMp s f ⟨by rw [hb]; exact id, by rw [hr]; exact id⟩

theorem moves_sendNotice (w : TxKind) (n : Notice) (s : State) : Moves wide s (sendNotice w n s) :=
  (moves_mpRest s _).trans (moves_mpRest _ _)

theorem moves_pushNotice (n : Notice) (s : State) : Moves wide s (pushNotice n s) :=
  (Moves.one (.dequeue (s.nq.eraseP fun m => decide (m = n)) List.eraseP_sublist)).trans (moves_sendNotice _ _ _)

theorem moves_kick (s : State) : Moves wide s (kick s) := by
  unfold kick
  split
  · exact .refl s
  · rename_i r rs _ hr
    exact (moves_modMp s (fun m => { m with refusals := rs }) ⟨id, by rw [hr]; exact fun h => (Nat.le_succ _).trans h⟩).trans
      (moves_mpRest _ _)
  · exact (moves_mpRest s _).trans (moves_sendNotice _ _ _)
  · unfold sendReply
    split
    · exact moves_pushNotice _ _
    · exact (moves_mpRest s _).trans (moves_mpRest _ _)
  · unfold pushIfAny
    split
    · exact moves_pushNotice _ _
    · exact .refl s

theorem moves_after (s : State) : Moves wide s (after s) := (acts_pump s).moves.trans (moves_kick _)

theorem moves_finishKey (asked : Option Nat) (s0 s1 : State) : Moves wide s1 (finishKey asked s0 s1) :=
  .andThen (acts_tkAfterFor asked s0 s1) (moves_after _)

theorem moves_finish (s0 s1 : State) : Moves wide s1 (finish s0 s1) := .andThen (acts_tkAfter s0 s1) (moves_after _)

theorem acceptFrame_keeps (f : HostFrame) (m : Mp) : m.Keeps (acceptFrame f m) := by
  unfold acceptFrame
  split
  · rename_i h
    exact ⟨fun _ => by simpa using Nat.succ_le_of_lt h, id⟩
  · split
    · rename_i h
      exact ⟨id, fun _ => by simpa using Nat.succ_le_of_lt h⟩
    · exact ⟨id, id⟩

theorem moves_takeFrame (s : State) (f : HostFrame) : Moves wide s (takeFrame s f) :=
  (moves_modMp s _ (acceptFrame_keeps f s.mp)).trans (moves_kick _)

theorem moves_receiveBytes (bs : List Byte) (s : State) : Moves wide s (receiveBytes bs s) :=
  ((moves_mpRest s _).trans (.foldl _ moves_takeFrame _ _)).trans (moves_kick _)

theorem moves_dropHead (s : State) : Moves wide s (dropHead s) :=
  moves_modMp s _ ⟨(List.tail_sublist _).length_le.trans, id⟩

theorem moves_putReply (f : HostFrame) (p : List Byte) (s : State) : Moves wide s (putReply f p s) := moves_mpRest s _

/-! ## The steps of a boundary -/

theorem acts_muteAgain (l : Nat) (s : State) : Acts ⟨true, keyed⟩ s (muteAgain l s) := (acts_issueMute _ _ _ s).trans (acts_reportPark l _ _)

theorem acts_owedStep (o : Owed) (s : State) : Acts ⟨true, keyed⟩ s (owedStep o s) := by
  cases o with
  | silence l => exact .ite (acts_goSilent l s) (.refl s)
  | acquire l => exact .ite (acts_changeState _ _ _ s) (.refl s)
  | retune l => exact .ite (acts_startRevert l s) (.refl s)
  | revert l => exact .ite (acts_revertFails l s) (.refl s)
  | vacate l => exact .ite (((acts_release _ s).trans (acts_changeState _ _ _ _)).trans (acts_giveOutcome _ _ _)) (.refl s)
  | orders a => exact acts_expire a s
  | tallyRetry l => exact .ite ((acts_modLink s l _).trans (acts_deliveryTest l _)) (.refl s)
  | lampRetry t => exact .ite ((acts_modStation s t _).trans (acts_lampTest t _)) (.refl s)
  | tap t n => exact .ite (acts_tapEnds _ _ s) (.refl s)
  | pulse t => exact .ite (acts_endPulse t s) (.refl s)
  | scan b =>
    exact (acts_bandFlags s b (fun k => { k with scanReissue := k.scanReissue.filter fun x => decide (x.1 ≠ s.now) })
      fun _ => ⟨rfl, le_rfl, rfl, rfl, rfl⟩).trans (.foldl _ (fun s x => acts_issueScanAssign b x s) _ _)
  | mute l =>
    have h := acts_modLink (keyed := keyed) s l fun k => { k with muteReissue := k.muteReissue.filter fun e => decide (e ≠ s.now) }
    exact .ite (h.trans (.foldl _ (fun s _ => acts_muteAgain l s) _ _)) h
  | fade l => exact .ite (acts_fadeTest l s) (.refl s)

theorem acts_owed (os : List Owed) (s : State) : Acts wide s { s with owed := os } := .one (.owed os)

theorem moves_takeOwed (o : Owed) (s : State) : Moves ⟨true, keyed⟩ s (takeOwed o s) :=
  .ite ((acts_owed _ s).moves.trans (.andThen (acts_owedStep o _) (moves_finish _ _))) (.refl s)

theorem moves_takeSome (xs : List Owed) (s : State) : Moves ⟨true, keyed⟩ s (takeSome xs s) := .foldl _ (fun s o => moves_takeOwed o s) xs s

theorem moves_settleOwed (s : State) : Moves ⟨true, keyed⟩ s (settleOwed s) := (moves_takeSome s.owed s).trans (acts_owed [] _).moves

/-! ## The boundary and the timebase -/

theorem acts_endPulses (s : State) : Acts wide s (endPulses s) := .foldl _ (fun s t => .ite (acts_endPulse t s) (.refl s)) _ s

/-- A resolution gives a tally to every link and lamp. -/
theorem Tr.resolve_shaped {r : Tr} (h : r.shaped) : r.resolve.shaped := by
  obtain ⟨hlines, hvirtuals, hmap, -, -, hzones⟩ := h
  exact ⟨hlines, hvirtuals, hmap, by simp [Tr.resolve, oneUpTo], by simp [Tr.resolve, oneUpTo], by simpa [Tr.resolve] using hzones⟩

theorem acts_resolveNow (s : State) : Acts wide s (resolveNow s) :=
  (acts_modTr s (fun r => (r.snap s.now).resolve) fun h => Tr.resolve_shaped (r := s.tr.snap s.now) h).trans (acts_rewantAll _)

theorem acts_presentNow (tkFirst : Bool) (s : State) : Acts wide s (presentNow tkFirst s) :=
  .ite ((((acts_presentZones s).trans (acts_endPulses _)).trans (acts_tkAfter s _)).trans (acts_frameStep _))
    (((acts_frameStep s).trans (acts_presentZones _)).trans (acts_tkAfter _ _))

theorem Link.count_tallyOrder (k : Link) : k.count.tallyOrder = k.tallyOrder := by
  unfold Link.count; dsimp only; split <;> split <;> rfl

theorem acts_runBoundary (tkFirst : Bool) (s : State) : Acts ⟨true, keyed⟩ s (runBoundary tkFirst s) :=
  ((acts_resolveNow s).trans (acts_presentNow tkFirst _)).trans (acts_mapLinks _ _ Link.count_tallyOrder)

theorem acts_beginFrameAt (t : Nat) (s : State) : Acts wide s (beginFrameAt t s) := (acts_modFtb s _).trans (.one (.bus _))

theorem acts_boundaryAt (t : Nat) (tkFirst : Bool) (s : State) : Acts ⟨true, keyed⟩ s (boundaryAt t tkFirst s) := by
  unfold boundaryAt
  cases s.mode
  · exact (acts_beginFrameAt t s).trans (acts_owed _ _)
  · exact ((acts_beginFrameAt t s).trans (acts_runBoundary tkFirst _)).trans (acts_owed _ _)

theorem acts_repace (pace t : Nat) (tkFirst : Bool) (s : State) : Acts ⟨true, keyed⟩ s (repace pace t tkFirst s) :=
  .ite ((acts_modFtb s _).trans (acts_boundaryAt _ _ _)) (acts_modFtb s _)

theorem acts_timerBoundary (due pace : Nat) (tkFirst : Bool) (s : State) : Acts ⟨true, keyed⟩ s (timerBoundary due pace tkFirst s) :=
  (acts_modFtb s _).trans (acts_boundaryAt _ _ _)

theorem acts_timerDue (tkFirst : Bool) (s : State) : Acts ⟨true, keyed⟩ s (timerDue tkFirst s) := by
  unfold timerDue
  cases s.ftb.nextInternal with
  | none => exact .refl s
  | some due =>
    dsimp only
    cases s.ftb.refState with
    | locked => exact .ite (acts_timerBoundary _ _ _ _) (acts_modFtb s _)
    | absent | locking | holdover => exact acts_timerBoundary _ _ _ _

theorem acts_inHoldover (s : State) : Acts wide s (inHoldover s) := (acts_modFtb s _).trans (acts_raise _ _ _)

theorem acts_missHoldover (t : Nat) (tkFirst : Bool) (s : State) : Acts ⟨true, keyed⟩ s (missHoldover t tkFirst s) :=
  .ite (((acts_inHoldover s).trans (acts_modFtb _ _)).trans (acts_boundaryAt _ _ _)) ((acts_inHoldover s).trans (acts_modFtb _ _))

theorem acts_enterLocking (s : State) : Acts wide s (enterLocking s) := (acts_modFtb s _).trans (acts_raise _ _ _)

theorem acts_pulseInLocking (period : Option Nat) (s : State) : Acts wide s (pulseInLocking period s) := by
  unfold pulseInLocking
  split
  · exact .refl s
  · exact .ite (.ite (((acts_modFtb s _).trans (acts_modFtb _ _)).trans (acts_raise _ _ _)) (acts_modFtb s _)) (acts_modFtb s _)

theorem acts_pulseInLocked (t : Nat) (period : Option Nat) (tkFirst : Bool) (s : State) :
    Acts ⟨true, keyed⟩ s (pulseInLocked t period tkFirst s) := by
  unfold pulseInLocked
  split
  · exact (acts_modFtb s _).trans (acts_boundaryAt _ _ _)
  · exact (acts_inHoldover s).trans (acts_repace _ _ _ _)

theorem acts_pulseAt (t : Nat) (tkFirst : Bool) (s : State) : Acts ⟨true, keyed⟩ s (pulseAt t tkFirst s) := by
  unfold pulseAt
  refine Acts.trans (acts_modFtb s (Ftb.recordPulse t)) ?_
  dsimp only
  cases s.ftb.refState with
  | absent => exact acts_enterLocking _
  | holdover => exact (acts_enterLocking _).trans (acts_repace _ _ _ _)
  | locking => exact acts_pulseInLocking _ _
  | locked => exact acts_pulseInLocked _ _ _ _

theorem acts_watchdogExpires (tkFirst : Bool) (s : State) : Acts ⟨true, keyed⟩ s (watchdogExpires tkFirst s) := by
  unfold watchdogExpires
  split
  · exact acts_modFtb s _
  · exact acts_missHoldover _ _ _
  · exact .refl s

theorem acts_changeRate (r : Rate) (t : Nat) (s : State) : Acts ⟨true, keyed⟩ s (changeRate r t s) :=
  (((acts_modFtb s _).trans (acts_raise _ _ _)).trans (acts_raise _ _ _)).trans (acts_repace _ _ _ _)

/-! ## What the owner of a request makes of the state -/

/-- An answer comes of a chain of moves. -/
def Moved (wide : Reach) (s : State) (r : Answered) : Prop := Moves wide s r.1

namespace Moved

variable {s t : State} {r r' : Answered}

theorem refuse (c : Result) : Moved wide s (refuse c s) := .refl s
theorem ok {body : List Byte} (h : Acts wide s t) : Moved wide s (okWith body t) := h.moves
theorem accepted {body : List Byte} (h : Acts wide s t) : Moved wide s (acceptedWith body t) := h.moves
theorem read {body : List Byte} : Moved wide s (okWith body s) := .refl s
theorem ite {c : Prop} [Decidable c] (h : c → Moved wide s r) (k : ¬ c → Moved wide s r') : Moved wide s (if c then r else r') := by
  split
  · exact h ‹_›
  · exact k ‹_›
/-- A check that refuses, before the rest. -/
theorem check {c : Prop} [Decidable c] {code : Result} (k : ¬ c → Moved wide s r') :
    Moved wide s (if c then Machine.refuse code s else r') := .ite (fun _ => .refuse code) k

end Moved

theorem moved_configureTimebase (t : Nat) (a : Nat × Nat) (s : State) : Moved ⟨true, keyed⟩ s (configureTimebase t a s) := by
  unfold configureTimebase
  split
  · exact .refuse _
  · refine .check fun _ => .ok ?_
    have hlead : Acts ⟨true, keyed⟩ s (s.modFtb fun k => { k with lead := max 2 (min 50 a.2) }) :=
      .one (.ftb _ fun _ => show 2 ≤ max 2 (min 50 a.2) ∧ max 2 (min 50 a.2) ≤ 50 by omega)
    exact hlead.trans (.ite (.refl _) (acts_changeRate _ _ _))

theorem Band.redefine_bounded (p : BandParams) (k : Band) : (k.redefine p).bounded :=
  ⟨Nat.zero_le _, Nat.zero_le _, fun _ => by simp [Band.redefine]⟩

theorem moved_defineBand (a : Nat × BandParams) (s : State) : Moved wide s (defineBand a s) :=
  .check fun _ => .check fun _ => .check fun _ => .check fun _ => .ok
    (((acts_modBand s _ _ fun k _ => Band.redefine_bounded _ k).trans (acts_carrierChange _ _)).trans
      (acts_modBand _ _ _ fun _ => spectrumChanges_bounded 1))

theorem moved_guardBand (g : Guards) (s : State) : Moved wide s (guardBand g s) := by
  have hset : Acts wide s (s.modBand g.band (Band.guard g)) :=
    acts_bandFlags s g.band (Band.guard g) fun _ => ⟨rfl, le_rfl, rfl, rfl, rfl⟩
  have h := hset.trans (acts_carrierChange g.band _)
  exact .check fun _ => .check fun _ => .ok (.ite (h.trans (acts_pruneAll _ _)) h)

theorem moved_changeExclusions (change : StepRange → List StepRange → List StepRange) (a : Nat × StepRange) (s : State) :
    Moved wide s (changeExclusions change a s) :=
  .check fun _ => .check fun _ => .check fun _ => .check fun _ => .check fun h => .ok
    ((acts_modBand s a.1 (fun k => { k with exclusions := change a.2 (s.band a.1).exclusions })
      fun _ ⟨_, hs, hb⟩ => ⟨Nat.le_of_not_lt h, hs, hb⟩).trans (acts_carrierChange _ _))

theorem acts_setFrozen (b : Nat) (v : Bool) (s : State) :
    Acts wide s (raise .bandFreeze b (s.modBand b fun k => { k with frozen := v })) :=
  (acts_bandFlags s b (fun k => { k with frozen := v }) fun _ => ⟨rfl, le_rfl, rfl, rfl, rfl⟩).trans (acts_raise _ _ _)

theorem moved_freezeBand (b : Nat) (s : State) : Moved wide s (freezeBand b s) :=
  .check fun _ => .check fun _ => .ok (.ite (.refl s) (acts_setFrozen b true s))

theorem mild_unfreezeLink (b : Nat) (k : Link) : k.Mild (unfreezeLink b k) := by
  unfold unfreezeLink
  split
  · rename_i h
    exact .setRescue (.inr h.2.1) _
  · exact .refl k

theorem moved_unfreezeBand (b : Nat) (s : State) : Moved wide s (unfreezeBand b s) :=
  .check fun _ => .check fun _ => .ok (.ite
    ((acts_setFrozen b false s).trans (acts_mildLinks _ _ (mild_unfreezeLink b) fun k => by unfold unfreezeLink; split <;> rfl)) (.refl s))

theorem moved_checkCandidate (a : Candidate) (s : State) : Moved wide s (checkCandidate a s) :=
  .check fun _ => .check fun _ => .check fun _ => .check fun h => .accepted
    ((acts_joinQueue _ s (length_lt_of_queueRoom (by simpa using h))).trans
      (acts_queue _ (fun e => { e with queryNumber := e.queryNumber + 1 }) id))

theorem moved_askSweep (b : Nat) (s : State) : Moved wide s (askSweep b s) :=
  .check fun _ => .check fun _ => .ite (fun _ => .accepted (.ite (acts_sweepFlag b true s) (.refl s)))
    fun _ => .check fun h => .accepted
      ((acts_joinQueue _ s (length_lt_of_queueRoom (by simpa using h))).trans (acts_sweepFlag b false _))

theorem acts_planSeesDefine (l : Nat) (old new : LinkConfig) (s : State) : Acts wide s (planSeesDefine l old new s) :=
  .ite (acts_invalidatePlan s) (.refl s)

theorem acts_vacateLink (l : Nat) (s : State) : Acts ⟨true, keyed⟩ s (vacateLink l s) := by
  have h := acts_modLink (keyed := keyed) s l (fun _ => Link.vacant) fun _ => .inr rfl
  exact ((h.trans (.ite (.refl _) (acts_raise _ _ _))).trans (acts_planSeesDefine l _ _ _)).trans (acts_rewant l _)

theorem Link.redefine_tallyOrder (c : LinkConfig) (k : Link) :
    (k.redefine c).tallyOrder = k.tallyOrder ∨ (k.redefine c).tallyOrder = none := by
  unfold Link.redefine Link.retally
  dsimp only
  split
  · exact .inr rfl
  · exact .inl rfl

theorem acts_storeLink (l : Nat) (c : LinkConfig) (s : State) : Acts ⟨true, keyed⟩ s (storeLink l c s) := by
  have h := acts_modLink (keyed := keyed) s l (Link.redefine c) (Link.redefine_tallyOrder c)
  exact ((h.trans (.ite (acts_changeState _ _ _ _) (.refl _))).trans (acts_planSeesDefine l _ _ _)).trans (acts_rewant l _)

theorem acts_jobsSeeMove (l : Nat) (s : State) : Acts wide s (jobsSeeMove l s) := acts_queue s _ fun h => by simpa using h

theorem moved_defineLink (a : Nat × LinkConfig) (s : State) : Moved ⟨true, keyed⟩ s (defineLink a s) := by
  have h : Acts ⟨true, keyed⟩ s (if a.2.kind.isSome then storeLink a.1 a.2.clamped s else vacateLink a.1 s) :=
    .ite (acts_storeLink _ _ _) (acts_vacateLink _ _)
  exact .check fun _ => .check fun _ => .check fun _ => .check fun _ => .check fun _ => .check fun _ => .check fun _ =>
    .ok (.ite (h.trans (acts_jobsSeeMove _ _)) h)

theorem moved_assignLink (a : Assign) (s : State) : Moved wide s (assignLink a s) :=
  .check fun _ => .check fun _ => .check fun _ => .check fun _ => .check fun _ => .check fun _ => .check fun h =>
    .accepted (acts_joinQueue _ s (length_lt_of_queueRoom (by simpa using h)))

theorem acts_giveUp (l : Nat) (s : State) : Acts ⟨true, keyed⟩ s (giveUp l s) := by
  have h := (((acts_issueMute (wide := ⟨true, keyed⟩) l s.nextEffective (.lsRelease l) s).trans (acts_release (s.link l).cfg.band _)).trans
    (acts_changeState l .idle none _)).trans (acts_giveOutcome l .vacated _)
  exact .ite (h.trans (acts_raise _ _ _)) h

theorem moved_releaseLink (l : Nat) (s : State) : Moved ⟨true, keyed⟩ s (releaseLink l s) :=
  .check fun _ => .check fun _ => .check fun _ => .ok (acts_giveUp l s)

theorem acts_park (l : Nat) (s : State) : Acts ⟨true, keyed⟩ s (park l s) :=
  ((acts_issueMute l _ _ s).trans (acts_changeState l _ _ _)).trans (acts_reportPark l _ _)

theorem moved_parkLink (l : Nat) (s : State) : Moved ⟨true, keyed⟩ s (parkLink l s) :=
  .check fun _ => .check fun _ => .ite (fun _ => .ok (acts_park l s)) fun _ => .refuse _

theorem moved_unparkLink (l : Nat) (s : State) : Moved ⟨true, keyed⟩ s (unparkLink l s) :=
  .check fun _ => .check fun _ => .check fun _ => .check fun _ => .ok
    ((acts_enterAcquiring l _ s).trans (acts_giveOutcome l _ _))

theorem moved_forceSilence (l : Nat) (s : State) : Moved ⟨true, keyed⟩ s (forceSilence l s) :=
  .check fun _ => .check fun _ => .ok (acts_goSilent l s)

theorem acts_emptyPlan (st : PlanState) (s : State) : Acts wide s (emptyPlan st s) :=
  (acts_modPlan s _ fun _ => Nat.zero_le _).trans (acts_setPlanState _ _)

theorem moved_openPlan (a : Unit) (s : State) : Moved wide s (openPlan a s) := by
  unfold openPlan
  cases s.plan.state with
  | idle | rejected | done => exact .ok (acts_emptyPlan _ _)
  | opened | checking | ready | applying => exact .refuse _

theorem moved_enterPlan (a : Nat × Option Nat) (s : State) : Moved wide s (enterPlan a s) :=
  .check fun _ => .check fun _ => .check fun _ => .check fun _ => .check fun _ => .check fun h =>
    .ok (.one (.plan _ fun _ => Nat.le_of_not_lt h))

theorem moved_closePlan (a : Unit) (s : State) : Moved wide s (closePlan a s) :=
  .check fun _ => .check fun _ => .check fun h => .accepted
    ((acts_joinQueue _ s (length_lt_of_queueRoom (by simp_all))).trans (acts_setPlanState _ _))

theorem acts_moveParked (l step : Nat) (s : State) : Acts ⟨true, keyed⟩ s (moveParked l step s) :=
  ((acts_release _ s).trans (acts_modLink _ l fun k => { k with assigned := some step })).trans (acts_hold _ _ _ _)

theorem acts_startVacate (l : Nat) (e : FrameNo) (s : State) : Acts ⟨true, keyed⟩ s (startVacate l e s) := by
  have h := ((acts_issueMute (wide := ⟨true, keyed⟩) l e (.rcVacate l) s).trans (acts_changeState l .parked none _)).trans
    (acts_modLink _ l (fun k => if (s.link l).state = .acquiring then { k with effectiveFrame := none, deadline := none } else k)
      fun k => .inl (by split <;> rfl))
  exact .ite (h.trans (acts_raise _ _ _)) h

theorem acts_applyEntry (e : FrameNo) (s : State) (x : PlanEntry) : Acts ⟨true, keyed⟩ s (applyEntry e s x) := by
  unfold applyEntry
  dsimp only
  generalize x.target = target
  generalize (s.link x.link).state = state
  cases target with
  | none =>
    cases state with
    | idle => exact acts_giveOutcome _ _ s
    | acquiring | locked | fading | parked => exact acts_startVacate _ _ s
    | vacant | retuning | reverting | lost => exact .refl s
  | some step =>
    cases state with
    | locked | fading => exact .ite (acts_giveOutcome _ _ s) (acts_startRetune _ _ _ _ s)
    | parked => exact Acts.trans (.ite (.refl s) (acts_moveParked _ _ s)) (acts_giveOutcome _ _ _)
    | idle => exact (acts_takeStep _ _ _ s).trans (acts_giveOutcome _ _ _)
    | vacant | acquiring | retuning | reverting | lost => exact .refl s

theorem acts_launch (e : FrameNo) (s : State) : Acts ⟨true, keyed⟩ s (launch e s) :=
  (((acts_modPlan s fun p => { p with effective := some e }).trans (acts_setPlanState .applying _)).trans
    (.foldl _ (acts_applyEntry e) s.plan.entries _)).trans (acts_finishPlan _)

theorem moved_launchPlan (a : Option FrameNo) (s : State) : Moved ⟨true, keyed⟩ s (launchPlan a s) := by
  refine .check fun _ => .check fun _ => .check fun _ => ?_
  split
  · exact .refuse _
  · exact .ok (acts_launch _ s)

theorem moved_abandonPlan (a : Unit) (s : State) : Moved wide s (abandonPlan a s) := by
  unfold abandonPlan
  cases s.plan.state with
  | idle => exact .read
  | opened | checking | ready | rejected | done => exact .ok (acts_emptyPlan _ _)
  | applying => exact .refuse _

theorem overMask_length {α : Type} (mask : Nat) (f : α → α) (xs : List α) : (overMask mask f xs).length = xs.length := by
  simp [overMask]

theorem moved_configureInputs (a : InputConfig) (s : State) : Moved wide s (configureInputs a s) :=
  .check fun _ => .ok (acts_modTr s _ fun ⟨h, hs⟩ => ⟨(overMask_length _ _ _).trans h, hs⟩)

theorem moved_setVirtual (a : Nat × Nat) (s : State) : Moved wide s (setVirtual a s) :=
  .ok (acts_modTr s _ fun ⟨hl, h, hs⟩ => ⟨hl, by simpa [setVirtuals] using h, hs⟩)

theorem moved_setMap (a : Nat × Option MapEntry) (s : State) : Moved wide s (setMap a s) :=
  .check fun _ => .check fun _ => .check fun _ => .ok
    (acts_modTr s _ fun ⟨hl, hv, h, hs⟩ => ⟨hl, hv, (modSlot_length _ _ _).trans h, hs⟩)

theorem moved_readTally (a : TallySection × Nat) (s : State) : Moved wide s (readTally a s) :=
  .check fun _ => .ok (acts_modTr s (clearEdges a.2) fun ⟨h, hs⟩ =>
    ⟨(overMask_length a.2 (fun x : LineInput => { x with edge := false }) s.tr.lines).trans h, hs⟩)

theorem acts_interlock (z : Nat) (on : Bool) (s : State) : Acts wide s (interlock z on s) :=
  (acts_modTr s (fun r => { r with zones := modSlot (fun x => { x with speakerCut := on }) r.zones z })
    fun ⟨hl, hv, hm, ht, hp, hz⟩ => ⟨hl, hv, hm, ht, hp, (modSlot_length _ _ _).trans hz⟩).trans
    (acts_modTk _ (fun k => { k with zones := modSlot (fun x => { x with speakerCut := on }) k.zones z })
      (Tk.keeps_of_routes rfl rfl id id) (modSlot_length _ _ _))

theorem moved_setInterlock (a : Nat × Bool) (s : State) : Moved wide s (setInterlock a s) := .check fun _ => .ok (acts_interlock _ _ s)

theorem moved_configureLamp (a : Nat × LampConfig) (s : State) : Moved wide s (configureLamp a s) :=
  .check fun _ => .check fun _ => .check fun _ => .ok (acts_modLamp s _ _)

/-- A station takes a record whose priority is in range (R164). -/
theorem acts_setStation (hk : wide.keys = true) (t : Nat) (x : Station) (hx : x.priority ≤ 7) (s : State) : Acts wide s (s.modStation t fun _ => x) :=
  acts_modTk s _
    { stations := modSlot_length _ _ _, groups := rfl, breaks := id,
      sound := fun ⟨hlen, hnodup, hroutes, hpri⟩ => ⟨hlen, hnodup, hroutes, fun y hy => by
        obtain hy | ⟨_, _, rfl⟩ := mem_modSlot hy
        · exact hpri y hy
        · exact hx⟩ } rfl (.inl hk)

theorem moved_defineStation (hk : wide.keys = true) (a : Nat × Station) (s : State) : Moved wide s (defineStation a s) :=
  .check fun _ => .check fun _ => .check fun hpri => .check fun _ => .check fun _ => .check fun _ => .ok
    (acts_setStation hk a.1 _ (by
      have h : a.2.priority ≤ 7 := Nat.le_of_not_lt fun h => hpri (.inr h)
      split
      · exact h
      · exact Nat.zero_le _) s)

theorem moved_defineGroup (hk : wide.keys = true) (a : Nat × List Nat) (s : State) : Moved wide s (defineGroup a s) :=
  .check fun _ => .check fun _ => .check fun _ => .ok
    (acts_modTk s _ { stations := rfl, groups := modSlot_length _ _ _, breaks := id, sound := id } rfl (.inl hk))

theorem moved_keyRequest (hk : wide.keys = true) (a : KeyPress) (s : State) : Moved wide s (keyRequest a s) :=
  .check fun _ => .check fun _ => .check fun _ => .check fun _ => .ok (acts_pressKey hk _ _ _ s)

theorem moved_readTalk (a : Nat × Nat) (s : State) : Moved wide s (readTalk a s) := by
  unfold readTalk
  split
  · exact .read
  · exact .refuse _

theorem acts_startScan (s : State) (b : Nat) : Acts wide s (startScan s b) := by
  unfold startScan
  split
  · exact acts_issueScanAssign _ _ s
  · exact .refl s

theorem acts_enterRun (hk : keyed = true) (s : State) : Acts ⟨true, keyed⟩ s (enterRun s) :=
  ((Acts.one (.mode hk .run)).trans (acts_mapLinks _ (Link.start s.now) fun k => by unfold Link.start; split <;> rfl)).trans
    (.foldl _ acts_startScan _ _)

theorem moved_startPart (hk : keyed = true) (a : Unit) (s : State) : Moved ⟨true, keyed⟩ s (startPart a s) := .check fun _ => .ok (acts_enterRun hk s)

theorem acts_stopTally (s : State) : Acts wide s (stopTally s) :=
  (acts_modTr s _ fun h => Tr.resolve_shaped (r := s.tr.clearSnap) h).trans (acts_rewantAll _)

theorem acts_enterStandby (hk : wide.keys = true) (tkFirst : Bool) (s : State) : Acts wide s (enterStandby tkFirst s) :=
  (((Acts.one (.mode hk .standby)).trans (acts_withdrawAll _)).trans
    (.ite ((acts_tkStop hk _ _).trans (acts_stopTally _)) ((acts_stopTally _).trans (acts_tkStop hk _ _)))).trans
    ((acts_stopLamps _).trans (acts_presentZones _))

theorem moved_stopPart (hk : wide.keys = true) (tkFirst : Bool) (a : Unit) (s : State) : Moved wide s (stopPart tkFirst a s) :=
  .check fun _ => .check fun _ => .ok (acts_enterStandby hk tkFirst s)

theorem moved_restartPart (hk : keyed = true) (a : Unit) (s : State) : Moved ⟨true, keyed⟩ s (restartPart a s) :=
  .one (.warm rfl hk)

theorem moved_enableNotices (a : Nat × Nat) (s : State) : Moved wide s (enableNotices a s) := .check fun _ =>
  moves_mpRest s fun m => { m with pushMask := BitVec.ofNat 8 a.1, attnMask := BitVec.ofNat 8 a.2 }

theorem moved_fetchNotices (n : Nat) (s : State) : Moved wide s (fetchNotices n s) :=
  Moves.trans (moves_mpRest s fun m => { m with fetched := s.nq.take (max 1 (min 8 n)) })
    (.one (.dequeue (s.nq.drop (max 1 (min 8 n))) (List.drop_sublist _ _)))

/-! ## Every command -/

theorem request_moves {α : Type} {code : Nat} {read : List Byte → Option α} {act : α → State → Answered}
    {rest : State → State → State} (hact : ∀ a s, Moved ⟨true, keyed⟩ s (act a s)) (hrest : ∀ s0 s1, Moves ⟨true, keyed⟩ s1 (rest s0 s1)) {s t : State}
    (h : request code read act rest s = .next t) : Moves ⟨true, keyed⟩ s t := by
  unfold request at h
  dsimp only at h
  split at h
  · cases h
    exact moves_settleOwed s
  · rename_i f _
    cases h
    have ha : Moved ⟨true, keyed⟩ (dropHead (settleOwed s)) (answer f read act (dropHead (settleOwed s))) := by
      unfold answer
      split
      · exact .refuse _
      · exact hact _ _
    exact (((moves_settleOwed s).trans (moves_dropHead _)).trans (Moves.trans ha (moves_putReply f
      (answer f read act (dropHead (settleOwed s))).2 _))).trans (.ite (hrest _ _) (moves_kick _))

theorem moves_afterRead (s0 s1 : State) : Moves wide s1 (afterRead s0 s1) := moves_kick s1
theorem moves_afterJob (s0 s1 : State) : Moves wide s1 (afterJob s0 s1) := moves_after s1

theorem event_moves {act : State → State} (hact : ∀ s, Moves ⟨true, keyed⟩ s (act s)) {s t : State} (h : event act s = .next t) : Moves ⟨true, keyed⟩ s t := by
  cases h
  exact (moves_settleOwed s).trans (hact _)

theorem moves_reportSample (u : Nat) (s : State) (x : Sample) : Moves ⟨true, keyed⟩ s (reportSample u s x) := by
  unfold reportSample
  split
  · exact .refl s
  · exact .andThen (acts_takeSample _ _ s) (moves_finish _ _)

theorem moves_reportKey (hk : wide.keys = true) (u : Nat) (s : State) (x : KeyReport) : Moves wide s (reportKey u s x) := by
  unfold reportKey
  split
  · exact .refl s
  · exact .ite (.andThen (acts_pressKey hk _ _ _ s) (moves_finishKey _ _ _)) (.refl s)

theorem moves_takeReport (hk : keyed = true) (r : Report) (s : State) : Moves ⟨true, keyed⟩ s (takeReport r s) := by
  have h : Moves ⟨true, keyed⟩ s (finish s (acknowledgeAll r.unit r.acks s)) := .andThen (acts_acknowledgeAll _ _ s) (moves_finish _ _)
  exact .ite ((h.trans (.foldl _ (moves_reportSample _) _ _)).trans (.foldl _ (moves_reportKey hk _) _ _)) h

theorem moves_completion (s : State) : Moves ⟨true, keyed⟩ s (completeAssign s) ∧ Moves ⟨true, keyed⟩ s (completePlan s) ∧ Moves ⟨true, keyed⟩ s (completeQuery s) ∧
    Moves ⟨true, keyed⟩ s (completeSweep s) ∧ Moves ⟨true, keyed⟩ s (completePick s) ∧ Moves ⟨true, keyed⟩ s (completeDrain s) := by
  refine ⟨?_, ?_, ?_, ?_, ?_, ?_⟩
  · unfold completeAssign; split
    · exact .andThen ((acts_assignDone _ _ _ _ s).trans (acts_leaveQueue _)) (moves_finish _ _)
    · exact .refl s
  · unfold completePlan; split
    · exact .andThen ((acts_planDone _ s).trans (acts_leaveQueue _)) (moves_after _)
    · exact .refl s
  · unfold completeQuery; split
    · exact .andThen ((acts_queryDone _ _ _ _ _ _ s).trans (acts_leaveQueue _)) (moves_after _)
    · exact .refl s
  · unfold completeSweep; split
    · exact .andThen ((acts_sweepDone _ _ s).trans (acts_leaveQueue _)) (moves_after _)
    · exact .refl s
  · unfold completePick; split
    · rename_i h
      exact .andThen (acts_rescueDone _ _ _ s (by rw [h]; rfl)) (moves_finish _ _)
    · exact .refl s
  · unfold completeDrain; split
    · exact .andThen (acts_queue s (fun e => { e with engine := .idle }) id) (moves_after _)
    all_goals exact .refl s

/-- The commands that may change keys, what they cover, their holders or the mode. -/
def movesKeys : Instr → Bool
  | .keyEvent | .stationDefine | .groupDefine | .start | .stop _ | .restart | .report _ => true
  | _ => false

/-- Every command but COLD_RESET is a chain of moves, of which no other than those named moves keys. -/
theorem exec_moves {c : Instr} {s t : State} (hc : ∀ straps, c ≠ .coldReset straps) (hk : movesKeys c = true → keyed = true) (h : exec c s = .next t) :
    Moves ⟨true, keyed⟩ s t := by
  have hread {α : Type} (act : α → State → Answered) (hact : ∀ a s, (act a s).1 = s) (a : α) (s : State) : Moved ⟨true, keyed⟩ s (act a s) := by
    unfold Moved; rw [hact]; exact .refl s
  cases c with
  | coldReset straps => exact absurd rfl (hc straps)
  | refPulse t k => exact event_moves (fun s => .andThen (acts_pulseAt t k s) (moves_after _)) h
  | internalTimerDue k => exact event_moves (fun s => .andThen (acts_timerDue k s) (moves_after _)) h
  | pulseWatchdogExpiry k => exact event_moves (fun s => .andThen (acts_watchdogExpires k s) (moves_after _)) h
  | fadeTimerLimit | silenceExpiry | acquireDeadline | retuneDeadline | revertDeadline | vacateEffective | orderExpiry | tallyRetry
  | lampRetry | tapDeadline | callPulseEnd | scanAssignReissue | muteReissue =>
    cases h
    exact moves_takeOwed _ s
  | pwmPeriodStart m => exact event_moves (fun s => (acts_modLamp s m _).moves) h
  | edge n high =>
    refine event_moves (act := fun s => kick (sampleLine n high s)) (fun s => Moves.trans (Acts.moves ?_) (moves_kick _)) h
    have hline : Acts ⟨true, keyed⟩ s (s.modLine n fun _ => ((s.line n).sampled high).1) :=
      acts_modTr s _ fun ⟨h, hs⟩ => ⟨(modSlot_length _ _ _).trans h, hs⟩
    exact .ite (hline.trans (acts_raise _ _ _)) hline
  | frameGood bs | frameFailed bs => exact event_moves (moves_receiveBytes bs) h
  | frameAbandoned => exact event_moves (fun s => moves_mpRest s _) h
  | transmitPathFree => exact event_moves (fun s => (moves_mpRest s _).trans (moves_kick _)) h
  | unknownRequest =>
    change execUnknownRequest s = .next t at h
    unfold execUnknownRequest at h
    dsimp only at h
    split at h
    · cases h
      exact moves_settleOwed s
    · cases h
      exact (((moves_settleOwed s).trans (moves_dropHead _)).trans (moves_putReply _ _ _)).trans (moves_kick _)
  | tbConfigure t => exact request_moves (moved_configureTimebase t) moves_afterJob h
  | tbStatus => exact request_moves (fun _ _ => .read) moves_afterRead h
  | bandDefine => exact request_moves moved_defineBand moves_afterJob h
  | bandGuards => exact request_moves moved_guardBand moves_afterJob h
  | exclAdd => exact request_moves (moved_changeExclusions _) moves_afterJob h
  | exclRemove => exact request_moves (moved_changeExclusions _) moves_afterJob h
  | bandFreeze => exact request_moves moved_freezeBand moves_afterJob h
  | bandUnfreeze => exact request_moves moved_unfreezeBand moves_afterJob h
  | bandRead => exact request_moves (act := readBand) (fun _ _ => .check fun _ => .read) moves_afterRead h
  | scanRead => exact request_moves (act := readScan) (fun _ _ => .check fun _ => .check fun _ => .read) moves_afterRead h
  | checkCandidate => exact request_moves moved_checkCandidate moves_afterJob h
  | spareSweep => exact request_moves moved_askSweep moves_afterJob h
  | linkDefine => exact request_moves moved_defineLink moves_finish h
  | linkAssign => exact request_moves moved_assignLink moves_afterJob h
  | linkRelease => exact request_moves moved_releaseLink moves_finish h
  | linkPark => exact request_moves moved_parkLink moves_finish h
  | linkUnpark => exact request_moves moved_unparkLink moves_finish h
  | linkForceSilence => exact request_moves moved_forceSilence moves_finish h
  | linkRead => exact request_moves (act := readLink) (fun _ _ => .check fun _ => .read) moves_afterRead h
  | planOpen => exact request_moves moved_openPlan moves_afterJob h
  | planEntry => exact request_moves moved_enterPlan moves_afterJob h
  | planClose => exact request_moves moved_closePlan moves_afterJob h
  | planLaunch => exact request_moves moved_launchPlan moves_finish h
  | planAbandon => exact request_moves moved_abandonPlan moves_afterJob h
  | planRead => exact request_moves (act := readPlan) (fun _ _ => .read) moves_afterRead h
  | tallyInputConfigure => exact request_moves moved_configureInputs moves_afterRead h
  | tallyMapSet => exact request_moves moved_setMap moves_afterRead h
  | tallyVirtual => exact request_moves moved_setVirtual moves_afterRead h
  | tallyRead => exact request_moves moved_readTally moves_afterRead h
  | zoneInterlock => exact request_moves moved_setInterlock moves_finish h
  | lampConfigure => exact request_moves moved_configureLamp moves_afterRead h
  | lampRead => exact request_moves (act := readLamp) (fun _ _ => .check fun _ => .read) moves_afterRead h
  | stationDefine => exact request_moves (moved_defineStation (hk rfl)) moves_afterRead h
  | groupDefine => exact request_moves (moved_defineGroup (hk rfl)) moves_afterRead h
  | keyEvent => exact request_moves (moved_keyRequest (hk rfl)) moves_finish h
  | talkRead => exact request_moves moved_readTalk moves_afterRead h
  | start => exact request_moves (moved_startPart (hk rfl)) moves_afterJob h
  | stop k => exact request_moves (moved_stopPart (hk rfl) k) moves_afterJob h
  | restart => exact request_moves (moved_restartPart (hk rfl)) moves_afterJob h
  | status => exact request_moves (act := readStatus) (fun _ _ => .read) moves_afterRead h
  | identify => exact request_moves (act := identifyPart) (fun _ _ => .read) moves_afterRead h
  | noticeEnable => exact request_moves moved_enableNotices moves_afterRead h
  | noticeFetch => exact request_moves moved_fetchNotices moves_afterRead h
  | report bs =>
    change execReport bs s = .next t at h
    unfold execReport at h
    split at h
    · cases h
      exact .refl s
    · cases h
      exact Moves.trans (.ite (moves_takeSome _ s) (.refl s)) (moves_takeReport (hk rfl) _ _)
  | scanData bs =>
    refine event_moves (act := fun s => match readScanData bs with
      | none => s
      | some x => after (takeScanData x s)) (fun s => ?_) h
    split
    · exact .refl s
    · exact .andThen (.ite (acts_applyLevels _ _ _ s) (.refl s)) (moves_after _)
  | matrixReport bs =>
    refine event_moves (act := fun s => match readMatrixReport bs with
      | none => s
      | some acks => finish s (takeMatrixReport acks s)) (fun s => ?_) h
    split
    · exact .refl s
    · exact .andThen ((acts_acknowledgeAll _ _ s).trans (acts_matrixEvent _)) (moves_finish _ _)
  | assignCheckComplete => exact event_moves (fun s => (moves_completion s).1) h
  | planCheckComplete => exact event_moves (fun s => (moves_completion s).2.1) h
  | queryComplete => exact event_moves (fun s => (moves_completion s).2.2.1) h
  | sweepComplete => exact event_moves (fun s => (moves_completion s).2.2.2.1) h
  | rescuePickComplete => exact event_moves (fun s => (moves_completion s).2.2.2.2.1) h
  | drainComplete => exact event_moves (fun s => (moves_completion s).2.2.2.2.2) h

/-- An invariant that holds after cold reset, bears on nothing that waits, and that every move keeps, is kept by every step. -/
theorem step_keeps {P : State → Prop} (hwait : ∀ s q, P s ↔ P { s with pending := q }) (hcold : ∀ straps, P (State.cold straps))
    (hmove : ∀ s t, Move .full s t → P s → P t) {s t : State} (hs : P s) (h : step s = .next t) : P t := by
  unfold step at h
  split at h
  · cases h
    exact hs
  · rename_i c rest _
    by_cases hc : ∃ straps, c = .coldReset straps
    · obtain ⟨straps, rfl⟩ := hc
      cases h
      exact (hwait _ _).1 (hcold straps)
    · exact (exec_moves (fun straps he => hc ⟨straps, he⟩) (fun _ => rfl) h).keeps hmove ((hwait _ _).1 hs)

end Sys2Proof.Machine

/-! Invariants that every step keeps: the sizes and capacities of tables, single notices, sound units and a sound route table. Each is
checked against the elementary changes alone. -/

namespace Sys2Proof.Machine

-- One theorem at a time: all at once, their threads together outgrow the memory limit of the check.
set_option Elab.async false

/-! ## What the issue of an order does (R126, R127) -/

/-- The order that an issue makes. -/
def State.newOrder (s : State) (a : Nat) (body : OrderBody) (i : Issuer) : Order :=
  { id := s.nextOrderId, address := a, body := body, issuer := i, deadline := body.deadline s.now, number := none }

/-- The state after the order's id is taken. -/
def State.tookId (s : State) : State := { s with nextOrderId := s.nextOrderId + 1 }

/-- An order is sent into a free place; or it waits, or overflows; or it is sent into the place of an order that it displaces. -/
theorem issue_cases (a : Nat) (body : OrderBody) (i : Issuer) (s : State) :
    let o := s.newOrder a body i
    let r := issue a body i s
    ((s.unit a).outstanding.length < Config.outstanding ∧ r.overflow = false ∧ r.state = send o s.tookId) ∨
    (Config.outstanding ≤ (s.unit a).outstanding.length ∧ (s.unit a).waiting.length < Config.waiting ∧ r.overflow = false ∧
      r.state = s.tookId.modUnit a fun u => { u with waiting := u.waiting ++ [o] }) ∨
    (Config.outstanding ≤ (s.unit a).outstanding.length ∧ Config.waiting ≤ (s.unit a).waiting.length ∧ r.overflow = true ∧
      r.state = s.tookId) ∨
    (Config.outstanding ≤ (s.unit a).outstanding.length ∧ o.isTally = false ∧ r.overflow = false ∧
      ∃ v, (s.unit a).outstanding.find? Order.displaceable = some v ∧ r.state = send o (displaced v
        (s.tookId.modUnit a fun u => { u with outstanding := u.outstanding.eraseP Order.displaceable }))) := by
  intro o r
  have hjoin (ho : Config.outstanding ≤ (s.unit a).outstanding.length) (h : r = joinWaiting o s.tookId) :
      (Config.outstanding ≤ (s.unit a).outstanding.length ∧ (s.unit a).waiting.length < Config.waiting ∧ r.overflow = false ∧
        r.state = s.tookId.modUnit a fun u => { u with waiting := u.waiting ++ [o] }) ∨
      (Config.outstanding ≤ (s.unit a).outstanding.length ∧ Config.waiting ≤ (s.unit a).waiting.length ∧ r.overflow = true ∧
        r.state = s.tookId) := by
    by_cases hw : (s.unit a).waiting.length < Config.waiting
    · have h := h.trans (if_pos hw)
      exact .inl ⟨ho, hw, congrArg Issued.overflow h, congrArg Issued.state h⟩
    · have h := h.trans (if_neg hw)
      exact .inr ⟨ho, Nat.le_of_not_lt hw, congrArg Issued.overflow h, congrArg Issued.state h⟩
  by_cases ho : (s.unit a).outstanding.length < Config.outstanding
  · have h : r = ⟨send o s.tookId, o.id, false⟩ := if_pos ho
    exact .inl ⟨ho, congrArg Issued.overflow h, congrArg Issued.state h⟩
  · have ho' := Nat.le_of_not_lt ho
    refine .inr ?_
    by_cases ht : o.isTally = true
    · have h : r = joinWaiting o s.tookId := (if_neg ho).trans (if_pos ht)
      exact (hjoin ho' h).elim .inl fun h => .inr (.inl h)
    · have h : r = match (s.unit a).outstanding.find? Order.displaceable with
          | some v => ⟨send o (displaced v
              (s.tookId.modUnit a fun u => { u with outstanding := u.outstanding.eraseP Order.displaceable })), o.id, false⟩
          | none => joinWaiting o s.tookId := (if_neg ho).trans (if_neg ht)
      cases hv : (s.unit a).outstanding.find? Order.displaceable with
      | none =>
        rw [hv] at h
        exact (hjoin ho' h).elim .inl fun h => .inr (.inl h)
      | some v =>
        rw [hv] at h
        exact .inr (.inr ⟨ho', Bool.eq_false_of_not_eq_true ht, congrArg Issued.overflow h, v, rfl, congrArg Issued.state h⟩)

/-- A displaced order changes the tally fields of one link, or the lamp order of one station, or nothing. -/
theorem displaced_cases (v : Order) (s : State) :
    displaced v s = s ∨
    (∃ l at_, v.issuer = .tr l ∧ displaced v s = s.modLink l fun k => { k with tallyOrder := none, retryAt := some at_ }) ∨
    ∃ t, v.issuer = .tkLamp t ∧
      displaced v s = s.modStation t fun k => { k with lampOrder := none, lampRetry := some (framePlus s.now 1) } := by
  unfold displaced
  split
  · rename_i l hi
    unfold tallyFailed
    split
    · split
      · exact .inr (.inl ⟨l, _, hi, rfl⟩)
      · exact .inl rfl
    · exact .inl rfl
  · rename_i t hi
    unfold lampFailed
    split
    · split
      · exact .inr (.inr ⟨t, hi, rfl⟩)
      · exact .inl rfl
    · exact .inl rfl
  · exact .inl rfl

/-! ## Sizes and capacities (O6) -/

/-- Every table has its size and every queue its capacity. -/
def State.tabled (s : State) : Prop := s.shaped ∧ s.bounded

theorem tabled_of_eq {s t : State} (hb : t.bands = s.bands) (hl : t.links.length = s.links.length)
    (hu : t.units.length = s.units.length) (hla : t.lamps = s.lamps) (hz : t.lampZones = s.lampZones) (htr : t.tr = s.tr)
    (hst : t.tk.stations.length = s.tk.stations.length) (hg : t.tk.groups = s.tk.groups) (hbr : t.tk.breaks = s.tk.breaks)
    (htz : t.tk.zones = s.tk.zones) (hpe : t.pe = s.pe) (hmp : t.mp = s.mp) (hpl : t.plan = s.plan) (hf : t.ftb = s.ftb)
    (h : s.tabled) : t.tabled := by
  simpa only [State.tabled, State.shaped, State.bounded, hb, hl, hu, hla, hz, htr, hst, hg, hbr, htz, hpe, hmp, hpl, hf] using h

theorem tabled_modUnit (a : Nat) (f : UnitRec → UnitRec) {s : State} (h : s.tabled) : (s.modUnit a f).tabled :=
  tabled_of_eq (s := s) rfl rfl (modSlot_length _ _ _) rfl rfl rfl rfl rfl rfl rfl rfl rfl rfl rfl h

theorem tabled_send (o : Order) {s : State} (h : s.tabled) : (send o s).tabled :=
  tabled_of_eq (s := s) rfl rfl (modSlot_length _ _ _) rfl rfl rfl rfl rfl rfl rfl rfl rfl rfl rfl h

theorem tabled_displaced (v : Order) {s : State} (h : s.tabled) : (displaced v s).tabled := by
  obtain hd | ⟨l, e, -, hd⟩ | ⟨t, -, hd⟩ := displaced_cases v s <;> rw [hd]
  · exact h
  · exact tabled_of_eq (s := s) rfl (modSlot_length _ _ _) rfl rfl rfl rfl rfl rfl rfl rfl rfl rfl rfl rfl h
  · exact tabled_of_eq (s := s) rfl rfl rfl rfl rfl rfl (modSlot_length _ _ _) rfl rfl rfl rfl rfl rfl rfl h

theorem tabled_issue (a : Nat) (body : OrderBody) (i : Issuer) {s : State} (h : s.tabled) : (issue a body i s).state.tabled := by
  have h' : s.tookId.tabled := h
  obtain ⟨-, -, hr⟩ | ⟨-, -, -, hr⟩ | ⟨-, -, -, hr⟩ | ⟨-, -, -, v, -, hr⟩ := issue_cases a body i s <;> rw [hr]
  · exact tabled_send _ h'
  · exact tabled_modUnit _ _ h'
  · exact h'
  · exact tabled_send _ (tabled_displaced _ (tabled_modUnit _ _ h'))

theorem tabled_grantOne (a : Nat) {s : State} (h : s.tabled) : (grantOne a s).tabled := by
  unfold grantOne
  split
  · exact h
  · exact tabled_send _ (tabled_modUnit _ _ h)

theorem tabled_grant (a n : Nat) {s : State} (h : s.tabled) : (grant a n s).tabled := by
  induction n generalizing s with
  | zero => exact h
  | succ n ih => exact ih (tabled_grantOne a h)

theorem tabled_change {s t : State} (hc : Change wide s t) (h : s.tabled) : t.tabled := by
  obtain ⟨⟨hb, hl, hu, hla, hlz, hr1, hr2, hr3, hr4, hr5, hr6, hst, hg, htz, ha, hre, hq⟩, hj, hbu, hrf, hbr, hpl, hlead, hlead', hbs⟩ := h
  cases hc with
  | raise | mode | bus | owed => exact ⟨⟨hb, hl, hu, hla, hlz, hr1, hr2, hr3, hr4, hr5, hr6, hst, hg, htz, ha, hre, hq⟩, hj, hbu, hrf, hbr, hpl, hlead, hlead', hbs⟩
  | ftb k hk =>
    exact ⟨⟨hb, hl, hu, hla, hlz, hr1, hr2, hr3, hr4, hr5, hr6, hst, hg, htz, ha, hre, hq⟩, hj, hbu, hrf, hbr, hpl,
      (hk ⟨hlead, hlead'⟩).1, (hk ⟨hlead, hlead'⟩).2, hbs⟩
  | bands bs hlen hk =>
    exact ⟨⟨hlen.trans hb, hl, hu, hla, hlz, hr1, hr2, hr3, hr4, hr5, hr6, hst, hg, htz, ha, hre, hq⟩, hj, hbu, hrf, hbr, hpl,
      hlead, hlead', hk hbs⟩
  | mild ks hm =>
    exact ⟨⟨hb, hm.length_eq.symm.trans hl, hu, hla, hlz, hr1, hr2, hr3, hr4, hr5, hr6, hst, hg, htz, ha, hre, hq⟩, hj, hbu, hrf, hbr, hpl,
      hlead, hlead', hbs⟩
  | links _ ks hlen =>
    exact ⟨⟨hb, hlen.trans hl, hu, hla, hlz, hr1, hr2, hr3, hr4, hr5, hr6, hst, hg, htz, ha, hre, hq⟩, hj, hbu, hrf, hbr, hpl,
      hlead, hlead', hbs⟩
  | pe e he =>
    exact ⟨⟨hb, hl, hu, hla, hlz, hr1, hr2, hr3, hr4, hr5, hr6, hst, hg, htz, he.assign.trans ha, he.rescue.trans hre,
      he.query.trans hq⟩, he.queue hj, hbu, hrf, hbr, hpl, hlead, hlead', hbs⟩
  | plan p hp =>
    exact ⟨⟨hb, hl, hu, hla, hlz, hr1, hr2, hr3, hr4, hr5, hr6, hst, hg, htz, ha, hre, hq⟩, hj, hbu, hrf, hbr, hp hpl, hlead,
      hlead', hbs⟩
  | issue => exact tabled_issue _ _ _ ⟨⟨hb, hl, hu, hla, hlz, hr1, hr2, hr3, hr4, hr5, hr6, hst, hg, htz, ha, hre, hq⟩, hj, hbu, hrf, hbr, hpl, hlead, hlead', hbs⟩
  | free => exact tabled_grant _ _ (tabled_modUnit _ _ ⟨⟨hb, hl, hu, hla, hlz, hr1, hr2, hr3, hr4, hr5, hr6, hst, hg, htz, ha, hre, hq⟩, hj, hbu, hrf, hbr, hpl, hlead, hlead', hbs⟩)
  | drop => exact tabled_modUnit _ _ ⟨⟨hb, hl, hu, hla, hlz, hr1, hr2, hr3, hr4, hr5, hr6, hst, hg, htz, ha, hre, hq⟩, hj, hbu, hrf, hbr, hpl, hlead, hlead', hbs⟩
  | tr r hr =>
    obtain ⟨h1, h2, h3, h4, h5, h6⟩ := hr ⟨hr1, hr2, hr3, hr4, hr5, hr6⟩
    exact ⟨⟨hb, hl, hu, hla, hlz, h1, h2, h3, h4, h5, h6, hst, hg, htz, ha, hre, hq⟩, hj, hbu, hrf, hbr, hpl, hlead, hlead', hbs⟩
  | lamps ls hls =>
    exact ⟨⟨hb, hl, hu, hls.trans hla, hlz, hr1, hr2, hr3, hr4, hr5, hr6, hst, hg, htz, ha, hre, hq⟩, hj, hbu, hrf, hbr, hpl,
      hlead, hlead', hbs⟩
  | lampZones zs hzs =>
    exact ⟨⟨hb, hl, hu, hla, hzs.trans hr6, hr1, hr2, hr3, hr4, hr5, hr6, hst, hg, htz, ha, hre, hq⟩, hj, hbu, hrf, hbr, hpl,
      hlead, hlead', hbs⟩
  | tk k hk hz =>
    exact ⟨⟨hb, hl, hu, hla, hlz, hr1, hr2, hr3, hr4, hr5, hr6, hk.stations.trans hst, hk.groups.trans hg,
      hz.elim (·.trans htz) (·.trans hr6), ha, hre, hq⟩, hj, hbu, hrf, hk.breaks hbr, hpl, hlead, hlead', hbs⟩

theorem Band.warm_bounded {k : Band} (h : k.bounded) : k.warm.bounded :=
  ⟨h.1, Nat.zero_le _, fun hd => (List.length_map _).trans (h.2.2 hd)⟩

theorem tabled_warmReset {s : State} (h : s.tabled) : (warmReset s).tabled := by
  obtain ⟨⟨hb, hl, hu, hla, hlz, hr1, hr2, hr3, hr4, hr5, hr6, hst, hg, htz, ha, hre, hq⟩, hj, hbu, hrf, hbr, hpl, hlead, hlead', hbs⟩ := h
  have hzones : (s.tr.zones.map fun z => { z with onAir := false }).length = Config.zones := (List.length_map _).trans hr6
  refine ⟨⟨(List.length_map _).trans hb, (List.length_map _).trans hl, (List.length_map _).trans hu, (List.length_map _).trans hla,
    (List.length_map _).trans hlz, (List.length_map _).trans hr1, List.length_replicate, hr3, List.length_replicate,
    List.length_replicate, hzones, (List.length_map _).trans hst, hg, hzones, List.length_replicate, List.length_replicate,
    List.length_replicate⟩, Nat.zero_le _, hbu, hrf, Nat.zero_le _, Nat.zero_le _, hlead, hlead', fun k hk => ?_⟩
  obtain ⟨k', hk', rfl⟩ := List.mem_map.1 hk
  exact Band.warm_bounded (hbs k' hk')

theorem tabled_move {s t : State} (hm : Move .full s t) (h : s.tabled) : t.tabled := by
  cases hm with
  | change hc => exact tabled_change hc h
  | mp m hm =>
    obtain ⟨hs, hj, hbu, hrf, hrest⟩ := h
    exact ⟨hs, hj, hm.buffer hbu, hm.refusals hrf, hrest⟩
  | dequeue => exact h
  | warm => exact tabled_warmReset h

theorem tabled_cold (straps : BitVec 3) : (State.cold straps).tabled := by
  refine ⟨?_, ?_⟩
  · simp [State.shaped, State.cold, Tr.reset, Tk.reset, Pe.reset]
  · refine ⟨Nat.zero_le _, Nat.zero_le _, Nat.zero_le _, Nat.zero_le _, Nat.zero_le _, (by decide : 2 ≤ 6), (by decide : 6 ≤ 50), fun k hk => ?_⟩
    rw [List.eq_of_mem_replicate hk]
    exact ⟨Nat.zero_le _, Nat.zero_le _, fun h => absurd h Bool.false_ne_true⟩

/-- Settles O6. -/
theorem stepKeepsTables : Obligations.StepKeepsTables := fun _ _ hshaped hbounded hstep =>
  step_keeps (P := State.tabled) (fun _ _ => Iff.rfl) tabled_cold (fun _ _ => tabled_move) ⟨hshaped, hbounded⟩ hstep

/-! ## Single notices (O7) -/

/-- A raised cause joins the notice of its class and object, or makes the only one (R191). -/
theorem noticesSingle_raise (c : Cause) (o : Nat) {s : State} (h : s.noticesSingle) : (raise c o s).noticesSingle := by
  unfold State.noticesSingle at h ⊢
  rw [raise_nq, joinNotice]
  split
  · have hkey (n : Notice) : ((if n.isFor c.cls o then { n with causes := n.causes ||| c.set } else n).cls,
        (if n.isFor c.cls o then { n with causes := n.causes ||| c.set } else n).obj) = (n.cls, n.obj) := by
      split <;> rfl
    simpa only [List.map_map, Function.comp_def, hkey] using h
  · rename_i hnone
    rw [List.map_append, List.nodup_append]
    refine ⟨h, by simp, fun x hx y hy hxy => hnone (List.any_eq_true.2 ?_)⟩
    obtain ⟨n, hn, rfl⟩ := List.mem_map.1 hx
    obtain rfl : y = (c.cls, o) := by simpa using hy
    exact ⟨n, hn, by simpa [Notice.isFor] using Prod.ext_iff.1 hxy⟩

theorem noticesSingle_of_nq {s t : State} (ht : t.nq = s.nq) (h : s.noticesSingle) : t.noticesSingle := by
  unfold State.noticesSingle
  rw [ht]
  exact h

theorem issue_nq (a : Nat) (body : OrderBody) (i : Issuer) (s : State) : (issue a body i s).state.nq = s.nq := by
  have hd (v : Order) (s : State) : (displaced v s).nq = s.nq := by
    obtain hd | ⟨l, e, -, hd⟩ | ⟨t, -, hd⟩ := displaced_cases v s <;> rw [hd] <;> rfl
  obtain ⟨-, -, hr⟩ | ⟨-, -, -, hr⟩ | ⟨-, -, -, hr⟩ | ⟨-, -, -, v, -, hr⟩ := issue_cases a body i s <;> rw [hr]
  · rfl
  · rfl
  · rfl
  · exact hd v _

/-- An elementary change raises one notice or leaves the queue. -/
theorem Change.nq {s t : State} (hc : Change wide s t) : t.nq = s.nq ∨ ∃ c o, t = Machine.raise c o s := by
  cases hc with
  | raise c o => exact .inr ⟨c, o, rfl⟩
  | issue => exact .inl (issue_nq _ _ _ _)
  | free a n => exact .inl (keeps_grant a n _ .notices (by decide))
  | _ => exact .inl rfl

theorem noticesSingle_move {s t : State} (hm : Move .full s t) (h : s.noticesSingle) : t.noticesSingle := by
  cases hm with
  | change hc =>
    obtain hq | ⟨c, o, rfl⟩ := hc.nq
    · exact noticesSingle_of_nq hq h
    · exact noticesSingle_raise c o h
  | mp => exact h
  | dequeue q hq => exact h.sublist (hq.map _)
  | warm => exact List.nodup_singleton _

/-- Settles O7. -/
theorem stepKeepsNoticesSingle : Obligations.StepKeepsNoticesSingle := fun _ _ hs hstep =>
  step_keeps (P := State.noticesSingle) (fun _ _ => Iff.rfl) (fun _ => List.nodup_singleton _) (fun _ _ => noticesSingle_move) hs
    hstep

/-- A cause that waits goes on waiting through an event (R191). -/
theorem Waits.of_acts {c : Cause} {o : Nat} {s t : State} (hw : Waits c o s) (h : Acts wide s t) : Waits c o t := by
  refine h.keeps (P := Waits c o) (fun s t hc hw => ?_) hw
  obtain hq | ⟨c', o', rfl⟩ := hc.nq
  · exact hw.of_same hq
  · obtain ⟨n, hn, hfor, hin⟩ := hw
    unfold Waits
    rw [raise_nq, joinNotice]
    split
    · refine ⟨_, List.mem_map_of_mem hn, ?_, ?_⟩
      · split <;> exact hfor
      · split
        · simp only [Cause.within, BitVec.getLsbD_or, Bool.or_eq_true] at hin ⊢
          exact .inl hin
        · exact hin
    · exact ⟨n, List.mem_append_left _ hn, hfor, hin⟩

/-! ## The route table (O11) -/

theorem displaced_sound (v : Order) {s : State} (h : s.tk.sound) : (displaced v s).tk.sound := by
  obtain hd | ⟨l, e, -, hd⟩ | ⟨t, -, hd⟩ := displaced_cases v s <;> rw [hd]
  · exact h
  · exact h
  · obtain ⟨hlen, hnodup, hroutes, hpri⟩ := h
    refine ⟨hlen, hnodup, hroutes, fun x hx => ?_⟩
    obtain hx | ⟨y, hy, rfl⟩ := mem_modSlot hx
    · exact hpri x hx
    · exact hpri y hy

theorem routesSound_change {s t : State} (hc : Change wide s t) (h : s.tk.sound) : t.tk.sound := by
  cases hc with
  | tk k hk => exact hk.sound h
  | issue a body i =>
    obtain ⟨-, -, hr⟩ | ⟨-, -, -, hr⟩ | ⟨-, -, -, hr⟩ | ⟨-, -, -, v, -, hr⟩ := issue_cases a body i s <;> rw [hr]
    · exact h
    · exact h
    · exact h
    · exact displaced_sound v h
  | free a n f =>
    rw [show (grant a n (s.modUnit a f)).tk = s.tk from keeps_grant a n (s.modUnit a f) .tk (by decide)]
    exact h
  | _ => exact h

theorem routesSound_move {s t : State} (hm : Move wide s t) (h : s.tk.sound) : t.tk.sound := by
  cases hm with
  | change hc => exact routesSound_change hc h
  | mp | dequeue => exact h
  | warm =>
    obtain ⟨-, -, -, hpri⟩ := h
    refine ⟨Nat.zero_le _, List.nodup_nil, fun _ hr => absurd hr List.not_mem_nil, fun x hx => ?_⟩
    obtain ⟨y, hy, rfl⟩ := List.mem_map.1 hx
    exact hpri y hy

theorem routesSound_cold (straps : BitVec 3) : (State.cold straps).tk.sound := by
  refine ⟨Nat.zero_le _, List.nodup_nil, fun _ hr => absurd hr List.not_mem_nil, fun x hx => ?_⟩
  rw [List.eq_of_mem_replicate hx]
  exact Nat.zero_le _

/-- Settles O11. -/
theorem stepKeepsRoutesSound : Obligations.StepKeepsRoutesSound := fun _ _ hs hstep =>
  step_keeps (P := fun s => s.tk.sound) (fun _ _ => Iff.rfl) routesSound_cold (fun _ _ => routesSound_move) hs hstep

end Sys2Proof.Machine

/-! Sound units (O8). Orders are counted by their ids: what the units hold, and what is in hand between two operations, never share an
id. -/

namespace Sys2Proof.Machine

-- One theorem at a time: all at once, their threads together outgrow the memory limit of the check.
set_option Elab.async false

/-! ## The next number (R126) -/

/-- Where the search for a free number ends on a taken one, every number it passed is taken. -/
theorem mem_of_nextFree_mem {taken : List Byte} {k : Nat} {n : Byte} (h : nextFree taken k n ∈ taken) (i : Nat) (hi : i < k) :
    n + BitVec.ofNat 8 i ∈ taken := by
  induction k generalizing n i with
  | zero => omega
  | succ k ih =>
    rw [nextFree] at h
    by_cases hn : taken.contains n = true
    · rw [if_pos hn] at h
      cases i with
      | zero => simpa using hn
      | succ i =>
        have hnext := ih h i (by omega)
        rwa [show n + 1 + BitVec.ofNat 8 i = n + BitVec.ofNat 8 (i + 1) by
          rw [show i + 1 = 1 + i from Nat.add_comm i 1, BitVec.ofNat_add, ← BitVec.add_assoc]; rfl] at hnext
    · rw [if_neg hn] at h
      exact absurd (List.contains_iff_mem.2 h) hn

/-- Of 256 numbers, fewer than 256 orders leave one free. -/
theorem nextFree_not_mem {taken : List Byte} (h : taken.length < 256) (n : Byte) : nextFree taken 256 n ∉ taken := fun hmem => by
  have hall (x : Byte) : x ∈ taken := by
    have hx := mem_of_nextFree_mem hmem (x - n).toNat (x - n).isLt
    rwa [BitVec.ofNat_toNat, BitVec.setWidth_eq, BitVec.add_comm, BitVec.sub_add_cancel] at hx
  have hinj : ((List.range 256).map (BitVec.ofNat 8)).Nodup := List.nodup_range.map_on fun i hi j hj hij => by
    have := congrArg BitVec.toNat hij
    simp only [BitVec.toNat_ofNat, List.mem_range] at this hi hj
    omega
  have hlen := (hinj.subperm fun x _ => hall x).length_le
  simp only [List.length_map, List.length_range] at hlen
  omega

theorem UnitRec.sound_send (o : Order) {u : UnitRec} (h : u.sound) (hlen : u.outstanding.length < Config.outstanding) :
    (u.send o).sound := by
  obtain ⟨-, hwait, hnodup, hnone, hnext⟩ := h
  have hmem (n : Byte) : some n ∈ (u.outstanding ++ [{ o with number := some u.nextNumber }]).map Order.number ↔
      n ∈ (u.outstanding ++ [{ o with number := some u.nextNumber }]).filterMap Order.number := by
    simp only [List.mem_map, List.mem_filterMap]
  refine ⟨?_, hwait, ?_, ?_, fun hn => nextFree_not_mem ?_ _ ((hmem _).1 hn)⟩
  · simpa [UnitRec.send] using hlen
  · simp only [UnitRec.send, List.map_append, List.map_cons, List.map_nil]
    refine List.nodup_append.2 ⟨hnodup, List.nodup_singleton _, fun x hx y hy hxy => ?_⟩
    obtain rfl := List.mem_singleton.1 hy
    exact hnext (hxy ▸ hx)
  · simpa [UnitRec.send] using hnone
  · refine (List.length_filterMap_le _ _).trans_lt ?_
    have : Config.outstanding = 8 := rfl
    simp only [List.length_append, List.length_singleton]
    omega

/-- Giving up orders keeps a unit sound. -/
theorem UnitRec.Drops.sound {u u' : UnitRec} (hd : u.Drops u') (h : u.sound) : u'.sound := by
  obtain ⟨hout, hwait, hnodup, hnone, hnext⟩ := h
  have hsub := hd.outstanding.map Order.number
  exact ⟨hd.outstanding.length_le.trans hout, hd.waiting.length_le.trans hwait, hnodup.sublist hsub, fun h => hnone (hsub.subset h),
    fun h => hnext (hsub.subset (hd.next ▸ h))⟩

/-! ## Ids in hand -/

/-- The ids of the orders that a unit holds. -/
def UnitRec.ids (u : UnitRec) : List Nat := u.orders.map Order.id

/-- The ids of the orders that the units hold. -/
def State.orderIds (s : State) : List Nat := s.units.flatMap UnitRec.ids

/-- The units are sound, and the ids `x` are taken and no unit's. -/
def State.holdsWith (x : List Nat) (s : State) : Prop :=
  (∀ u ∈ s.units, u.sound) ∧ (∀ a ∈ unitAddresses, ∀ o ∈ (s.unit a).orders, o.address = a)
    ∧ (s.orderIds ++ x).Nodup ∧ (∀ i ∈ s.orderIds ++ x, i < s.nextOrderId)
    ∧ ∀ k ∈ s.links, k.tallyOrder.all (fun x => decide (x.id < s.nextOrderId)) = true

theorem unitsSound_iff (s : State) : s.unitsSound ↔ s.holdsWith [] := by
  have hids : s.orderIds = (s.units.flatMap UnitRec.orders).map Order.id := by
    rw [List.map_flatMap]; rfl
  simp only [State.holdsWith, hids, List.append_nil, List.mem_map, forall_exists_index, and_imp, forall_apply_eq_imp_iff₂]

/-! ## A change of one unit -/

theorem unit_address {a : Nat} (h : 1 ≤ unitPlace a) : a ∈ unitAddresses := by
  unfold unitPlace at h
  simp only [unitAddresses, oneUpTo, List.mem_append, List.mem_map, List.mem_range, List.mem_singleton]
  by_cases hm : a = Config.matrixAddress
  · exact .inr hm
  · rw [if_neg hm] at h
    by_cases hle : a ≤ 24
    · rw [if_pos hle] at h
      exact .inl ⟨a - 1, by omega, by omega⟩
    · rw [if_neg hle] at h
      omega

theorem unitPlace_inj {a b : Nat} (ha : a ∈ unitAddresses) (hb : b ∈ unitAddresses) (h : unitPlace a = unitPlace b) : a = b :=
  (by decide : ∀ a ∈ unitAddresses, ∀ b ∈ unitAddresses, unitPlace a = unitPlace b → a = b) a ha b hb h

/-- A unit without a place in the table holds nothing. -/
theorem unit_of_noPlace {s : State} {a : Nat} (h : ¬ (1 ≤ unitPlace a ∧ unitPlace a ≤ s.units.length)) : s.unit a = UnitRec.reset := by
  unfold State.unit slot
  split
  · rfl
  · exact List.getD_eq_default _ _ (by omega)

/-- A unit that holds an order has its place in the table. -/
theorem unitPlace_of_mem {s : State} {a : Nat} {o : Order} (h : o ∈ (s.unit a).orders) :
    1 ≤ unitPlace a ∧ unitPlace a ≤ s.units.length := by
  by_contra hp
  rw [unit_of_noPlace hp] at h
  exact List.not_mem_nil h

theorem unit_mem {s : State} {a : Nat} (h : 1 ≤ unitPlace a ∧ unitPlace a ≤ s.units.length) : s.unit a ∈ s.units := by
  unfold State.unit slot
  split
  · omega
  · rw [List.getD_eq_getElem _ _ (by omega)]
    exact List.getElem_mem _

/-- A unit in its place: the units before it, itself, and those after it. -/
theorem units_split {s : State} {a : Nat} (h : 1 ≤ unitPlace a) (h' : unitPlace a ≤ s.units.length) (f : UnitRec → UnitRec) :
    ∃ pre post, s.units = pre ++ s.unit a :: post ∧ (s.modUnit a f).units = pre ++ f (s.unit a) :: post := by
  obtain ⟨k, hk⟩ := Nat.exists_eq_add_of_le' h
  have hlt : k < s.units.length := by omega
  have hunit : s.unit a = s.units[k] := by
    rw [State.unit, hk, slot, List.getD_eq_getElem _ _ hlt]
  refine ⟨s.units.take k, s.units.drop (k + 1), ?_, ?_⟩
  · rw [hunit, ← List.drop_eq_getElem_cons hlt, List.take_append_drop]
  · rw [State.modUnit_units, hk, hunit]
    exact List.modify_eq_take_cons_drop hlt

theorem modUnit_of_noPlace {s : State} {a : Nat} (h : ¬ (1 ≤ unitPlace a ∧ unitPlace a ≤ s.units.length)) (f : UnitRec → UnitRec) :
    s.modUnit a f = s := by
  have hu : modSlot f s.units (unitPlace a) = s.units := by
    cases hk : unitPlace a with
    | zero => rfl
    | succ k => exact List.modify_eq_self (by omega)
  exact congrArg (fun us => { s with units := us }) hu

theorem unit_modUnit_self {s : State} {a : Nat} (h : 1 ≤ unitPlace a) (h' : unitPlace a ≤ s.units.length) (f : UnitRec → UnitRec) :
    (s.modUnit a f).unit a = f (s.unit a) := slot_modSlot_self _ _ _ h h'

theorem unit_modUnit_other {s : State} {a b : Nat} (h : unitPlace a ≠ unitPlace b) (f : UnitRec → UnitRec) :
    (s.modUnit a f).unit b = s.unit b := slot_modSlot_other _ _ _ h

/-- One unit changes: it stays sound, and what it holds and what is then in hand it held or was in hand. -/
theorem holdsWith_modUnit {s : State} {a : Nat} {f : UnitRec → UnitRec} {x y : List Nat} (h : s.holdsWith x)
    (hsound : (s.unit a).sound → (f (s.unit a)).sound)
    (haddr : ∀ o ∈ (f (s.unit a)).orders, o.address = a ∨ ∃ o' ∈ (s.unit a).orders, o.address = o'.address)
    (hids : ((f (s.unit a)).ids ++ y).Subperm ((s.unit a).ids ++ x))
    (hy : ¬ (1 ≤ unitPlace a ∧ unitPlace a ≤ s.units.length) → y.Subperm x) : (s.modUnit a f).holdsWith y := by
  obtain ⟨hs, ha, hnodup, hlt, hl⟩ := h
  by_cases hp : 1 ≤ unitPlace a ∧ unitPlace a ≤ s.units.length
  · obtain ⟨pre, post, hu, hu'⟩ := units_split hp.1 hp.2 f
    have hsub : ((s.modUnit a f).orderIds ++ y).Subperm (s.orderIds ++ x) := by
      have hbring (z w : List Nat) : ((pre.flatMap UnitRec.ids ++ (z ++ post.flatMap UnitRec.ids)) ++ w).Perm
          ((pre.flatMap UnitRec.ids ++ post.flatMap UnitRec.ids) ++ (z ++ w)) := by
        rw [List.perm_iff_count]
        intro i
        simp only [List.count_append]
        omega
      rw [State.orderIds, State.orderIds, hu, hu', List.flatMap_append, List.flatMap_append, List.flatMap_cons, List.flatMap_cons]
      exact ((hbring _ _).subperm.trans ((List.subperm_append_left _).2 hids)).trans (hbring _ _).symm.subperm
    refine ⟨fun u hmem => ?_, fun b hb o ho => ?_, ?_, fun i hi => hlt i (hsub.subset hi), hl⟩
    · rw [hu'] at hmem
      rw [hu] at hs
      obtain hmem | rfl | hmem : u ∈ pre ∨ u = f (s.unit a) ∨ u ∈ post := by simpa using hmem
      · exact hs u (by simp [hmem])
      · exact hsound (hs _ (by simp))
      · exact hs u (by simp [hmem])
    · by_cases hab : unitPlace a = unitPlace b
      · obtain rfl := unitPlace_inj (unit_address hp.1) hb hab
        rw [unit_modUnit_self hp.1 hp.2] at ho
        obtain h | ⟨o', ho', h⟩ := haddr o ho
        · exact h
        · exact h.trans (ha a hb o' ho')
      · rw [unit_modUnit_other hab] at ho
        exact ha b hb o ho
    · obtain ⟨l, hperm, hl⟩ := hsub
      exact hperm.nodup_iff.1 (hnodup.sublist hl)
  · rw [modUnit_of_noPlace hp]
    have hsub : (s.orderIds ++ y).Subperm (s.orderIds ++ x) := (List.subperm_append_left _).2 (hy hp)
    refine ⟨hs, ha, ?_, fun i hi => hlt i (hsub.subset hi), hl⟩
    obtain ⟨l, hperm, hl⟩ := hsub
    exact hperm.nodup_iff.1 (hnodup.sublist hl)

/-! ## The operations of a unit -/

/-- An order in hand is sent into a free place (R126). -/
theorem holdsWith_send {s : State} {o : Order} {x : List Nat} (h : s.holdsWith (o.id :: x))
    (hfree : (s.unit o.address).outstanding.length < Config.outstanding) : (send o s).holdsWith x := by
  have hsub : (((s.unit o.address).send o).ids ++ x).Perm ((s.unit o.address).ids ++ o.id :: x) := by
    rw [List.perm_iff_count]
    intro i
    simp only [UnitRec.send, UnitRec.ids, UnitRec.orders, List.map_append, List.map_cons, List.map_nil, List.count_append,
      List.count_cons, List.count_nil]
    omega
  have hmod : (s.modUnit o.address (UnitRec.send o)).holdsWith x := by
    refine holdsWith_modUnit h (fun hs => UnitRec.sound_send o hs hfree) (fun o' ho' => ?_) hsub.subperm
      fun _ => (List.sublist_cons_self _ _).subperm
    simp only [UnitRec.send, UnitRec.orders, List.mem_append, List.mem_singleton] at ho'
    obtain (ho' | rfl) | ho' := ho'
    · exact .inr ⟨o', List.mem_append_left _ ho', rfl⟩
    · exact .inl rfl
    · exact .inr ⟨o', List.mem_append_right _ ho', rfl⟩
  exact hmod

/-- An order in hand joins the waiting list (R127). -/
theorem holdsWith_wait {s : State} {o : Order} {x : List Nat} (h : s.holdsWith (o.id :: x))
    (hroom : (s.unit o.address).waiting.length < Config.waiting) :
    (s.modUnit o.address fun u => { u with waiting := u.waiting ++ [o] }).holdsWith x := by
  refine holdsWith_modUnit h (fun ⟨hout, hwait, hrest⟩ => ⟨hout, ?_, hrest⟩) (fun o' ho' => ?_) (List.Perm.subperm ?_)
    fun _ => (List.sublist_cons_self _ _).subperm
  · simpa using hroom
  · simp only [UnitRec.orders, List.mem_append, List.mem_singleton] at ho'
    obtain ho' | ho' | rfl := ho'
    · exact .inr ⟨o', List.mem_append_left _ ho', rfl⟩
    · exact .inr ⟨o', List.mem_append_right _ ho', rfl⟩
    · exact .inl rfl
  · simp [UnitRec.ids, UnitRec.orders]

theorem UnitRec.Drops.orders {u u' : UnitRec} (hd : u.Drops u') : u'.orders.Sublist u.orders := hd.outstanding.append hd.waiting

theorem holdsWith_drop {s : State} {a : Nat} {f : UnitRec → UnitRec} {x : List Nat} (hd : (s.unit a).Drops (f (s.unit a)))
    (h : s.holdsWith x) : (s.modUnit a f).holdsWith x :=
  holdsWith_modUnit h hd.sound (fun o ho => .inr ⟨o, hd.orders.subset ho, rfl⟩)
    ((hd.orders.map _).append (.refl x)).subperm fun _ => .refl x

/-- Nothing in hand is any unit's. -/
theorem holdsWith_sub {s : State} {x y : List Nat} (hy : y.Sublist x) (h : s.holdsWith x) : s.holdsWith y := by
  obtain ⟨hs, ha, hnodup, hlt, hl⟩ := h
  have hsub : (s.orderIds ++ y).Sublist (s.orderIds ++ x) := (List.Sublist.refl _).append hy
  exact ⟨hs, ha, hnodup.sublist hsub, fun i hi => hlt i (hsub.subset hi), hl⟩

/-- The links change, and take over no order that no link had or no id stands for. -/
theorem holdsWith_links {s t : State} {x : List Nat} (hu : t.units = s.units) (hn : t.nextOrderId = s.nextOrderId)
    (hl : ∀ k ∈ t.links, s.knowsOrder k) (h : s.holdsWith x) : t.holdsWith x := by
  obtain ⟨hs, ha, hnodup, hlt, hlinks⟩ := h
  have hids : t.orderIds = s.orderIds := by rw [State.orderIds, hu]; rfl
  refine ⟨hu ▸ hs, fun a hm => ?_, by rwa [hids], by rwa [hids, hn], fun k hk => ?_⟩
  · have hunit : t.unit a = s.unit a := by rw [State.unit, hu]; rfl
    exact hunit ▸ ha a hm
  · rw [hn]
    obtain h | ⟨k', hk', h⟩ | ⟨y, h, hy⟩ := hl k hk
    · rw [h]; rfl
    · rw [← h]; exact hlinks k' hk'
    · rw [h]; exact decide_eq_true hy

theorem holdsWith_displaced (v : Order) {s : State} {x : List Nat} (h : s.holdsWith x) : (displaced v s).holdsWith x := by
  obtain hd | ⟨l, e, -, hd⟩ | ⟨t, -, hd⟩ := displaced_cases v s <;> rw [hd]
  · exact h
  · refine holdsWith_links (s := s) rfl rfl (fun k hk => ?_) h
    obtain hk | ⟨k', hk', rfl⟩ := mem_modSlot hk
    · exact .inr (.inl ⟨k, hk, rfl⟩)
    · exact .inl rfl
  · exact h

theorem holdsWith_tookId {s : State} (h : s.holdsWith []) : s.tookId.holdsWith [s.nextOrderId] := by
  obtain ⟨hs, ha, hnodup, hlt, hl⟩ := h
  rw [List.append_nil] at hnodup hlt
  refine ⟨hs, ha, List.nodup_append.2 ⟨hnodup, List.nodup_singleton _, fun i hi j hj hij => ?_⟩, fun i hi => ?_, fun k hk => ?_⟩
  · have := hlt i hi
    have := List.mem_singleton.1 hj
    omega
  · obtain hi | hi := List.mem_append.1 hi
    · exact Nat.lt_succ_of_lt (hlt i hi)
    · rw [List.mem_singleton.1 hi]; exact Nat.lt_succ_self _
  · have hk' := hl k hk
    cases ho : k.tallyOrder with
    | none => rfl
    | some y =>
      rw [ho] at hk'
      exact decide_eq_true (Nat.lt_succ_of_lt (of_decide_eq_true hk'))

theorem unit_of_units {s t : State} (h : t.units = s.units) (a : Nat) : t.unit a = s.unit a := by
  unfold State.unit; rw [h]

@[simp] theorem displaced_units (v : Order) (s : State) : (displaced v s).units = s.units := by
  obtain hd | ⟨l, e, -, hd⟩ | ⟨t, -, hd⟩ := displaced_cases v s <;> rw [hd] <;> rfl

theorem holdsWith_issue (a : Nat) (body : OrderBody) (i : Issuer) {s : State} (h : s.holdsWith []) :
    (issue a body i s).state.holdsWith [] := by
  have h' := holdsWith_tookId h
  obtain ⟨hfree, -, hr⟩ | ⟨-, hroom, -, hr⟩ | ⟨-, -, -, hr⟩ | ⟨-, -, -, v, hv, hr⟩ := issue_cases a body i s <;> rw [hr]
  · exact holdsWith_send (o := s.newOrder a body i) h' hfree
  · exact holdsWith_wait (o := s.newOrder a body i) h' hroom
  · exact holdsWith_sub (List.nil_sublist _) h'
  · have hmem := List.mem_of_find?_eq_some hv
    have hp := unitPlace_of_mem (List.mem_append_left _ hmem)
    have hdrop : (s.unit a).Drops { s.unit a with outstanding := (s.unit a).outstanding.eraseP Order.displaceable } :=
      ⟨rfl, List.eraseP_sublist, .refl _⟩
    have hd := holdsWith_drop (s := s.tookId) (a := a)
      (f := fun u => { u with outstanding := u.outstanding.eraseP Order.displaceable }) hdrop h'
    refine holdsWith_send (o := s.newOrder a body i) (holdsWith_displaced v hd) ?_
    rw [unit_of_units (displaced_units v _)]
    have hself := unit_modUnit_self (s := s.tookId) (a := a) hp.1 hp.2
      fun u => { u with outstanding := u.outstanding.eraseP Order.displaceable }
    have hle : (s.unit a).outstanding.length ≤ Config.outstanding := (h.1 _ (unit_mem hp)).1
    have hlen := List.length_eraseP_of_mem hmem (List.find?_some hv)
    have hpos := List.length_pos_of_mem hmem
    calc _ = ((s.unit a).outstanding.eraseP Order.displaceable).length := congrArg (fun u => u.outstanding.length) hself
      _ < Config.outstanding := by omega

theorem nextWaiting_mem {u : UnitRec} {o : Order} (h : u.nextWaiting = some o) : o ∈ u.waiting := by
  rcases Option.or_eq_some_iff.1 h with h | ⟨-, h⟩
  · exact List.mem_of_find?_eq_some h
  · exact List.mem_of_mem_head? h

/-- The place that is granted takes the order by its id (R128). -/
theorem holdsWith_grantOne {a : Nat} {s : State} (h : s.holdsWith [])
    (hfree : (s.unit a).outstanding.length < Config.outstanding) :
    (grantOne a s).holdsWith [] ∧ ((grantOne a s).unit a).outstanding.length ≤ (s.unit a).outstanding.length + 1 := by
  unfold grantOne
  split
  · exact ⟨h, Nat.le_succ _⟩
  · rename_i o ho
    have hmem := nextWaiting_mem ho
    have hp := unitPlace_of_mem (List.mem_append_right _ hmem)
    have haddr : o.address = a := h.2.1 a (unit_address hp.1) o (List.mem_append_right _ hmem)
    have hself := unit_modUnit_self hp.1 hp.2 (s := s) (a := a)
      fun u => { u with waiting := u.waiting.eraseP fun w => decide (w.id = o.id) }
    let f : UnitRec → UnitRec := fun u => { u with waiting := u.waiting.eraseP fun w => decide (w.id = o.id) }
    have hself : (s.modUnit a f).unit a = f (s.unit a) := unit_modUnit_self hp.1 hp.2 f
    have hhand : (s.modUnit a f).holdsWith [o.id] := by
      refine holdsWith_modUnit h (UnitRec.Drops.sound ⟨rfl, .refl _, List.eraseP_sublist⟩)
        (fun o' ho' => .inr ⟨o', ?_, rfl⟩) (List.Perm.subperm ?_) fun hno => absurd hp hno
      · exact ((List.Sublist.refl _).append List.eraseP_sublist).subset ho'
      · have herase : (f (s.unit a)).waiting.map Order.id = ((s.unit a).waiting.map Order.id).erase o.id := by
          rw [List.erase_eq_eraseP', List.eraseP_map]
          rfl
        rw [UnitRec.ids, UnitRec.ids, UnitRec.orders, UnitRec.orders, List.map_append, List.map_append, herase, List.append_nil,
          List.append_assoc]
        exact ((List.perm_append_singleton _ _).trans (List.perm_cons_erase (List.mem_map_of_mem hmem)).symm).append_left _
    refine ⟨holdsWith_send hhand (by rw [haddr, hself]; exact hfree), ?_⟩
    have hsent : (send o (s.modUnit a f)).unit a = (f (s.unit a)).send o := by
      rw [← hself]
      have hp' : unitPlace a ≤ (s.modUnit a f).units.length := by simpa using hp.2
      have := unit_modUnit_self (s := s.modUnit a f) hp.1 hp' (UnitRec.send o)
      rw [← haddr] at this ⊢
      exact this
    have hlen := congrArg (fun u => u.outstanding.length) hsent
    simpa [UnitRec.send, f] using hlen.le

theorem holdsWith_grant {a n : Nat} {s : State} (h : s.holdsWith []) (hfree : (s.unit a).outstanding.length + n ≤ Config.outstanding) :
    (grant a n s).holdsWith [] := by
  induction n generalizing s with
  | zero => exact h
  | succ n ih =>
    obtain ⟨h1, hlen⟩ := holdsWith_grantOne (a := a) h (by omega)
    exact ih h1 (by omega)

/-! ## Every step (O8) -/

/-- Units that hold nothing are sound beside links without a tally order. -/
theorem holdsWith_reset {s : State} (hu : ∀ u ∈ s.units, u = UnitRec.reset) (hl : ∀ k ∈ s.links, k.tallyOrder = none) :
    s.holdsWith [] := by
  have hids : s.orderIds = [] := List.flatMap_eq_nil_iff.2 fun u h => by rw [hu u h]; rfl
  refine ⟨fun u h => ?_, fun a _ o ho => ?_, by rw [hids]; exact List.nodup_nil, by rw [hids]; exact fun _ h => absurd h List.not_mem_nil,
    fun k hk => by rw [hl k hk]; rfl⟩
  · rw [hu u h]
    exact ⟨Nat.zero_le _, Nat.zero_le _, List.nodup_nil, List.not_mem_nil, List.not_mem_nil⟩
  · rw [hu _ (unit_mem (unitPlace_of_mem ho))] at ho
    exact absurd ho List.not_mem_nil

theorem unitsSound_change {s t : State} (hc : Change .full s t) (h : s.holdsWith []) : t.holdsWith [] := by
  cases hc with
  | mild ks _ hks | links _ ks _ hks => exact holdsWith_links (s := s) rfl rfl hks h
  | issue a body i => exact holdsWith_issue a body i h
  | free a n f hd hn =>
    by_cases hp : 1 ≤ unitPlace a ∧ unitPlace a ≤ s.units.length
    · have hle : (s.unit a).outstanding.length ≤ Config.outstanding := (h.1 _ (unit_mem hp)).1
      refine holdsWith_grant (holdsWith_drop (hd _) h) ?_
      rw [unit_modUnit_self hp.1 hp.2]
      omega
    · rw [unit_of_noPlace hp] at hn
      obtain rfl : n = 0 := Nat.eq_zero_of_le_zero ((Nat.le_add_left _ _).trans hn)
      exact holdsWith_drop (hd _) h
  | drop a f hd => exact holdsWith_drop (hd _) h
  | _ => exact h

theorem unitsSound_move {s t : State} (hm : Move .full s t) (h : s.holdsWith []) : t.holdsWith [] := by
  cases hm with
  | change hc => exact unitsSound_change hc h
  | mp | dequeue => exact h
  | warm =>
    refine holdsWith_reset (fun u hu => ?_) fun k hk => ?_
    · obtain ⟨_, _, rfl⟩ := List.mem_map.1 hu
      rfl
    · obtain ⟨k', -, rfl⟩ := List.mem_map.1 hk
      unfold Link.warm
      split <;> rfl

theorem unitsSound_cold (straps : BitVec 3) : (State.cold straps).holdsWith [] :=
  holdsWith_reset (fun _ hu => List.eq_of_mem_replicate hu) fun k hk => by
    rw [List.eq_of_mem_replicate hk]
    rfl

/-- Settles O8. -/
theorem stepKeepsUnitsSound : Obligations.StepKeepsUnitsSound := fun s t hs hstep =>
  (unitsSound_iff t).2 (step_keeps (P := State.holdsWith []) (fun _ _ => Iff.rfl) unitsSound_cold (fun _ _ => unitsSound_move)
    ((unitsSound_iff s).1 hs) hstep)

end Sys2Proof.Machine

/-! The Frame Timebase (chapter 1): what each of its operations makes of its record, and from that the frame counter, the timebase's
invariant, the pulses, the internal timer, the watchdog and TB_CONFIGURE (O4, O9, O22 to O26, O32, O33). -/

namespace Sys2Proof.Machine

-- One theorem at a time: all at once, their threads together outgrow the memory limit of the check.
set_option Elab.async false

/-! ## What the operations make of the timebase -/

section record
variable (s : State) (t : Nat) (tkFirst : Bool)

@[simp] theorem after_ftb : (after s).ftb = s.ftb := keeps_after s .ftb (by decide)
@[simp] theorem kick_ftb : (kick s).ftb = s.ftb := keeps_kick s .ftb (by decide)
@[simp] theorem settleOwed_ftb : (settleOwed s).ftb = s.ftb := keeps_settleOwed s .ftb (by decide)

@[simp] theorem boundaryAt_ftb :
    (boundaryAt t tkFirst s).ftb = { s.ftb with counter := s.ftb.counter + 1, lastBoundary := t } := by
  unfold boundaryAt
  cases s.mode
  · rfl
  · exact keeps_runBoundary tkFirst (beginFrameAt t s) .ftb (by decide)

@[simp] theorem paceFrom_ftb (pace : Nat) : (paceFrom pace t tkFirst s).ftb =
    { s.ftb with nextInternal := some (t + pace), counter := s.ftb.counter + 1, lastBoundary := t } := boundaryAt_ftb _ _ _

@[simp] theorem paceOn_ftb (pace : Nat) : (paceOn pace s).ftb = { s.ftb with nextInternal := some (s.ftb.lastBoundary + pace) } := rfl

@[simp] theorem timerBoundary_ftb (due pace : Nat) : (timerBoundary due pace tkFirst s).ftb =
    { s.ftb with nextInternal := some (due + pace), counter := s.ftb.counter + 1, lastBoundary := due } := boundaryAt_ftb _ _ _

/-- Setting the timer changes the timer, and makes one boundary at most. -/
theorem repace_ftb (pace : Nat) : ∃ next c b, (c = s.ftb.counter ∨ c = s.ftb.counter + 1) ∧
    (repace pace t tkFirst s).ftb = { s.ftb with nextInternal := some next, counter := c, lastBoundary := b } := by
  unfold repace
  split
  · exact ⟨_, _, _, .inr rfl, paceFrom_ftb _ _ _ _⟩
  · exact ⟨_, _, _, .inl rfl, rfl⟩

end record

/-! ## The frame counter (O4) -/

/-- A relation of timebase records that the timebase's own operations obey is obeyed by every command but COLD_RESET. -/
theorem exec_ftb {R : Ftb → Ftb → Prop} (hrefl : ∀ k, R k k) (hpulse : ∀ s t k, R s.ftb (pulseAt t k s).ftb)
    (htimer : ∀ s k, R s.ftb (timerDue k s).ftb) (hwatch : ∀ s k, R s.ftb (watchdogExpires k s).ftb)
    (hconf : ∀ t a s, R s.ftb (configureTimebase t a s).1.ftb) {c : Instr} {s t : State} (hc : ∀ straps, c ≠ .coldReset straps)
    (h : exec c s = .next t) : R s.ftb t.ftb := by
  by_cases hm : movesTimebase c = true
  · cases c <;> first | exact absurd hm Bool.false_ne_true | skip
    case coldReset straps => exact absurd rfl (hc straps)
    case refPulse time k => cases h; simpa using hpulse (settleOwed s) time k
    case internalTimerDue k => cases h; simpa using htimer (settleOwed s) k
    case pulseWatchdogExpiry k => cases h; simpa using hwatch (settleOwed s) k
    case tbConfigure time =>
      change request 0x01 readTwo (configureTimebase time) afterJob s = .next t at h
      unfold request at h
      dsimp only at h
      split at h
      · cases h
        simpa using hrefl s.ftb
      · rename_i f _
        cases h
        have hans : R s.ftb (answer f readTwo (configureTimebase time) (dropHead (settleOwed s))).1.ftb := by
          unfold answer
          split
          · simpa [refuse, dropHead] using hrefl s.ftb
          · rename_i a _
            simpa [dropHead] using hconf time a (dropHead (settleOwed s))
        split
        · simpa [afterJob, putReply] using hans
        · rwa [kick_ftb]
  · obtain ⟨u, hu, hkeeps⟩ := exec_reaches c s hc
    rw [if_neg hm] at hkeeps
    cases hu.symm.trans h
    rw [show t.ftb = s.ftb from hkeeps .ftb (by decide)]
    exact hrefl _

/-- A counter stands or advances by one. -/
def Ftb.Counts (k k' : Ftb) : Prop := k'.counter = k.counter ∨ k'.counter = k.counter + 1

theorem counts_repace {pace t : Nat} {tkFirst : Bool} {s : State} {k : Ftb} (h : s.ftb.counter = k.counter) :
    k.Counts (repace pace t tkFirst s).ftb := by
  obtain ⟨_, c, _, hc, hr⟩ := repace_ftb s t tkFirst pace
  rw [hr]
  exact hc.imp (·.trans h) (·.trans (by rw [h]))

theorem counts_pulseAt (s : State) (t : Nat) (tkFirst : Bool) : s.ftb.Counts (pulseAt t tkFirst s).ftb := by
  unfold pulseAt
  dsimp only
  split
  · exact .inl rfl
  · exact counts_repace rfl
  · unfold pulseInLocking
    split
    · exact .inl rfl
    · split
      · dsimp only
        split
        · exact .inl rfl
        · exact .inl rfl
      · exact .inl rfl
  · unfold pulseInLocked
    split
    · exact .inr (congrArg Ftb.counter (boundaryAt_ftb _ _ _))
    · exact counts_repace rfl

theorem counts_timerDue (s : State) (tkFirst : Bool) : s.ftb.Counts (timerDue tkFirst s).ftb := by
  have htick (due : Nat) : s.ftb.Counts (timerBoundary due s.ftb.pace tkFirst s).ftb := .inr (by simp)
  unfold timerDue
  split
  · exact .inl rfl
  · split
    · split
      · exact htick _
      · exact .inl rfl
    all_goals exact htick _

theorem counts_watchdogExpires (s : State) (tkFirst : Bool) : s.ftb.Counts (watchdogExpires tkFirst s).ftb := by
  unfold watchdogExpires
  split
  · exact .inl rfl
  · unfold missHoldover
    split
    · exact .inr (congrArg Ftb.counter (paceFrom_ftb _ _ _ _))
    · exact .inl rfl
  · exact .inl rfl

theorem counts_configureTimebase (t : Nat) (a : Nat × Nat) (s : State) : s.ftb.Counts (configureTimebase t a s).1.ftb := by
  unfold configureTimebase
  split
  · exact .inl rfl
  · split
    · exact .inl rfl
    · dsimp only [okWith]
      split
      · exact .inl rfl
      · exact counts_repace rfl

theorem step_cases {s t : State} (h : step s = .next t) :
    t = s ∨ ∃ c rest, s.pending = c :: rest ∧ exec c { s with pending := rest } = .next t := by
  unfold step at h
  split at h
  · cases h
    exact .inl rfl
  · exact .inr ⟨_, _, ‹_›, h⟩

/-- Settles O4: a command outside the five leaves the timebase by its frame; the five count by what each makes of the record. -/
theorem counterAdvancesByOne : Obligations.CounterAdvancesByOne := by
  intro s t hstep
  obtain rfl | ⟨c, rest, hp, h⟩ := step_cases hstep
  · exact ⟨.inl rfl, .inl rfl⟩
  by_cases hc : ∃ straps, c = .coldReset straps
  · obtain ⟨straps, rfl⟩ := hc
    cases h
    exact ⟨.inr ⟨_, _, hp, rfl⟩, .inr (.inr ⟨straps, rest, hp, rfl⟩)⟩
  · have hne (straps) (he : c = .coldReset straps) := hc ⟨straps, he⟩
    refine ⟨?_, ?_⟩
    · by_cases hm : movesTimebase c = true
      · exact .inr ⟨c, rest, hp, hm⟩
      · obtain ⟨u, hu, hkeeps⟩ := exec_reaches c { s with pending := rest } hne
        rw [if_neg hm] at hkeeps
        cases hu.symm.trans h
        exact .inl (hkeeps .ftb (by decide))
    · exact (exec_ftb (R := Ftb.Counts) (fun _ => .inl rfl) counts_pulseAt counts_timerDue counts_watchdogExpires
        counts_configureTimebase hne h).imp id .inl

/-! ## The timebase's invariant (O9) -/

/-- The timebase's record is sound, as `State.timebaseSound` has it. -/
def Ftb.sound (k : Ftb) : Prop :=
  k.refState.allows k.goodCount = true ∧ k.rate.good k.goodPeriod = true ∧ k.measuredPeriod ≤ 1000000
    ∧ (k.refState ≠ .locked → k.nextInternal.isSome = true)

theorem Rate.good_nominal (r : Rate) : r.good r.nominal = true := by cases r <;> decide

/-- Setting the timer makes a record sound that lacks its timer alone. -/
theorem sound_repace {pace t : Nat} {tkFirst : Bool} {s : State} (hcount : s.ftb.refState.allows s.ftb.goodCount = true)
    (hgood : s.ftb.rate.good s.ftb.goodPeriod = true) (hmeasured : s.ftb.measuredPeriod ≤ 1000000) :
    (repace pace t tkFirst s).ftb.sound := by
  obtain ⟨_, _, _, -, hr⟩ := repace_ftb s t tkFirst pace
  rw [hr]
  exact ⟨hcount, hgood, hmeasured, fun _ => rfl⟩

theorem measured_recordPulse {k : Ftb} (t : Nat) (h : k.measuredPeriod ≤ 1000000) : (k.recordPulse t).measuredPeriod ≤ 1000000 := by
  show (k.periodAt t).getD k.measuredPeriod ≤ 1000000
  unfold Ftb.periodAt
  cases k.lastPulse with
  | none => exact h
  | some p => exact Nat.min_le_right _ _

theorem sound_pulseInLocking (period : Option Nat) {s : State} (hst : s.ftb.refState = .locking) (h : s.ftb.sound) :
    (pulseInLocking period s).ftb.sound := by
  obtain ⟨hcount, hgood, hmeasured, htimer⟩ := h
  have htimer' := htimer (by rw [hst]; exact fun h => by cases h)
  have hle : s.ftb.goodCount ≤ 7 := by rw [hst] at hcount; exact of_decide_eq_true hcount
  unfold pulseInLocking
  split
  · exact ⟨hcount, hgood, hmeasured, htimer⟩
  · rename_i p
    split
    · rename_i hp
      dsimp only
      split
      · rename_i h8
        exact ⟨decide_eq_true h8, hp, hmeasured, fun h => absurd rfl h⟩
      · rename_i h8
        refine ⟨?_, hp, hmeasured, fun _ => htimer'⟩
        have h8' : s.ftb.goodCount + 1 ≠ 8 := h8
        show s.ftb.refState.allows (s.ftb.goodCount + 1) = true
        rw [hst]
        exact decide_eq_true (by omega)
    · refine ⟨?_, hgood, hmeasured, fun _ => htimer'⟩
      show s.ftb.refState.allows 0 = true
      rw [hst]
      rfl

theorem sound_pulseAt {s : State} (t : Nat) (tkFirst : Bool) (h : s.ftb.sound) : (pulseAt t tkFirst s).ftb.sound := by
  obtain ⟨hcount, hgood, hmeasured, htimer⟩ := h
  have hrecorded := measured_recordPulse t hmeasured
  unfold pulseAt
  dsimp only
  cases hst : s.ftb.refState with
  | absent => exact ⟨rfl, hgood, hrecorded, fun _ => htimer (by rw [hst]; exact fun h => by cases h)⟩
  | holdover => exact sound_repace rfl hgood hrecorded
  | locking => exact sound_pulseInLocking _ hst ⟨hcount, hgood, hrecorded, htimer⟩
  | locked =>
    dsimp only
    unfold pulseInLocked
    split
    · rename_i p hp
      have hp' : s.ftb.rate.good p = true := (Option.filter_eq_some_iff.1 hp).2
      rw [boundaryAt_ftb]
      exact ⟨hcount, hp', hrecorded, fun hne => absurd hst hne⟩
    · exact sound_repace rfl hgood hrecorded

theorem sound_timerDue {s : State} (tkFirst : Bool) (h : s.ftb.sound) : (timerDue tkFirst s).ftb.sound := by
  obtain ⟨hcount, hgood, hmeasured, htimer⟩ := h
  have htick (due : Nat) : (timerBoundary due s.ftb.pace tkFirst s).ftb.sound := by
    rw [timerBoundary_ftb]
    exact ⟨hcount, hgood, hmeasured, fun _ => rfl⟩
  unfold timerDue
  split
  · exact ⟨hcount, hgood, hmeasured, htimer⟩
  · split
    · split
      · exact htick _
      · exact ⟨hcount, hgood, hmeasured, fun hne => absurd ‹s.ftb.refState = .locked› hne⟩
    all_goals exact htick _

theorem sound_watchdogExpires {s : State} (tkFirst : Bool) (h : s.ftb.sound) : (watchdogExpires tkFirst s).ftb.sound := by
  obtain ⟨hcount, hgood, hmeasured, htimer⟩ := h
  unfold watchdogExpires
  split
  · rename_i _ hst
    refine ⟨?_, hgood, hmeasured, htimer⟩
    show s.ftb.refState.allows 0 = true
    rw [hst]
    rfl
  · unfold missHoldover
    split
    · rw [paceFrom_ftb]
      exact ⟨rfl, hgood, hmeasured, fun _ => rfl⟩
    · exact ⟨rfl, hgood, hmeasured, fun _ => rfl⟩
  · exact ⟨hcount, hgood, hmeasured, htimer⟩

theorem sound_configureTimebase (t : Nat) (a : Nat × Nat) {s : State} (h : s.ftb.sound) : (configureTimebase t a s).1.ftb.sound := by
  unfold configureTimebase
  split
  · exact h
  · rename_i r _
    split
    · exact h
    · dsimp only [okWith]
      split
      · exact h
      · refine sound_repace ?_ r.good_nominal (Nat.zero_le _)
        show (if _ then RefState.locking else .absent).allows 0 = true
        split <;> rfl

theorem sound_cold (straps : BitVec 3) : (State.cold straps).ftb.sound :=
  ⟨rfl, (by decide : Rate.good .r50 20000 = true), Nat.zero_le _, fun _ => rfl⟩

/-- Settles O9. -/
theorem stepKeepsTimebaseSound : Obligations.StepKeepsTimebaseSound := by
  intro s t hs hstep
  obtain rfl | ⟨c, rest, -, h⟩ := step_cases hstep
  · exact hs
  by_cases hc : ∃ straps, c = .coldReset straps
  · obtain ⟨straps, rfl⟩ := hc
    cases h
    exact sound_cold straps
  · exact exec_ftb (R := fun k k' => k.sound → k'.sound) (fun _ => id) (fun _ t k => sound_pulseAt t k) (fun _ k => sound_timerDue k)
      (fun _ k => sound_watchdogExpires k) (fun t a _ => sound_configureTimebase t a) (fun straps he => hc ⟨straps, he⟩) h hs

end Sys2Proof.Machine

/-! Pulses, the internal timer, the watchdog and TB_CONFIGURE (O22 to O26, O32, O33). -/

namespace Sys2Proof.Machine

-- One theorem at a time: all at once, their threads together outgrow the memory limit of the check.
set_option Elab.async false

/-! ## Events of the clock -/

/-- A cause that waits before what follows an event is on its way to the host after it. -/
theorem notified_after {c : Cause} {o : Nat} {s : State} (h : Waits c o s) : Notified c o (after s) :=
  notified_kick (h.of_same (keeps_pump s .notices (by decide)))

theorem waits_boundaryAt {c : Cause} {o : Nat} {s : State} (t : Nat) (tkFirst : Bool) (h : Waits c o s) :
    Waits c o (boundaryAt t tkFirst s) := h.of_acts (wide := .full) (acts_boundaryAt t tkFirst s)

theorem waits_modFtb {c : Cause} {o : Nat} {s : State} {f : Ftb → Ftb} (h : Waits c o s) : Waits c o (s.modFtb f) := h.of_same rfl

theorem waits_paceFrom {c : Cause} {o : Nat} {s : State} (pace t : Nat) (tkFirst : Bool) (h : Waits c o s) :
    Waits c o (paceFrom pace t tkFirst s) := waits_boundaryAt t tkFirst (waits_modFtb h)

theorem waits_repace {c : Cause} {o : Nat} {s : State} (pace t : Nat) (tkFirst : Bool) (h : Waits c o s) :
    Waits c o (repace pace t tkFirst s) := by
  unfold repace
  split
  · exact waits_paceFrom _ _ _ h
  · exact waits_modFtb h

theorem repace_of_le {pace t : Nat} {tkFirst : Bool} {s : State} (h : t ≤ s.ftb.lastBoundary + pace) :
    repace pace t tkFirst s = paceOn pace s := if_neg (by omega)

theorem repace_of_lt {pace t : Nat} {tkFirst : Bool} {s : State} (h : s.ftb.lastBoundary + pace < t) :
    repace pace t tkFirst s = paceFrom pace t tkFirst s := if_pos h

/-- The parts that an event of the clock without a boundary may change: its record, and what follows it. -/
abbrev tickParts : List Part := .ftb :: afterParts

theorem keeps_tick (s : State) (f : Ftb → Ftb) : KeepsBut tickParts s (s.modFtb f) := (keeps_modFtb s f).mono (by decide)
theorem keeps_raiseTick (s : State) (c : Cause) (o : Nat) : KeepsBut tickParts s (raise c o s) := (keeps_raise s c o).mono (by decide)
theorem keeps_afterTick {s s1 : State} (h : KeepsBut tickParts s s1) : KeepsBut tickParts s (after s1) :=
  h.trans ((keeps_after s1).mono (by decide))

section events
variable {s : State} (howed : s.owed = [])
include howed

theorem refPulse_eq (t : Nat) (tkFirst : Bool) : exec (.refPulse t tkFirst) s = .next (after (pulseAt t tkFirst s)) := by
  show event (fun s => after (pulseAt t tkFirst s)) s = _
  rw [event, settleOwed_of_nil s howed]

theorem internalTimerDue_eq (tkFirst : Bool) : exec (.internalTimerDue tkFirst) s = .next (after (timerDue tkFirst s)) := by
  show event (fun s => after (timerDue tkFirst s)) s = _
  rw [event, settleOwed_of_nil s howed]

theorem pulseWatchdogExpiry_eq (tkFirst : Bool) :
    exec (.pulseWatchdogExpiry tkFirst) s = .next (after (watchdogExpires tkFirst s)) := by
  show event (fun s => after (watchdogExpires tkFirst s)) s = _
  rw [event, settleOwed_of_nil s howed]

end events

/-! ## Pulses (O22, O23) -/

theorem pulseAt_absent {s : State} (h : s.ftb.refState = .absent) (t : Nat) (tkFirst : Bool) :
    pulseAt t tkFirst s = enterLocking (s.modFtb (Ftb.recordPulse t)) := by simp only [pulseAt, h]

theorem pulseAt_holdover {s : State} (h : s.ftb.refState = .holdover) (t : Nat) (tkFirst : Bool) :
    pulseAt t tkFirst s = repace s.ftb.rate.nominal t tkFirst (enterLocking (s.modFtb (Ftb.recordPulse t))) := by
  simp only [pulseAt, h]

theorem pulseAt_locking {s : State} (h : s.ftb.refState = .locking) (t : Nat) (tkFirst : Bool) :
    pulseAt t tkFirst s = pulseInLocking (s.ftb.periodAt t) (s.modFtb (Ftb.recordPulse t)) := by simp only [pulseAt, h]

theorem pulseAt_locked {s : State} (h : s.ftb.refState = .locked) (t : Nat) (tkFirst : Bool) :
    pulseAt t tkFirst s = pulseInLocked t (s.ftb.periodAt t) tkFirst (s.modFtb (Ftb.recordPulse t)) := by simp only [pulseAt, h]

theorem pulseInLocking_bad {s : State} {p : Nat} (h : s.ftb.rate.good p = false) :
    pulseInLocking (some p) s = s.modFtb fun k => { k with goodCount := 0 } := by
  rw [pulseInLocking, h]
  rfl

theorem pulseInLocking_good {s : State} {p : Nat} (h : s.ftb.rate.good p = true) (hn : s.ftb.goodCount ≠ 7) :
    pulseInLocking (some p) s = s.modFtb fun k => { k with goodPeriod := p, goodCount := k.goodCount + 1 } := by
  rw [pulseInLocking, if_pos h]
  exact if_neg fun h8 => hn (Nat.succ.inj h8)

theorem pulseInLocking_eighth {s : State} {p : Nat} (h : s.ftb.rate.good p = true) (hn : s.ftb.goodCount = 7) :
    pulseInLocking (some p) s = raise .tbLocked 0
      ((s.modFtb fun k => { k with goodPeriod := p, goodCount := k.goodCount + 1 }).modFtb fun k => { k with refState := .locked }) := by
  rw [pulseInLocking, if_pos h]
  exact if_pos (show s.ftb.goodCount + 1 = 8 by rw [hn])

theorem keeps_pulseInLockingTick (period : Option Nat) (s : State) : KeepsBut tickParts s (pulseInLocking period s) := by
  unfold pulseInLocking
  split
  · exact .refl _ _
  · exact .ite (.ite (((keeps_tick s _).trans (keeps_tick _ _)).trans (keeps_raiseTick _ _ _)) (keeps_tick s _)) (keeps_tick s _)

/-- Settles O22. -/
theorem pulseBeforeLock : Obligations.PulseBeforeLock := by
  intro s time tkFirst howed measured seen n
  have hrecord : KeepsBut tickParts s (s.modFtb (Ftb.recordPulse time)) := keeps_tick s _
  have henter : KeepsBut tickParts s (enterLocking (s.modFtb (Ftb.recordPulse time))) :=
    (hrecord.trans (keeps_tick _ _)).trans (keeps_raiseTick _ _ _)
  refine ⟨fun hst => ⟨_, refPulse_eq howed time tkFirst, ?_⟩, fun hst => ⟨_, refPulse_eq howed time tkFirst, ?_⟩,
    fun hst => ⟨_, refPulse_eq howed time tkFirst, ?_⟩⟩
  · rw [pulseAt_absent hst]
    exact ⟨after_ftb _, notified_after (waits_raise _ _ _), keeps_afterTick henter⟩
  · rw [pulseAt_holdover hst]
    refine ⟨notified_after (waits_repace _ _ _ (waits_raise _ _ _)), fun hle => ?_, fun hlt => ?_⟩
    · rw [repace_of_le (s := enterLocking (s.modFtb (Ftb.recordPulse time))) (pace := s.ftb.rate.nominal) hle]
      exact ⟨after_ftb _, keeps_afterTick (henter.trans (keeps_tick _ _))⟩
    · rw [repace_of_lt (s := enterLocking (s.modFtb (Ftb.recordPulse time))) (pace := s.ftb.rate.nominal) hlt, after_ftb, paceFrom_ftb]
      rfl
  · rw [pulseAt_locking hst]
    refine ⟨fun hm => ?_, fun p hm hp => ?_, fun p hm hp hn => ?_, fun p hm hp hn => ?_,
      keeps_afterTick (hrecord.trans (keeps_pulseInLockingTick _ _))⟩ <;> rw [show s.ftb.periodAt time = _ from hm]
    · exact after_ftb _
    · rw [pulseInLocking_bad (s := s.modFtb (Ftb.recordPulse time)) hp]
      exact after_ftb _
    · rw [pulseInLocking_good (s := s.modFtb (Ftb.recordPulse time)) hp hn]
      exact after_ftb _
    · rw [pulseInLocking_eighth (s := s.modFtb (Ftb.recordPulse time)) hp hn]
      refine ⟨(after_ftb _).trans ?_, notified_after (waits_raise _ _ _)⟩
      show ({ seen with goodPeriod := p, goodCount := s.ftb.goodCount + 1, refState := .locked } : Ftb) = _
      rw [hn]

theorem pulseInLocked_good {s : State} {t p : Nat} {tkFirst : Bool} (h : s.ftb.rate.good p = true) :
    pulseInLocked t (some p) tkFirst s = boundaryAt t tkFirst (s.modFtb fun k => { k with goodPeriod := p, nextInternal := none }) := by
  rw [pulseInLocked, Option.filter_some, if_pos h]

theorem pulseInLocked_bad {s : State} {t : Nat} {period : Option Nat} {tkFirst : Bool}
    (h : ∀ p, period = some p → s.ftb.rate.good p = false) : pulseInLocked t period tkFirst s = enterHoldover t tkFirst s := by
  have hnone : period.filter s.ftb.rate.good = none :=
    Option.filter_eq_none_iff.2 fun p hp => by rw [h p hp]; exact Bool.false_ne_true
  rw [pulseInLocked, hnone]

/-- Settles O23. -/
theorem Clock.pulseInLocked : Obligations.PulseInLocked := by
  intro s time tkFirst howed hst measured seen g
  refine ⟨fun p hm hp => ⟨_, refPulse_eq howed time tkFirst, ?_⟩, fun hbad => ⟨_, refPulse_eq howed time tkFirst, ?_⟩⟩
  · rw [pulseAt_locked hst, show s.ftb.periodAt time = some p from hm, pulseInLocked_good (s := s.modFtb (Ftb.recordPulse time)) hp]
    exact ⟨rfl, by rw [after_ftb, boundaryAt_ftb]; rfl⟩
  · rw [pulseAt_locked hst, pulseInLocked_bad (s := s.modFtb (Ftb.recordPulse time)) (period := s.ftb.periodAt time) hbad]
    refine ⟨notified_after (waits_repace _ _ _ (waits_raise _ _ _)), fun hle => ?_, fun hlt => ?_⟩
    · rw [enterHoldover, repace_of_le (s := inHoldover (s.modFtb (Ftb.recordPulse time)))
        (pace := (s.modFtb (Ftb.recordPulse time)).ftb.goodPeriod) hle]
      exact ⟨after_ftb _, keeps_afterTick ((((keeps_tick s _).trans (keeps_tick _ _)).trans (keeps_raiseTick _ _ _)).trans (keeps_tick _ _))⟩
    · rw [enterHoldover, repace_of_lt (s := inHoldover (s.modFtb (Ftb.recordPulse time)))
        (pace := (s.modFtb (Ftb.recordPulse time)).ftb.goodPeriod) hlt, after_ftb, paceFrom_ftb]
      rfl

/-! ## The internal timer and the watchdog (O24, O25) -/

/-- Settles O24. -/
theorem internalTimerMakesBoundary : Obligations.InternalTimerMakesBoundary := by
  intro s tkFirst howed
  refine ⟨fun due hdue => ?_, fun hnone => ⟨_, internalTimerDue_eq howed tkFirst, ?_⟩⟩
  · intro pace point
    have hpace : s.ftb.pace = pace := by
      unfold Ftb.pace
      cases hst : s.ftb.refState <;> simp [pace, hst]
    refine ⟨fun hmakes => ⟨_, internalTimerDue_eq howed tkFirst, ?_⟩, fun hst hpast => ⟨_, internalTimerDue_eq howed tkFirst, ?_⟩⟩
    · have htick : timerDue tkFirst s = timerBoundary due pace tkFirst s := by
        rw [← hpace, timerDue, hdue]
        dsimp only
        split
        · rename_i hst
          obtain hne | ⟨p, hp, hle⟩ := hmakes
          · exact absurd hst hne
          · exact if_pos (by rw [Ftb.inChangeover, hp]; exact decide_eq_true hle)
        all_goals rfl
      rw [htick]
      exact ⟨rfl, by rw [after_ftb, timerBoundary_ftb]⟩
    · have hskip : timerDue tkFirst s = s.modFtb fun k => { k with nextInternal := none } := by
        rw [timerDue, hdue]
        dsimp only
        rw [hst]
        refine if_neg ?_
        rw [Ftb.inChangeover, Option.any_eq_true]
        rintro ⟨p, hp, hle⟩
        exact absurd (of_decide_eq_true hle) (Nat.not_le.2 (hpast p hp))
      rw [hskip]
      exact ⟨after_ftb _, keeps_afterTick (keeps_tick s _)⟩
  · rw [timerDue, hnone]
    exact keeps_after s

/-- Settles O25. -/
theorem Clock.watchdogExpires : Obligations.WatchdogExpires := by
  intro s p tkFirst howed hp time g held
  refine ⟨fun hst => ⟨_, pulseWatchdogExpiry_eq howed tkFirst, ?_⟩, fun hst => ⟨_, pulseWatchdogExpiry_eq howed tkFirst, ?_⟩,
    fun hst => ⟨_, pulseWatchdogExpiry_eq howed tkFirst, ?_⟩⟩
  · rw [Machine.watchdogExpires, hp, hst]
    exact ⟨after_ftb _, keeps_afterTick (keeps_tick s _)⟩
  · have hmiss : Machine.watchdogExpires tkFirst s = missHoldover time tkFirst s := by rw [Machine.watchdogExpires, hp, hst]; rfl
    rw [hmiss]
    refine ⟨?_, fun hlt => ?_, fun hle => ?_⟩
    · unfold missHoldover
      split
      · exact notified_after (waits_paceFrom _ _ _ (waits_raise _ _ _))
      · exact notified_after (waits_modFtb (waits_raise _ _ _))
    · rw [missHoldover, if_neg (Nat.not_le.2 hlt)]
      exact ⟨after_ftb _, keeps_afterTick (((keeps_tick s _).trans (keeps_raiseTick _ _ _)).trans (keeps_tick _ _))⟩
    · rw [missHoldover, if_pos hle, after_ftb, paceFrom_ftb]
      rfl
  · have hstays : Machine.watchdogExpires tkFirst s = s := by
      obtain hst | hst := hst <;> rw [Machine.watchdogExpires, hp, hst]
    rw [hstays]
    exact keeps_after s

/-! ## A boundary in STANDBY (O26) -/

theorem mem_oneUpTo {n i : Nat} : i ∈ oneUpTo n ↔ 1 ≤ i ∧ i ≤ n := by
  simp only [oneUpTo, List.mem_map, List.mem_range]
  exact ⟨fun ⟨k, hk, hi⟩ => by omega, fun ⟨h, h'⟩ => ⟨i - 1, by omega, by omega⟩⟩

theorem mem_dueOver {n : Nat} {mk : Nat → Owed} {p : Nat → Bool} {o : Owed} :
    o ∈ dueOver n mk p ↔ ∃ i, (1 ≤ i ∧ i ≤ n) ∧ p i = true ∧ mk i = o := by
  simp only [dueOver, List.mem_map, List.mem_filter, mem_oneUpTo, and_assoc]

theorem mem_unitAddresses {a : Nat} : a ∈ unitAddresses ↔ 1 ≤ a ∧ a ≤ 24 ∨ a = 31 := by
  simp [unitAddresses, mem_oneUpTo, Config.matrixAddress]

theorem ordersDue_iff (s : State) (a : Nat) :
    s.ordersDue a = true ↔ ∃ o ∈ (s.unit a).outstanding ++ (s.unit a).waiting, o.deadline = s.now := by
  simp [State.ordersDue, UnitRec.dueOrders, ← List.filter_append, List.filter_eq_nil_iff, Order.due]

/-- What falls due at a boundary in either mode. -/
theorem mem_dueOrders {s : State} {o : Owed} : o ∈ s.dueOrders ↔
    (∃ a ∈ unitAddresses, s.ordersDue a = true ∧ .orders a = o) ∨
    (∃ l, (1 ≤ l ∧ l ≤ 48) ∧ (s.link l).retryAt = some s.now ∧ .tallyRetry l = o) ∨
    ∃ x, (1 ≤ x ∧ x ≤ 24) ∧ (s.station x).lampRetry = some s.now ∧ .lampRetry x = o := by
  simp only [State.dueOrders, List.mem_append, mem_dueOver, List.mem_map, List.mem_filter, decide_eq_true_eq, and_assoc, or_assoc,
    Config.links, Config.stations]

theorem mem_dueAgain {s : State} {o : Owed} : o ∈ s.dueAgain ↔
    (∃ b, (1 ≤ b ∧ b ≤ 4) ∧ ((s.band b).scanReissue.any fun x => decide (x.1 = s.now)) = true ∧ .scan b = o) ∨
    ∃ l, (1 ≤ l ∧ l ≤ 48) ∧ (s.link l).muteReissue.contains s.now = true ∧ .mute l = o := by
  simp only [State.dueAgain, List.mem_append, mem_dueOver, Config.bands, Config.links]

/-- Settles O26. -/
theorem boundaryInStandby : Obligations.BoundaryInStandby := by
  intro s time tkFirst hmode t
  have ht : t = { beginFrameAt time s with owed := (beginFrameAt time s).dueSteps } := by
    show boundaryAt time tkFirst s = _
    rw [boundaryAt, hmode]
  have howed : t.owed = (beginFrameAt time s).dueOrders ++ (beginFrameAt time s).dueAgain := by
    rw [ht]
    show (beginFrameAt time s).dueSteps = _
    rw [State.dueSteps, show (beginFrameAt time s).mode = .standby from hmode]
  refine ⟨boundaryAt_ftb _ _ _, by rw [ht]; rfl, ?_, fun o ho => ?_, fun a ha => ?_, fun l hl hl' => ?_⟩
  · rw [ht]
    exact ((keeps_beginFrameAt time s).mono (by decide)).trans ((keeps_owed _ _).mono (by decide))
  · rw [howed, List.mem_append, mem_dueOrders, mem_dueAgain] at ho
    obtain (⟨a, -, -, rfl⟩ | ⟨l, -, -, rfl⟩ | ⟨x, -, -, rfl⟩) | ⟨b, -, -, rfl⟩ | ⟨l, -, -, rfl⟩ := ho <;> simp
  · rw [howed, List.mem_append, mem_dueOrders, mem_dueAgain]
    have hdue : (beginFrameAt time s).ordersDue a = true ↔
        ∃ o ∈ (s.unit a).outstanding ++ (s.unit a).waiting, o.deadline = s.ftb.counter + 1 := ordersDue_iff (beginFrameAt time s) a
    have hmem := mem_unitAddresses.2 ha
    simpa [hmem] using hdue
  · rw [howed, List.mem_append, mem_dueOrders, mem_dueAgain]
    simp [hl, hl']
    rfl

/-! ## TB_CONFIGURE (O32, O33) -/

theorem rateOf_code (r : Rate) : rateOf r.code = some r := by cases r <;> rfl

theorem rateOf_eq_none {c : Nat} (h : 5 < c) : rateOf c = none := by
  match c, h with
  | _ + 6, _ => rfl

theorem clamp_lead (n : Nat) : max 2 (min 50 n) = if n < 2 then 2 else if 50 < n then 50 else n := by split_ifs <;> omega

/-- The measurement starts afresh at a new rate (R13). -/
def Ftb.afresh (r : Rate) (locking : Bool) (k : Ftb) : Ftb :=
  { k with rate := r, measuredPeriod := 0, goodCount := 0, goodPeriod := r.nominal, lastPulse := none,
           refState := if locking then .locking else .absent }

/-- The state in which the timer is set at a change of rate. -/
def newRate (r : Rate) (t : Nat) (s : State) : State :=
  raise (if s.ftb.arriving t then .tbLocking else .tbAbsent) 0 (raise .tbRate 0 (s.modFtb (Ftb.afresh r (s.ftb.arriving t))))

theorem changeRate_eq (r : Rate) (t : Nat) (s : State) : changeRate r t s = repace r.nominal t false (newRate r t s) := rfl

theorem newRate_ftb (r : Rate) (t : Nat) (s : State) : (newRate r t s).ftb = s.ftb.afresh r (s.ftb.arriving t) := rfl

/-- The lead is stored before the rate changes (R12). -/
def setLead (lead : Nat) (s : State) : State := s.modFtb fun k => { k with lead := max 2 (min 50 lead) }

theorem configureTimebase_same {t : Nat} {a : Nat × Nat} {s : State} (h : rateOf a.1 = some s.ftb.rate) :
    configureTimebase t a s = okWith (u8 s.ftb.rate.code ++ u8 (max 2 (min 50 a.2))) (setLead a.2 s) := by
  rw [configureTimebase, h]
  dsimp only
  rw [if_neg fun h => h.2 rfl, if_pos rfl]
  rfl

theorem configureTimebase_changes {t : Nat} {a : Nat × Nat} {s : State} {r : Rate} (h : rateOf a.1 = some r) (hm : s.mode = .standby)
    (hr : r ≠ s.ftb.rate) :
    configureTimebase t a s = okWith (u8 r.code ++ u8 (max 2 (min 50 a.2))) (changeRate r t (setLead a.2 s)) := by
  rw [configureTimebase, h]
  dsimp only
  rw [if_neg fun h => (by rw [hm] at h; cases h.1), if_neg hr]
  obtain ⟨_, _, _, -, hf⟩ := repace_ftb (newRate r t (setLead a.2 s)) t false r.nominal
  rw [show s.modFtb _ = setLead a.2 s from rfl, changeRate_eq, hf]
  rfl

/-- A boundary in STANDBY moves the clock, the bus and the steps owed. -/
theorem keeps_boundaryAt_standby {s : State} (hm : s.mode = .standby) (t : Nat) (tkFirst : Bool) :
    KeepsBut [.ftb, .bus, .owed] s (boundaryAt t tkFirst s) := (boundaryInStandby s t tkFirst hm).2.2.1

/-- The parts that a change of rate may change in STANDBY. -/
abbrev rateParts : List Part := .ftb :: .bus :: .owed :: afterParts

theorem keeps_changeRate_standby (r : Rate) (t : Nat) {s : State} (hm : s.mode = .standby) :
    KeepsBut [.ftb, .bus, .owed, .notices] s (changeRate r t s) := by
  have hnew : KeepsBut [.ftb, .bus, .owed, .notices] s (newRate r t s) :=
    ((((keeps_modFtb s _).mono (by decide)).trans ((keeps_raise _ _ _).mono (by decide)))).trans ((keeps_raise _ _ _).mono (by decide))
  have hset (f : Ftb → Ftb) : KeepsBut [.ftb, .bus, .owed, .notices] s ((newRate r t s).modFtb f) :=
    hnew.trans ((keeps_modFtb _ _).mono (by decide))
  have hmode (f : Ftb → Ftb) : ((newRate r t s).modFtb f).mode = .standby := hm
  exact .ite ((hset _).trans ((keeps_boundaryAt_standby (hmode _) t false).mono (by decide))) (hset _)

theorem ofNat_code {r : Rate} {code : Byte} (h : r.code = code.toNat) : u8 r.code = [code] := by
  rw [u8, h, BitVec.ofNat_toNat, BitVec.setWidth_eq]

/-- Settles O32. -/
theorem timebaseConfigured : Obligations.TimebaseConfigured := by
  intro s f time code lead ht hp clamped
  have hread : readTwo f.payload = some (code.toNat, lead.toNat) := by rw [hp]; rfl
  have hclamp : max 2 (min 50 lead.toNat) = clamped := clamp_lead _
  refine ⟨fun hcode => ?_, fun r hr => ⟨fun hrun hne => ?_, fun heq => ?_, fun hmode hne => ?_⟩⟩
  · refine request_refuses ht hread ?_ rfl
    rw [configureTimebase, rateOf_eq_none hcode]
  · refine request_refuses ht hread ?_ rfl
    rw [configureTimebase, ← hr, rateOf_code]
    exact if_pos ⟨hrun, hne⟩
  · subst heq
    have hact := configureTimebase_same (t := time) (a := (code.toNat, lead.toNat)) (s := dropHead s) (by rw [← hr]; exact rateOf_code _)
    refine ⟨_, request_oks ht hread hact, ?_, ?_, ?_⟩
    · rw [hclamp, show (dropHead s).ftb.rate = s.ftb.rate from rfl, ofNat_code hr, ← List.append_assoc]
      exact replies_of_after rfl
    · rw [after_ftb]
      show ({ s.ftb with lead := max 2 (min 50 lead.toNat) } : Ftb) = _
      rw [hclamp]
    · exact keeps_afterTick ((((keeps_dropHead s).mono (by decide)).trans (keeps_tick _ _)).trans ((keeps_putReply _ _ _).mono (by decide)))
  · have hact := configureTimebase_changes (t := time) (a := (code.toNat, lead.toNat)) (s := dropHead s) (by rw [← hr]; exact rateOf_code _)
      hmode hne
    have hmp : (changeRate r time (setLead lead.toNat (dropHead s))).mp = (dropHead s).mp :=
      keeps_changeRate_standby r time (s := setLead lead.toNat (dropHead s)) hmode .mp (by decide)
    obtain ⟨_, _, _, -, hf⟩ := repace_ftb (newRate r time (setLead lead.toNat (dropHead s))) time false r.nominal
    refine ⟨_, request_oks ht hread hact, ?_, ?_, ?_⟩
    · rw [hclamp, ofNat_code hr, ← List.append_assoc]
      exact replies_of_after hmp
    · rw [after_ftb]
      show (changeRate r time _).ftb.rate = r
      rw [changeRate_eq, hf]
      rfl
    · rw [after_ftb]
      show (changeRate r time _).ftb.lead = clamped
      rw [changeRate_eq, hf]
      exact hclamp

/-- Settles O33. -/
theorem rateChanges : Obligations.RateChanges := by
  intro s f time code lead r ht hp hr hmode hne n arriving
  have hread : readTwo f.payload = some (code.toNat, lead.toNat) := by rw [hp]; rfl
  have hact := configureTimebase_changes (t := time) (a := (code.toNat, lead.toNat)) (s := dropHead s) (by rw [← hr]; exact rateOf_code _)
    hmode hne
  let s1 := newRate r time (setLead lead.toNat (dropHead s))
  have harr : s.ftb.arriving time = true ↔ arriving := by
    simp only [Ftb.arriving, Option.any_eq_true, decide_eq_true_eq]
    rfl
  have hstart : KeepsBut tickParts s s1 :=
    ((((((keeps_dropHead s).mono (by decide)).trans (keeps_tick _ _)).trans (keeps_tick _ _)).trans (keeps_raiseTick _ _ _)).trans
      (keeps_raiseTick _ _ _))
  have hcause : Waits (if s.ftb.arriving time then .tbLocking else .tbAbsent) 0 s1 := waits_raise _ _ _
  have hrate : Waits .tbRate 0 s1 := (waits_raise .tbRate 0 _).of_acts (acts_raise (wide := .narrow) _ _ _)
  have hnotified {c : Cause} (h : Waits c 0 s1) :
      Notified c 0 (after (putReply f (u8 0 ++ (u8 r.code ++ u8 (max 2 (min 50 lead.toNat)))) (repace r.nominal time false s1))) :=
    notified_after_reply f _ (waits_repace _ _ _ h)
  obtain ⟨_, _, _, -, hf⟩ := repace_ftb s1 time false r.nominal
  have hkeeps (ps : List Part) (hps : [.ftb, .mp, .notices] ⊆ ps) (ha : afterParts ⊆ ps)
      (h : KeepsBut ps s (repace r.nominal time false s1)) : KeepsBut ps s
        (after (putReply f (u8 0 ++ (u8 r.code ++ u8 (max 2 (min 50 lead.toNat)))) (repace r.nominal time false s1))) :=
    (h.trans ((keeps_putReply _ _ _).mono (List.Subset.trans (by decide) hps))).trans ((keeps_after _).mono ha)
  refine ⟨_, request_oks ht hread hact, ?_⟩
  have hend : (after (putReply f (u8 0 ++ (u8 r.code ++ u8 (max 2 (min 50 lead.toNat)))) (repace r.nominal time false s1))).ftb =
      (repace r.nominal time false s1).ftb := after_ftb _
  have hf := hend.trans hf
  refine ⟨congrArg Ftb.rate hf, congrArg Ftb.measuredPeriod hf, congrArg Ftb.goodCount hf, congrArg Ftb.goodPeriod hf,
    congrArg Ftb.lastPulse hf, fun ha => ?_, fun ha => ?_, hnotified hrate, fun hle => ?_, fun hlt => ?_, ?_⟩
  · rw [if_pos (harr.2 ha)] at hcause
    exact ⟨(congrArg Ftb.refState hf).trans (if_pos (harr.2 ha)), hnotified hcause⟩
  · have hno : ¬ s.ftb.arriving time = true := fun h => ha (harr.1 h)
    rw [if_neg hno] at hcause
    exact ⟨(congrArg Ftb.refState hf).trans (if_neg hno), hnotified hcause⟩
  · have hpaced : repace r.nominal time false s1 = paceOn r.nominal s1 := repace_of_le hle
    have h := hend.trans (congrArg State.ftb hpaced)
    refine ⟨(congrArg Ftb.counter h :), (congrArg Ftb.lastBoundary h :), (congrArg Ftb.nextInternal h :),
      hkeeps _ (by decide) (by decide) ?_⟩
    rw [hpaced]
    exact hstart.trans (keeps_tick _ _)
  · have hpaced : repace r.nominal time false s1 = paceFrom r.nominal time false s1 := repace_of_lt hlt
    have h := hend.trans ((congrArg State.ftb hpaced).trans (paceFrom_ftb _ _ _ _))
    exact ⟨congrArg Ftb.counter h, congrArg Ftb.lastBoundary h, congrArg Ftb.nextInternal h⟩
  · have hstandby : (setLead lead.toNat (dropHead s)).mode = .standby := hmode
    exact hkeeps _ (by decide) (by decide) ((((keeps_dropHead s).mono (by decide)).trans ((keeps_modFtb _ _).mono (by decide))).trans
      ((keeps_changeRate_standby r time hstandby).mono (by decide)))

end Sys2Proof.Machine

/-! Sound link records (O10). Inside an event one link at a time may stand between two states; every other link is sound all the while,
and mild changes do not matter to it. -/

namespace Sys2Proof.Machine

-- One theorem at a time: all at once, their threads together outgrow the memory limit of the check.
set_option Elab.async false

/-! ## Mild changes of the links -/

theorem Link.Mild.trans {k k' k'' : Link} (h : k.Mild k') (h' : k'.Mild k'') : k.Mild k'' where
  core := h'.core.trans h.core
  rescue hr := (h'.rescue hr).elim h.rescue fun hf => .inr ((congrArg Link.state h.core :).symm.trans hf)
  tally ht := (h'.tally ht).elim h.tally fun hc => .inr ((congrArg (fun k => k.cfg.kind) h.core :).symm.trans hc)

/-- Every link's record has changed mildly at most. -/
def MildLinks (s t : State) : Prop := List.Forall₂ Link.Mild s.links t.links

theorem MildLinks.of_links {s t : State} (h : t.links = s.links) : MildLinks s t := by
  unfold MildLinks
  rw [h]
  exact List.forall₂_same.2 fun k _ => .refl k

theorem MildLinks.trans {s t u : State} (h : MildLinks s t) (h' : MildLinks t u) : MildLinks s u :=
  List.forall₂_iff_get.2 ⟨h.length_eq.trans h'.length_eq, fun _ hi hi' =>
    (h.get hi (h.length_eq ▸ hi)).trans (h'.get (h.length_eq ▸ hi) hi')⟩

theorem grantOne_links (a : Nat) (s : State) : (grantOne a s).links = s.links := by
  unfold grantOne
  split <;> rfl

theorem grant_links (a n : Nat) (s : State) : (grant a n s).links = s.links := by
  induction n generalizing s with
  | zero => rfl
  | succ n ih => exact (ih _).trans (grantOne_links a s)

theorem mildLinks_displaced (v : Order) (s : State) : MildLinks s (displaced v s) := by
  obtain hd | ⟨l, e, -, hd⟩ | ⟨t, -, hd⟩ := displaced_cases v s <;> rw [hd]
  · exact .of_links rfl
  · exact forall₂_modSlot (d := Link.vacant) Link.Mild.refl (.dropOrder _ _)
  · exact .of_links rfl

theorem Change.mildLinks {s t : State} (hc : Change .narrow s t) : MildLinks s t := by
  cases hc with
  | mild ks hm => exact hm
  | links hw => exact absurd hw Bool.false_ne_true
  | issue a body i =>
    obtain ⟨-, -, hr⟩ | ⟨-, -, -, hr⟩ | ⟨-, -, -, hr⟩ | ⟨-, -, -, v, -, hr⟩ := issue_cases a body i s <;> rw [hr]
    · exact .of_links rfl
    · exact .of_links rfl
    · exact .of_links rfl
    · exact mildLinks_displaced v (s.tookId.modUnit a fun u => { u with outstanding := u.outstanding.eraseP Order.displaceable })
  | free a n f => exact .of_links (grant_links a n _)
  | _ => exact .of_links rfl

theorem Moves.mildLinks {s t : State} (h : Moves .narrow s t) : MildLinks s t := by
  induction h with
  | refl => exact .of_links rfl
  | tail _ hm ih =>
    refine ih.trans ?_
    cases hm with
    | change hc => exact hc.mildLinks
    | mp | dequeue => exact .of_links rfl
    | warm hw => exact absurd hw Bool.false_ne_true

/-! ## Where a link stands -/

/-- What holds of a link's record at all times: its cause, its rescue status, its timers and its tally fields. -/
def Link.base (k : Link) : Prop :=
  (k.lostCause.isSome = true ↔ k.state = .lost) ∧ (k.rescue ≠ .none → k.state = .fading) ∧ (k.fadeTimer ≠ 0 → k.state = .fading)
    ∧ k.fadeTimer ≤ k.cfg.fadeLimit ∧ k.silenceCounter ≤ k.cfg.silenceLimit
    ∧ (k.delivered.isSome = true ∨ k.tallyOrder.isSome = true → k.cfg.kind = some .camera)

/-- A link is in a state, with a kind or none, an assigned step or none, and a pending step or none. -/
structure Link.At (st : LinkState) (d a p : Bool) (k : Link) : Prop where
  base : k.base
  state : k.state = st
  kind : k.cfg.kind.isSome = d
  assigned : k.assigned.isSome = a
  pending : k.pending.isSome = p

/-- The states with a kind, with an assigned step and with a pending step (R72). -/
def LinkState.defined (st : LinkState) : Bool := decide (st ≠ .vacant)
def LinkState.carries (st : LinkState) : Bool := decide (st ≠ .vacant) && decide (st ≠ .idle)
def LinkState.tunes (st : LinkState) : Bool := decide (st = .retuning)

theorem Link.sound_iff_at (k : Link) : k.sound ↔ k.At k.state k.state.defined k.state.carries k.state.tunes := by
  have hd : k.cfg.kind.isSome = k.state.defined ↔ (k.cfg.kind = none ↔ k.state = .vacant) := by
    unfold LinkState.defined
    cases k.cfg.kind <;> by_cases h : k.state = .vacant <;> simp [h]
  have ha : k.assigned.isSome = k.state.carries ↔ (k.assigned.isSome = true ↔ k.state ≠ .vacant ∧ k.state ≠ .idle) := by
    rw [Bool.eq_iff_iff, LinkState.carries, Bool.and_eq_true, decide_eq_true_eq, decide_eq_true_eq]
  have hp : k.pending.isSome = k.state.tunes ↔ (k.pending.isSome = true ↔ k.state = .retuning) := by
    rw [Bool.eq_iff_iff, LinkState.tunes, decide_eq_true_eq]
  constructor
  · rintro ⟨h1, h2, h3, hb⟩
    exact ⟨hb, rfl, hd.2 h1, ha.2 h2, hp.2 h3⟩
  · rintro ⟨hb, -, h1, h2, h3⟩
    exact ⟨hd.1 h1, ha.1 h2, hp.1 h3, hb⟩

theorem Link.At.sound {st : LinkState} {d a p : Bool} {k : Link} (h : k.At st d a p) (hd : d = st.defined) (ha : a = st.carries)
    (hp : p = st.tunes) : k.sound := by
  subst hd ha hp
  have hst := h.state
  subst hst
  exact (Link.sound_iff_at k).2 h

theorem Link.base_of_mild {k k' : Link} (hm : k.Mild k') (h : k.base) : k'.base := by
  obtain ⟨hl, hr, hf, hfl, hs, ht⟩ := h
  have hst : k'.state = k.state := (congrArg Link.state hm.core :)
  have hcfg : k'.cfg = k.cfg := (congrArg Link.cfg hm.core :)
  have hlost : k'.lostCause = k.lostCause := (congrArg Link.lostCause hm.core :)
  have hfade : k'.fadeTimer = k.fadeTimer := (congrArg Link.fadeTimer hm.core :)
  have hsil : k'.silenceCounter = k.silenceCounter := (congrArg Link.silenceCounter hm.core :)
  unfold Link.base
  rw [hst, hcfg, hlost, hfade, hsil]
  exact ⟨hl, fun h => (hm.rescue h).elim hr id, hf, hfl, hs, fun h => (hm.tally h).elim ht id⟩

theorem Link.At.of_mild {st : LinkState} {d a p : Bool} {k k' : Link} (hm : k.Mild k') (h : k.At st d a p) : k'.At st d a p where
  base := Link.base_of_mild hm h.base
  state := (congrArg Link.state hm.core :).trans h.state
  kind := (congrArg (fun k : Link => k.cfg.kind.isSome) hm.core :).trans h.kind
  assigned := (congrArg (fun k : Link => k.assigned.isSome) hm.core :).trans h.assigned
  pending := (congrArg (fun k : Link => k.pending.isSome) hm.core :).trans h.pending

theorem Link.sound_of_mild {k k' : Link} (hm : k.Mild k') (h : k.sound) : k'.sound := by
  have hst : k'.state = k.state := (congrArg Link.state hm.core :)
  rw [Link.sound_iff_at, hst]
  exact ((Link.sound_iff_at k).1 h).of_mild hm

/-! ## One link between two states -/

/-- Link `l` has a property, if there is such a link, and every other link is sound. -/
def State.linksAre (l : Nat) (Q : Link → Prop) (s : State) : Prop :=
  ∀ i (h : i < s.links.length), if i + 1 = l then Q s.links[i] else s.links[i].sound

/-- Link `l` is at a place in its states, and every other link is sound. -/
abbrev State.linkStands (l : Nat) (st : LinkState) (d a p : Bool) (s : State) : Prop := s.linksAre l (Link.At st d a p)

theorem linksSound_iff (s : State) (l : Nat) : s.linksSound ↔ s.linksAre l Link.sound := by
  simp only [State.linksAre, ite_self]
  exact List.forall_mem_iff_getElem

theorem linksAre_mono {l : Nat} {Q Q' : Link → Prop} {s : State} (h : s.linksAre l Q) (hQ : ∀ k, Q k → Q' k) : s.linksAre l Q' := by
  intro i hi
  have hi' := h i hi
  split
  · rename_i he
    rw [if_pos he] at hi'
    exact hQ _ hi'
  · rename_i he
    rwa [if_neg he] at hi'

theorem linksSound_of_stands {l : Nat} {st : LinkState} {d a p : Bool} {s : State} (h : s.linkStands l st d a p)
    (hd : d = st.defined := by decide) (ha : a = st.carries := by decide) (hp : p = st.tunes := by decide) : s.linksSound :=
  (linksSound_iff s l).2 (linksAre_mono h fun _ hk => Link.At.sound hk hd ha hp)

/-- The record of a link that there is. -/
theorem link_eq_getElem {s : State} {i : Nat} (h : i < s.links.length) : s.link (i + 1) = s.links[i] := by
  rw [State.link, slot, List.getD_eq_getElem _ _ h]

/-- A sound link stands where its state says. -/
theorem linkStands_of_sound {s : State} (h : s.linksSound) {l : Nat} {st : LinkState} (hst : (s.link l).state = st) :
    s.linkStands l st st.defined st.carries st.tunes := by
  refine linksAre_mono (Q := fun k => k.sound ∧ k = s.link l) (fun i hi => ?_) fun k ⟨hk, he⟩ => ?_
  · have hk := h _ (List.getElem_mem hi)
    split
    · rename_i he
      subst he
      exact ⟨hk, (link_eq_getElem hi).symm⟩
    · exact hk
  · have hs : k.state = st := he ▸ hst
    rw [← hs]
    exact (Link.sound_iff_at k).1 hk

theorem linksAre_modLink {l : Nat} {Q Q' : Link → Prop} {f : Link → Link} {s : State} (hQ : ∀ k, Q k → Q' (f k))
    (h : s.linksAre l Q) : (s.modLink l f).linksAre l Q' := by
  intro i hi
  have hlen : i < s.links.length := by simpa using hi
  have hi' := h i hlen
  cases l with
  | zero => exact hi'
  | succ k =>
    simp only [State.modLink_links, modSlot, List.getElem_modify, Nat.add_right_cancel_iff] at hi' ⊢
    by_cases hk : i = k
    · subst hk
      rw [if_pos rfl] at hi' ⊢
      rw [if_pos rfl]
      exact hQ _ hi'
    · rw [if_neg hk] at hi' ⊢
      rwa [if_neg (Ne.symm hk)]

theorem linksAre_mild {l : Nat} {Q : Link → Prop} {s t : State} (hm : MildLinks s t) (hQ : ∀ k k', k.Mild k' → Q k → Q k')
    (h : s.linksAre l Q) : t.linksAre l Q := by
  intro i hi
  have hlen : i < s.links.length := by rwa [hm.length_eq]
  have hi' := h i hlen
  have hk : (s.links[i]).Mild t.links[i] := List.Forall₂.get hm hlen hi
  split
  · rename_i he
    rw [if_pos he] at hi'
    exact hQ _ _ hk hi'
  · rename_i he
    rw [if_neg he] at hi'
    exact Link.sound_of_mild hk hi'

theorem linkStands_acts {l : Nat} {st : LinkState} {d a p : Bool} {s t : State} (hm : Acts .narrow s t) (h : s.linkStands l st d a p) :
    t.linkStands l st d a p := linksAre_mild hm.moves.mildLinks (fun _ _ hm h => Link.At.of_mild hm h) h

theorem linksSound_mild {s t : State} (hm : MildLinks s t) (h : s.linksSound) : t.linksSound :=
  (linksSound_iff t 0).2 (linksAre_mild hm (fun _ _ => Link.sound_of_mild) ((linksSound_iff s 0).1 h))

theorem linksSound_moves {s t : State} (hm : Moves .narrow s t) (h : s.linksSound) : t.linksSound := linksSound_mild hm.mildLinks h

theorem linksSound_map {s : State} {f : Link → Link} (hf : ∀ k, k.sound → (f k).sound) (h : s.linksSound) :
    State.linksSound { s with links := s.links.map f } := fun k hk => by
  obtain ⟨k', hk', rfl⟩ := List.mem_map.1 hk
  exact hf k' (h k' hk')

/-! ## Changes of state (R72) -/

theorem Link.at_enter {st new : LinkState} {d a p : Bool} {cause : Option LostCause} {k : Link}
    (hcause : new = .lost → cause.isSome = true) (h : k.At st d a p) :
    (Link.enter new cause k).At new d (a && decide (new ≠ .idle)) (p && decide (new ≠ .idle)) := by
  obtain ⟨⟨-, hr, hf, hfl, hs, ht⟩, -, hk, ha, hp⟩ := h
  have hbase : ∀ A P O E D, Link.base { k with
      state := new, badRun := 0, goodRun := 0, lostCause := if new = .lost then cause else none,
      fadeTimer := if k.state = .fading ∨ new = .fading then 0 else k.fadeTimer,
      rescue := if k.state = .fading then .none else k.rescue,
      moveOrder := if k.state = .retuning then none else k.moveOrder,
      assigned := A, pending := P, origin := O, effectiveFrame := E, deadline := D } := by
    intro A P O E D
    refine ⟨?_, fun hne => ?_, fun hne => ?_, ?_, hs, ht⟩
    · by_cases hl : new = .lost <;> simp [hl, hcause]
    · exact absurd (by dsimp only; split; exacts [rfl, by_contra fun hne => ‹¬ k.state = .fading› (hr hne)]) hne
    · dsimp only at hne
      split at hne
      · exact absurd rfl hne
      · exact absurd (.inl (hf hne)) ‹¬ (k.state = .fading ∨ new = .fading)›
    · dsimp only
      split
      · exact Nat.zero_le _
      · exact hfl
  unfold Link.enter
  dsimp only
  split
  · rename_i hidle
    subst hidle
    exact ⟨hbase _ _ _ _ _, rfl, hk, (Bool.and_false _).symm, (Bool.and_false _).symm⟩
  · rename_i hidle
    have hd : decide (new ≠ .idle) = true := decide_eq_true hidle
    rw [hd, Bool.and_true, Bool.and_true]
    exact ⟨hbase _ _ _ _ _, rfl, hk, ha, hp⟩

theorem linksAre_of_no_link {l : Nat} {Q Q' : Link → Prop} {s : State} (hl : ∀ i, i < s.links.length → i + 1 ≠ l)
    (h : s.linksAre l Q) : s.linksAre l Q' := fun i hi => by
  have hi' := h i hi
  rw [if_neg (hl i hi)] at hi' ⊢
  exact hi'

/-- A change of state, but to IDLE, leaves the steps (R72). -/
theorem linkStands_changeState {l : Nat} {st new : LinkState} {d a p : Bool} {cause : Option LostCause} {s : State}
    (h : s.linkStands l st d a p) (hcause : new = .lost → cause.isSome = true) (hidle : new ≠ .idle ∨ st ≠ new) :
    (changeState l new cause s).linkStands l new d (a && decide (new ≠ .idle)) (p && decide (new ≠ .idle)) := by
  unfold changeState
  dsimp only
  split
  · rename_i hold
    by_cases hl : ∃ i, i < s.links.length ∧ i + 1 = l
    · obtain ⟨i, hi, rfl⟩ := hl
      have hi' := h i hi
      rw [if_pos rfl] at hi'
      rw [link_eq_getElem hi] at hold
      have hst : st = new := hi'.state.symm.trans hold
      have hne : new ≠ .idle := hidle.elim id fun hne => absurd hst hne
      subst hst
      simpa [hne] using h
    · exact linksAre_of_no_link (fun i hi he => hl ⟨i, hi, he⟩) h
  · exact linkStands_acts ((acts_raise _ _ _).trans (acts_tallySees _ _ _)) (linksAre_modLink (fun _ hk => Link.at_enter hcause hk) h)

theorem linkStands_to {l : Nat} {st new : LinkState} {d a p : Bool} {cause : Option LostCause} {s : State}
    (h : s.linkStands l st d a p) (hcause : new = .lost → cause.isSome = true := by decide) (hidle : new ≠ .idle := by decide) :
    (changeState l new cause s).linkStands l new d a p := by
  have h' := linkStands_changeState h hcause (.inl hidle)
  rwa [decide_eq_true hidle, Bool.and_true, Bool.and_true] at h'

theorem linkStands_idle {l : Nat} {st : LinkState} {d a p : Bool} {s : State} (h : s.linkStands l st d a p)
    (hne : st ≠ .idle := by decide) : (changeState l .idle none s).linkStands l .idle d false false := by
  have h' := linkStands_changeState (cause := none) h (fun he => by cases he) (.inr hne)
  simpa using h'

/-- A change of the record that leaves the link where it stands. -/
theorem linkStands_modLink {l : Nat} {st : LinkState} {d a p d' a' p' : Bool} {f : Link → Link} {s : State}
    (h : s.linkStands l st d a p) (hf : ∀ k, Link.At st d a p k → Link.At st d' a' p' (f k)) :
    (s.modLink l f).linkStands l st d' a' p' := linksAre_modLink hf h

theorem linksSound_acts {s t : State} (h : Acts .narrow s t) (hs : s.linksSound) : t.linksSound := linksSound_moves h.moves hs

/-! ## The operations of the Link Supervisor -/

section operations
variable {l : Nat} {s : State} {st : LinkState} {d a p : Bool}

theorem linksSound_enterAcquiring (e : FrameNo) (h : s.linkStands l st true true false) : (enterAcquiring l e s).linksSound :=
  linksSound_of_stands (linkStands_acts (acts_issueTune _ _ _ _ _) (linkStands_modLink
    (linkStands_to (new := .acquiring) (cause := none) h) fun _ ⟨⟨hl, hr, _, _, _, ht⟩, hs, hk, ha, hp⟩ =>
      ⟨⟨hl, hr, fun h => absurd rfl h, Nat.zero_le _, le_rfl, ht⟩, hs, hk, ha, hp⟩))

theorem linkStands_startRevert (h : s.linkStands l st true true p) : (startRevert l s).linkStands l .reverting true true false :=
  linkStands_to (linkStands_modLink (linkStands_acts ((acts_release _ _).trans (acts_issueTune _ _ _ _ _)) (linkStands_modLink h
    fun _ ⟨hb, hs, hk, ha, _⟩ => ⟨hb, hs, hk, ha, rfl⟩)) fun _ ⟨hb, hs, hk, ha, hp⟩ => ⟨hb, hs, hk, ha, hp⟩)

theorem linksSound_startRetune (step : Nat) (e : FrameNo) (o : Origin) (h : s.linkStands l st true true false) :
    (startRetune l step e o s).linksSound := by
  have hmoved := linkStands_to (new := .retuning) (cause := none) (linkStands_acts ((acts_hold (s.link l).cfg.band step (s.link l).cfg.hw _).trans
    (acts_issueTune l step e (.rcRetune l) _)) (linkStands_modLink (f := fun k => { k with pending := some step }) h
      fun _ ⟨hb, hs, hk, ha, _⟩ => ⟨hb, hs, hk, ha, rfl⟩))
  have hset := linkStands_modLink (f := fun k => { k with
      origin := some o, effectiveFrame := some e, deadline := some (framePlus e k.cfg.confirmWindow),
      moveOrder := some (issueTune l step e (.rcRetune l) (hold (s.link l).cfg.band step (s.link l).cfg.hw
        (s.modLink l fun k => { k with pending := some step }))).id }) hmoved
    fun _ ⟨hb, hs, hk, ha, hp⟩ => ⟨hb, hs, hk, ha, hp⟩
  unfold startRetune
  dsimp only
  split
  · exact linksSound_of_stands (linkStands_startRevert hset)
  · exact linksSound_of_stands hset

theorem linksSound_confirmRetune (h : s.linkStands l .retuning true true true) : (confirmRetune l s).linksSound :=
  linksSound_acts (acts_moveOutcome _ _ _ _) (linksSound_of_stands (linkStands_to (linkStands_modLink
    (linkStands_acts (acts_release _ _) h) fun _ ⟨hb, hs, hk, _, hp⟩ => ⟨hb, hs, hk, hp, rfl⟩)))

theorem linkStands_rest (h : s.linkStands l st d a p) :
    (s.modLink l fun k => { k with origin := none, effectiveFrame := none, deadline := none }).linkStands l st d a p :=
  linkStands_modLink h fun _ ⟨hb, hs, hk, ha, hp⟩ => ⟨hb, hs, hk, ha, hp⟩

theorem linksSound_confirmRevert (h : s.linkStands l .reverting true true false) : (confirmRevert l s).linksSound :=
  linksSound_acts (acts_moveOutcome _ _ _ _) (linksSound_of_stands (linkStands_to (linkStands_rest h)))

theorem linksSound_revertFails (h : s.linkStands l .reverting true true false) : (revertFails l s).linksSound :=
  linksSound_acts (acts_moveOutcome _ _ _ _) (linksSound_of_stands (linkStands_to (linkStands_rest h)))

theorem linksSound_abandonMove (h : s.linkStands l st true true p) : (abandonMove l s).linksSound :=
  linksSound_acts (acts_moveOutcome _ _ _ _) (linksSound_of_stands (linkStands_to (linkStands_acts (.ite (acts_release _ _) (.refl _))
    (linkStands_modLink h fun _ ⟨hb, hs, hk, ha, _⟩ => ⟨hb, hs, hk, ha, rfl⟩))))

theorem linksSound_revertFromLost (h : s.linkStands l .lost true true false) : (revertFromLost l s).linksSound :=
  linksSound_of_stands (linkStands_to (linkStands_acts (acts_issueTune _ _ _ _ _) (linkStands_modLink h
    fun _ ⟨hb, hs, hk, ha, hp⟩ => ⟨hb, hs, hk, ha, hp⟩)))

/-- A link that carries a step, in a state without a pending one. -/
theorem linksSound_goSilent (h : s.linksSound) : (goSilent l s).linksSound := by
  have hquiet {st : LinkState} (hst : (s.link l).state = st) :
      (s.modLink l fun k => { k with silenceCounter := 0 }).linkStands l st st.defined st.carries st.tunes :=
    linkStands_modLink (linkStands_of_sound h hst)
      fun _ ⟨⟨hl, hr, hf, hfl, _, ht⟩, hs, hk, ha, hp⟩ => ⟨⟨hl, hr, hf, hfl, Nat.zero_le _, ht⟩, hs, hk, ha, hp⟩
  unfold goSilent
  dsimp only
  split
  · exact linksSound_abandonMove (hquiet ‹_›)
  · exact linksSound_abandonMove (hquiet ‹_›)
  · exact linksSound_of_stands (linkStands_to (hquiet ‹_›))
  · exact linksSound_of_stands (linkStands_to (hquiet ‹_›))
  · exact linksSound_of_stands (linkStands_to (hquiet ‹_›))
  · exact h

theorem Link.at_countRun (c : SampleClass) {k : Link} (h : k.At st d a p) : (k.countRun c).At st d a p := by
  obtain ⟨hb, hs, hk, ha, hp⟩ := h
  cases c <;> exact ⟨hb, hs, hk, ha, hp⟩

theorem linksSound_actOnSample (x : TunedSample) (h : s.linksSound) : (actOnSample l x s).linksSound := by
  have hrun {st : LinkState} (hst : (s.link l).state = st) (c : SampleClass) :
      (s.modLink l (·.countRun c)).linkStands l st st.defined st.carries st.tunes :=
    linkStands_modLink (linkStands_of_sound h hst) fun _ => Link.at_countRun c
  unfold actOnSample
  dsimp only
  split
  · split
    · exact linksSound_of_stands (linkStands_modLink (linkStands_to (new := .locked) (cause := none) (linkStands_of_sound (st := .acquiring) h ‹_›))
        fun _ ⟨hb, hs, hk, ha, hp⟩ => ⟨hb, hs, hk, ha, hp⟩)
    · exact h
  · split
    · exact linksSound_of_stands (linkStands_to (hrun ‹_› _))
    · exact linksSound_of_stands (hrun ‹_› _)
  · split
    · exact linksSound_of_stands (linkStands_to (hrun ‹_› _))
    · exact linksSound_of_stands (hrun ‹_› _)
  · split
    · exact linksSound_confirmRetune (linkStands_of_sound h ‹_›)
    · exact h
  · split
    · exact linksSound_confirmRevert (linkStands_of_sound h ‹_›)
    · exact h
  · split
    · exact linksSound_revertFromLost (linkStands_of_sound h ‹_›)
    · split
      · exact linksSound_of_stands (linkStands_to (hrun ‹_› _))
      · exact linksSound_of_stands (hrun ‹_› _)
  all_goals exact h

/-- A change of the record that leaves every record sound. -/
theorem linksSound_modLink {f : Link → Link} (hf : ∀ k, k.sound → (f k).sound) (h : s.linksSound) : (s.modLink l f).linksSound :=
  (linksSound_iff _ l).2 (linksAre_modLink hf ((linksSound_iff s l).1 h))

theorem linksSound_takeSample (x : TunedSample) (h : s.linksSound) : (takeSample l x s).linksSound := by
  refine linksSound_actOnSample x (linksSound_modLink (fun k hk => ?_) (linksSound_acts (.ite (acts_raise s _ _) (.refl s)) h))
  obtain ⟨h1, h2, h3, h4, h5, h6, h7, -, h9⟩ := hk
  exact ⟨h1, h2, h3, h4, h5, h6, h7, le_rfl, h9⟩

theorem linksSound_parkMuteFailed (h : s.linksSound) : (parkMuteFailed l s).linksSound := by
  have hr := linksSound_acts (acts_raise s .linkMuteFailed l) h
  unfold parkMuteFailed
  dsimp only
  split
  · exact linksSound_modLink (fun _ hk => hk) hr
  · exact hr

theorem linksSound_reportPark (o : Bool) (h : s.linksSound) : (reportPark l o s).linksSound := by
  unfold reportPark
  split
  · exact linksSound_parkMuteFailed h
  · exact h

theorem linksSound_takeStep (step : Nat) (e : FrameNo) (hst : (s.link l).state = .idle) (h : s.linksSound) :
    (takeStep l step e s).linksSound :=
  linksSound_enterAcquiring e (linkStands_acts (acts_hold _ _ _ _) (linkStands_modLink (st := .idle) (d := true) (p := false)
    (a := false)
    (linkStands_of_sound h hst) fun _ ⟨hb, hs, hk, _, hp⟩ => ⟨hb, hs, hk, rfl, hp⟩))

end operations

/-! ## A property that narrow moves keep -/

/-- A property is kept by narrow moves, and by each operation that changes a link widely. -/
structure Kept (P : State → Prop) : Prop where
  moves : ∀ s t, Moves .narrow s t → P s → P t
  owed : ∀ o s, P s → P (owedStep o s)
  count : ∀ s, P s → P (countLinks s)
  sample : ∀ l x s, P s → P (takeSample l x s)
  assign : ∀ l step o q s, P s → P (assignDone l step o q s)
  pick : ∀ l n q s, P s → P (rescueDone l n q s)
  define : ∀ a s, P s → P (defineLink a s).1
  release : ∀ l s, P s → P (releaseLink l s).1
  park : ∀ l s, P s → P (parkLink l s).1
  unpark : ∀ l s, P s → P (unparkLink l s).1
  silence : ∀ l s, P s → P (forceSilence l s).1
  launch : ∀ e s, P s → P (launchPlan e s).1
  start : ∀ s, P s → P (startPart () s).1
  warm : ∀ s, P s → P (warmReset s)

namespace Kept
variable {P : State → Prop} (k : Kept P) {s t : State}
include k

theorem acts (h : Acts .narrow s t) (hs : P s) : P t := k.moves s t h.moves hs

omit k in
theorem foldl {α : Type} (f : State → α → State) (h : ∀ s x, P s → P (f s x)) (xs : List α) (hs : P s) : P (xs.foldl f s) := by
  induction xs generalizing s with
  | nil => exact hs
  | cons x xs ih => exact ih (h s x hs)

theorem takeOwed (o : Owed) (hs : P s) : P (takeOwed o s) := by
  unfold Machine.takeOwed
  split
  · exact k.moves _ _ (moves_finish _ _) (k.owed o _ (k.acts (acts_owed _ s) hs))
  · exact hs

theorem takeSome (xs : List Owed) (hs : P s) : P (takeSome xs s) := foldl _ (fun _ o => k.takeOwed o) xs hs

theorem settleOwed (hs : P s) : P (settleOwed s) := k.acts (acts_owed [] _) (k.takeSome s.owed hs)

theorem boundaryAt (time : Nat) (tkFirst : Bool) (hs : P s) : P (boundaryAt time tkFirst s) := by
  have hb := k.acts (acts_beginFrameAt time s) hs
  unfold Machine.boundaryAt
  cases s.mode
  · exact k.acts (acts_owed _ _) hb
  · exact k.acts (acts_owed _ _) (k.count _ (k.acts ((acts_resolveNow _).trans (acts_presentNow tkFirst _)) hb))

theorem clock (f : Ftb → Ftb) (hf : ∀ x, (f x).lead = x.lead := by exact fun _ => rfl) (hs : P s) : P (s.modFtb f) :=
  k.acts (acts_modFtb s f hf) hs

theorem repace (pace time : Nat) (tkFirst : Bool) (hs : P s) : P (repace pace time tkFirst s) := by
  unfold Machine.repace
  split
  · exact k.boundaryAt _ _ (k.clock _ (fun _ => rfl) hs)
  · exact k.clock _ (fun _ => rfl) hs

theorem timerBoundary (due pace : Nat) (tkFirst : Bool) (hs : P s) : P (timerBoundary due pace tkFirst s) :=
  k.boundaryAt _ _ (k.clock _ (fun _ => rfl) hs)

theorem pulseAt (time : Nat) (tkFirst : Bool) (hs : P s) : P (pulseAt time tkFirst s) := by
  have hrec := k.clock (Ftb.recordPulse time) (fun _ => rfl) hs
  unfold Machine.pulseAt
  dsimp only
  split
  · exact k.acts (acts_enterLocking _) hrec
  · exact k.repace _ _ _ (k.acts (acts_enterLocking _) hrec)
  · exact k.acts (acts_pulseInLocking _ _) hrec
  · unfold pulseInLocked
    split
    · exact k.boundaryAt _ _ (k.clock _ (fun _ => rfl) hrec)
    · exact k.repace _ _ _ (k.acts (acts_inHoldover _) hrec)

theorem timerDue (tkFirst : Bool) (hs : P s) : P (timerDue tkFirst s) := by
  unfold Machine.timerDue
  split
  · exact hs
  · split
    · split
      · exact k.timerBoundary _ _ _ hs
      · exact k.clock _ (fun _ => rfl) hs
    all_goals exact k.timerBoundary _ _ _ hs

theorem watchdogExpires (tkFirst : Bool) (hs : P s) : P (watchdogExpires tkFirst s) := by
  have hh := k.acts (acts_inHoldover s) hs
  unfold Machine.watchdogExpires
  split
  · exact k.clock _ (fun _ => rfl) hs
  · unfold missHoldover
    split
    · exact k.boundaryAt _ _ (k.clock _ (fun _ => rfl) hh)
    · exact k.clock _ (fun _ => rfl) hh
  · exact hs

theorem configureTimebase (time : Nat) (a : Nat × Nat) (hs : P s) : P (configureTimebase time a s).1 := by
  have hlead : P (s.modFtb fun k => { k with lead := max 2 (min 50 a.2) }) :=
    k.acts (.one (.ftb _ fun _ => show 2 ≤ max 2 (min 50 a.2) ∧ max 2 (min 50 a.2) ≤ 50 by omega)) hs
  unfold Machine.configureTimebase
  split
  · exact hs
  · split
    · exact hs
    · dsimp only [okWith]
      split
      · exact hlead
      · exact k.repace _ _ _ (k.acts ((acts_raise _ _ _).trans (acts_raise _ _ _)) (k.clock _ (fun _ => rfl) hlead))

theorem takeReport (r : Report) (hs : P s) : P (takeReport r s) := by
  have hacked : P (finish s (acknowledgeAll r.unit r.acks s)) :=
    k.moves _ _ (.andThen (acts_acknowledgeAll _ _ s) (moves_finish _ _)) hs
  unfold Machine.takeReport
  dsimp only
  split
  · refine foldl _ (fun u x hu => k.moves _ _ (moves_reportKey rfl r.unit u x) hu) _ (foldl _ (fun u x hu => ?_) _ hacked)
    unfold reportSample
    split
    · exact hu
    · exact k.moves _ _ (moves_finish _ _) (k.sample _ _ _ hu)
  · exact hacked

theorem event {act : State → State} (hact : ∀ s, P s → P (act s)) (h : event act s = .next t) (hs : P s) : P t := by
  cases h
  exact hact _ (k.settleOwed hs)

theorem quietEvent {act : State → State} (hact : ∀ s, Moves .narrow s (act s)) (h : Machine.event act s = .next t) (hs : P s) : P t :=
  k.event (fun s => k.moves s _ (hact s)) h hs

theorem request {α : Type} {code : Nat} {read : List Byte → Option α} {act : α → State → Answered} {rest : State → State → State}
    (hact : ∀ a s, P s → P (act a s).1) (hrest : ∀ s0 s1, Moves .narrow s1 (rest s0 s1))
    (h : request code read act rest s = .next t) (hs : P s) : P t := by
  have hset := k.settleOwed hs
  unfold Machine.request at h
  dsimp only at h
  split at h
  · cases h
    exact hset
  · rename_i f _
    cases h
    have hans : P (answer f read act (dropHead (Machine.settleOwed s))).1 := by
      have hd := k.moves _ _ (moves_dropHead _) hset
      unfold answer
      split
      · exact hd
      · exact hact _ _ hd
    exact k.moves _ _ ((moves_putReply f (answer f read act (dropHead (Machine.settleOwed s))).2 _).trans
      (.ite (hrest _ _) (moves_kick _))) hans

theorem quietRequest {α : Type} {code : Nat} {read : List Byte → Option α} {act : α → State → Answered} {rest : State → State → State}
    (hact : ∀ a s, Moved .narrow s (act a s)) (hrest : ∀ s0 s1, Moves .narrow s1 (rest s0 s1))
    (h : Machine.request code read act rest s = .next t) (hs : P s) : P t :=
  k.request (fun a s => k.moves s _ (hact a s)) hrest h hs

/-- A property so kept is kept by every command but COLD_RESET. -/
theorem exec {c : Instr} (hc : ∀ straps, c ≠ .coldReset straps) (h : exec c s = .next t) (hs : P s) : P t := by
  cases c with
  | coldReset straps => exact absurd rfl (hc straps)
  | refPulse time b => exact k.event (fun s hs => k.moves _ _ (moves_after _) (k.pulseAt time b hs)) h hs
  | internalTimerDue b => exact k.event (fun s hs => k.moves _ _ (moves_after _) (k.timerDue b hs)) h hs
  | pulseWatchdogExpiry b => exact k.event (fun s hs => k.moves _ _ (moves_after _) (k.watchdogExpires b hs)) h hs
  | fadeTimerLimit | silenceExpiry | acquireDeadline | retuneDeadline | revertDeadline | vacateEffective | orderExpiry | tallyRetry
  | lampRetry | tapDeadline | callPulseEnd | scanAssignReissue | muteReissue =>
    cases h
    exact k.takeOwed _ hs
  | tbConfigure time => exact k.request (fun a _ => k.configureTimebase time a) moves_afterJob h hs
  | linkDefine => exact k.request k.define moves_finish h hs
  | linkRelease => exact k.request k.release moves_finish h hs
  | linkPark => exact k.request k.park moves_finish h hs
  | linkUnpark => exact k.request k.unpark moves_finish h hs
  | linkForceSilence => exact k.request k.silence moves_finish h hs
  | planLaunch => exact k.request k.launch moves_finish h hs
  | start => exact k.request (fun _ => k.start) moves_afterJob h hs
  | restart => exact k.request (fun _ => k.warm) moves_afterJob h hs
  | report bs =>
    change execReport bs s = .next t at h
    unfold execReport at h
    split at h
    · cases h
      exact hs
    · cases h
      unfold acceptReport
      split
      · exact k.takeReport _ (k.takeSome _ hs)
      · exact k.takeReport _ hs
  | assignCheckComplete =>
    refine k.event (act := completeAssign) (fun s hs => ?_) h hs
    unfold completeAssign
    split
    · exact k.moves _ _ (.andThen (acts_leaveQueue _) (moves_finish _ _)) (k.assign _ _ _ _ _ hs)
    · exact hs
  | rescuePickComplete =>
    refine k.event (act := completePick) (fun s hs => ?_) h hs
    unfold completePick
    split
    · exact k.moves _ _ (moves_finish _ _) (k.pick _ _ _ _ hs)
    · exact hs
  | planCheckComplete =>
    refine k.quietEvent (act := completePlan) (fun s => ?_) h hs
    unfold completePlan
    split
    · exact .andThen ((acts_planDone _ s).trans (acts_leaveQueue _)) (moves_after _)
    · exact .refl s
  | queryComplete =>
    refine k.quietEvent (act := completeQuery) (fun s => ?_) h hs
    unfold completeQuery
    split
    · exact .andThen ((acts_queryDone _ _ _ _ _ _ s).trans (acts_leaveQueue _)) (moves_after _)
    · exact .refl s
  | sweepComplete =>
    refine k.quietEvent (act := completeSweep) (fun s => ?_) h hs
    unfold completeSweep
    split
    · exact .andThen ((acts_sweepDone _ _ s).trans (acts_leaveQueue _)) (moves_after _)
    · exact .refl s
  | drainComplete =>
    refine k.quietEvent (act := completeDrain) (fun s => ?_) h hs
    unfold completeDrain
    split
    · exact .andThen (acts_queue s (fun e => { e with engine := .idle }) id) (moves_after _)
    all_goals exact .refl s
  | pwmPeriodStart m => exact k.quietEvent (fun s => (acts_modLamp s m _).moves) h hs
  | edge n high =>
    refine k.quietEvent (act := fun s => kick (sampleLine n high s)) (fun s => Moves.trans (Acts.moves ?_) (moves_kick _)) h hs
    have hline : Acts .narrow s (s.modLine n fun _ => ((s.line n).sampled high).1) :=
      acts_modTr s _ fun ⟨h, hs⟩ => ⟨(modSlot_length _ _ _).trans h, hs⟩
    exact .ite (hline.trans (acts_raise _ _ _)) hline
  | frameGood bs | frameFailed bs => exact k.quietEvent (moves_receiveBytes bs) h hs
  | frameAbandoned => exact k.quietEvent (fun s => moves_mpRest s _) h hs
  | transmitPathFree => exact k.quietEvent (fun s => (moves_mpRest s _).trans (moves_kick _)) h hs
  | unknownRequest =>
    change execUnknownRequest s = .next t at h
    unfold execUnknownRequest at h
    dsimp only at h
    split at h
    · cases h
      exact k.settleOwed hs
    · cases h
      exact k.moves _ _ (((moves_dropHead _).trans (moves_putReply _ _ _)).trans (moves_kick _)) (k.settleOwed hs)
  | tbStatus => exact k.quietRequest (fun _ _ => .read) moves_afterRead h hs
  | bandDefine => exact k.quietRequest moved_defineBand moves_afterJob h hs
  | bandGuards => exact k.quietRequest moved_guardBand moves_afterJob h hs
  | exclAdd => exact k.quietRequest (moved_changeExclusions _) moves_afterJob h hs
  | exclRemove => exact k.quietRequest (moved_changeExclusions _) moves_afterJob h hs
  | bandFreeze => exact k.quietRequest moved_freezeBand moves_afterJob h hs
  | bandUnfreeze => exact k.quietRequest moved_unfreezeBand moves_afterJob h hs
  | bandRead => exact k.quietRequest (act := readBand) (fun _ _ => .check fun _ => .read) moves_afterRead h hs
  | scanRead => exact k.quietRequest (act := readScan) (fun _ _ => .check fun _ => .check fun _ => .read) moves_afterRead h hs
  | checkCandidate => exact k.quietRequest moved_checkCandidate moves_afterJob h hs
  | spareSweep => exact k.quietRequest moved_askSweep moves_afterJob h hs
  | linkAssign => exact k.quietRequest moved_assignLink moves_afterJob h hs
  | linkRead => exact k.quietRequest (act := readLink) (fun _ _ => .check fun _ => .read) moves_afterRead h hs
  | planOpen => exact k.quietRequest moved_openPlan moves_afterJob h hs
  | planEntry => exact k.quietRequest moved_enterPlan moves_afterJob h hs
  | planClose => exact k.quietRequest moved_closePlan moves_afterJob h hs
  | planAbandon => exact k.quietRequest moved_abandonPlan moves_afterJob h hs
  | planRead => exact k.quietRequest (act := readPlan) (fun _ _ => .read) moves_afterRead h hs
  | tallyInputConfigure => exact k.quietRequest moved_configureInputs moves_afterRead h hs
  | tallyMapSet => exact k.quietRequest moved_setMap moves_afterRead h hs
  | tallyVirtual => exact k.quietRequest moved_setVirtual moves_afterRead h hs
  | tallyRead => exact k.quietRequest moved_readTally moves_afterRead h hs
  | zoneInterlock => exact k.quietRequest moved_setInterlock moves_finish h hs
  | lampConfigure => exact k.quietRequest moved_configureLamp moves_afterRead h hs
  | lampRead => exact k.quietRequest (act := readLamp) (fun _ _ => .check fun _ => .read) moves_afterRead h hs
  | stationDefine => exact k.quietRequest (moved_defineStation rfl) moves_afterRead h hs
  | groupDefine => exact k.quietRequest (moved_defineGroup rfl) moves_afterRead h hs
  | keyEvent => exact k.quietRequest (moved_keyRequest rfl) moves_finish h hs
  | talkRead => exact k.quietRequest moved_readTalk moves_afterRead h hs
  | stop b => exact k.quietRequest (moved_stopPart rfl b) moves_afterJob h hs
  | status => exact k.quietRequest (act := readStatus) (fun _ _ => .read) moves_afterRead h hs
  | identify => exact k.quietRequest (act := identifyPart) (fun _ _ => .read) moves_afterRead h hs
  | noticeEnable => exact k.quietRequest moved_enableNotices moves_afterRead h hs
  | noticeFetch => exact k.quietRequest moved_fetchNotices moves_afterRead h hs
  | scanData bs =>
    refine k.quietEvent (act := fun s => match readScanData bs with
      | none => s
      | some x => after (takeScanData x s)) (fun s => ?_) h hs
    split
    · exact .refl s
    · exact .andThen (.ite (acts_applyLevels _ _ _ s) (.refl s)) (moves_after _)
  | matrixReport bs =>
    refine k.quietEvent (act := fun s => match readMatrixReport bs with
      | none => s
      | some acks => finish s (takeMatrixReport acks s)) (fun s => ?_) h hs
    split
    · exact .refl s
    · exact .andThen ((acts_acknowledgeAll _ _ s).trans (acts_matrixEvent _)) (moves_finish _ _)
end Kept

/-- A property so kept, that holds after cold reset and bears on nothing that waits, is kept by every step. -/
theorem Kept.step {P : State → Prop} (k : Kept P) (hwait : ∀ s q, P s ↔ P { s with pending := q })
    (hcold : ∀ straps, P (State.cold straps)) {s t : State} (hs : P s) (h : Machine.step s = .next t) : P t := by
  obtain rfl | ⟨c, rest, -, h⟩ := step_cases h
  · exact hs
  by_cases hc : ∃ straps, c = .coldReset straps
  · obtain ⟨straps, rfl⟩ := hc
    cases h
    exact (hwait _ _).1 (hcold straps)
  · exact k.exec (fun straps he => hc ⟨straps, he⟩) h ((hwait _ _).1 hs)

end Sys2Proof.Machine

/-! Sound link records (O10): failed orders, the steps of a boundary, and the requests that move links. -/

namespace Sys2Proof.Machine

-- One theorem at a time: all at once, their threads together outgrow the memory limit of the check.
set_option Elab.async false

theorem state_of_deadlineAt {s : State} {l : Nat} {st : LinkState} (h : s.deadlineAt st l = true) : (s.link l).state = st := by
  simp only [State.deadlineAt, Bool.and_eq_true, decide_eq_true_eq] at h
  exact h.1

section operations
variable {l : Nat} {s : State} {st : LinkState} {d a p : Bool}

theorem linksSound_orderFailed (o : Order) (h : s.linksSound) : (orderFailed o s).linksSound := by
  unfold orderFailed
  split
  · exact h
  · exact h
  · unfold retuneFailed
    split
    · rename_i hr
      exact linksSound_of_stands (linkStands_startRevert (linkStands_of_sound h hr.1))
    · exact h
  · exact linksSound_parkMuteFailed h
  · exact linksSound_acts (acts_raise _ _ _) h
  · exact linksSound_acts (acts_raise _ _ _) h
  · exact linksSound_acts (acts_tallyFailed _ _ _) h
  · unfold scanAssignFailed
    split
    · exact linksSound_acts (acts_scanFailed _ _ _) h
    · exact h
  all_goals exact linksSound_acts (acts_tkFailed _ _ _) h

theorem linksSound_foldl {α : Type} {f : State → α → State} (hf : ∀ s x, s.linksSound → (f s x).linksSound) (xs : List α)
    (h : s.linksSound) : (xs.foldl f s).linksSound := by
  induction xs generalizing s with
  | nil => exact h
  | cons x xs ih => exact ih (hf s x h)

theorem linksSound_expire (a : Nat) (h : s.linksSound) : (expire a s).linksSound := by
  refine linksSound_foldl (fun s o => linksSound_orderFailed o) _ (linksSound_mild (.of_links ?_) h)
  exact grant_links a _ _

theorem linksSound_owedStep (o : Owed) (h : s.linksSound) : (owedStep o s).linksSound := by
  cases o with
  | silence l =>
    show (silenceStep l s).linksSound
    unfold silenceStep
    split
    · exact linksSound_goSilent h
    · exact h
  | acquire l =>
    show (acquireStep l s).linksSound
    unfold acquireStep
    split
    · rename_i hd
      exact linksSound_of_stands (linkStands_to (linkStands_of_sound h (state_of_deadlineAt hd.2)))
    · exact h
  | retune l =>
    show (retuneStep l s).linksSound
    unfold retuneStep
    split
    · rename_i hd
      exact linksSound_of_stands (linkStands_startRevert (linkStands_of_sound h (state_of_deadlineAt hd.2)))
    · exact h
  | revert l =>
    show (revertStep l s).linksSound
    unfold revertStep
    split
    · rename_i hd
      exact linksSound_revertFails (linkStands_of_sound h (state_of_deadlineAt hd.2))
    · exact h
  | vacate l =>
    show (vacateStep l s).linksSound
    unfold vacateStep
    split
    · rename_i hv
      simp only [State.vacatesAt, Bool.and_eq_true, decide_eq_true_eq] at hv
      obtain ⟨⟨-, hst⟩, -⟩ := hv
      exact linksSound_acts (acts_giveOutcome _ _ _) (linksSound_of_stands (linkStands_idle (linkStands_acts (acts_release _ _)
        (linkStands_of_sound h hst))))
    · exact h
  | orders a => exact linksSound_expire a h
  | tallyRetry l =>
    exact linksSound_acts (.ite ((acts_mildLink s l (fun k => { k with retryAt := none }) ⟨rfl, .inl, .inl⟩).trans
      (acts_deliveryTest l _)) (.refl s)) h
  | lampRetry t => exact linksSound_acts (.ite ((acts_modStation s t _).trans (acts_lampTest t _)) (.refl s)) h
  | tap t n => exact linksSound_acts (.ite (acts_tapEnds _ _ s) (.refl s)) h
  | pulse t => exact linksSound_acts (.ite (acts_endPulse t s) (.refl s)) h
  | scan b =>
    exact linksSound_acts ((acts_bandFlags s b (fun k => { k with scanReissue := k.scanReissue.filter fun x => decide (x.1 ≠ s.now) })
      fun _ => ⟨rfl, le_rfl, rfl, rfl, rfl⟩).trans (.foldl _ (fun s x => acts_issueScanAssign b x s) _ _)) h
  | mute l =>
    have hcleared := linksSound_modLink (l := l) (f := fun k => { k with muteReissue := k.muteReissue.filter fun e => decide (e ≠ s.now) })
      (fun _ hk => hk) h
    show (muteStep l s).linksSound
    unfold muteStep
    dsimp only
    split
    · exact linksSound_foldl (fun u _ hu => linksSound_reportPark _ (linksSound_acts (acts_issueMute _ _ _ _) hu)) _ hcleared
    · exact hcleared
  | fade l => exact linksSound_acts (.ite (acts_fadeTest l s) (.refl s)) h

/-! ## Requests of the Link Supervisor and the plan -/

/-- The tally fields that a definition leaves are a camera's (R149). -/
theorem Link.at_redefine {c : LinkConfig} {k : Link} (h : k.At st d a p) : (k.redefine c).At st c.kind.isSome a p := by
  obtain ⟨⟨hl, hr, hf, hfl, hs, ht⟩, hst, -, ha, hp⟩ := h
  have hsilent : (if k.state = .vacant then c.silenceLimit else min k.silenceCounter c.silenceLimit) ≤ c.silenceLimit := by
    split
    · exact le_rfl
    · exact Nat.min_le_right _ _
  have hfade : min k.fadeTimer c.fadeLimit ≠ 0 → k.state = .fading := fun h => hf fun h0 => h (by rw [h0, Nat.zero_min])
  unfold Link.redefine Link.retally
  split
  · exact ⟨⟨hl, hr, hfade, Nat.min_le_right _ _, hsilent, fun h => by simp at h⟩, hst, rfl, ha, hp⟩
  · rename_i hsame
    simp only [not_or, not_not] at hsame
    exact ⟨⟨hl, hr, hfade, Nat.min_le_right _ _, hsilent, fun h => hsame.1 ▸ ht h⟩, hst, rfl, ha, hp⟩

theorem linksSound_storeLink {c : LinkConfig} (hc : c.kind.isSome = true) (h : s.linksSound) : (storeLink l c s).linksSound := by
  have hset : (s.modLink l (Link.redefine c)).linkStands l (s.link l).state true (s.link l).state.carries (s.link l).state.tunes :=
    linkStands_modLink (linkStands_of_sound h rfl) fun _ hk => hc ▸ Link.at_redefine hk
  refine linksSound_acts ((acts_planSeesDefine _ _ _ _).trans (acts_rewant _ _)) ?_
  split
  · rename_i hv
    rw [hv] at hset
    exact linksSound_of_stands (linkStands_idle hset)
  · rename_i hv
    exact linksSound_of_stands hset (decide_eq_true hv).symm rfl rfl

theorem linksSound_vacateLink (h : s.linksSound) : (vacateLink l s).linksSound := by
  have hset : (s.modLink l fun _ => Link.vacant).linksSound := linksSound_modLink (fun _ _ => by decide) h
  refine linksSound_acts ((acts_planSeesDefine _ _ _ _).trans (acts_rewant _ _)) ?_
  split
  · exact hset
  · exact linksSound_acts (acts_raise _ _ _) hset

/-- A check that refuses leaves the state (R190). -/
theorem answered_check {P : State → Prop} {c : Prop} [Decidable c] {e : Result} {r : Answered} (hs : P s) (h : ¬ c → P r.1) :
    P (if c then refuse e s else r).1 := by
  split
  · exact hs
  · exact h ‹_›

theorem linksSound_defineLink (a : Nat × LinkConfig) (h : s.linksSound) : (defineLink a s).1.linksSound := by
  have hdone : (if a.2.kind.isSome then storeLink a.1 a.2.clamped s else vacateLink a.1 s).linksSound := by
    split
    · exact linksSound_storeLink ‹_› h
    · exact linksSound_vacateLink h
  refine answered_check h fun _ => answered_check h fun _ => answered_check h fun _ => answered_check h fun _ =>
    answered_check h fun _ => answered_check h fun _ => answered_check h fun _ => ?_
  exact linksSound_acts (.ite (acts_jobsSeeMove _ _) (.refl _)) hdone

theorem linksSound_releaseLink (h : s.linksSound) : (releaseLink l s).1.linksSound := by
  refine answered_check h fun _ => answered_check h fun _ => answered_check h fun hst => ?_
  have hstands : s.linkStands l (s.link l).state (s.link l).state.defined (s.link l).state.carries (s.link l).state.tunes :=
    linkStands_of_sound h rfl
  have hdef : (s.link l).state.defined = true := decide_eq_true fun he => hst (.inl he)
  rw [hdef] at hstands
  refine linksSound_acts (.ite ((acts_giveOutcome _ _ _).trans (acts_raise _ _ _)) (acts_giveOutcome _ _ _)) ?_
  exact linksSound_of_stands (linkStands_idle (linkStands_acts ((acts_issueMute _ _ _ _).trans (acts_release _ _)) hstands)
    fun he => hst (.inr he))

theorem linksSound_parkLink (h : s.linksSound) : (parkLink l s).1.linksSound := by
  refine answered_check h fun _ => answered_check h fun _ => ?_
  split
  · rename_i hst
    refine linksSound_reportPark _ ?_
    have hpark {st : LinkState} (hs : (s.link l).state = st) (hd : st.defined = true) (hc : st.carries = true) (ht : st.tunes = false) :
        (changeState l .parked none (issueMute l s.nextEffective (.lsPark l) s).state).linksSound := by
      have hstands := linkStands_of_sound h hs
      rw [hd, hc, ht] at hstands
      exact linksSound_of_stands (linkStands_to (linkStands_acts (acts_issueMute _ _ _ _) hstands))
    obtain hs | hs | hs := hst <;> exact hpark hs rfl rfl rfl
  · exact h

theorem linksSound_unparkLink (h : s.linksSound) : (unparkLink l s).1.linksSound := by
  refine answered_check h fun _ => answered_check h fun _ => answered_check h fun _ => answered_check h fun hst => ?_
  exact linksSound_acts (acts_giveOutcome _ _ _) (linksSound_enterAcquiring _ (linkStands_of_sound h (not_not.1 hst)))

theorem linksSound_forceSilence (h : s.linksSound) : (forceSilence l s).1.linksSound :=
  answered_check h fun _ => answered_check h fun _ => linksSound_goSilent h

theorem linksSound_startVacate (e : FrameNo) (h : s.linkStands l st true true false) : (startVacate l e s).linksSound := by
  have hparked := linkStands_to (new := .parked) (cause := none) (linkStands_acts (acts_issueMute l e (.rcVacate l) s) h)
  have hset := linkStands_modLink (d' := true) (a' := true) (p' := false) (f := fun k =>
    if (s.link l).state = .acquiring then { k with effectiveFrame := none, deadline := none } else k) hparked fun k hk => by
      obtain ⟨hb, hs, hk, ha, hp⟩ := hk
      split <;> exact ⟨hb, hs, hk, ha, hp⟩
  exact linksSound_acts (.ite (acts_raise _ _ _) (.refl _)) (linksSound_of_stands hset)

theorem linksSound_moveParked (step : Nat) (h : s.linkStands l .parked true true false) : (moveParked l step s).linksSound :=
  linksSound_of_stands (linkStands_acts (acts_hold _ _ _ _) (linkStands_modLink (linkStands_acts (acts_release _ s) h)
    fun _ ⟨hb, hs, hk, _, hp⟩ => ⟨hb, hs, hk, rfl, hp⟩))

theorem linksSound_applyEntry (e : FrameNo) (x : PlanEntry) (h : s.linksSound) : (applyEntry e s x).linksSound := by
  have hout (o : EntryOutcome) {s : State} (h : s.linksSound) : (giveOutcome x.link o s).linksSound :=
    linksSound_acts (acts_giveOutcome _ _ _) h
  unfold applyEntry
  dsimp only
  split
  · split
    · exact hout _ h
    · exact linksSound_startRetune _ _ _ (linkStands_of_sound h ‹_›)
  · split
    · exact hout _ h
    · exact linksSound_startRetune _ _ _ (linkStands_of_sound h ‹_›)
  · refine hout _ ?_
    split
    · exact h
    · exact linksSound_moveParked _ (linkStands_of_sound h ‹_›)
  · exact hout _ (linksSound_takeStep _ _ ‹_› h)
  · exact hout _ h
  · exact linksSound_startVacate e (linkStands_of_sound h ‹_›)
  · exact linksSound_startVacate e (linkStands_of_sound h ‹_›)
  · exact linksSound_startVacate e (linkStands_of_sound h ‹_›)
  · exact linksSound_startVacate e (linkStands_of_sound h ‹_›)
  · exact h

theorem linksSound_launchPlan (e : Option FrameNo) (h : s.linksSound) : (launchPlan e s).1.linksSound := by
  refine answered_check h fun _ => answered_check h fun _ => answered_check h fun _ => ?_
  split
  · exact h
  · exact linksSound_acts (acts_finishPlan _) (linksSound_foldl (fun _ x => linksSound_applyEntry _ x) _
      (linksSound_acts ((acts_modPlan s _).trans (acts_setPlanState _ _)) h))

/-! ## The evaluator, the boundary, START and warm reset -/

theorem linksSound_assignDone (step : Nat) (o : Bool) (q : Snapshot) (h : s.linksSound) : (assignDone l step o q s).linksSound := by
  have hset (r : AssignResult) : (setAssignResult l r s).linksSound := linksSound_acts (acts_setAssignResult _ _ s) h
  unfold assignDone
  dsimp only
  split
  · exact linksSound_acts (acts_raise _ _ _) (hset _)
  · rename_i hmoved
    split
    · refine linksSound_takeStep _ _ ?_ (hset _)
      simp only [assignChanged, Bool.or_eq_true, decide_eq_true_eq, not_or, not_not] at hmoved
      obtain ⟨⟨⟨⟨⟨hidle, -⟩, -⟩, -⟩, -⟩, -⟩ := hmoved
      exact hidle
    · exact linksSound_acts (acts_raise _ _ _) (hset _)

theorem linksSound_pickDone (q : Snapshot) (h : s.linksSound) : (pickDone l q s).linksSound := by
  unfold pickDone
  dsimp only
  split
  · exact linksSound_acts (acts_dropSpares _ _ s) h
  · rename_i hpick
    have hpick := Bool.eq_false_of_not_eq_true hpick
    have hfading : (s.link l).state = .fading := by
      simp only [pickChanged, Bool.or_eq_false_iff, decide_eq_false_iff_not, not_not] at hpick
      exact hpick.1
    split
    · exact linksSound_acts ((((acts_dropSpares _ _ s).trans (acts_setRescueResult _ _ _)).trans (acts_setRescue l _ _ hpick)).trans
        (acts_raise _ _ _)) h
    · split
      · exact linksSound_acts (((acts_dropSpares _ _ s).trans (acts_setRescueResult _ _ _)).trans (acts_setRescue l _ _ hpick)) h
      · refine linksSound_acts ((acts_dropSpares _ _ _).trans (acts_raise _ _ _)) (linksSound_startRetune _ _ _ (st := .fading) ?_)
        exact linkStands_acts ((acts_dropSpares _ _ s).trans (acts_setRescueResult _ _ _)) (linkStands_of_sound h hfading)

theorem linksSound_rescueDone (n : Nat) (q : Snapshot) (h : s.linksSound) : (rescueDone l n q s).linksSound := by
  unfold rescueDone
  split
  · split
    · exact linksSound_acts (acts_leaveQueue s) h
    · rename_i hpick
      split
      · exact linksSound_mild (.of_links rfl) h
      · exact linksSound_acts (((acts_setRescue l _ s (Bool.eq_false_of_not_eq_true hpick)).trans (acts_raise _ _ _)).trans
          (acts_leaveQueue _)) h
  · exact linksSound_acts (acts_leaveQueue _) (linksSound_pickDone q h)

theorem Link.sound_count {k : Link} (h : k.sound) : k.count.sound := by
  obtain ⟨h1, h2, h3, h4, h5, h6, h7, h8, h9⟩ := h
  unfold Link.count
  dsimp only
  split
  · split
    · rename_i hf
      exact ⟨h1, h2, h3, h4, h5, fun _ => hf.1, Nat.succ_le_of_lt hf.2.2, (Nat.sub_le _ _).trans h8, h9⟩
    · exact ⟨h1, h2, h3, h4, h5, h6, h7, (Nat.sub_le _ _).trans h8, h9⟩
  · split
    · rename_i hf
      exact ⟨h1, h2, h3, h4, h5, fun _ => hf.1, Nat.succ_le_of_lt hf.2.2, h8, h9⟩
    · exact ⟨h1, h2, h3, h4, h5, h6, h7, h8, h9⟩

theorem Link.sound_start (now : FrameNo) {k : Link} (h : k.sound) : (k.start now).sound := by
  obtain ⟨h1, h2, h3, h4, h5, h6, h7, h8, h9⟩ := h
  unfold Link.start
  split
  · exact ⟨h1, h2, h3, h4, h5, h6, h7, h8, h9⟩
  · exact ⟨h1, h2, h3, h4, h5, h6, h7, le_rfl, h9⟩

theorem Link.sound_warm (k : Link) : k.warm.sound := by
  unfold Link.warm
  split
  · decide
  · rename_i hk
    refine ⟨⟨fun h => absurd (by rw [h]; rfl) hk, fun h => by cases h⟩, by simp [Link.vacant], by simp [Link.vacant], by simp [Link.vacant],
      by simp [Link.vacant], by simp [Link.vacant], by simp [Link.vacant], le_rfl, by simp [Link.vacant]⟩

theorem linksSound_startPart (h : s.linksSound) : (startPart () s).1.linksSound := by
  refine answered_check h fun _ => ?_
  have hstart : State.linksSound { s with mode := .run, links := s.links.map (Link.start s.now) } :=
    linksSound_map (fun _ => Link.sound_start s.now) h
  exact linksSound_acts (.foldl _ acts_startScan _ _) hstart

end operations

theorem kept_linksSound : Kept State.linksSound where
  moves _ _ := linksSound_moves
  owed o _ := linksSound_owedStep o
  count _ := linksSound_map fun _ => Link.sound_count
  sample _ x _ := linksSound_takeSample x
  assign _ _ _ _ _ := linksSound_assignDone _ _ _
  pick _ _ _ _ := linksSound_rescueDone _ _
  define a _ := linksSound_defineLink a
  release _ _ := linksSound_releaseLink
  park _ _ := linksSound_parkLink
  unpark _ _ := linksSound_unparkLink
  silence _ _ := linksSound_forceSilence
  launch e _ := linksSound_launchPlan e
  start _ := linksSound_startPart
  warm _ _ := fun k hk => by
    obtain ⟨k', -, rfl⟩ := List.mem_map.1 hk
    exact Link.sound_warm k'

theorem linksSound_cold (straps : BitVec 3) : (State.cold straps).linksSound := fun k hk => by
  rw [List.eq_of_mem_replicate hk]
  decide

/-- Settles O10. -/
theorem stepKeepsLinksSound : Obligations.StepKeepsLinksSound := fun _ _ hs hstep =>
  kept_linksSound.step (fun _ _ => Iff.rfl) linksSound_cold hs hstep

end Sys2Proof.Machine

/-! PROOF. The values of the resets: the state after cold reset is sound in every way that a step keeps (R198 and the reset table of
each chapter), and RESTART and COLD_RESET give every block its values. -/

namespace Sys2Proof.Machine

-- One theorem at a time: all at once, their threads together outgrow the memory limit of the check.
set_option Elab.async false

/-! ## Tables of one value -/

theorem slot_replicate {α : Type} (d : α) (n k : Nat) : slot d (List.replicate n d) k = d := by
  cases k with
  | zero => rfl
  | succ k =>
    rw [slot, List.getD_eq_getElem?_getD, List.getElem?_replicate]
    split <;> rfl

/-- A table whose records all become one value is that value over and over. -/
theorem map_const_of_length {α β : Type} {xs : List α} {n : Nat} (h : xs.length = n) (b : β) :
    (xs.map fun _ => b) = List.replicate n b := by
  rw [List.map_const', h]

/-! ## The state after cold reset is sound (O5) -/

theorem settleAll_nil (pr : Nat → Nat) : settleAll pr [] = [] := by
  have hsettle (d n : Nat) : settle pr d n [] = [] := by cases n <;> rfl
  unfold settleAll
  induction oneUpTo Config.stations with
  | nil => rfl
  | cons d ds ih => rw [List.foldl_cons, hsettle, ih]

/-- With no route there is nothing to settle. -/
theorem talkSettled_of_nil {s : State} (h : s.tk.routes = []) : s.talkSettled := by
  have hroutes : settleAll s.priority (s.tk.routes.map s.suspend) = s.tk.routes := by
    rw [h, List.map_nil, settleAll_nil]
  unfold State.talkSettled State.resettle State.modTk
  dsimp only
  rw [hroutes]

theorem station_cold (straps : BitVec 3) (t : Nat) : (State.cold straps).station t = Station.undefined :=
  slot_replicate Station.undefined _ t

theorem holdersCounted_cold (straps : BitVec 3) : (State.cold straps).holdersCounted := by
  refine ⟨fun a _ d _ => ?_, fun r hr => absurd hr List.not_mem_nil, fun x hx => ?_, fun _ x hx => ?_⟩
  · rw [State.talkers, station_cold]
    rfl
  · rw [List.eq_of_mem_replicate hx]
    exact List.nodup_nil
  · rw [List.eq_of_mem_replicate hx]
    exact fun _ hk => absurd hk List.not_mem_nil

/-- Settles O5. -/
theorem resetIsSound : Obligations.ResetIsSound := fun straps =>
  ⟨(tabled_cold straps).1, (tabled_cold straps).2, List.nodup_singleton _, (unitsSound_iff _).2 (unitsSound_cold straps),
    sound_cold straps, linksSound_cold straps, routesSound_cold straps,
    ⟨fun _ => rfl, fun _ hr => absurd hr List.not_mem_nil⟩, talkSettled_of_nil rfl, holdersCounted_cold straps⟩

/-! ## The transmit path's choice leaves its settings -/

/-- What the transmit path's choice leaves of the Message Port. -/
def Mp.settings (m : Mp) : BitVec 3 × List Byte × BitVec 8 × BitVec 8 := (m.bitRate, m.rx, m.pushMask, m.attnMask)

@[simp] theorem kick_settings (s : State) : (kick s).mp.settings = s.mp.settings := by
  unfold kick
  split
  case h_4 =>
    unfold sendReply
    split <;> rfl
  case h_5 =>
    unfold pushIfAny
    split <;> rfl
  all_goals rfl

/-- It takes notices from the queue, and adds none. -/
theorem kick_nq_subset (s : State) : (kick s).nq ⊆ s.nq := by
  unfold kick
  split
  case h_4 =>
    unfold sendReply
    split
    · exact List.eraseP_subset
    · exact List.Subset.refl _
  case h_5 =>
    unfold pushIfAny
    split
    · exact List.eraseP_subset
    · exact List.Subset.refl _
  all_goals exact List.Subset.refl _

/-- In STANDBY with no job the engine does nothing. -/
theorem pump_of_standby {s : State} (hmode : s.mode = .standby) (hq : s.pe.queue = []) : pump s = s := by
  have hconvert : convert s = s := if_neg (by rw [hmode]; exact Mode.noConfusion)
  unfold pump choose
  rw [hconvert, hq]
  split
  case h_1 j _ hj => exact absurd hj (by simp [chosenJob])
  case h_2 => rfl

/-! ## RESTART and COLD_RESET (O52) -/

theorem keeps_warmReset (s : State) : KeepsBut warmParts s (warmReset s) := by
  intro p hp; cases p <;> first | rfl | exact absurd (by decide) hp

/-- The state that RESTART gives: the reset part, its reply put, and the transmit path's choice. -/
theorem exec_restart {s : State} {f : HostFrame} (ht : Takes 0x72 f s) (hp : f.payload = []) :
    exec .restart s = .next (kick (putReply f (u8 0) (warmReset (dropHead s)))) := by
  have hread : readNothing f.payload = some () := readNothing_of_nil hp
  calc exec .restart s = .next (after (putReply f (u8 0 ++ []) (warmReset (dropHead s)))) := request_oks ht hread rfl
    _ = .next (kick (putReply f (u8 0) (warmReset (dropHead s)))) := by
      rw [after, pump_of_standby rfl rfl, List.append_nil]

/-- The transmit path's choice changes the Message Port and the queue of notices alone. -/
theorem kick_eq (s : State) : kick s = { s with mp := (kick s).mp, nq := (kick s).nq } := by
  unfold kick
  split
  case h_4 =>
    unfold sendReply
    split <;> rfl
  case h_5 =>
    unfold pushIfAny
    split <;> rfl
  all_goals rfl

theorem Link.warm_eq (k : Link) :
    k.warm = if k.cfg.kind = none then Link.vacant
      else { Link.vacant with cfg := k.cfg, state := .idle, silenceCounter := k.cfg.silenceLimit } := by
  unfold Link.warm
  simp only [Option.isNone_iff_eq_none]

theorem Engine.drained_eq (e : Engine) : e.drained = if e = .running then .draining else .idle := by cases e <;> rfl

theorem slot_none {α : Type} (n k : Nat) : slot (none : Option α) (List.replicate n none) k = none := slot_replicate none n k

/-- What RESTART gives (R197). -/
theorem restart_takes {s : State} {f : HostFrame} (ht : Takes 0x72 f s) (hp : f.payload = []) :
    Reaches .restart s fun t => t = { warmReset s with mp := t.mp, nq := t.nq } ∧ Replies f (u8 0) s t ∧
      Notified .deviceRestart 0 t ∧ (∀ n ∈ t.nq, n = { cls := .device, obj := 0, causes := 2 }) ∧
      t.mp.settings = s.mp.settings := by
  refine ⟨_, exec_restart ht hp, ?_, replies_of_kick rfl, notified_kick ⟨_, List.mem_singleton_self _, rfl, rfl⟩, fun n hn => ?_, ?_⟩
  · exact kick_eq _
  · exact List.mem_singleton.1 (kick_nq_subset _ hn)
  · exact kick_settings _

/-- Every record of a table of the cold part has its value after cold reset. -/
theorem slots_cold (straps : BitVec 3) (n : Nat) :
    (State.cold straps).band n = Band.reset ∧ (State.cold straps).link n = Link.vacant ∧
      (State.cold straps).line n = LineInput.reset ∧ (State.cold straps).lamp n = Lamp.reset ∧
      (State.cold straps).station n = Station.undefined ∧ (State.cold straps).assignResult n = none ∧
      (State.cold straps).rescueResult n = none ∧ (State.cold straps).queryResult n = none :=
  ⟨slot_replicate .., slot_replicate .., slot_replicate .., slot_replicate .., slot_replicate .., slot_replicate ..,
    slot_replicate .., slot_replicate ..⟩

/-- Settles O52. -/
theorem resetsTakeTheirValues : Obligations.ResetsTakeTheirValues := by
  refine ⟨fun s f hs ht hp => ?_, fun s straps => ?_⟩
  · obtain ⟨t, hexec, heq, hreply, hnotice, hnq, hmp⟩ := restart_takes ht hp
    obtain ⟨-, -, -, -, hlz, -⟩ := hs
    simp only [Mp.settings, Prod.mk.injEq] at hmp
    obtain ⟨hrate, -, hpush, hattn⟩ := hmp
    refine ⟨t, hexec, hreply, ?_, hnotice, hnq, ?_⟩
    · rw [heq]
      rfl
    generalize t.mp = m at heq hpush hattn hrate
    generalize t.nq = q at heq
    subst heq
    refine ⟨rfl, ?links, rfl, Engine.drained_eq _, rfl, ?results, rfl, ?units, rfl, rfl, rfl, rfl, rfl, rfl, rfl, rfl, ?lampZones,
      rfl, rfl, rfl, rfl, rfl, rfl, rfl, hpush, hattn, hrate, ?frame⟩
    case links => exact List.map_congr_left fun k _ => k.warm_eq
    case results => exact fun n => ⟨slot_none .., slot_none .., slot_none ..⟩
    case units =>
      intro u hu
      obtain ⟨-, -, rfl⟩ := List.mem_map.1 hu
      rfl
    case lampZones => exact map_const_of_length hlz false
    case frame => intro p hp; cases p <;> first | rfl | exact absurd (by decide) hp
  · have hband b : (State.cold straps).band b = Band.reset := slot_replicate ..
    have hlink l : (State.cold straps).link l = Link.vacant := slot_replicate ..
    refine ⟨_, rfl, rfl, rfl, rfl, rfl, rfl, rfl, rfl, rfl, rfl, rfl, rfl, rfl, rfl, rfl, rfl, rfl, rfl, rfl, rfl, rfl, rfl, rfl,
      rfl, rfl, ?bandsCold, ?linksCold, rfl, rfl, rfl, ?resultsCold, rfl, ?unitsCold, ?linesCold, rfl, ?entriesCold, rfl, rfl, rfl, rfl, rfl, rfl, ?lampsCold, rfl,
      ?stationsCold, ?groupsCold, rfl, rfl, rfl, rfl⟩
    case bandsCold =>
      intro b
      generalize hk : State.band _ b = k
      obtain rfl : k = Band.reset := hk.symm.trans (hband b)
      exact ⟨rfl, rfl, rfl, rfl, rfl, rfl, rfl, rfl, rfl, rfl, rfl⟩
    case linksCold =>
      intro l
      generalize hk : State.link _ l = k
      obtain rfl : k = Link.vacant := hk.symm.trans (hlink l)
      exact ⟨rfl, rfl, rfl, rfl, rfl, rfl, rfl, rfl, rfl, rfl, rfl, rfl, rfl, rfl, rfl, rfl, rfl, rfl⟩
    case resultsCold => exact fun n => ⟨slot_none .., slot_none .., slot_none ..⟩
    case unitsCold => exact fun u hu => List.eq_of_mem_replicate hu
    case linesCold => exact fun n => slot_replicate ..
    case entriesCold => exact fun e he => List.eq_of_mem_replicate he
    case lampsCold => exact fun m => slot_replicate ..
    case stationsCold => exact station_cold straps
    case groupsCold => exact fun g hg => List.eq_of_mem_replicate hg

end Sys2Proof.Machine

/-! The orders of the units between two states that differ by issues alone: an order that no issue displaces stays, one that waits goes
on waiting, and an issued order is held (R126, R127). -/

namespace Sys2Proof.Machine

-- One theorem at a time: all at once, their threads together outgrow the memory limit of the check.
set_option Elab.async false

/-! ## Chains of issues -/

/-- One step that leaves every unit, or issues an order of an issuer that `ok` admits. -/
inductive Adds (ok : Issuer → Prop) (s : State) : State → Prop
  | units {t : State} : t.units = s.units → Adds ok s t
  | issue (a : Nat) (body : OrderBody) (i : Issuer) : ok i → Adds ok s (issue a body i s).state

/-- What happens to the units is a chain of issues. -/
def Issues (ok : Issuer → Prop) (s t : State) : Prop := Relation.ReflTransGen (Adds ok) s t

namespace Issues
variable {ok : Issuer → Prop} {s t u : State}

theorem refl (s : State) : Issues ok s s := Relation.ReflTransGen.refl
theorem trans (h : Issues ok s t) (k : Issues ok t u) : Issues ok s u := Relation.ReflTransGen.trans h k
theorem units (h : t.units = s.units) : Issues ok s t := Relation.ReflTransGen.single (.units h)
theorem issue (s : State) (a : Nat) (body : OrderBody) (i : Issuer) (h : ok i) : Issues ok s (Machine.issue a body i s).state :=
  Relation.ReflTransGen.single (.issue a body i h)

/-- An operation whose frame leaves the units. -/
theorem keeps {ps : List Part} (h : KeepsBut ps s t) (hp : .units ∉ ps := by decide) : Issues ok s t := units (h .units hp)

theorem ite {c : Prop} [Decidable c] (h : Issues ok s t) (k : Issues ok s u) : Issues ok s (if c then t else u) := by
  split
  · exact h
  · exact k

theorem foldl {α : Type} (f : State → α → State) (h : ∀ s x, Issues ok s (f s x)) (xs : List α) (s : State) :
    Issues ok s (xs.foldl f s) := by
  induction xs generalizing s with
  | nil => exact refl s
  | cons x xs ih => exact (h s x).trans (ih _)

theorem foldAct {α : Type} (f : Acting → α → Acting) (h : ∀ x a, Issues ok x.1 (f x a).1) (as : List α) (x : Acting) :
    Issues ok x.1 (as.foldl f x).1 := by
  induction as generalizing x with
  | nil => exact refl x.1
  | cons a as ih => exact (h x a).trans (ih _)

theorem mono {ok' : Issuer → Prop} (h : Issues ok s t) (hok : ∀ i, ok i → ok' i) : Issues ok' s t := by
  induction h with
  | refl => exact refl _
  | tail _ hc ih =>
    cases hc with
    | units h => exact ih.trans (units h)
    | issue a body i hi => exact ih.trans (issue _ a body i (hok i hi))

end Issues

/-! ## What a chain of issues keeps of a unit -/

/-- The record of a unit after one record of the table has changed: it is that record, or it stands. -/
theorem unit_modUnit_cases (s : State) (a b : Nat) (f : UnitRec → UnitRec) :
    (s.modUnit a f).unit b = s.unit b ∨ (s.modUnit a f).unit b = f (s.unit b) := by
  by_cases hp : 1 ≤ unitPlace a ∧ unitPlace a ≤ s.units.length
  · by_cases hab : unitPlace a = unitPlace b
    · have hself : (s.modUnit b f).unit b = f (s.unit b) := unit_modUnit_self (hab ▸ hp.1) (hab ▸ hp.2) f
      have hmod : s.modUnit a f = s.modUnit b f := by
        rw [State.modUnit, State.modUnit, hab]
      exact .inr (hmod ▸ hself)
    · exact .inl (unit_modUnit_other hab f)
  · rw [modUnit_of_noPlace hp]
    exact .inl rfl

/-- A property of unit records that no part of an issue breaks. -/
structure UnitRec.Lasts (ok : Issuer → Prop) (P : UnitRec → Prop) : Prop where
  send : ∀ (o : Order) (u : UnitRec), ok o.issuer → P u → P (u.send o)
  wait : ∀ (o : Order) (u : UnitRec), ok o.issuer → P u → P { u with waiting := u.waiting ++ [o] }
  drop : ∀ u : UnitRec, P u → P { u with outstanding := u.outstanding.eraseP Order.displaceable }

theorem lasts_issue {ok : Issuer → Prop} {P : UnitRec → Prop} (hP : UnitRec.Lasts ok P) (a : Nat) (body : OrderBody) {i : Issuer}
    (hi : ok i) {s : State} (b : Nat) (h : P (s.unit b)) : P ((issue a body i s).state.unit b) := by
  have hmod {s : State} {a : Nat} {f : UnitRec → UnitRec} (hf : P (s.unit b) → P (f (s.unit b))) (h : P (s.unit b)) :
      P ((s.modUnit a f).unit b) := by
    obtain he | he := unit_modUnit_cases s a b f <;> rw [he]
    · exact h
    · exact hf h
  obtain ⟨-, -, hr⟩ | ⟨-, -, -, hr⟩ | ⟨-, -, -, hr⟩ | ⟨-, -, -, v, -, hr⟩ := issue_cases a body i s <;> rw [hr]
  · exact hmod (s := s.tookId) (hP.send (s.newOrder a body i) _ hi) h
  · exact hmod (s := s.tookId) (hP.wait (s.newOrder a body i) _ hi) h
  · exact h
  · refine hmod (hP.send (s.newOrder a body i) _ hi) ?_
    rw [unit_of_units (displaced_units v _)]
    exact hmod (s := s.tookId) (hP.drop _) h

theorem Issues.lasts {ok : Issuer → Prop} {P : UnitRec → Prop} (hP : UnitRec.Lasts ok P) {s t : State} (h : Issues ok s t) (a : Nat)
    (hs : P (s.unit a)) : P (t.unit a) := by
  induction h with
  | refl => exact hs
  | tail _ hc ih =>
    cases hc with
    | units hu => rwa [unit_of_units hu]
    | issue a' body i hi => exact lasts_issue hP a' body hi a ih

theorem mem_eraseP_of_not {α : Type} {p : α → Bool} {x : α} {xs : List α} (hx : x ∈ xs) (hp : p x = false) : x ∈ xs.eraseP p :=
  (List.mem_eraseP_of_neg (by rw [hp]; exact Bool.false_ne_true)).2 hx

/-- An outstanding order that may not be displaced stays outstanding. -/
theorem Issues.outstanding {ok : Issuer → Prop} {s t : State} (h : Issues ok s t) {a : Nat} {o : Order} (hd : o.displaceable = false)
    (ho : o ∈ (s.unit a).outstanding) : o ∈ (t.unit a).outstanding :=
  h.lasts (P := fun u => o ∈ u.outstanding)
    ⟨fun _ _ _ h => List.mem_append_left _ h, fun _ _ _ h => h, fun _ h => mem_eraseP_of_not h hd⟩ a ho

/-- A waiting order goes on waiting. -/
theorem Issues.waiting {ok : Issuer → Prop} {s t : State} (h : Issues ok s t) {a : Nat} {o : Order}
    (ho : o ∈ (s.unit a).waiting) : o ∈ (t.unit a).waiting :=
  h.lasts (P := fun u => o ∈ u.waiting) ⟨fun _ _ _ h => h, fun _ _ _ h => List.mem_append_left _ h, fun _ h => h⟩ a ho

/-! ## An issued order is held -/

theorem place_of_address {s : State} (hs : s.units.length = 25) {a : Nat} (ha : a ∈ unitAddresses) :
    1 ≤ unitPlace a ∧ unitPlace a ≤ s.units.length := by
  rw [hs]
  exact (by decide : ∀ a ∈ unitAddresses, 1 ≤ unitPlace a ∧ unitPlace a ≤ 25) a ha

theorem unit_send_self {s : State} {o : Order} (hp : 1 ≤ unitPlace o.address ∧ unitPlace o.address ≤ s.units.length) :
    (send o s).unit o.address = (s.unit o.address).send o := unit_modUnit_self hp.1 hp.2 _

/-- `Ordered`, of the order under an id. -/
def OrderedAs (n a : Nat) (body : OrderBody) (i : Issuer) (s t : State) : Prop :=
  ∃ o : Order, o.id = n ∧ o.address = a ∧ o.body = body ∧ o.issuer = i ∧ o.deadline = body.deadline s.now ∧
    (o ∈ (t.unit a).waiting ∨ ∃ n : Byte, { o with number := some n } ∈ (t.unit a).outstanding)

theorem OrderedAs.ordered {n a : Nat} {body : OrderBody} {i : Issuer} {s t : State} (h : OrderedAs n a body i s t) :
    Ordered a body i s t :=
  let ⟨o, _, ho⟩ := h
  ⟨o, ho⟩

/-- An order that does not overflow at its issue is outstanding or waits, under the next id (R126, R127). -/
theorem orderedAs_issue {s : State} {a : Nat} {body : OrderBody} {i : Issuer}
    (hp : 1 ≤ unitPlace a ∧ unitPlace a ≤ s.units.length) (h : (issue a body i s).overflow = false) :
    OrderedAs s.nextOrderId a body i s (issue a body i s).state := by
  refine ⟨s.newOrder a body i, rfl, rfl, rfl, rfl, rfl, ?_⟩
  have hsend (t : State) (hu : t.units.length = s.units.length) : ∃ n : Byte,
      { s.newOrder a body i with number := some n } ∈ ((send (s.newOrder a body i) t).unit a).outstanding := by
    refine ⟨(t.unit a).nextNumber, ?_⟩
    rw [show (send (s.newOrder a body i) t).unit a = (t.unit a).send (s.newOrder a body i) from
      unit_send_self (o := s.newOrder a body i) ⟨hp.1, hu ▸ hp.2⟩]
    exact List.mem_append_right _ (List.mem_singleton_self _)
  obtain ⟨-, -, hr⟩ | ⟨-, -, -, hr⟩ | ⟨-, -, ho, -⟩ | ⟨-, -, -, v, -, hr⟩ := issue_cases a body i s
  · rw [hr]
    exact .inr (hsend s.tookId rfl)
  · rw [hr]
    refine .inl ?_
    rw [unit_modUnit_self (s := s.tookId) hp.1 hp.2]
    exact List.mem_append_right _ (List.mem_singleton_self _)
  · exact absurd (h.symm.trans ho) Bool.false_ne_true
  · rw [hr]
    refine .inr (hsend _ ?_)
    rw [displaced_units]
    exact modSlot_length _ _ _

theorem ordered_issue {s : State} {a : Nat} {body : OrderBody} {i : Issuer}
    (hp : 1 ≤ unitPlace a ∧ unitPlace a ≤ s.units.length) (h : (issue a body i s).overflow = false) :
    Ordered a body i s (issue a body i s).state := (orderedAs_issue hp h).ordered

theorem unitFull_of_overflow {s : State} {a : Nat} {body : OrderBody} {i : Issuer} (h : (issue a body i s).overflow = true) :
    s.unitFull a := by
  obtain ⟨-, ho, -⟩ | ⟨-, -, ho, -⟩ | ⟨h1, h2, -, -⟩ | ⟨-, -, ho, -⟩ := issue_cases a body i s
  · exact absurd (ho.symm.trans h) Bool.false_ne_true
  · exact absurd (ho.symm.trans h) Bool.false_ne_true
  · exact ⟨h1, h2⟩
  · exact absurd (ho.symm.trans h) Bool.false_ne_true

theorem unitFull_of_units {s t : State} (h : t.units = s.units) {a : Nat} (hf : t.unitFull a) : s.unitFull a := by
  unfold State.unitFull at *
  rwa [unit_of_units h] at hf

/-- A held order that may not be displaced stays held. -/
theorem Ordered.issues {ok : Issuer → Prop} {s t u : State} {a : Nat} {body : OrderBody} {i : Issuer} (h : Ordered a body i s t)
    (hd : ∀ o : Order, o.body = body → o.displaceable = false) (k : Issues ok t u) : Ordered a body i s u := by
  obtain ⟨o, ha, hb, hi, hdl, hmem⟩ := h
  refine ⟨o, ha, hb, hi, hdl, hmem.elim (fun hw => .inl (k.waiting hw)) fun ⟨n, hn⟩ => .inr ⟨n, k.outstanding (hd _ hb) hn⟩⟩

/-- An issue at the same frame is an issue from there. -/
theorem Ordered.of_now {s s' t : State} {a : Nat} {body : OrderBody} {i : Issuer} (h : Ordered a body i s' t) (hn : s'.now = s.now) :
    Ordered a body i s t := by
  unfold Ordered at *
  rwa [hn] at h

theorem displaceable_tune {c khz : Nat} {e : FrameNo} (o : Order) (h : o.body = .tune c khz e) : o.displaceable = false := by
  rw [Order.displaceable, h]

theorem displaceable_mute {c : Nat} {e : FrameNo} (o : Order) (h : o.body = .mute c e) : o.displaceable = false := by
  rw [Order.displaceable, h]

/-- The order is issued and held, or its unit is full. -/
theorem ordered_or_full {s : State} (hs : s.units.length = 25) {a : Nat} (ha : a ∈ unitAddresses) (body : OrderBody) (i : Issuer) :
    Ordered a body i s (issue a body i s).state ∨ (issue a body i s).overflow = true ∧ s.unitFull a := by
  cases h : (issue a body i s).overflow with
  | false => exact .inl (ordered_issue (place_of_address hs ha) h)
  | true => exact .inr ⟨rfl, unitFull_of_overflow h⟩

/-! ## Operations that issue alone -/

/-- The orders of the Tally Resolver and of the Talk Router. -/
def Issuer.ofTalk : Issuer → Prop
  | .tkMake _ _ | .tkBreak _ _ | .tkDim _ | .tkLamp _ => True
  | _ => False

def Issuer.ofTally : Issuer → Prop
  | .tr _ => True
  | _ => False

def Issuer.ofBoard (i : Issuer) : Prop := i.ofTalk ∨ i.ofTally

theorem issues_deliveryTest (l : Nat) (s : State) : Issues Issuer.ofTally s (deliveryTest l s) := by
  unfold deliveryTest
  dsimp only
  split
  · exact (Issues.issue s _ _ (.tr l) trivial).trans
      ((Issues.keeps (keeps_modLink _ _ _)).trans (.ite (.keeps (keeps_tallyFailed _ _ _)) (.refl _)))
  · exact .refl s

theorem issues_rewant (l : Nat) (s : State) : Issues Issuer.ofTally s (rewant l s) :=
  (Issues.keeps (keeps_modLink _ _ _)).trans (issues_deliveryTest l _)

theorem issues_rewantAll (s : State) : Issues Issuer.ofTally s (rewantAll s) := .foldl _ (fun s l => issues_rewant l s) _ s

theorem issues_rewantStation (t : Nat) (s : State) : Issues Issuer.ofTally s (rewantStation t s) :=
  .foldl _ (fun s l => .ite (issues_rewant l s) (.refl s)) _ s

/-- A change of state that leaves no service withdraws no order (R148). -/
theorem issues_tallySees (l : Nat) {old : LinkState} {s : State} (h : old.inService = true → (s.link l).state.inService = true) :
    Issues Issuer.ofTally s (tallySees l old s) := by
  unfold tallySees
  dsimp only
  split
  · exact .refl s
  · rw [if_neg (by simpa using h)]
    exact .ite (issues_deliveryTest l s) (.refl s)

theorem issues_modTk {ok : Issuer → Prop} (s : State) (f : Tk → Tk) : Issues ok s (s.modTk f) := .units rfl

theorem issues_tkIssue (address : Nat) (body : OrderBody) {issuer : Issuer} (hi : issuer.ofTalk) (record : Nat → State → State)
    (h : ∀ id s, Issues Issuer.ofTalk s (record id s)) (x : Acting) :
    Issues Issuer.ofTalk x.1 (tkIssue address body issuer record x).1 :=
  (Issues.issue x.1 address body issuer hi).trans (h _ _)

theorem joinBreak_units (a d id : Nat) (s : State) : (joinBreak a d id s).units = s.units := by
  unfold joinBreak
  dsimp only
  split
  · rfl
  · split
    · split <;> rfl
    · rfl

theorem issues_orderBreak (a d : Nat) (x : Acting) : Issues Issuer.ofTalk x.1 (orderBreak a d x).1 :=
  issues_tkIssue _ _ (issuer := .tkBreak a d) trivial _ (fun _ _ => .units (joinBreak_units a d _ _)) x

theorem issues_orderMake (a d : Nat) (x : Acting) : Issues Issuer.ofTalk x.1 (orderMake a d x).1 :=
  issues_tkIssue _ _ (issuer := .tkMake a d) trivial _ (fun _ s => issues_modTk s _) x

theorem issues_orderDim (t depth : Nat) (x : Acting) : Issues Issuer.ofTalk x.1 (orderDim t depth x).1 :=
  issues_tkIssue _ _ (issuer := .tkDim t) trivial _ (fun _ s => issues_modTk s _) x

theorem issues_orderLamp (t : Nat) (x : Acting) : Issues Issuer.ofTalk x.1 (orderLamp t x).1 := by
  unfold orderLamp
  dsimp only
  split
  · exact issues_tkIssue _ _ (issuer := .tkLamp t) trivial _ (fun _ s => issues_modTk s _) x
  · exact .refl _

theorem tkFailed_units (i : Issuer) (id : Nat) (s : State) : (tkFailed i id s).units = s.units := by
  unfold tkFailed
  split
  · split <;> rfl
  · rfl
  · split <;> rfl
  · exact keeps_lampFailed _ _ s .units (by decide)
  · rfl

theorem issues_reported (x : Acting) : Issues Issuer.ofTalk x.1 (reported x) := .foldl _ (fun _ _ => .units (tkFailed_units _ _ _)) _ _

theorem issues_lampTest (t : Nat) (s : State) : Issues Issuer.ofTalk s (lampTest t s) :=
  (issues_orderLamp t (s, [])).trans (issues_reported _)

theorem issues_crosspoints (before : List Route) (x : Acting) (d : Nat) : Issues Issuer.ofTalk x.1 (crosspoints before x d).1 :=
  (Issues.foldAct _ (fun x a => issues_orderBreak a d x) _ x).trans (.foldAct _ (fun x a => issues_orderMake a d x) _ _)

theorem issues_dims (before : List Route) (x : Acting) (t : Nat) : Issues Issuer.ofTalk x.1 (dims before x t).1 := by
  unfold dims
  dsimp only
  split
  · exact issues_orderDim _ _ x
  · exact .refl _

theorem issues_lamps (asked : Option Nat) (s0 : State) (x : Acting) (t : Nat) : Issues Issuer.ofTalk x.1 (lamps asked s0 x t).1 := by
  unfold lamps
  split
  · exact issues_orderLamp t x
  · exact .refl _

theorem issues_resettle {ok : Issuer → Prop} (s : State) : Issues ok s s.resettle := issues_modTk s _

theorem issues_tkAfterFor (asked : Option Nat) (s0 s1 : State) : Issues Issuer.ofTalk s1 (tkAfterFor asked s0 s1) :=
  ((((issues_resettle s1).trans (.foldAct _ (fun x d => issues_crosspoints _ x d) _ (s1.resettle, []))).trans
    (.foldAct _ (fun x t => issues_dims _ x t) _ _)).trans (.foldAct _ (fun x t => issues_lamps asked s0 x t) _ _)).trans
    (issues_reported _)

theorem issues_after (s : State) : Issues Issuer.ofTalk s (after s) := .keeps (keeps_after s)

theorem issues_finish (s0 s1 : State) : Issues Issuer.ofTalk s1 (finish s0 s1) := (issues_tkAfterFor none s0 s1).trans (issues_after _)

theorem issues_finishKey (asked : Option Nat) (s0 s1 : State) : Issues Issuer.ofTalk s1 (finishKey asked s0 s1) :=
  (issues_tkAfterFor asked s0 s1).trans (issues_after _)

end Sys2Proof.Machine

/-! What the events of one link do (R72, R82 to R84, R88, R104 to R108, R115, R116): its record, the carriers of its band, the outcome
in the plan, and the notice. -/

namespace Sys2Proof.Machine

-- One theorem at a time: all at once, their threads together outgrow the memory limit of the check.
set_option Elab.async false

/-! ## One link's record between two states -/

/-- Link `l` has the record `k`, but for its rescue status and tally fields, and every other link keeps its own. -/
structure LinkBecomes (l : Nat) (k : Link) (s t : State) : Prop where
  self : (t.link l).core = k.core
  alone : LinkAlone l s t
  length : t.links.length = s.links.length

/-- An update of a record that its rescue status and tally fields do not bear upon. -/
def Link.Coreful (f : Link → Link) : Prop := ∀ k, (f k).core = (f k.core).core

theorem core_congr {f : Link → Link} (hf : Link.Coreful f) {k k' : Link} (h : k.core = k'.core) : (f k).core = (f k').core := by
  rw [hf k, hf k', h]

theorem coreful_enter (new : LinkState) (c : Option LostCause) : Link.Coreful (Link.enter new c) := fun k => by
  unfold Link.enter
  dsimp only
  split <;> rfl

theorem length_of_links {s t : State} (h : Part.links.same s t) : t.links.length = s.links.length := by
  have := congrArg List.length h
  simpa using this

namespace LinkBecomes
variable {l : Nat} {k : Link} {s t u : State}

theorem refl (l : Nat) (s : State) : LinkBecomes l (s.link l) s s := ⟨rfl, fun _ _ => rfl, rfl⟩

theorem same (h : LinkBecomes l k s t) (hl : Part.links.same t u) : LinkBecomes l k s u :=
  ⟨(linkCore_of_same hl l).trans h.self, fun n hn => (linkCore_of_same hl n).trans (h.alone n hn), (length_of_links hl).trans h.length⟩

/-- An operation whose frame leaves the links. -/
theorem keeps {ps : List Part} (h : LinkBecomes l k s t) (hk : KeepsBut ps t u) (hp : .links ∉ ps := by decide) : LinkBecomes l k s u :=
  h.same (hk .links hp)

theorem modLink (h : LinkBecomes l k s t) (hl : 1 ≤ l) (hl' : l ≤ s.links.length) {f : Link → Link}
    (hf : Link.Coreful f := by exact fun _ => rfl) : LinkBecomes l (f k) s (t.modLink l f) := by
  refine ⟨?_, fun n hn => ?_, ?_⟩
  · rw [show (t.modLink l f).link l = f (t.link l) from slot_modSlot_self _ _ _ hl (h.length ▸ hl')]
    exact core_congr hf h.self
  · rw [show (t.modLink l f).link n = t.link n from slot_modSlot_other _ _ _ hn.symm]
    exact h.alone n hn
  · rw [State.modLink_links, modSlot_length]
    exact h.length

/-- A change of state (R72). -/
theorem changeState (h : LinkBecomes l k s t) (hl : 1 ≤ l) (hl' : l ≤ s.links.length) {new : LinkState} {c : Option LostCause}
    (hne : k.state ≠ new) : LinkBecomes l (Link.enter new c k) s (changeState l new c t) := by
  have hst : (t.link l).state ≠ new := by
    have he : (t.link l).state = k.state := (congrArg Link.state h.self :)
    rwa [he]
  unfold Machine.changeState
  rw [if_neg hst]
  exact ((h.modLink hl hl' (coreful_enter new c)).keeps (keeps_raise _ _ _)).keeps (keeps_tallySees _ _ _)

theorem cfg (h : LinkBecomes l k s t) : (t.link l).cfg = k.cfg := (congrArg Link.cfg h.self :)
theorem state (h : LinkBecomes l k s t) : (t.link l).state = k.state := (congrArg Link.state h.self :)
theorem assigned (h : LinkBecomes l k s t) : (t.link l).assigned = k.assigned := (congrArg Link.assigned h.self :)
theorem pending (h : LinkBecomes l k s t) : (t.link l).pending = k.pending := (congrArg Link.pending h.self :)
theorem badRun (h : LinkBecomes l k s t) : (t.link l).badRun = k.badRun := (congrArg Link.badRun h.self :)
theorem goodRun (h : LinkBecomes l k s t) : (t.link l).goodRun = k.goodRun := (congrArg Link.goodRun h.self :)
theorem fadeTimer (h : LinkBecomes l k s t) : (t.link l).fadeTimer = k.fadeTimer := (congrArg Link.fadeTimer h.self :)
theorem silenceCounter (h : LinkBecomes l k s t) : (t.link l).silenceCounter = k.silenceCounter := (congrArg Link.silenceCounter h.self :)
theorem origin (h : LinkBecomes l k s t) : (t.link l).origin = k.origin := (congrArg Link.origin h.self :)
theorem effectiveFrame (h : LinkBecomes l k s t) : (t.link l).effectiveFrame = k.effectiveFrame := (congrArg Link.effectiveFrame h.self :)
theorem deadline (h : LinkBecomes l k s t) : (t.link l).deadline = k.deadline := (congrArg Link.deadline h.self :)
theorem lastReport (h : LinkBecomes l k s t) : (t.link l).lastReport = k.lastReport := (congrArg Link.lastReport h.self :)
theorem lostCause (h : LinkBecomes l k s t) : (t.link l).lostCause = k.lostCause := (congrArg Link.lostCause h.self :)
theorem moveOrder (h : LinkBecomes l k s t) : (t.link l).moveOrder = k.moveOrder := (congrArg Link.moveOrder h.self :)
theorem muteReissue (h : LinkBecomes l k s t) : (t.link l).muteReissue = k.muteReissue := (congrArg Link.muteReissue h.self :)

theorem finish (h : LinkBecomes l k s t) (s0 : State) : LinkBecomes l k s (finish s0 t) :=
  (h.keeps (keeps_tkAfter s0 t)).keeps (keeps_after _)

end LinkBecomes

theorem waits_changeState {l : Nat} {new : LinkState} {c : Option LostCause} {s : State} (h : (s.link l).state ≠ new) :
    Waits .linkState l (changeState l new c s) := by
  unfold changeState
  rw [if_neg h]
  exact (waits_raise _ _ _).of_acts (wide := .narrow) (acts_tallySees _ _ _)

/-! ## Carriers of a band -/

theorem bandCore_of_same {s t : State} (h : Part.bands.same s t) (b : Nat) : (t.band b).core = (s.band b).core := by
  have hslot (u : State) : (u.band b).core = slot Band.reset.core (u.bands.map Band.core) b :=
    (slot_map Band.core Band.reset u.bands b).symm
  rw [hslot, hslot, h]

theorem length_of_bands {s t : State} (h : Part.bands.same s t) : t.bands.length = s.bands.length := by
  have := congrArg List.length h
  simpa using this

theorem planWatch_bands (b : Nat) (s : State) : (planWatch b s).bands = s.bands := by
  unfold planWatch
  split
  · unfold invalidatePlan setPlanState
    split <;> rfl
  · rfl

theorem carrierChange_bands (b : Nat) (s : State) : (carrierChange b s).bands =
    modSlot (fun k => { k with carrierGen := k.carrierGen + 1, sparesFresh := false, sweepWanted := true }) s.bands b :=
  planWatch_bands b _

namespace CarrierChanges
variable {b n : Nat} {s t u : State}

theorem refl (b : Nat) (s : State) : CarrierChanges b 0 s s := ⟨(BitVec.add_zero _).symm, fun _ _ => rfl⟩

theorem same (h : CarrierChanges b n s t) (hb : Part.bands.same t u) : CarrierChanges b n s u :=
  ⟨(congrArg Band.carrierGen (bandCore_of_same hb b) :).trans h.1, fun m hm => (bandCore_of_same hb m).trans (h.2 m hm)⟩

/-- An operation whose frame leaves the bands. -/
theorem keeps {ps : List Part} (h : CarrierChanges b n s t) (hk : KeepsBut ps t u) (hp : .bands ∉ ps := by decide) :
    CarrierChanges b n s u := h.same (hk .bands hp)

/-- One more carrier change (R21). -/
theorem change (h : CarrierChanges b n s t) (hb : 1 ≤ b) (hb' : b ≤ t.bands.length) :
    CarrierChanges b (n + 1) s (carrierChange b t) := by
  refine ⟨?_, fun m hm => ?_⟩
  · rw [State.band, carrierChange_bands, slot_modSlot_self _ _ _ hb hb', BitVec.ofNat_add, ← BitVec.add_assoc, ← h.1]
    rfl
  · rw [State.band, carrierChange_bands, slot_modSlot_other _ _ _ hm.symm]
    exact h.2 m hm

theorem finish (h : CarrierChanges b n s t) (s0 : State) : CarrierChanges b n s (finish s0 t) :=
  (h.keeps (keeps_tkAfter s0 t)).keeps (keeps_after _)

end CarrierChanges

/-! ## The plan -/

/-- A carrier change leaves the plan, or returns a READY one to OPEN (R112). -/
theorem carrierChange_plan (b : Nat) (s : State) : (carrierChange b s).plan = s.plan ∨
    s.plan.state = .ready ∧ (carrierChange b s).plan = { s.plan with state := .opened, checked := none } := by
  unfold carrierChange planWatch
  split
  · rename_i h
    exact .inr ⟨h.1, by simp [invalidatePlan]⟩
  · exact .inl rfl

theorem carrierChange_entries (b : Nat) (s : State) : (carrierChange b s).plan.entries = s.plan.entries := by
  obtain h | ⟨-, h⟩ := carrierChange_plan b s <;> rw [h]

theorem carrierChange_plan_of_not_ready {s : State} (b : Nat) (h : s.plan.state ≠ .ready) : (carrierChange b s).plan = s.plan :=
  (carrierChange_plan b s).resolve_right fun h' => h h'.1

theorem openFor_iff (l : Nat) (e : PlanEntry) : e.openFor l = true ↔ e.link = l ∧ e.outcome = none := by
  simp [PlanEntry.openFor]

/-- A plan outcome is about the plans of two states alone. -/
theorem Decided.of_plan {l : Nat} {o : EntryOutcome} {s s' t t' : State} (hs : s'.plan = s.plan) (ht : t'.plan = t.plan)
    (h : Decided l o s t) : Decided l o s' t' := by
  unfold Decided at *
  rw [hs, ht]
  exact h

/-- An entry that receives its outcome, or stands. -/
def PlanEntry.given (l : Nat) (o : EntryOutcome) (e : PlanEntry) : PlanEntry :=
  if e.link = l ∧ e.outcome = none then { e with outcome := some o } else e

theorem map_given (l : Nat) (o : EntryOutcome) (es : List PlanEntry) :
    (es.map fun e => if e.openFor l then { e with outcome := some o } else e) = es.map (PlanEntry.given l o) :=
  List.map_congr_left fun e _ => by simp only [PlanEntry.given, openFor_iff]

theorem given_isSome (l : Nat) (o : EntryOutcome) (es : List PlanEntry) :
    (es.map (PlanEntry.given l o)).all (fun e => e.outcome.isSome) = true ↔ ∀ e ∈ es, e.outcome = none → e.link = l := by
  simp only [List.all_map, List.all_eq_true, Function.comp_apply, PlanEntry.given]
  refine forall₂_congr fun e _ => ?_
  split
  · rename_i h
    simp [h]
  · rename_i h
    rw [Option.isSome_iff_ne_none]
    exact ⟨fun hne hn => absurd hn hne, fun himp hn => h ⟨himp hn, hn⟩⟩

/-- The outcome of an APPLYING plan's entry (R116). -/
theorem decided_giveOutcome {l : Nat} {o : EntryOutcome} {s : State} (h : s.plan.state = .applying) :
    Decided l o s (giveOutcome l o s) := by
  by_cases hopen : ∃ e ∈ s.plan.entries, e.link = l ∧ e.outcome = none
  · have hany : s.plan.entries.any (PlanEntry.openFor l) = true := by
      simpa only [List.any_eq_true, openFor_iff] using hopen
    have hgive : giveOutcome l o s = finishPlan (raise .planOutcome 0 (s.modPlan fun p =>
        { p with entries := p.entries.map fun e => if e.openFor l then { e with outcome := some o } else e })) :=
      if_pos ⟨h, hany⟩
    unfold Decided
    dsimp only
    rw [hgive, finishPlan]
    simp only [raise_plan, State.modPlan_plan, map_given, given_isSome, h, true_and]
    by_cases hall : ∀ e ∈ s.plan.entries, e.outcome = none → e.link = l
    · rw [if_pos hall, if_pos ⟨hopen, hall⟩]
      simp only [setPlanState_plan, raise_plan, State.modPlan_plan]
      rfl
    · rw [if_neg hall, if_neg fun h => hall h.2]
      exact congrArg (fun st : PlanState => ({ s.plan with state := st, entries := s.plan.entries.map (PlanEntry.given l o) } : Plan)) h
  · have hany : ¬ (s.plan.state = .applying ∧ s.plan.entries.any (PlanEntry.openFor l) = true) := fun hc => hopen (by
      simpa only [List.any_eq_true, openFor_iff] using hc.2)
    have hmap : s.plan.entries.map (PlanEntry.given l o) = s.plan.entries :=
      (List.map_congr_left fun e he => if_neg fun hc => hopen ⟨e, he, hc⟩).trans (List.map_id' _)
    unfold Decided
    dsimp only
    rw [giveOutcome, if_neg hany, if_neg fun hc => hopen hc.1]
    exact congrArg (fun es => ({ s.plan with entries := es } : Plan)) hmap.symm

theorem Decided.entries {l : Nat} {o : EntryOutcome} {s t : State} (h : Decided l o s t) :
    t.plan.entries = s.plan.entries.map fun e => if e.link = l ∧ e.outcome = none then { e with outcome := some o } else e :=
  (congrArg Plan.entries h :)

/-- The last outcome that was missing makes the plan DONE (R116). -/
theorem Decided.done_iff {l : Nat} {o : EntryOutcome} {s t : State} (h : Decided l o s t) (hst : s.plan.state ≠ .done)
    (hopen : ∃ e ∈ s.plan.entries, e.link = l ∧ e.outcome = none) :
    t.plan.state = .done ↔ ∀ e ∈ s.plan.entries, e.outcome = none → e.link = l := by
  have hstate := (congrArg Plan.state h :)
  dsimp only at hstate
  rw [hstate]
  split
  · rename_i hall
    exact ⟨fun _ => hall.2, fun _ => rfl⟩
  · rename_i hno
    exact ⟨fun hd => absurd hd hst, fun hall => absurd ⟨hopen, hall⟩ hno⟩

theorem giveOutcome_of_not_applying {l : Nat} {o : EntryOutcome} {s : State} (h : s.plan.state ≠ .applying) :
    giveOutcome l o s = s := if_neg fun hc => h hc.1

theorem waits_giveOutcome {l : Nat} {o : EntryOutcome} {s : State} (h : s.plan.state = .applying)
    (hopen : ∃ e ∈ s.plan.entries, e.link = l ∧ e.outcome = none) : Waits .planOutcome 0 (giveOutcome l o s) := by
  have hany : s.plan.entries.any (PlanEntry.openFor l) = true := by simpa only [List.any_eq_true, openFor_iff] using hopen
  rw [giveOutcome, if_pos ⟨h, hany⟩]
  exact (waits_raise _ _ _).of_acts (wide := .narrow) (acts_finishPlan _)

/-! ## The end of an event, and the requests and steps that it ends -/

theorem notified_finish {c : Cause} {o : Nat} {s1 : State} (h : Waits c o s1) (s0 : State) : Notified c o (finish s0 s1) :=
  notified_after (h.of_acts (wide := .narrow) (acts_tkAfter s0 s1))

@[simp] theorem finish_plan (s0 s1 : State) : (finish s0 s1).plan = s1.plan :=
  (keeps_after _ .plan (by decide) : (finish s0 s1).plan = (tkAfter s0 s1).plan).trans (keeps_tkAfter s0 s1 .plan (by decide))

theorem keeps_finishTail (s0 s1 : State) : KeepsBut tailParts s1 (finish s0 s1) :=
  (keeps_tkAfter s0 s1).andThen (keeps_after _) (by decide) (by decide)

/-- The state in which a step that fell due acts: the step is no longer owed. -/
def State.without (o : Owed) (s : State) : State := { s with owed := s.owed.filter fun x => decide (x ≠ o) }

theorem keeps_without (o : Owed) (s : State) : KeepsBut [.owed] s (s.without o) := keeps_owed _ s

theorem takeOwed_of_due {o : Owed} {s : State} (h : Due o s) :
    takeOwed o s = finish (s.without o) (owedStep o (s.without o)) := by
  obtain ⟨hmem, hbehind⟩ := h
  refine if_pos ?_
  rw [hbehind]
  simpa using hmem

/-- The frame of a step taken, from the frame of what it does. -/
theorem keeps_dueStep {o : Owed} {s t : State} {ps : List Part} (h : KeepsBut ps (s.without o) t) :
    KeepsBut (.owed :: (ps ++ tailParts)) s (finish (s.without o) t) := by
  have howed : KeepsBut (.owed :: (ps ++ tailParts)) s (s.without o) := (keeps_without o s).mono (by simp)
  have hstep : KeepsBut (.owed :: (ps ++ tailParts)) (s.without o) t := h.mono fun p hp => by simp [hp]
  exact (howed.trans hstep).trans ((keeps_finishTail _ t).mono fun p hp => by simp [hp])

section requests
variable {α : Type} {code : Nat} {f : HostFrame} {s s1 : State} {read : List Byte → Option α} {act : α → State → Answered} {a : α}

/-- A request that its owner carries out ends as an event of links, routes, keys or zones. -/
theorem request_finishes {body : List Byte} (ht : Takes code f s) (hr : read f.payload = some a)
    (hact : act a (dropHead s) = okWith body s1) :
    request code read act finish s = .next (finish s (putReply f (u8 0 ++ body) s1)) := by
  have hok : carriedOut (u8 0 ++ body) = true := rfl
  rw [request_of_takes ht hr, hact]
  exact congrArg Host.Outcome.next (if_pos hok)

/-- A request whose payload cannot be read is refused (R190). -/
theorem request_unreadable {rest : State → State → State} (ht : Takes code f s) (hr : read f.payload = none) :
    ∃ t, request code read act rest s = .next t ∧ Refuses .badArgument f s t := by
  obtain ⟨howed, htakes⟩ := ht
  have hanswer : answer f read act (dropHead s) = refuse .badArgument (dropHead s) := by rw [answer, hr]
  refine ⟨kick (putReply f (u8 Result.badArgument.code) (dropHead s)), ?_, replies_of_kick rfl, ?_⟩
  · rw [request, settleOwed_of_nil s howed, htakes]
    dsimp only
    rw [hanswer]
    rfl
  · exact (((keeps_dropHead s).mono (by decide)).trans ((keeps_putReply f _ _).mono (by decide))).trans (keeps_kick _)

theorem replies_of_finish {p : List Byte} (hmp : s1.mp = (dropHead s).mp) (s0 : State) :
    Replies f p s (finish s0 (putReply f p s1)) := by
  show Replies f p s (kick (pump (tkAfter s0 (putReply f p s1))))
  have htk : (tkAfter s0 (putReply f p s1)).mp = (putReply f p s1).mp := keeps_tkAfter s0 _ .mp (by decide)
  obtain ⟨hbuf, hreply⟩ := kick_keeps_reply (s := pump (tkAfter s0 (putReply f p s1)))
    (r := { kind := replyKind f.kind, tag := f.tag, payload := p }) (by rw [pump_mp, htk]; rfl)
  exact ⟨hbuf.trans (by rw [pump_mp, htk]; exact congrArg Mp.buffer hmp), hreply⟩

/-- The frame of a request carried out, from the frame of what its owner does. -/
theorem keeps_finish_reply {ps : List Part} {p : List Byte} (h : KeepsBut ps (dropHead s) s1) (s0 : State) :
    KeepsBut (ps ++ tailParts) s (finish s0 (putReply f p s1)) := by
  have hdrop : KeepsBut (ps ++ tailParts) s (dropHead s) := (keeps_dropHead s).mono fun p hp => by
    simp only [List.mem_singleton] at hp
    simp [hp, tailParts, afterParts]
  have hput : KeepsBut (ps ++ tailParts) s1 (putReply f p s1) := (keeps_putReply f p s1).mono fun p hp => by
    simp only [List.mem_singleton] at hp
    simp [hp, tailParts, afterParts]
  exact ((hdrop.trans (h.mono fun p hp => by simp [hp])).trans hput).trans
    ((keeps_finishTail s0 _).mono fun p hp => by simp [hp])

end requests

end Sys2Proof.Machine

/-! Silence, deadlines and the effective frame of a vacate (O13 to O16): what becomes of a link, its carrier and its plan entry. -/

namespace Sys2Proof.Machine

-- One theorem at a time: all at once, their threads together outgrow the memory limit of the check.
set_option Elab.async false

theorem moveOutcome_of_not {l : Nat} {g : Option Origin} {o : EntryOutcome} {u : State}
    (h : g ≠ some .plan ∨ u.plan.state ≠ .applying) : moveOutcome l g o u = u := by
  unfold moveOutcome
  split
  · rename_i hg
    exact giveOutcome_of_not_applying (h.resolve_left fun hc => hc hg)
  · rfl

/-- The outcome of a move of the launched plan. -/
theorem decided_moveOutcome {l : Nat} {g : Option Origin} {o : EntryOutcome} {s u : State} (hg : g = some .plan) (hu : u.plan = s.plan)
    (happ : s.plan.state = .applying) : Decided l o s (moveOutcome l g o u) := by
  rw [moveOutcome, if_pos hg]
  exact (decided_giveOutcome (s := u) (hu ▸ happ)).of_plan hu.symm rfl

/-- The record of a link at rest from its move: the pending step and the move's fields are absent. -/
def Link.unmoved (k : Link) : Link := { k with pending := none, origin := none, effectiveFrame := none, deadline := none }

/-- The record of a link for which silence is declared. -/
def Link.silenced (k : Link) : Link :=
  Link.enter .lost (some .silent)
    (if k.state = .retuning ∨ k.state = .reverting then Link.unmoved { k with silenceCounter := 0 } else { k with silenceCounter := 0 })

/-- What silence does to a link in a counted state, before the end of the event (R82, R83, R108, R116). -/
structure Silences (l : Nat) (s t : State) : Prop where
  link : LinkBecomes l (s.link l).silenced s t
  told : Waits .linkState l t
  carrier : CarrierChanges (s.link l).cfg.band (if (s.link l).state = .retuning then 1 else 0) s t
  decided : (s.link l).state = .retuning ∨ (s.link l).state = .reverting → (s.link l).origin = some .plan →
    s.plan.state = .applying → Decided l .lost s t
  stands : ¬ ((s.link l).state = .retuning ∨ (s.link l).state = .reverting) ∨ (s.link l).origin ≠ some .plan ∨
      s.plan.state ≠ .applying →
    t.plan.entries = s.plan.entries ∧ ((s.link l).state ≠ .retuning ∨ s.plan.state ≠ .ready → t.plan = s.plan)

section silence
variable {s : State} {l : Nat}

theorem link_modLink_self (hl : 1 ≤ l) (hl' : l ≤ s.links.length) (f : Link → Link) : (s.modLink l f).link l = f (s.link l) :=
  slot_modSlot_self _ _ _ hl hl'

/-- The carrier that a retune in flight holds besides is given up (R108). -/
theorem abandonMove_eq (l : Nat) (s : State) :
    abandonMove l s = moveOutcome l (s.link l).origin .lost (changeState l .lost (some .silent)
      (if (s.link l).state = .retuning then release (s.link l).cfg.band (s.modLink l Link.unmoved) else s.modLink l Link.unmoved)) := rfl

theorem changeState_plan (l : Nat) (new : LinkState) (c : Option LostCause) (s : State) : (changeState l new c s).plan = s.plan :=
  keeps_changeState l new c s .plan (by decide)

theorem silences_goSilent (hl : 1 ≤ l) (hl' : l ≤ s.links.length) (hb : 1 ≤ (s.link l).cfg.band)
    (hb' : (s.link l).cfg.band ≤ s.bands.length) (hc : (s.link l).state.counted = true) : Silences l s (goSilent l s) := by
  let k0 : Link := { s.link l with silenceCounter := 0 }
  let s1 := s.modLink l fun k => { k with silenceCounter := 0 }
  have hk : s1.link l = k0 := link_modLink_self hl hl' _
  have h1 : LinkBecomes l k0 s s1 := (LinkBecomes.refl l s).modLink (f := fun k => { k with silenceCounter := 0 }) hl hl'
  have hstill (hst : ¬ ((s.link l).state = .retuning ∨ (s.link l).state = .reverting)) (hne : (s.link l).state ≠ .lost) :
      Silences l s (changeState l .lost (some .silent) s1) := by
    have hplan : (changeState l .lost (some .silent) s1).plan = s.plan := changeState_plan ..
    refine ⟨?_, waits_changeState (by rw [hk]; exact hne), ?_, fun h => absurd h hst, fun _ => ⟨congrArg _ hplan, fun _ => hplan⟩⟩
    · rw [Link.silenced, if_neg hst]
      exact h1.changeState hl hl' hne
    · rw [if_neg fun h => hst (.inl h)]
      exact ((CarrierChanges.refl _ s).keeps (keeps_modLink s l _)).keeps (keeps_changeState _ _ _ _)
  have hmove (hst : (s.link l).state = .retuning ∨ (s.link l).state = .reverting) : Silences l s (abandonMove l s1) := by
    let s2 := s1.modLink l Link.unmoved
    let s3 := if (s.link l).state = .retuning then release (s.link l).cfg.band s2 else s2
    have heq : abandonMove l s1 = moveOutcome l (s.link l).origin .lost (changeState l .lost (some .silent) s3) := by
      rw [abandonMove_eq, hk]
    have hne : (s.link l).state ≠ .lost := by rintro h; simp [h] at hst
    have hkeeps : KeepsBut carrierParts s2 s3 := .ite (keeps_release _ _) (.refl _ _)
    have h3 : LinkBecomes l (Link.unmoved k0) s s3 := (h1.modLink (f := Link.unmoved) hl hl').keeps hkeeps
    have hplan : s3.plan = s.plan ∨ ((s.link l).state = .retuning ∧ s.plan.state = .ready) ∧
        s3.plan = { s.plan with state := .opened, checked := none } := by
      by_cases hr : (s.link l).state = .retuning
      · have he : s3 = carrierChange (s.link l).cfg.band s2 := if_pos hr
        rw [he]
        exact (carrierChange_plan _ s2).imp id fun h => ⟨⟨hr, h.1⟩, h.2⟩
      · exact .inl (congrArg State.plan (if_neg hr : s3 = s2) :)
    have hchange : (changeState l .lost (some .silent) s3).plan = s3.plan := changeState_plan ..
    rw [heq]
    have hst3 : (s3.link l).state = (s.link l).state := (congrArg Link.state h3.self :)
    refine ⟨?_, ?_, ?_, fun _ hg happ => ?_, fun hno => ?_⟩
    · rw [Link.silenced, if_pos hst]
      exact (h3.changeState hl hl' hne).keeps (keeps_moveOutcome _ _ _ _)
    · exact (waits_changeState (by rwa [hst3])).of_acts (wide := .narrow) (acts_moveOutcome _ _ _ _)
    · refine CarrierChanges.keeps (CarrierChanges.keeps ?_ (keeps_changeState _ _ _ _)) (keeps_moveOutcome _ _ _ _)
      have h2 : CarrierChanges (s.link l).cfg.band 0 s s2 :=
        ((CarrierChanges.refl _ s).keeps (keeps_modLink s l _)).keeps (keeps_modLink s1 l _)
      by_cases hr : (s.link l).state = .retuning
      · rw [if_pos hr, show s3 = carrierChange (s.link l).cfg.band s2 from if_pos hr]
        exact h2.change hb hb'
      · rw [if_neg hr, show s3 = s2 from if_neg hr]
        exact h2
    · have hsame : s3.plan = s.plan := hplan.resolve_right fun h => by rw [happ] at h; exact absurd h.1.2 PlanState.noConfusion
      exact decided_moveOutcome hg (hchange.trans hsame) happ
    · have hout : moveOutcome l (s.link l).origin .lost (changeState l .lost (some .silent) s3) =
          changeState l .lost (some .silent) s3 := by
        refine moveOutcome_of_not ?_
        rw [hchange]
        refine (hno.resolve_left fun h => h hst).imp id fun hna => ?_
        obtain h | ⟨-, h⟩ := hplan <;> rw [h]
        · exact hna
        · exact PlanState.noConfusion
      rw [hout, hchange]
      refine ⟨?_, fun hnr => hplan.resolve_right fun h => hnr.elim (fun hn => hn h.1.1) fun hn => hn h.1.2⟩
      obtain h | ⟨-, h⟩ := hplan <;> rw [h]
  unfold goSilent
  cases hst : (s.link l).state <;> simp only [hst, LinkState.counted] at hc hstill hmove
  case acquiring | locked | fading => exact hstill (by simp) (by simp)
  case retuning => exact hmove (.inl trivial)
  case reverting => exact hmove (.inr trivial)
  all_goals exact absurd hc Bool.false_ne_true

/-- The end of the event tells the host, and leaves what the silence did. -/
theorem Silences.ends {s t u : State} {l : Nat} (h : Silences l s t) (hu : KeepsBut [.mp] t u) (s0 : State) :
    let k := s.link l
    let moving := k.state = .retuning ∨ k.state = .reverting
    let v := finish s0 u
    (v.link l).core = k.silenced.core ∧ Notified .linkState l v ∧ LinkAlone l s v ∧
      CarrierChanges k.cfg.band (if k.state = .retuning then 1 else 0) s v ∧
      (moving → k.origin = some .plan → s.plan.state = .applying → Decided l .lost s v) ∧
      (¬ moving ∨ k.origin ≠ some .plan ∨ s.plan.state ≠ .applying → v.plan.entries = s.plan.entries ∧
        (k.state ≠ .retuning ∨ s.plan.state ≠ .ready → v.plan = s.plan)) := by
  have hplan : (finish s0 u).plan = t.plan := (finish_plan _ _).trans (hu .plan (by decide))
  have hlink := (h.link.keeps hu).finish s0
  refine ⟨hlink.self, notified_finish (h.told.of_same (hu .notices (by decide))) s0, hlink.alone, (h.carrier.keeps hu).finish s0,
    fun hm hg happ => (h.decided hm hg happ).of_plan rfl hplan, fun hno => ?_⟩
  rw [hplan]
  exact h.stands hno

end silence

/-! ## SILENCE_EXPIRY and LINK_FORCE_SILENCE (O13) -/

theorem isLink_iff (l : Nat) : isLink l = true ↔ 1 ≤ l ∧ l ≤ 48 := by
  simp only [isLink, oneTo, Bool.and_eq_true, decide_eq_true_eq]
  rfl

theorem isLink_of_le {l : Nat} (h : 1 ≤ l) (h' : l ≤ 48) : isLink l ≠ false := by
  rw [(isLink_iff l).2 ⟨h, h'⟩]
  exact Bool.noConfusion

/-- What silence leaves in the record (R83). -/
theorem Link.silenced_fields (k : Link) :
    k.silenced.state = .lost ∧ k.silenced.lostCause = some .silent ∧ k.silenced.assigned = k.assigned ∧ k.silenced.silenceCounter = 0 ∧
      (k.state = .retuning ∨ k.state = .reverting → k.silenced.pending = none ∧ k.silenced.origin = none ∧
        k.silenced.effectiveFrame = none ∧ k.silenced.deadline = none) := by
  unfold Link.silenced
  by_cases h : k.state = .retuning ∨ k.state = .reverting
  · rw [if_pos h]
    exact ⟨rfl, rfl, rfl, rfl, fun _ => ⟨rfl, rfl, rfl, rfl⟩⟩
  · rw [if_neg h]
    exact ⟨rfl, rfl, rfl, rfl, fun hm => absurd hm h⟩

theorem forceSilence_of_counted {s : State} {l : Nat} (hl : 1 ≤ l) (hl' : l ≤ 48) (hc : (s.link l).state.counted = true) :
    forceSilence l s = okWith (u8 ((goSilent l s).link l).state.code) (goSilent l s) := by
  rw [forceSilence, if_neg (isLink_of_le hl hl'), if_neg (by rw [hc]; exact Bool.noConfusion)]

/-- Settles O13. -/
theorem silenceMakesLost : Obligations.SilenceMakesLost := by
  intro s l hs k moving lost
  have hbands : s.bands.length = 4 := hs.1
  have hlinks : s.links.length = 48 := hs.2.1
  have hlost {t : State} (hcore : (t.link l).core = k.silenced.core) (hrest : Notified .linkState l t ∧ LinkAlone l s t ∧
      CarrierChanges k.cfg.band (if k.state = .retuning then 1 else 0) s t ∧
      (moving → k.origin = some .plan → s.plan.state = .applying → Decided l .lost s t) ∧
      (¬ moving ∨ k.origin ≠ some .plan ∨ s.plan.state ≠ .applying → t.plan.entries = s.plan.entries ∧
        (k.state ≠ .retuning ∨ s.plan.state ≠ .ready → t.plan = s.plan))) : lost t := by
    obtain ⟨hst, hcause, ha, hc, hm⟩ := k.silenced_fields
    refine ⟨(congrArg Link.state hcore :).trans hst, (congrArg Link.lostCause hcore :).trans hcause,
      (congrArg Link.assigned hcore :).trans ha, (congrArg Link.silenceCounter hcore :).trans hc, fun hmove => ?_, hrest⟩
    obtain ⟨hp, ho, he, hd⟩ := hm hmove
    exact ⟨(congrArg Link.pending hcore :).trans hp, (congrArg Link.origin hcore :).trans ho,
      (congrArg Link.effectiveFrame hcore :).trans he, (congrArg Link.deadline hcore :).trans hd⟩
  refine ⟨fun hl hl' hc hb hb' => ⟨fun hdue hmode hzero => ?_, fun f ht hr => ?_⟩, fun f ht => ⟨fun hr hl hl' hc => ?_, fun hbad => ?_⟩⟩
  · have hsil := silences_goSilent (s := s.without (.silence l)) hl (hlinks ▸ hl') hb (hbands ▸ hb') hc
    have hstep : owedStep (.silence l) (s.without (.silence l)) = goSilent l (s.without (.silence l)) := by
      refine if_pos ⟨hmode, ?_⟩
      rw [State.silentAt]
      exact Bool.and_eq_true_iff.2 ⟨hc, decide_eq_true hzero⟩
    obtain ⟨hcore, hrest⟩ := hsil.ends (.refl _ _) (s.without (.silence l))
    refine ⟨_, congrArg Host.Outcome.next (takeOwed_of_due hdue), ?_, ?_⟩
    · rw [hstep]
      exact hlost hcore hrest
    · rw [hstep]
      exact (keeps_dueStep (keeps_goSilent _ _)).mono (by decide)
  · have hsil := silences_goSilent (s := dropHead s) hl (hlinks ▸ hl') hb (hbands ▸ hb') hc
    have hact := forceSilence_of_counted (s := dropHead s) hl hl' hc
    have hcode : ((goSilent l (dropHead s)).link l).state.code = LinkState.lost.code :=
      by
      have hst : ((goSilent l (dropHead s)).link l).state = k.silenced.state := (congrArg Link.state hsil.link.self :)
      rw [hst, k.silenced_fields.1]
    obtain ⟨hcore, hrest⟩ := hsil.ends (keeps_putReply f (u8 0 ++ u8 ((goSilent l (dropHead s)).link l).state.code) _) s
    refine ⟨_, request_finishes ht hr hact, hlost hcore hrest, ?_, ?_⟩
    · rw [hcode]
      exact replies_of_finish (keeps_goSilent l (dropHead s) .mp (by decide)) s
    · exact (keeps_finish_reply (keeps_goSilent l (dropHead s)) s).mono (by decide)
  · refine request_refuses ht hr ?_ rfl
    exact (if_neg (isLink_of_le hl hl')).trans (if_pos hc)
  · obtain hnone | ⟨hr, hno⟩ := hbad
    · exact request_unreadable ht hnone
    · exact request_refuses ht hr (if_pos ((isLink_eq_false_iff l).2 hno)) rfl


/-! ## Acquisition and revert deadlines (O14) -/

section deadlines
variable {s : State} {l : Nat}

theorem deadlineAt_iff (st : LinkState) : s.deadlineAt st l = true ↔ (s.link l).state = st ∧ (s.link l).deadline = some s.now := by
  rw [State.deadlineAt, Bool.and_eq_true, decide_eq_true_eq, decide_eq_true_eq]

theorem acquireStep_of_due (hmode : s.mode = .run) (hst : (s.link l).state = .acquiring) (hd : (s.link l).deadline = some s.now) :
    acquireStep l s = changeState l .lost (some .noLock) s := if_pos ⟨hmode, (deadlineAt_iff _).2 ⟨hst, hd⟩⟩

theorem revertStep_of_due (hmode : s.mode = .run) (hst : (s.link l).state = .reverting) (hd : (s.link l).deadline = some s.now) :
    revertStep l s = revertFails l s := if_pos ⟨hmode, (deadlineAt_iff _).2 ⟨hst, hd⟩⟩

theorem retuneStep_of_due (hmode : s.mode = .run) (hst : (s.link l).state = .retuning) (hd : (s.link l).deadline = some s.now) :
    retuneStep l s = startRevert l s := if_pos ⟨hmode, (deadlineAt_iff _).2 ⟨hst, hd⟩⟩

/-- The record of a link whose move has no outcome to wait for any more. -/
def Link.settled (k : Link) : Link := { k with origin := none, effectiveFrame := none, deadline := none }

theorem revertFails_eq (l : Nat) (s : State) : revertFails l s =
    moveOutcome l (s.link l).origin .lost (changeState l .lost (some .revertFailed) (s.modLink l Link.settled)) := rfl

theorem keeps_revertFails_narrow (l : Nat) (s : State) : KeepsBut (.plan :: stateParts) s (revertFails l s) :=
  (((keeps_modLink_core s l Link.settled (fun _ => rfl) fun _ => rfl).mono (by decide)).trans
    ((keeps_changeState l .lost (some .revertFailed) _).mono (by decide))).trans ((keeps_moveOutcome l _ .lost _).mono (by decide))

/-- What a revert that fails does (R107). -/
theorem revertFails_does (hl : 1 ≤ l) (hl' : l ≤ s.links.length) (hst : (s.link l).state = .reverting) :
    LinkBecomes l (Link.enter .lost (some .revertFailed) (s.link l).settled) s (revertFails l s) ∧
      Waits .linkState l (revertFails l s) ∧
      ((s.link l).origin = some .plan → s.plan.state = .applying → Decided l .lost s (revertFails l s)) ∧
      ((s.link l).origin ≠ some .plan ∨ s.plan.state ≠ .applying → (revertFails l s).plan = s.plan) := by
  have hne : (s.link l).settled.state ≠ .lost := by
    show (s.link l).state ≠ .lost
    rw [hst]
    exact LinkState.noConfusion
  have h1 : LinkBecomes l (s.link l).settled s (s.modLink l Link.settled) := (LinkBecomes.refl l s).modLink (f := Link.settled) hl hl'
  have hplan : (changeState l .lost (some .revertFailed) (s.modLink l Link.settled)).plan = s.plan := changeState_plan ..
  rw [revertFails_eq]
  refine ⟨(h1.changeState hl hl' hne).keeps (keeps_moveOutcome _ _ _ _), ?_, fun hg happ => decided_moveOutcome hg hplan happ,
    fun hno => ?_⟩
  · refine (waits_changeState ?_).of_acts (wide := .narrow) (acts_moveOutcome _ _ _ _)
    rw [link_modLink_self hl hl']
    exact hne
  · rw [moveOutcome_of_not (hplan ▸ hno), hplan]

end deadlines

/-- Settles O14. -/
theorem deadlineMakesLost : Obligations.DeadlineMakesLost := by
  intro s l hs hl hl' hmode hd
  have hlinks : l ≤ s.links.length := hs.2.1.symm ▸ hl'
  refine ⟨fun hdue hst => ?_, fun hdue hst => ?_⟩
  · have hne : (s.link l).state ≠ .lost := by rw [hst]; exact LinkState.noConfusion
    have hstep : owedStep (.acquire l) (s.without (.acquire l)) = changeState l .lost (some .noLock) (s.without (.acquire l)) :=
      acquireStep_of_due hmode hst hd
    have htold := waits_changeState (s := s.without (.acquire l)) (c := some .noLock) (l := l) hne
    have hlink := (((LinkBecomes.refl l s).keeps (keeps_without (.acquire l) s)).changeState hl hlinks (new := .lost) (c := some .noLock)
      hne).finish (s.without (.acquire l))
    refine ⟨_, congrArg Host.Outcome.next (takeOwed_of_due hdue), ?_⟩
    rw [hstep]
    exact ⟨hlink.state, hlink.lostCause, hlink.assigned, notified_finish htold _, hlink.alone, (keeps_dueStep (keeps_changeState _ _ _ _)).mono (by decide)⟩
  · have hstep : owedStep (.revert l) (s.without (.revert l)) = revertFails l (s.without (.revert l)) :=
      revertStep_of_due hmode hst hd
    obtain ⟨hlink, htold, hdec, hstands⟩ := revertFails_does (s := s.without (.revert l)) hl hlinks hst
    have hlink := hlink.finish (s.without (.revert l))
    refine ⟨_, congrArg Host.Outcome.next (takeOwed_of_due hdue), ?_⟩
    rw [hstep]
    exact ⟨hlink.state, hlink.lostCause, hlink.assigned, hlink.origin, hlink.effectiveFrame, hlink.deadline,
      notified_finish htold _, hlink.alone, fun hg happ => (hdec hg happ).of_plan rfl (finish_plan _ _),
      fun hno => (finish_plan _ _).trans (hstands hno), (keeps_dueStep (keeps_revertFails_narrow _ _)).mono (by decide)⟩

/-! ## The deadline of a retune (O15) -/

section revert
variable {s : State} {l : Nat}

/-- A field that an update of a record leaves, it leaves in every record of the table. -/
theorem slot_modSlot_field {α β : Type} (g : α → β) (d : α) (f : α → α) (xs : List α) (n m : Nat) (h : ∀ x, g (f x) = g x) :
    g (slot d (modSlot f xs n) m) = g (slot d xs m) := by
  rw [← slot_map g d, map_modSlot g f xs n h, slot_map]

theorem carrierChange_p (b m : Nat) (s : State) : ((carrierChange b s).band m).p = (s.band m).p := by
  rw [State.band, carrierChange_bands]
  exact slot_modSlot_field Band.p Band.reset _ s.bands b m fun _ => rfl

/-- The carrier of the retune is given up, before the TUNE that sends the unit back (R105). -/
def revertReleases (l : Nat) (s : State) : State := release (s.link l).cfg.band (s.modLink l fun k => { k with pending := none })

/-- The TUNE of a revert. -/
def revertTunes (l : Nat) (s : State) : Issued :=
  issueTune l ((s.link l).assigned.getD 0) s.nextEffective (.rcRevert l) (revertReleases l s)

/-- The record of a link that is to revert, before its change of state. -/
def Link.sentBack (e : FrameNo) (k : Link) : Link :=
  { k with effectiveFrame := some e, deadline := some (framePlus e k.cfg.confirmWindow) }

theorem startRevert_eq (l : Nat) (s : State) :
    startRevert l s = changeState l .reverting none ((revertTunes l s).state.modLink l (Link.sentBack s.nextEffective)) := rfl

theorem keeps_revertReleases (l : Nat) (s : State) : KeepsBut (.links :: carrierParts) s (revertReleases l s) :=
  ((keeps_modLink_core s l (fun k => { k with pending := none }) (fun _ => rfl) fun _ => rfl).mono
    (qs := .links :: carrierParts) (by decide)).trans ((keeps_release _ _).mono (by decide))

theorem issues_changeState {new : LinkState} {c : Option LostCause} (h : (s.link l).state.inService = true → new.inService = true)
    (hl : 1 ≤ l) (hl' : l ≤ s.links.length) : Issues Issuer.ofTally s (changeState l new c s) := by
  unfold changeState
  dsimp only
  split
  · exact .refl s
  · refine (Issues.units (s := s) (t := raise .linkState l (s.modLink l (Link.enter new c))) rfl).trans (issues_tallySees l (old := (s.link l).state) fun hold => ?_)
    have hst : ((raise .linkState l (s.modLink l (Link.enter new c))).link l).state = new := by
      have hself : (raise .linkState l (s.modLink l (Link.enter new c))).link l = Link.enter new c (s.link l) :=
        link_modLink_self hl hl' (Link.enter new c)
      rw [hself]
      unfold Link.enter
      dsimp only
      split <;> rfl
    rw [hst]
    exact h hold

/-- The record of a link that reverts (R105). -/
def Link.reverting (e : FrameNo) (k : Link) : Link := Link.enter .reverting none (Link.sentBack e { k with pending := none })

section
variable (hl : 1 ≤ l) (hl' : l ≤ s.links.length) (hst : (s.link l).state = .retuning)
include hl hl'

theorem linkBecomes_revertReleases : LinkBecomes l { s.link l with pending := none } s (revertReleases l s) :=
  ((LinkBecomes.refl l s).modLink (f := fun k => { k with pending := none }) hl hl').keeps (keeps_release _ _)

theorem linkBecomes_sentBack : LinkBecomes l (Link.sentBack s.nextEffective { s.link l with pending := none }) s
    ((revertTunes l s).state.modLink l (Link.sentBack s.nextEffective)) :=
  ((linkBecomes_revertReleases hl hl').keeps (keeps_issueTune _ _ _ _ _)).modLink (f := Link.sentBack s.nextEffective) hl hl'

include hst

/-- What the start of a revert does (R105). -/
theorem startRevert_does (hb : 1 ≤ (s.link l).cfg.band) (hb' : (s.link l).cfg.band ≤ s.bands.length) :
    LinkBecomes l ((s.link l).reverting s.nextEffective) s (startRevert l s) ∧ Waits .linkState l (startRevert l s) ∧
      CarrierChanges (s.link l).cfg.band 1 s (startRevert l s) := by
  have h := linkBecomes_sentBack hl hl'
  have hne : (Link.sentBack s.nextEffective { s.link l with pending := none }).state ≠ .reverting := by
    show (s.link l).state ≠ .reverting
    rw [hst]
    exact LinkState.noConfusion
  rw [startRevert_eq]
  refine ⟨h.changeState hl hl' hne, waits_changeState (h.state ▸ hne), ?_⟩
  have hrelease : CarrierChanges (s.link l).cfg.band 1 s (revertReleases l s) :=
    ((CarrierChanges.refl _ s).keeps (keeps_modLink s l _)).change hb hb'
  exact ((hrelease.keeps (keeps_issueTune _ _ _ _ _)).keeps (keeps_modLink _ _ _)).keeps (keeps_changeState _ _ _ _)

/-- The TUNE of a revert goes out, or its unit is full (R105). -/
theorem startRevert_orders (hs : s.units.length = 25) (hu : 1 ≤ (s.link l).cfg.unit) (hu' : (s.link l).cfg.unit ≤ 24) :
    Ordered (s.link l).cfg.unit (.tune (s.link l).cfg.channel
        ((s.band (s.link l).cfg.band).p.baseKhz + 25 * (s.link l).assigned.getD 0) s.nextEffective) (.rcRevert l) s (startRevert l s) ∨
      s.unitFull (s.link l).cfg.unit := by
  have hcfg : ((revertReleases l s).link l).cfg = (s.link l).cfg := (linkBecomes_revertReleases hl hl').cfg
  have hkhz (n : Nat) : (revertReleases l s).khz l n = (s.band (s.link l).cfg.band).p.baseKhz + 25 * n := by
    rw [State.khz, hcfg]
    exact congrArg (fun p : BandParams => p.baseKhz + 25 * n) (carrierChange_p _ _ (s.modLink l fun k => { k with pending := none }))
  have hunits : (revertReleases l s).units = s.units := keeps_revertReleases l s .units (by decide)
  have hnow : (revertReleases l s).now = s.now := congrArg Ftb.counter (keeps_revertReleases l s .ftb (by decide))
  have hr : revertTunes l s = issue (s.link l).cfg.unit (.tune (s.link l).cfg.channel
      ((s.band (s.link l).cfg.band).p.baseKhz + 25 * (s.link l).assigned.getD 0) s.nextEffective) (.rcRevert l) (revertReleases l s) := by
    rw [revertTunes, issueTune, hcfg, hkhz]
  have hback := linkBecomes_sentBack hl hl'
  obtain h | ⟨-, h⟩ := ordered_or_full (s := revertReleases l s) (hunits ▸ hs) (mem_unitAddresses.2 (.inl ⟨hu, hu'⟩)) (.tune
      (s.link l).cfg.channel ((s.band (s.link l).cfg.band).p.baseKhz + 25 * (s.link l).assigned.getD 0) s.nextEffective) (.rcRevert l)
  · left
    rw [← hr] at h
    rw [startRevert_eq]
    refine (h.of_now hnow).issues displaceable_tune
      ((Issues.keeps (keeps_modLink _ _ _)).trans (issues_changeState (fun hin => ?_) hl (hback.length ▸ hl')))
    have hold : (((revertTunes l s).state.modLink l (Link.sentBack s.nextEffective)).link l).state = .retuning := hback.state.trans hst
    rw [hold] at hin
    exact absurd hin Bool.false_ne_true
  · exact .inr (unitFull_of_units hunits h)

end

end revert

/-- Settles O15. -/
theorem retuneDeadlineReverts : Obligations.RetuneDeadlineReverts := by
  intro s l hs hl hl' hmode hdue hst hd hb hb' hu hu' k e
  obtain ⟨hbands, hlinks, hunits, -⟩ := hs
  have hlen : l ≤ (s.without (.retune l)).links.length := hlinks.symm ▸ hl'
  have hstep : owedStep (.retune l) (s.without (.retune l)) = startRevert l (s.without (.retune l)) := retuneStep_of_due hmode hst hd
  obtain ⟨hlink, htold, hcarrier⟩ := startRevert_does (s := s.without (.retune l)) hl hlen hst hb (hbands.symm ▸ hb')
  have horder := startRevert_orders (s := s.without (.retune l)) hl hlen hst hunits hu hu'
  have hlink := hlink.finish (s.without (.retune l))
  refine ⟨_, congrArg Host.Outcome.next (takeOwed_of_due hdue), ?_⟩
  rw [hstep]
  exact ⟨hlink.state, hlink.pending, hlink.assigned, hlink.origin, hlink.effectiveFrame, hlink.deadline, notified_finish htold _,
    hlink.alone, hcarrier.finish _, horder.imp (fun h => h.issues displaceable_tune (issues_finish _ _)) id,
    (keeps_dueStep (keeps_startRevert l _)).mono (by decide)⟩

/-! ## The effective frame of a vacate (O16) -/

/-- Settles O16. -/
theorem vacateTakesEffect : Obligations.VacateTakesEffect := by
  intro s l hs hl hl' hdue happ heff hst hopen hb hb'
  obtain ⟨hbands, hlinks, -⟩ := hs
  let s1 := s.without (.vacate l)
  let s2 := release (s.link l).cfg.band s1
  let s3 := changeState l .idle none s2
  have hne : (s.link l).state ≠ .idle := by rw [hst]; exact LinkState.noConfusion
  have h2 : LinkBecomes l (s.link l) s s2 := ((LinkBecomes.refl l s).keeps (keeps_without _ s)).keeps (keeps_release _ _)
  have h3 : LinkBecomes l (Link.enter .idle none (s.link l)) s s3 := h2.changeState hl (hlinks.symm ▸ hl') hne
  have hplan : s3.plan = s.plan :=
    (changeState_plan ..).trans (carrierChange_plan_of_not_ready (s := s1) _ (by rw [show s1.plan = s.plan from rfl, happ]; exact PlanState.noConfusion))
  have hstep : owedStep (.vacate l) s1 = giveOutcome l .vacated s3 := by
    refine if_pos ?_
    obtain ⟨e, he, hel, htarget, hout⟩ := hopen
    simp only [State.vacatesAt, Bool.and_eq_true, decide_eq_true_eq, List.any_eq_true]
    exact ⟨⟨⟨happ, heff⟩, hst⟩, e, he, (openFor_iff l e).2 ⟨hel, hout⟩, by rw [htarget]; rfl⟩
  have hexists : ∃ e ∈ s.plan.entries, e.link = l ∧ e.outcome = none :=
    let ⟨e, he, hel, _, hout⟩ := hopen
    ⟨e, he, hel, hout⟩
  have hwaits : Waits .linkState l (giveOutcome l .vacated s3) :=
    (waits_changeState (h2.state ▸ hne)).of_acts (wide := .narrow) (acts_giveOutcome _ _ _)
  have hcarrier : CarrierChanges (s.link l).cfg.band 1 s (giveOutcome l .vacated s3) :=
    ((((CarrierChanges.refl _ s).keeps (keeps_without (.vacate l) s)).change hb (hbands.symm ▸ hb')).keeps
      (keeps_changeState l .idle none s2)).keeps (keeps_giveOutcome l .vacated s3)
  have hdecided : Decided l .vacated s (finish s1 (giveOutcome l .vacated s3)) :=
    (decided_giveOutcome (s := s3) (hplan ▸ happ)).of_plan hplan.symm (finish_plan _ _)
  have hlink := (h3.keeps (keeps_giveOutcome l .vacated s3)).finish s1
  have hframe := (keeps_dueStep (keeps_owedStep (.vacate l) s1)).mono (qs := .links :: .bands :: .plan :: .owed :: tailParts) (by decide)
  refine ⟨_, congrArg Host.Outcome.next (takeOwed_of_due hdue), ?_⟩
  have htold := notified_finish hwaits s1
  have hgiven := notified_finish (waits_giveOutcome (s := s3) (o := .vacated) (hplan ▸ happ) (hplan ▸ hexists)) s1
  have hcarrier := hcarrier.finish s1
  rw [hstep] at hframe ⊢
  generalize finish s1 (giveOutcome l .vacated s3) = t at *
  exact ⟨hlink.state, hlink.assigned, htold, hgiven, hlink.alone, hcarrier, hdecided.entries, hdecided.done_iff (happ ▸ PlanState.noConfusion) hexists, hframe⟩

end Sys2Proof.Machine

/-! The Message Port (O29 to O31, O34): what the receiver finds in the bytes it holds, what the transmit path chooses, and the requests
that are refused unread. -/

namespace Sys2Proof.Machine

-- One theorem at a time: all at once, their threads together outgrow the memory limit of the check.
set_option Elab.async false

/-! ## Requests that are refused unread (O31) -/

/-- The request of a code: unreadable, it is refused; where it is not the one to be taken, the command has no effect. -/
theorem request_unread {α : Type} {code : Nat} {read : List Byte → Option α} {act : α → State → Answered}
    {rest : State → State → State} {s : State} (f : HostFrame) (howed : s.owed = []) :
    (s.takes (fun k => decide (k = code)) = some f → read f.payload = none →
      ∃ t, request code read act rest s = .next t ∧ Refuses .badArgument f s t) ∧
    (s.takes (fun k => decide (k = code)) = none → request code read act rest s = .next s) := by
  refine ⟨fun ht hr => request_unreadable ⟨howed, ht⟩ hr, fun ht => ?_⟩
  rw [request, settleOwed_of_nil s howed, ht]

theorem replyKind_eq (k : Byte) : replyKind k = if k = 0 ∨ 0x7F ≤ k.toNat then 0xFF else k + 0x80 := by
  unfold replyKind
  have h0 : k.toNat = 0 ↔ k = 0 := by
    rw [← BitVec.toNat_inj]; rfl
  simp only [h0]

/-- Settles O31. -/
theorem unreadableRequestsRefused : Obligations.UnreadableRequestsRefused := by
  intro s f time tkFirst howed unread
  have h0 : settleOwed s = s := settleOwed_of_nil s howed
  refine ⟨fun ht => ⟨?_, replyKind_eq f.kind⟩, fun ht => ?_, ?_⟩
  · refine ⟨kick (putReply f (u8 Result.unknownRequest.code) (dropHead s)), ?_, replies_of_kick rfl, ?_⟩
    · show execUnknownRequest s = _
      simp only [execUnknownRequest, h0, ht]
    · exact (((keeps_dropHead s).mono (by decide)).trans ((keeps_putReply f _ _).mono (by decide))).trans (keeps_kick _)
  · show execUnknownRequest s = _
    simp only [execUnknownRequest, h0, ht]
  · exact ⟨request_unread f howed, request_unread f howed, request_unread f howed, request_unread f howed, request_unread f howed,
      request_unread f howed, request_unread f howed, request_unread f howed, request_unread f howed, request_unread f howed,
      request_unread f howed, request_unread f howed, request_unread f howed, request_unread f howed, request_unread f howed,
      request_unread f howed, request_unread f howed, request_unread f howed, request_unread f howed, request_unread f howed,
      request_unread f howed, request_unread f howed, request_unread f howed, request_unread f howed, request_unread f howed,
      request_unread f howed, request_unread f howed, request_unread f howed, request_unread f howed, request_unread f howed,
      request_unread f howed, request_unread f howed, request_unread f howed, request_unread f howed, request_unread f howed,
      request_unread f howed, request_unread f howed, request_unread f howed, request_unread f howed, request_unread f howed,
      request_unread f howed, request_unread f howed, request_unread f howed⟩

/-! ## The choice of the transmit path (O30) -/

section choice
variable {s : State}

/-- The first choice: the oldest refusal reply (R189). -/
theorem kick_refusal {r : Refused} {rs : List Refused} (h0 : s.mp.sending = none) (h1 : s.mp.refusals = r :: rs) :
    kick s = beginFrame .refusal { kind := r.kind, tag := r.tag, payload := u8 Result.busy.code }
      (s.modMp fun m => { m with refusals := rs }) := by
  simp only [kick, h0, h1]

/-- The second: a fetched notice behind its reply. -/
theorem kick_fetched {n : Notice} {ns : List Notice} (h0 : s.mp.sending = none) (h1 : s.mp.refusals = []) (h2 : s.mp.reply = none)
    (h3 : s.mp.fetched = n :: ns) : kick s = sendNotice .fetched n (s.modMp fun m => { m with fetched := ns }) := by
  simp only [kick, h0, h1, h2, h3]

theorem kick_reply {f : HostFrame} (h0 : s.mp.sending = none) (h1 : s.mp.refusals = []) (h2 : s.mp.reply = some f) :
    kick s = sendReply f s := by
  simp only [kick, h0, h1, h2]

/-- The last: the oldest notice of a pushed class, or nothing. -/
theorem kick_idle (h0 : s.mp.sending = none) (h1 : s.mp.refusals = []) (h2 : s.mp.reply = none) (h3 : s.mp.fetched = []) :
    kick s = pushIfAny s := by
  simp only [kick, h0, h1, h2, h3]

/-- The third choice: a pushed notice goes ahead of a reply when a reply went before. -/
theorem sendReply_pushes {f : HostFrame} {n : Notice} (hn : s.pushable = some n) (ht : pushTurn s.mp.lastSent = true) :
    sendReply f s = pushNotice n s := by
  simp only [sendReply, hn, ht]

theorem sendReply_replies {f : HostFrame} (h : s.pushable = none ∨ pushTurn s.mp.lastSent ≠ true) :
    sendReply f s = beginFrame .reply f (s.modMp fun m => { m with reply := none }) := by
  unfold sendReply
  split
  · rename_i n hn ht
    exact absurd h (by simp [hn, ht])
  · rfl

theorem pushTurn_iff (x : Option TxKind) : pushTurn x = true ↔ x = some .refusal ∨ x = some .reply ∨ x = some .fetched := by
  rcases x with _ | ⟨_ | _ | _ | _⟩ <;> simp [pushTurn]

end choice

theorem kick_buffer (s : State) : (kick s).mp.buffer = s.mp.buffer := by
  unfold kick
  split
  case h_4 =>
    unfold sendReply
    split <;> rfl
  case h_5 =>
    unfold pushIfAny
    split <;> rfl
  all_goals rfl

/-- A pushed notice leaves the queue, and goes as the state then stands (R192, R194). -/
theorem pushNotice_sends (n : Notice) (s : State) :
    (pushNotice n s).mp.sending = some { what := .pushed, frame := ({ s with nq := s.nq.erase n } : State).noticeFrame n } ∧
      (pushNotice n s).mp.lastSent = some .pushed ∧ (pushNotice n s).nq = s.nq.erase n ∧
      (pushNotice n s).mp.noticeNumber = s.mp.noticeNumber + 1 ∧ (pushNotice n s).mp.reply = s.mp.reply ∧
      (pushNotice n s).mp.fetched = s.mp.fetched := by
  have herase : (s.nq.eraseP fun m => decide (m = n)) = s.nq.erase n := by
    rw [List.erase_eq_eraseP']
    rfl
  unfold pushNotice
  rw [herase]
  exact ⟨rfl, rfl, rfl, rfl, rfl, rfl⟩

/-- The frame of a notice depends on the Message Port for its number alone. -/
theorem noticeFrame_modMp (n : Notice) (s : State) (f : Mp → Mp) (h : (f s.mp).noticeNumber = s.mp.noticeNumber) :
    (s.modMp f).noticeFrame n = s.noticeFrame n := by
  unfold State.noticeFrame
  rw [State.modMp_mp, h]
  rfl

/-- Settles O30. -/
theorem transmitPathChooses : Obligations.TransmitPathChooses := by
  intro s howed m pushed turn sends pushes
  let s0 := s.modMp fun m => { m with sending := none }
  have hexec : exec .transmitPathFree s = .next (kick s0) := by
    show event (fun s => kick (s.modMp fun m => { m with sending := none })) s = _
    rw [event, settleOwed_of_nil s howed]
  have hpush (n : Notice) : pushes n (pushNotice n s0) := by
    obtain ⟨h1, h2, h3, h4, -, -⟩ := pushNotice_sends n s0
    refine ⟨⟨h1.trans ?_, h2⟩, h3, h4⟩
    exact congrArg (fun f => some ({ what := .pushed, frame := f } : TxFrame))
      (noticeFrame_modMp n { s with nq := s.nq.erase n } (fun m => { m with sending := none }) rfl)
  refine ⟨_, hexec, fun r rs h1 => ?_, fun n ns h1 h2 h3 => ?_, fun f h1 h2 h => ?_, fun f n h1 h2 hn ht => ?_,
    fun n h1 h2 h3 hn => ?_, fun h1 h2 h3 hn => ?_, kick_buffer s0, ?_⟩
  · rw [kick_refusal (s := s0) rfl h1]
    exact ⟨⟨rfl, rfl⟩, rfl, rfl, rfl, rfl⟩
  · rw [kick_fetched (s := s0) rfl h1 h2 h3]
    refine ⟨⟨?_, rfl⟩, rfl, rfl, rfl⟩
    exact congrArg (fun f => some ({ what := .fetched, frame := f } : TxFrame))
      (noticeFrame_modMp n s (fun m => { m with sending := none, fetched := ns }) rfl)
  · rw [kick_reply (s := s0) rfl h1 h2, sendReply_replies (s := s0) (h.imp id fun ht hp => ht ((pushTurn_iff _).1 hp))]
    exact ⟨⟨rfl, rfl⟩, rfl, rfl, rfl⟩
  · rw [kick_reply (s := s0) rfl h1 h2, sendReply_pushes (s := s0) hn ((pushTurn_iff _).2 ht)]
    obtain ⟨-, -, -, -, h5, h6⟩ := pushNotice_sends n s0
    exact ⟨hpush n, h5.trans h2, h6⟩
  · rw [kick_idle (s := s0) rfl h1 h2 h3, pushIfAny, show s0.pushable = some n from hn]
    obtain ⟨-, -, -, -, h5, h6⟩ := pushNotice_sends n s0
    exact ⟨hpush n, h5.trans h2, h6.trans h3⟩
  · rw [kick_idle (s := s0) rfl h1 h2 h3, pushIfAny, show s0.pushable = none from hn]
    rfl
  · exact ((keeps_modMp s _).mono (by decide)).trans (keeps_kick s0)

/-! ## NOTICE_ENABLE, NOTICE_FETCH and ATTN (O34) -/

theorem u8_toNat (b : Byte) : u8 b.toNat = [b] := by
  rw [u8, BitVec.ofNat_toNat, BitVec.setWidth_eq]

theorem testBit_seven_iff (b : Byte) : b.toNat.testBit 7 = true ↔ 128 ≤ b.toNat := by
  rw [Nat.testBit_eq_decide_div_mod_eq, decide_eq_true_eq]
  have := b.isLt
  omega

theorem request_reads {α : Type} {code : Nat} {f : HostFrame} {s s1 : State} {read : List Byte → Option α}
    {act : α → State → Answered} {a : α} {body : List Byte} (ht : Takes code f s) (hr : read f.payload = some a)
    (hact : act a (dropHead s) = okWith body s1) :
    request code read act afterRead s = .next (kick (putReply f (u8 0 ++ body) s1)) := by
  have hok : carriedOut (u8 0 ++ body) = true := rfl
  rw [request_of_takes ht hr, hact]
  exact congrArg Host.Outcome.next (if_pos hok)

/-- The frame of a request that reads, from that of its owner. -/
theorem keeps_kick_reply {f : HostFrame} {s s1 : State} {p : List Byte} (h : KeepsBut sendParts (dropHead s) s1) :
    KeepsBut sendParts s (kick (putReply f p s1)) :=
  ((((keeps_dropHead s).mono (by decide)).trans h).trans ((keeps_putReply f p s1).mono (by decide))).trans (keeps_kick _)

theorem replies_of_kick_buffer {f : HostFrame} {s s1 : State} {p : List Byte} (h : s1.mp.buffer = s.mp.buffer.tail) :
    Replies f p s (kick (putReply f p s1)) := by
  obtain ⟨hbuf, hreply⟩ := kick_keeps_reply (s := putReply f p s1) rfl
  exact ⟨hbuf.trans h, hreply⟩

/-- Where a reply waits, the path takes no fetched notice, and of the queue at most one pushed notice. -/
theorem kick_before_reply {s : State} {f : HostFrame} (h : s.mp.reply = some f) :
    (kick s).mp.fetched = s.mp.fetched ∧
      ((kick s).nq = s.nq ∨ ∃ x ∈ s.nq, x.cls.within s.mp.pushMask = true ∧ (kick s).nq = s.nq.erase x) := by
  unfold kick
  split
  case h_1 => exact ⟨rfl, .inl rfl⟩
  case h_2 => exact ⟨rfl, .inl rfl⟩
  case h_3 hr _ => exact absurd (h.symm.trans hr) (by simp)
  case h_4 =>
    unfold sendReply
    split
    · rename_i n hn _
      obtain ⟨-, -, hnq, -, -, hf⟩ := pushNotice_sends n s
      exact ⟨hf, .inr ⟨n, List.mem_of_find?_eq_some hn, List.find?_some (p := fun n : Notice => n.cls.within s.mp.pushMask) hn, hnq⟩⟩
    · exact ⟨rfl, .inl rfl⟩
  case h_5 hr _ => exact absurd (h.symm.trans hr) (by simp)

/-- Settles O34. -/
theorem noticesEnabledAndFetched : Obligations.NoticesEnabledAndFetched := by
  refine ⟨fun s tick => ⟨?_, rfl⟩, fun s f => ⟨fun push attn ht hp => ⟨fun h1 h2 => ?_, fun h => ?_⟩, fun count ht hp => ?_⟩⟩
  · rw [outputs_attn, State.attn, List.any_eq_true]
    rfl
  · have hr : readTwo f.payload = some (push.toNat, attn.toNat) := by rw [hp]; rfl
    have hact : enableNotices (push.toNat, attn.toNat) (dropHead s) = okWith (u8 push.toNat ++ u8 attn.toNat)
        ((dropHead s).modMp fun m => { m with pushMask := BitVec.ofNat 8 push.toNat, attnMask := BitVec.ofNat 8 attn.toNat }) := by
      refine if_neg ?_
      rw [Bool.or_eq_true, testBit_seven_iff, testBit_seven_iff]
      omega
    rw [BitVec.ofNat_toNat, BitVec.ofNat_toNat, BitVec.setWidth_eq, BitVec.setWidth_eq, u8_toNat, u8_toNat] at hact
    have hset := kick_settings (putReply f (u8 0 ++ [push, attn])
      ((dropHead s).modMp fun m => { m with pushMask := push, attnMask := attn }))
    simp only [Mp.settings, Prod.mk.injEq] at hset
    exact ⟨_, request_reads ht hr hact, replies_of_kick_buffer rfl, hset.2.2.1, hset.2.2.2, keeps_kick_reply ((keeps_modMp _ _).mono (by decide))⟩
  · have hr : readTwo f.payload = some (push.toNat, attn.toNat) := by rw [hp]; rfl
    refine request_refuses ht hr (if_pos ?_) rfl
    rw [Bool.or_eq_true, testBit_seven_iff, testBit_seven_iff]
    exact h
  · intro n
    have hr : readOne f.payload = some count.toNat := by rw [hp]; rfl
    have hn : max 1 (min 8 count.toNat) = n := by
      show _ = if count.toNat = 0 then 1 else if 8 < count.toNat then 8 else count.toNat
      split_ifs <;> omega
    let s1 : State := { (dropHead s).modMp (fun m => { m with fetched := s.nq.take n }) with nq := s.nq.drop n }
    have hact : fetchNotices count.toNat (dropHead s) = okWith (u8 (s.nq.take n).length ++ u8 (s.nq.length - n)) s1 := by
      rw [fetchNotices, hn, ← List.length_drop]
      rfl
    have hframe : KeepsBut sendParts (dropHead s) s1 := by
      intro p hp; cases p <;> first | rfl | exact absurd (by decide) hp
    obtain ⟨hfetched, hnq⟩ := kick_before_reply (s := putReply f (u8 0 ++ (u8 (s.nq.take n).length ++ u8 (s.nq.length - n))) s1) rfl
    exact ⟨_, request_reads ht hr hact, replies_of_kick_buffer rfl, hfetched, hnq, keeps_kick_reply hframe⟩

end Sys2Proof.Machine

/-! The receiver (O29): the good frames it finds in the bytes it holds, and what becomes of them (R187, R188). -/

namespace Sys2Proof.Machine

-- One theorem at a time: all at once, their threads together outgrow the memory limit of the check.
set_option Elab.async false

/-! ## What the receiver finds -/

/-- Bytes enough are examined, however many more could be. -/
theorem receive_fuel {k k' : Nat} {bs : List Byte} (h : bs.length < k) (h' : bs.length < k') : receive k bs = receive k' bs := by
  induction k generalizing k' bs with
  | zero => omega
  | succ k ih =>
    obtain _ | k' := k'
    · omega
    rcases bs with _ | ⟨b, rest⟩
    · rfl
    have hlen : rest.length < k ∧ rest.length < k' := by simp only [List.length_cons] at h h'; omega
    have hrest : receive k rest = receive k' rest := ih hlen.1 hlen.2
    unfold receive
    rw [hrest]
    split
    · rfl
    · rcases rest with _ | ⟨n, more⟩
      · rfl
      have hdrop : receive k (more.drop (n.toNat + 4)) = receive k' (more.drop (n.toNat + 4)) := by
        refine ih ?_ ?_ <;> · simp only [List.length_drop]; simp only [List.length_cons] at hlen; omega
      dsimp only
      rw [hdrop]

/-- Without a start byte every byte is dropped. -/
theorem receive_of_no_start {bs : List Byte} (h : (0x5A : Byte) ∉ bs) {k : Nat} (hk : bs.length < k) : receive k bs = ([], []) := by
  induction k generalizing bs with
  | zero => omega
  | succ k ih =>
    rcases bs with _ | ⟨b, rest⟩
    · rfl
    have hb : b ≠ 0x5A := fun he => h (he ▸ List.mem_cons_self)
    unfold receive
    rw [if_pos hb]
    exact ih (fun hm => h (List.mem_cons_of_mem _ hm)) (by simp only [List.length_cons] at hk; omega)

/-- A byte that starts no frame is passed over. -/
theorem receive_skip {b : Byte} (h : b ≠ 0x5A) (rest : List Byte) (k : Nat) : receive (k + 1) (b :: rest) = receive k rest := if_pos h

/-- A length byte above 240 fails at once. -/
theorem receive_long {n : Byte} (h : 240 < n.toNat) (rest : List Byte) (k : Nat) :
    receive (k + 1) (0x5A :: n :: rest) = receive k (n :: rest) := by
  rw [receive, if_neg (by simp)]
  exact if_pos h

/-- A frame's length byte. -/
theorem toNat_ofNat_of_le {n : Nat} (h : n ≤ 240) : (BitVec.ofNat 8 n).toNat = n := by
  rw [BitVec.toNat_ofNat]
  omega

/-- The bytes of a frame behind its start byte: the length, what the CRC covers besides, and the CRC. -/
theorem frame_bytes (f : HostFrame) : f.bytes = 0x5A :: BitVec.ofNat 8 f.payload.length :: ((f.kind :: f.tag :: f.payload) ++
    u16 (crc16 (BitVec.ofNat 8 f.payload.length :: f.kind :: f.tag :: f.payload))) := rfl

/-- The receiver at a start byte with a whole frame behind it: the CRC decides (R187). -/
theorem receive_whole {n kind tag : Byte} {payload crc rest : List Byte} (hn : payload.length = n.toNat) (hle : n.toNat ≤ 240)
    (hcrc : crc.length = 2) (k : Nat) :
    receive (k + 1) (0x5A :: n :: ((kind :: tag :: payload) ++ (crc ++ rest))) =
      if crc = u16 (crc16 (n :: kind :: tag :: payload)) then (⟨kind, tag, payload⟩ :: (receive k rest).1, (receive k rest).2)
      else receive k (n :: ((kind :: tag :: payload) ++ (crc ++ rest))) := by
  have htake : ((kind :: tag :: payload) ++ (crc ++ rest)).take (n.toNat + 2) = kind :: tag :: payload := by
    rw [← hn]; exact List.take_left' rfl
  have hdrop : ((kind :: tag :: payload) ++ (crc ++ rest)).drop (n.toNat + 2) = crc ++ rest := by
    rw [← hn]; exact List.drop_left' rfl
  have hcrcTake : (crc ++ rest).take 2 = crc := List.take_left' hcrc
  have hlater : ((kind :: tag :: payload) ++ (crc ++ rest)).drop (n.toNat + 4) = rest := by
    rw [show n.toNat + 4 = (n.toNat + 2) + 2 from rfl, ← List.drop_drop, hdrop]
    exact List.drop_left' hcrc
  have hlen : ¬ ((kind :: tag :: payload) ++ (crc ++ rest)).length < n.toNat + 4 := by
    simp only [List.length_append, List.length_cons, hn, hcrc]
    omega
  rw [receive, if_neg (by simp)]
  dsimp only
  rw [if_neg (by omega), if_neg hlen, htake, hdrop, hcrcTake, hlater]

/-- A good frame is found, and the bytes behind it are examined in turn. -/
theorem receive_frame (f : HostFrame) (hf : f.payload.length ≤ 240) (rest : List Byte) (k : Nat) :
    receive (k + 1) (f.bytes ++ rest) = (f :: (receive k rest).1, (receive k rest).2) := by
  have hn := toNat_ofNat_of_le hf
  have h := receive_whole (n := BitVec.ofNat 8 f.payload.length) (kind := f.kind) (tag := f.tag) (rest := rest) hn.symm
    (hn.symm ▸ hf) (crc := u16 (crc16 (BitVec.ofNat 8 f.payload.length :: f.kind :: f.tag :: f.payload))) rfl k
  rw [if_pos rfl] at h
  rw [frame_bytes, List.cons_append, List.cons_append, List.append_assoc]
  exact h

/-- With no byte left, none is kept. -/
theorem receive_nil (k : Nat) : receive k [] = ([], []) := by cases k <;> rfl

/-! ## What becomes of the frames -/

/-- A choice made is not made again. -/
theorem kick_kick (s : State) : kick (kick s) = kick s := by
  by_cases h : (kick s).mp.sending.isSome = true
  · exact kick_of_sending _ h
  · have hidle : kick s = s := by
      revert h
      unfold kick
      split
      case h_4 =>
        unfold sendReply
        split
        · exact fun h => absurd rfl h
        · exact fun h => absurd rfl h
      case h_5 =>
        unfold pushIfAny
        split
        · exact fun h => absurd rfl h
        · exact fun _ => rfl
      case h_1 => exact fun _ => rfl
      all_goals exact fun h => absurd rfl h
    rw [hidle, hidle]

theorem modMp_rx_of_nil {s : State} (h : s.mp.rx = []) : (s.modMp fun m => { m with rx := [] }) = s := by
  have hm : ({ s.mp with rx := [] } : Mp) = s.mp := by rw [← h]
  exact congrArg (fun m => ({ s with mp := m } : State)) hm

/-- Bytes that leave nothing in collection are taken frame by frame. -/
theorem receiveBytes_of {s : State} {bs : List Byte} {fs : List HostFrame} (hrx : s.mp.rx = [])
    (h : receive (bs.length + 1) bs = (fs, [])) : receiveBytes bs s = kick (fs.foldl takeFrame s) := by
  unfold receiveBytes
  dsimp only
  rw [hrx, List.nil_append, h]
  dsimp only
  rw [modMp_rx_of_nil hrx]

theorem frameGood_eq {s : State} (howed : s.owed = []) (bs : List Byte) : exec (.frameGood bs) s = .next (receiveBytes bs s) := by
  show event (receiveBytes bs) s = _
  rw [event, settleOwed_of_nil s howed]

theorem frameFailed_eq {s : State} (howed : s.owed = []) (bs : List Byte) : exec (.frameFailed bs) s = .next (receiveBytes bs s) := by
  show event (receiveBytes bs) s = _
  rw [event, settleOwed_of_nil s howed]

/-- The bytes of one frame, alone or behind bytes that fail at their length, bring that frame. -/
theorem receiveBytes_frame {s : State} {f : HostFrame} {junk : List Byte} (hrx : s.mp.rx = []) (hf : f.payload.length ≤ 240)
    (hjunk : junk = [] ∨ ∃ n : Byte, 240 < n.toNat ∧ junk = [0x5A, n]) : receiveBytes (junk ++ f.bytes) s = takeFrame s f := by
  have halone (k : Nat) : receive (k + 1) f.bytes = ([f], []) := by
    have h := receive_frame f hf [] k
    rwa [List.append_nil, receive_nil] at h
  have hfound : receive ((junk ++ f.bytes).length + 1) (junk ++ f.bytes) = ([f], []) := by
    obtain rfl | ⟨n, hn, rfl⟩ := hjunk
    · exact halone _
    · have hstart : n ≠ 0x5A := fun he => by rw [he] at hn; exact absurd hn (by decide)
      calc receive (([0x5A, n] ++ f.bytes).length + 1) ([0x5A, n] ++ f.bytes)
          = receive (f.bytes.length + 2) (n :: f.bytes) := receive_long hn f.bytes (f.bytes.length + 2)
        _ = receive (f.bytes.length + 1) f.bytes := receive_skip hstart f.bytes (f.bytes.length + 1)
        _ = ([f], []) := halone _
  rw [receiveBytes_of hrx hfound]
  exact kick_kick _

/-- A refusal reply that waits goes on waiting, or is the frame being sent (R189). -/
theorem kick_keeps_refusal {s : State} {r : Refused} (h : r ∈ s.mp.refusals) : r ∈ (kick s).mp.refusals ∨
    (kick s).mp.sending = some { what := .refusal, frame := ⟨r.kind, r.tag, u8 Result.busy.code⟩ } := by
  rcases hs : s.mp.sending with _ | x
  · rcases hr : s.mp.refusals with _ | ⟨r', rs⟩
    · rw [hr] at h
      exact absurd h List.not_mem_nil
    · rw [kick_refusal hs hr]
      rw [hr] at h
      obtain rfl | h := List.mem_cons.1 h
      · exact .inr rfl
      · exact .inl h
  · rw [kick_of_sending s (by rw [hs]; rfl)]
    exact .inl h

/-- A frame that finds no room at all changes nothing (R188). -/
theorem acceptFrame_full {m : Mp} (f : HostFrame) (h : 4 ≤ m.buffer.length) (h' : 4 ≤ m.refusals.length) : acceptFrame f m = m :=
  (if_neg (Nat.not_lt.2 h)).trans (if_neg (Nat.not_lt.2 h'))

theorem acceptFrame_room {m : Mp} (f : HostFrame) (h : m.buffer.length < 4) :
    acceptFrame f m = { m with buffer := m.buffer ++ [f] } := if_pos h

theorem acceptFrame_busy {m : Mp} (f : HostFrame) (h : 4 ≤ m.buffer.length) (h' : m.refusals.length < 4) :
    acceptFrame f m = { m with refusals := m.refusals ++ [{ kind := replyKind f.kind, tag := f.tag }] } :=
  (if_neg (Nat.not_lt.2 h)).trans (if_pos h')

theorem acceptFrame_rx (f : HostFrame) (m : Mp) : (acceptFrame f m).rx = m.rx := by
  unfold acceptFrame
  split
  · rfl
  · split <;> rfl

theorem takeFrame_rx (s : State) (f : HostFrame) : (takeFrame s f).mp.rx = s.mp.rx := by
  have h := kick_settings (s.modMp (acceptFrame f))
  simp only [Mp.settings, Prod.mk.injEq] at h
  exact h.2.1.trans (acceptFrame_rx f s.mp)

theorem takeFrame_buffer (s : State) (f : HostFrame) : (takeFrame s f).mp.buffer = (acceptFrame f s.mp).buffer :=
  kick_buffer (s.modMp (acceptFrame f))

/-- Settles O29. -/
theorem framesAreReceived : Obligations.FramesAreReceived := by
  refine ⟨fun s f junk howed hrx hf hjunk => ?_, fun s f g howed hrx hf hg => ?_, fun s n howed hrx hn => ?_,
    fun s body crc howed hrx hbody hcrc kind tag => ?_, fun s howed => ?_⟩
  · intro refusal
    refine ⟨_, frameGood_eq howed _, ?_⟩
    rw [receiveBytes_frame hrx hf hjunk]
    refine ⟨(takeFrame_rx s f).trans hrx, fun h => ?_, fun h => ?_, fun h h' => ?_, fun h h' => ?_, keeps_takeFrame s f⟩
    · rw [takeFrame_buffer, acceptFrame_room f h]
    · rw [takeFrame_buffer]
      obtain h' | h' := Nat.lt_or_ge s.mp.refusals.length 4
      · rw [acceptFrame_busy f h h']
      · rw [acceptFrame_full f h h']
    · have hmem : refusal ∈ (s.modMp (acceptFrame f)).mp.refusals := by
        rw [State.modMp_mp, acceptFrame_busy f h h']
        exact List.mem_append_right _ (List.mem_singleton_self _)
      exact kick_keeps_refusal hmem
    · unfold takeFrame State.modMp
      rw [acceptFrame_full f h h']
  · refine ⟨_, frameGood_eq howed _, ?_⟩
    have h1 := receiveBytes_frame (s := s) (junk := []) hrx hf (.inl rfl)
    rw [List.nil_append] at h1
    have hrx' : (takeFrame s f).mp.rx = [] := (takeFrame_rx s f).trans hrx
    have h2 := receiveBytes_frame (s := takeFrame s f) (junk := []) hrx' hg (.inl rfl)
    rw [List.nil_append] at h2
    have howed' : (takeFrame s f).owed = [] := (keeps_takeFrame s f .owed (by decide) : _ = s.owed).trans howed
    have hboth (k : Nat) : receive (k + 2) (f.bytes ++ g.bytes) = ([f, g], []) := by
      have hlast := receive_frame g hg [] k
      rw [List.append_nil, receive_nil] at hlast
      rw [receive_frame f hf, hlast]
    have hfound : receive ((f.bytes ++ g.bytes).length + 1) (f.bytes ++ g.bytes) = ([f, g], []) := by
      rw [List.length_append, show f.bytes.length + g.bytes.length + 1 = (f.bytes.length + g.bytes.length - 1) + 2 by
        have : 0 < f.bytes.length := Nat.succ_pos _
        omega]
      exact hboth _
    rw [h1]
    show exec _ s = exec _ (takeFrame s f)
    rw [frameGood_eq howed, frameGood_eq howed', h2, receiveBytes_of hrx hfound]
    exact congrArg Host.Outcome.next (kick_kick _)
  · have hstart : n ≠ 0x5A := fun he => by rw [he] at hn; exact absurd hn (by decide)
    have hfound : receive ([0x5A, n].length + 1) [0x5A, n] = ([], []) :=
      (receive_long hn [] 2).trans ((receive_skip hstart [] 1).trans (receive_nil 1))
    rw [frameFailed_eq howed, receiveBytes_of hrx hfound]
    rfl
  · intro covered hbad hno
    have hlen := toNat_ofNat_of_le hbody
    have hwhole := receive_whole (n := BitVec.ofNat 8 body.length) (kind := kind) (tag := tag) (payload := body) (crc := crc) (rest := [])
      hlen.symm (hlen.symm ▸ hbody) hcrc (covered ++ crc).length.succ
    have hbad' : crc ≠ u16 (crc16 (BitVec.ofNat 8 body.length :: kind :: tag :: body)) := hbad
    rw [if_neg hbad', List.append_nil] at hwhole
    have hfound : receive ((0x5A :: (covered ++ crc)).length + 1) (0x5A :: (covered ++ crc)) = ([], []) :=
      hwhole.trans (receive_of_no_start hno (Nat.lt_succ_self _))
    rw [frameFailed_eq howed, receiveBytes_of hrx hfound]
    rfl
  · show event (fun s => s.modMp fun m => { m with rx := [] }) s = _
    rw [event, settleOwed_of_nil s howed]
    rfl

end Sys2Proof.Machine

/-! The reads (O39): each answers with the items as they stand, and changes nothing but the transmit path. -/

namespace Sys2Proof.Machine

-- One theorem at a time: all at once, their threads together outgrow the memory limit of the check.
set_option Elab.async false

section reads
variable {α : Type} {code : Nat} {f : HostFrame} {s : State} {read : List Byte → Option α} {act : α → State → Answered} {a : α}

/-- A request that reads gives its reply, and changes the transmit path alone. -/
theorem read_answers {body : List Byte} (ht : Takes code f s) (hr : read f.payload = some a)
    (hact : act a (dropHead s) = okWith body (dropHead s)) :
    ∃ t, request code read act afterRead s = .next t ∧ Replies f (u8 0 ++ body) s t ∧ KeepsBut sendParts s t :=
  ⟨_, request_reads ht hr hact, replies_of_kick rfl, keeps_kick_reply (.refl _ _)⟩

end reads

theorem oneTo_iff (k n : Nat) : oneTo k n = true ↔ 1 ≤ n ∧ n ≤ k := by
  rw [oneTo, Bool.and_eq_true, decide_eq_true_eq, decide_eq_true_eq]

theorem oneTo_ne_false {k n : Nat} (h : 1 ≤ n) (h' : n ≤ k) : oneTo k n ≠ false := by
  rw [(oneTo_iff k n).2 ⟨h, h'⟩]
  exact Bool.noConfusion

theorem oneTo_eq_false_iff (k n : Nat) : oneTo k n = false ↔ n = 0 ∨ k < n := by
  rw [← Bool.not_eq_true, oneTo_iff]
  omega

theorem isBand_ne_false {b : Nat} (h : 1 ≤ b) (h' : b ≤ 4) : isBand b ≠ false := oneTo_ne_false h h'

/-- TB_STATUS gives the timebase's items (R14). -/
theorem ftb_bytes (k : Ftb) : k.bytes = u8 k.rate.code ++ u8 k.lead ++ u8 k.refState.code ++ w32 k.counter ++ u24 k.measuredPeriod ++
    u8 k.goodCount ++ u16 k.goodPeriod := rfl

/-- A part of a bin list has as many bins as it may show (R36). -/
theorem length_take_drop {α : Type} (xs : List α) (n i : Nat) : ((xs.drop i).take n).length = min n (xs.length - i) := by
  rw [List.length_take, List.length_drop]

/-- Settles O39. -/
theorem readsAnswer : Obligations.ReadsAnswer := by
  refine ⟨fun s f hp => ⟨fun ht => ?_, fun ht => ?_, fun ht => ?_⟩, fun s f => ?_⟩
  · have h := read_answers (act := fun _ s => okWith s.ftb.bytes s) ht (readNothing_of_nil hp) rfl
    simp only [ftb_bytes, ← List.append_assoc] at h
    exact h
  · have h := read_answers (act := readStatus) ht (readNothing_of_nil hp) rfl
    have hbuf : (dropHead s).mp.buffer.length = s.mp.buffer.length - 1 := List.length_tail
    simp only [hbuf, ← List.append_assoc] at h
    exact h
  · exact read_answers (act := identifyPart) ht (readNothing_of_nil hp) rfl
  · intro reads refuses
    refine ⟨fun b x ht hr => ⟨fun hb => ?_, fun hb hb' => ?_⟩, fun b i ht hr => ⟨fun hb => ?_, fun hb hb' hd => ?_, fun hb hb' hd => ?_⟩,
      fun l ht hr => ⟨fun hl => ?_, fun hl hl' => ?_⟩, fun ht hp => ?_, fun m ht hr => ⟨fun hm => ?_, fun hm hm' => ?_⟩,
      fun x i ht hr => ⟨fun hx => ?_, fun body hbody => ?_⟩⟩
    · exact request_refuses ht hr (if_pos ((isBand_eq_false_iff b).2 hb)) rfl
    · exact read_answers (act := readBand) ht hr (if_neg (isBand_ne_false hb hb'))
    · exact request_refuses ht hr (if_pos ((isBand_eq_false_iff b).2 hb)) rfl
    · exact request_refuses ht hr ((if_neg (isBand_ne_false hb hb')).trans (if_pos hd)) rfl
    · have hdef : ¬ (s.band b).defined = false := by rw [hd]; exact Bool.noConfusion
      have h := read_answers (act := readScan) ht hr ((if_neg (isBand_ne_false hb hb')).trans (if_neg hdef))
      simp only [dropHead_band, listed, length_take_drop, List.length_zipIdx, ← List.append_assoc] at h
      simp only [reads, ← List.append_assoc]
      exact h
    · exact request_refuses ht hr (if_pos ((isLink_eq_false_iff l).2 hl)) rfl
    · exact read_answers (act := readLink) ht hr (if_neg (isLink_of_le hl hl'))
    · exact read_answers (act := readPlan) ht (readNothing_of_nil hp) rfl
    · exact request_refuses ht hr (if_pos ((oneTo_eq_false_iff 16 m).2 hm)) rfl
    · exact read_answers (act := readLamp) ht hr (if_neg (oneTo_ne_false hm hm'))
    · refine request_refuses ht hr ?_ rfl
      have hnone : (dropHead s).talkSection i x = none := by
        match x, hx with
        | _ + 4, _ => rfl
      rw [readTalk, hnone]
    · refine read_answers (act := readTalk) ht hr ?_
      rw [readTalk, show (dropHead s).talkSection i x = some body from hbody]

end Sys2Proof.Machine

/-! Exclusion lists (O37): merging a range into a list of ranges, and taking one out (R26, R27). -/

namespace Sys2Proof.Machine

-- One theorem at a time: all at once, their threads together outgrow the memory limit of the check.
set_option Elab.async false

namespace StepRange

/-- A range ends at least one free step before another begins. -/
abbrev apart (a b : StepRange) : Prop := a.hi + 2 ≤ b.lo

/-- A range that holds a step. -/
def Full (x : StepRange) : Prop := x.lo ≤ x.hi

/-- A range holds a step. -/
def Holds (x : StepRange) (step : Nat) : Prop := x.lo ≤ step ∧ step ≤ x.hi

/-- Ranges in order, none overlapping or touching another. -/
abbrev Normal (xs : List StepRange) : Prop := (∀ x ∈ xs, x.lo ≤ x.hi) ∧ xs.Pairwise apart

theorem meets_iff (a b : StepRange) : a.meets b = true ↔ a.lo ≤ b.hi + 1 ∧ b.lo ≤ a.hi + 1 := by
  rw [meets, Bool.and_eq_true, decide_eq_true_eq, decide_eq_true_eq]

theorem overlaps_iff (a b : StepRange) : a.overlaps b = true ↔ a.lo ≤ b.hi ∧ b.lo ≤ a.hi := by
  rw [overlaps, Bool.and_eq_true, decide_eq_true_eq, decide_eq_true_eq]

theorem not_meets_iff {a b : StepRange} : a.meets b = false ↔ a.apart b ∨ b.apart a := by
  rw [← Bool.not_eq_true, meets_iff]
  unfold apart
  omega

/-- Of a normal list, two ranges are one or apart. -/
theorem Normal.apart_of_ne {xs : List StepRange} (h : Normal xs) {x y : StepRange} (hx : x ∈ xs) (hy : y ∈ xs) (hne : x ≠ y) :
    x.apart y ∨ y.apart x := by
  have hpair : xs.Pairwise fun a b => a.apart b ∨ b.apart a := h.2.imp fun h => .inl h
  have : Std.Symm fun a b : StepRange => a.apart b ∨ b.apart a := ⟨fun _ _ h => h.symm⟩
  exact hpair.forall hx hy hne

theorem Normal.nodup {xs : List StepRange} (h : Normal xs) : xs.Nodup :=
  List.Pairwise.imp_of_mem (fun {a b} ha _ hab he => by
    have := h.1 a ha
    subst he
    unfold apart at hab
    omega) h.2

/-! ## The range that a merge makes -/

/-- The merge of a range with others. -/
def merge (r : StepRange) (ms : List StepRange) : StepRange := ms.foldl (fun m x => ⟨min m.lo x.lo, max m.hi x.hi⟩) r

/-- A merge reaches as far as the ranges that it merges, and no farther. -/
theorem merge_bounds (r : StepRange) (ms : List StepRange) :
    (r.merge ms).lo ≤ r.lo ∧ r.hi ≤ (r.merge ms).hi ∧ (∀ x ∈ ms, (r.merge ms).lo ≤ x.lo ∧ x.hi ≤ (r.merge ms).hi) ∧
      ((r.merge ms).lo = r.lo ∨ ∃ x ∈ ms, (r.merge ms).lo = x.lo) ∧ ((r.merge ms).hi = r.hi ∨ ∃ x ∈ ms, (r.merge ms).hi = x.hi) := by
  induction ms generalizing r with
  | nil => exact ⟨le_rfl, le_rfl, fun _ h => absurd h List.not_mem_nil, .inl rfl, .inl rfl⟩
  | cons y ys ih =>
    obtain ⟨h1, h2, h3, h4, h5⟩ := ih ⟨min r.lo y.lo, max r.hi y.hi⟩
    rw [merge, List.foldl_cons, ← merge]
    dsimp only at h1 h2 h4 h5
    have hlo : min r.lo y.lo ≤ r.lo ∧ min r.lo y.lo ≤ y.lo := ⟨Nat.min_le_left _ _, Nat.min_le_right _ _⟩
    have hhi : r.hi ≤ max r.hi y.hi ∧ y.hi ≤ max r.hi y.hi := ⟨Nat.le_max_left _ _, Nat.le_max_right _ _⟩
    refine ⟨h1.trans hlo.1, hhi.1.trans h2, fun x hx => ?_, ?_, ?_⟩
    · obtain rfl | hx := List.mem_cons.1 hx
      · exact ⟨h1.trans hlo.2, hhi.2.trans h2⟩
      · exact h3 x hx
    · obtain h4 | ⟨x, hx, h4⟩ := h4
      · obtain h | h := Nat.le_total r.lo y.lo
        · exact .inl (h4.trans (Nat.min_eq_left h))
        · exact .inr ⟨y, List.mem_cons_self, h4.trans (Nat.min_eq_right h)⟩
      · exact .inr ⟨x, List.mem_cons_of_mem _ hx, h4⟩
    · obtain h5 | ⟨x, hx, h5⟩ := h5
      · obtain h | h := Nat.le_total y.hi r.hi
        · exact .inl (h5.trans (Nat.max_eq_left h))
        · exact .inr ⟨y, List.mem_cons_self, h5.trans (Nat.max_eq_right h)⟩
      · exact .inr ⟨x, List.mem_cons_of_mem _ hx, h5⟩

/-- A range goes into its place in a list of ranges that it is apart from. -/
theorem normal_insertBy {m : StepRange} {ys : List StepRange} (hys : Normal ys) (hm : m.lo ≤ m.hi)
    (hapart : ∀ y ∈ ys, m.apart y ∨ y.apart m) : Normal (insertBy (fun a b => decide (a.lo < b.lo)) m ys) := by
  refine ⟨fun x hx => ?_, ?_⟩
  · obtain rfl | hx := List.mem_cons.1 ((insertBy_perm _ _ _).subset hx)
    · exact hm
    · exact hys.1 x hx
  obtain ⟨hfull, hpair⟩ := hys
  induction ys with
  | nil => exact List.pairwise_singleton _ _
  | cons y ys ih =>
    obtain ⟨hy, hpair'⟩ := List.pairwise_cons.1 hpair
    have hyfull := hfull y List.mem_cons_self
    rw [insertBy]
    split
    · rename_i hlt
      have hlt : m.lo < y.lo := of_decide_eq_true hlt
      have hmy : m.apart y := (hapart y List.mem_cons_self).resolve_right fun h => by unfold apart at h; omega
      refine List.pairwise_cons.2 ⟨fun z hz => ?_, hpair⟩
      obtain rfl | hz := List.mem_cons.1 hz
      · exact hmy
      · have := hy z hz
        unfold apart at *
        omega
    · rename_i hge
      have hge : ¬ m.lo < y.lo := of_decide_eq_false (Bool.eq_false_of_not_eq_true hge)
      have hym : y.apart m := (hapart y List.mem_cons_self).resolve_left fun h => by unfold apart at h; omega
      refine List.pairwise_cons.2 ⟨fun z hz => ?_, ih (fun z hz => hapart z (List.mem_cons_of_mem _ hz))
        (fun z hz => hfull z (List.mem_cons_of_mem _ hz)) hpair'⟩
      obtain rfl | hz := List.mem_cons.1 ((insertBy_perm _ _ _).subset hz)
      · exact hym
      · exact hy z hz

/-! ## EXCL_ADD (R26) -/

section add
variable {r : StepRange} {xs : List StepRange}

/-- What EXCL_ADD leaves as it stands. -/
abbrev clear (r : StepRange) (xs : List StepRange) : List StepRange := xs.filter fun x => !r.meets x

theorem exclInsert_eq (r : StepRange) (xs : List StepRange) :
    exclInsert r xs = insertBy (fun a b => decide (a.lo < b.lo)) (r.merge (xs.filter r.meets)) (r.clear xs) := rfl

theorem exclInsert_perm (r : StepRange) (xs : List StepRange) : (exclInsert r xs).Perm (r.merge (xs.filter r.meets) :: r.clear xs) :=
  insertBy_perm _ _ _

theorem mem_clear {y : StepRange} : y ∈ r.clear xs ↔ y ∈ xs ∧ (r.apart y ∨ y.apart r) := by
  rw [List.mem_filter, Bool.not_eq_true', not_meets_iff]

/-- What is clear of a range is clear of its merge. -/
theorem merge_apart (h : Normal xs) {y : StepRange} (hy : y ∈ r.clear xs) :
    (r.merge (xs.filter r.meets)).apart y ∨ y.apart (r.merge (xs.filter r.meets)) := by
  obtain ⟨hy, hclear⟩ := mem_clear.1 hy
  have hfull := h.1 y hy
  obtain ⟨-, -, -, hlo, hhi⟩ := merge_bounds r (xs.filter r.meets)
  have hfar (x : StepRange) (hx : x ∈ xs.filter r.meets) : (r.lo ≤ x.hi + 1 ∧ x.lo ≤ r.hi + 1) ∧ (x.apart y ∨ y.apart x) := by
    obtain ⟨hx, hmeets⟩ := List.mem_filter.1 hx
    have hm := (meets_iff r x).1 hmeets
    refine ⟨hm, h.apart_of_ne hx hy fun he => ?_⟩
    subst he
    unfold apart at hclear
    omega
  obtain hclear | hclear := hclear
  · left
    obtain hhi | ⟨x, hx, hhi⟩ := hhi
    · unfold apart at *; omega
    · obtain ⟨hm, hxy⟩ := hfar x hx
      unfold apart at *; omega
  · right
    obtain hlo | ⟨x, hx, hlo⟩ := hlo
    · unfold apart at *; omega
    · obtain ⟨hm, hxy⟩ := hfar x hx
      unfold apart at *; omega

theorem merge_full (hr : r.lo ≤ r.hi) : (r.merge (xs.filter r.meets)).lo ≤ (r.merge (xs.filter r.meets)).hi := by
  obtain ⟨h1, h2, -⟩ := merge_bounds r (xs.filter r.meets)
  omega

theorem normal_exclInsert (hr : r.lo ≤ r.hi) (h : Normal xs) : Normal (exclInsert r xs) :=
  normal_insertBy ⟨fun y hy => h.1 y (List.mem_of_mem_filter hy), h.2.sublist List.filter_sublist⟩ (merge_full hr)
    fun _ => merge_apart h

/-- The merge covers the range, and the ranges that meet it, and no step besides. -/
theorem merge_holds (step : Nat) : (r.merge (xs.filter r.meets)).Holds step ↔ r.Holds step ∨ ∃ x ∈ xs.filter r.meets, x.Holds step := by
  obtain ⟨h1, h2, h3, hlo, hhi⟩ := merge_bounds r (xs.filter r.meets)
  have hmeets (x : StepRange) (hx : x ∈ xs.filter r.meets) := (meets_iff r x).1 (List.of_mem_filter hx)
  unfold Holds
  constructor
  · intro hstep
    by_cases hbelow : step < r.lo
    · obtain hlo | ⟨x, hx, hlo⟩ := hlo
      · omega
      · have := hmeets x hx
        exact .inr ⟨x, hx, by omega⟩
    by_cases habove : r.hi < step
    · obtain hhi | ⟨x, hx, hhi⟩ := hhi
      · omega
      · have := hmeets x hx
        exact .inr ⟨x, hx, by omega⟩
    · exact .inl (by omega)
  · rintro (h | ⟨x, hx, h⟩)
    · omega
    · have := h3 x hx
      omega

theorem covers_exclInsert (step : Nat) :
    (∃ y ∈ exclInsert r xs, y.Holds step) ↔ (∃ y ∈ xs, y.Holds step) ∨ r.Holds step := by
  have hsplit : (∃ y ∈ xs, y.Holds step) ↔ (∃ y ∈ xs.filter r.meets, y.Holds step) ∨ ∃ y ∈ r.clear xs, y.Holds step := by
    simp only [List.mem_filter]
    refine ⟨fun ⟨y, hy, h⟩ => ?_, fun h => h.elim (fun ⟨y, hy, h⟩ => ⟨y, hy.1, h⟩) fun ⟨y, hy, h⟩ => ⟨y, hy.1, h⟩⟩
    cases hm : r.meets y with
    | true => exact .inl ⟨y, ⟨hy, hm⟩, h⟩
    | false => exact .inr ⟨y, ⟨hy, by rw [hm]; rfl⟩, h⟩
  have hperm : (∃ y ∈ exclInsert r xs, y.Holds step) ↔
      (r.merge (xs.filter r.meets)).Holds step ∨ ∃ y ∈ r.clear xs, y.Holds step := by
    simp only [(exclInsert_perm r xs).mem_iff, List.exists_mem_cons_iff]
  rw [hperm, merge_holds, hsplit, or_assoc, or_comm]

theorem length_exclInsert (r : StepRange) (xs : List StepRange) : (exclInsert r xs).length = (r.clear xs).length + 1 :=
  (exclInsert_perm r xs).length_eq

/-- A range inside a stored one leaves the list. -/
theorem exclInsert_of_inside (hr : r.lo ≤ r.hi) (h : Normal xs) {x : StepRange} (hx : x ∈ xs) (hlo : x.lo ≤ r.lo) (hhi : r.hi ≤ x.hi) :
    exclInsert r xs = xs := by
  have honly : xs.filter r.meets = [x] := by
    refine List.perm_singleton.1 ((List.perm_ext_iff_of_nodup (h.nodup.filter _) (List.nodup_singleton x)).2 fun y => ?_)
    rw [List.mem_filter, List.mem_singleton, meets_iff]
    refine ⟨fun ⟨hy, hm⟩ => ?_, fun he => he ▸ ⟨hx, by omega⟩⟩
    by_contra hne
    have := h.apart_of_ne hy hx hne
    unfold apart at this
    omega
  have hmerge : r.merge (xs.filter r.meets) = x := by
    rw [honly]
    show (⟨min r.lo x.lo, max r.hi x.hi⟩ : StepRange) = x
    rw [Nat.min_eq_right hlo, Nat.max_eq_right hhi]
  have hperm : (exclInsert r xs).Perm xs := by
    refine (exclInsert_perm r xs).trans ?_
    rw [hmerge]
    have := List.filter_append_perm (fun x => r.meets x) xs
    rwa [honly] at this
  refine hperm.eq_of_pairwise (le := apart) (fun a b ha _ hab hba => ?_) (normal_exclInsert hr h).2 h.2
  have := (normal_exclInsert hr h).1 a ha
  have := h.1 b ‹_›
  unfold apart at *
  omega

end add

/-! ## EXCL_REMOVE (R27) -/

section remove
variable {r x : StepRange} {xs : List StepRange}

/-- What is left of a range holds the steps of it outside the one taken out. -/
theorem minus_holds (step : Nat) : (∃ y ∈ r.minus x, y.Holds step) ↔ x.Holds step ∧ ¬ r.Holds step := by
  unfold minus Holds
  split
  · rename_i ho
    have ho := (overlaps_iff r x).1 ho
    constructor
    · rintro ⟨y, hy, h⟩
      obtain hy | hy := List.mem_append.1 hy <;> split at hy
      · obtain rfl := List.mem_singleton.1 hy
        dsimp only at h
        omega
      · exact absurd hy List.not_mem_nil
      · obtain rfl := List.mem_singleton.1 hy
        dsimp only at h
        omega
      · exact absurd hy List.not_mem_nil
    · rintro ⟨h, hr⟩
      by_cases hbelow : step < r.lo
      · exact ⟨⟨x.lo, r.lo - 1⟩, List.mem_append_left _ (by rw [if_pos (by omega)]; exact List.mem_singleton_self _), by dsimp only; omega⟩
      · exact ⟨⟨r.hi + 1, x.hi⟩, List.mem_append_right _ (by rw [if_pos (by omega)]; exact List.mem_singleton_self _), by dsimp only; omega⟩
  · rename_i ho
    rw [overlaps_iff] at ho
    simp only [List.mem_singleton, exists_eq_left]
    omega

/-- It lies within the range, and is normal. -/
theorem minus_within (hx : x.lo ≤ x.hi) : (∀ y ∈ r.minus x, x.lo ≤ y.lo ∧ y.hi ≤ x.hi ∧ y.lo ≤ y.hi) := by
  intro y hy
  unfold minus at hy
  split at hy
  · rename_i ho
    have ho := (overlaps_iff r x).1 ho
    obtain hy | hy := List.mem_append.1 hy <;> split at hy
    · obtain rfl := List.mem_singleton.1 hy
      dsimp only
      omega
    · exact absurd hy List.not_mem_nil
    · obtain rfl := List.mem_singleton.1 hy
      dsimp only
      omega
    · exact absurd hy List.not_mem_nil
  · obtain rfl := List.mem_singleton.1 hy
    omega

theorem minus_pairwise (hr : r.lo ≤ r.hi) : (r.minus x).Pairwise apart := by
  unfold minus
  split
  · split
    · split
      · refine List.pairwise_cons.2 ⟨fun y hy => ?_, List.pairwise_singleton _ _⟩
        obtain rfl := List.mem_singleton.1 hy
        show r.lo - 1 + 2 ≤ r.hi + 1
        omega
      · exact List.pairwise_singleton _ _
    · split
      · exact List.pairwise_singleton _ _
      · exact List.Pairwise.nil
  · exact List.pairwise_singleton _ _

theorem normal_exclDelete (hr : r.lo ≤ r.hi) (h : Normal xs) : Normal (exclDelete r xs) := by
  refine ⟨fun y hy => ?_, List.pairwise_flatMap.2 ⟨fun x _ => minus_pairwise hr, h.2.imp_of_mem fun {a b} ha hb hab y hy z hz => ?_⟩⟩
  · obtain ⟨x, hx, hy⟩ := List.mem_flatMap.1 hy
    exact (minus_within (h.1 x hx) y hy).2.2
  · have := minus_within (h.1 a ha) y hy
    have := minus_within (h.1 b hb) z hz
    unfold apart at *
    omega

theorem covers_exclDelete (step : Nat) :
    (∃ y ∈ exclDelete r xs, y.Holds step) ↔ (∃ y ∈ xs, y.Holds step) ∧ ¬ r.Holds step := by
  unfold exclDelete
  constructor
  · rintro ⟨y, hy, h⟩
    obtain ⟨x, hx, hy⟩ := List.mem_flatMap.1 hy
    obtain ⟨hxs, hrs⟩ := (minus_holds step).1 ⟨y, hy, h⟩
    exact ⟨⟨x, hx, hxs⟩, hrs⟩
  · rintro ⟨⟨x, hx, hxs⟩, hrs⟩
    obtain ⟨y, hy, h⟩ := (minus_holds step).2 ⟨hxs, hrs⟩
    exact ⟨y, List.mem_flatMap.2 ⟨x, hx, hy⟩, h⟩

theorem minus_of_clear (h : ¬ (x.lo ≤ r.hi ∧ r.lo ≤ x.hi)) : r.minus x = [x] := by
  refine if_neg ?_
  rw [overlaps_iff]
  omega

theorem exclDelete_of_clear (h : ∀ x ∈ xs, ¬ (x.lo ≤ r.hi ∧ r.lo ≤ x.hi)) : exclDelete r xs = xs := by
  unfold exclDelete
  rw [List.flatMap_congr fun x hx => minus_of_clear (h x hx), List.flatMap_singleton']

/-- A range that is not split leaves one part at most. -/
theorem length_minus_le (h : ¬ (x.lo < r.lo ∧ r.hi < x.hi)) : (r.minus x).length ≤ 1 := by
  unfold minus
  split
  · rw [List.length_append]
    split <;> split <;> simp only [List.length_singleton, List.length_nil] <;> omega
  · exact le_rfl

theorem length_exclDelete_le (h : ∀ x ∈ xs, ¬ (x.lo < r.lo ∧ r.hi < x.hi)) : (exclDelete r xs).length ≤ xs.length := by
  unfold exclDelete
  induction xs with
  | nil => exact le_rfl
  | cons x xs ih =>
    rw [List.flatMap_cons, List.length_append, List.length_cons]
    have := length_minus_le (h x List.mem_cons_self)
    have := ih fun y hy => h y (List.mem_cons_of_mem _ hy)
    omega

/-- A removal inside a range splits it, and leaves the others. -/
theorem length_exclDelete_of_inside (hr : r.lo ≤ r.hi) (h : Normal xs) (hx : x ∈ xs) (hin : x.lo < r.lo ∧ r.hi < x.hi) :
    (exclDelete r xs).length = xs.length + 1 := by
  obtain ⟨pre, post, rfl⟩ := List.append_of_mem hx
  have hsplit : (r.minus x).length = 2 := by
    unfold minus
    rw [if_pos ((overlaps_iff r x).2 (by omega)), if_pos hin.1, if_pos hin.2]
    rfl
  have hclear (y : StepRange) (hy : y ∈ pre ∨ y ∈ post) : ¬ (y.lo ≤ r.hi ∧ r.lo ≤ y.hi) := by
    have hfar : y.apart x ∨ x.apart y := by
      obtain ⟨-, hpost, hpre⟩ := List.pairwise_append.1 h.2
      exact hy.elim (fun hy => .inl (hpre y hy x List.mem_cons_self)) fun hy => .inr ((List.pairwise_cons.1 hpost).1 y hy)
    unfold apart at hfar
    omega
  have hpre : exclDelete r pre = pre := exclDelete_of_clear fun y hy => hclear y (.inl hy)
  have hpost : exclDelete r post = post := exclDelete_of_clear fun y hy => hclear y (.inr hy)
  unfold exclDelete at *
  rw [List.flatMap_append, List.flatMap_cons, hpre, hpost]
  simp only [List.length_append, List.length_cons, hsplit]
  omega

end remove

end StepRange

open StepRange in
/-- Settles O37. -/
theorem exclusionListsChange : Obligations.ExclusionListsChange := by
  intro r xs hr hfull hpair covers kept added removed
  have h : Normal xs := ⟨hfull, hpair⟩
  refine ⟨normal_exclInsert hr h, covers_exclInsert, fun ⟨x, hx, hmeets⟩ => ?_, fun hnone => ?_, fun ⟨x, hx, hlo, hhi⟩ =>
    exclInsert_of_inside hr h hx hlo hhi, normal_exclDelete hr h, covers_exclDelete, ?_, ?_, exclDelete_of_clear⟩
  · have hlt : (r.clear xs).length < xs.length := by
      refine List.length_filter_lt_length_iff_exists.2 ⟨x, hx, ?_⟩
      rw [(meets_iff r x).2 ⟨hmeets.2, hmeets.1⟩]
      exact Bool.noConfusion
    have := length_exclInsert r xs
    show (exclInsert r xs).length ≤ xs.length
    omega
  · have hall : r.clear xs = xs := List.filter_eq_self.2 fun x hx => by
      rw [Bool.not_eq_true', ← Bool.not_eq_true, meets_iff]
      exact fun hm => hnone x hx ⟨hm.2, hm.1⟩
    have := length_exclInsert r xs
    rwa [hall] at this
  all_goals by_cases hin : ∃ x ∈ xs, x.lo < r.lo ∧ r.hi < x.hi
  · obtain ⟨x, hx, hin⟩ := hin
    exact (length_exclDelete_of_inside hr h hx hin).le
  · exact (length_exclDelete_le fun x hx hc => hin ⟨x, hx, hc⟩).trans (Nat.le_succ _)
  · obtain ⟨x, hx, hx'⟩ := hin
    exact ⟨fun _ => ⟨x, hx, hx'⟩, fun _ => length_exclDelete_of_inside hr h hx hx'⟩
  · refine ⟨fun he => ?_, fun hc => absurd hc hin⟩
    have hle := length_exclDelete_le (r := r) fun x hx hc => hin ⟨x, hx, hc⟩
    exact absurd (he ▸ hle) (Nat.not_succ_le_self _)

end Sys2Proof.Machine

/-! The requests of the bands. What an event asks of the engine stands through what follows it: a sweep asked for stays asked for, and a
rescue status moves from WANTED to PICKING alone (R34, R57). -/

namespace Sys2Proof.Machine

-- One theorem at a time: all at once, their threads together outgrow the memory limit of the check.
set_option Elab.async false

/-! ## What the engine does with flags (R55 to R57) -/

/-- The engine has gone on from `s` to `t`: every sweep asked for still is, and a rescue flag is at most converted, its pick then
in the queue. -/
structure FlagsGoOn (s t : State) : Prop extends EngineGoesOn s t where
  asked : ∀ b, SweepAsked b s → SweepAsked b t
  rescue : ∀ l, (t.link l).rescue = (s.link l).rescue ∨
    ((s.link l).rescue = .wanted ∧ (t.link l).rescue = .picking ∧ t.hasJob (JobKind.isPickOf l) = true)

namespace FlagsGoOn
variable {s t u : State}

theorem refl (s : State) : FlagsGoOn s s := ⟨.refl s, fun _ h => h, fun _ => .inl rfl⟩

theorem trans (h : FlagsGoOn s t) (k : FlagsGoOn t u) : FlagsGoOn s u where
  toEngineGoesOn := h.toEngineGoesOn.trans k.toEngineGoesOn
  asked b hb := k.asked b (h.asked b hb)
  rescue l := by
    rcases h.rescue l with hst | ⟨hw, hp, hj⟩
    · rw [← hst]; exact k.rescue l
    · rcases k.rescue l with htu | ⟨hw', -⟩
      · exact .inr ⟨hw, htu.trans hp, k.toEngineGoesOn.hasJob hj⟩
      · simp [hp] at hw'

theorem foldl {α : Type} (f : State → α → State) (h : ∀ s x, FlagsGoOn s (f s x)) (xs : List α) (s : State) :
    FlagsGoOn s (xs.foldl f s) := by
  induction xs generalizing s with
  | nil => exact refl s
  | cons x xs ih => exact (h s x).trans (ih _)

end FlagsGoOn

/-- A sweep asked for is asked for where flags, counters and jobs are the same. -/
theorem sweepAsked_of_same {s t : State} {b : Nat} (h : SweepAsked b s) (hbands : Part.bands.same s t)
    (hflags : Part.sweepFlags.same s t) (hpe : Part.pe.same s t) : SweepAsked b t := by
  have hcore := bandCore_of_same hbands b
  have hc : (t.band b).carrierGen = (s.band b).carrierGen := (congrArg Band.carrierGen hcore :)
  have hg : (t.band b).spectrumGen = (s.band b).spectrumGen := (congrArg Band.spectrumGen hcore :)
  have hpe : t.pe = s.pe := hpe
  unfold SweepAsked
  rw [hc, hg, hpe, sweepWanted_of_same hflags]
  exact h

theorem rescue_of_same {s t : State} (h : Part.rescues.same s t) (l : Nat) : (t.link l).rescue = (s.link l).rescue := by
  have hslot (u : State) : (u.link l).rescue = slot Link.vacant.rescue (u.links.map Link.rescue) l :=
    (slot_map Link.rescue Link.vacant u.links l).symm
  rw [hslot, hslot, h]

/-- A link's rescue status after that of link `l` is set. -/
theorem rescue_modLink (s : State) (l n : Nat) (v : Rescue) :
    ((s.modLink l fun k => { k with rescue := v }).link n).rescue = (s.link n).rescue ∨
      (n = l ∧ ((s.modLink l fun k => { k with rescue := v }).link n).rescue = v) := by
  by_cases h : n = l
  · subst h
    obtain _ | k := n
    · exact .inl rfl
    · by_cases hk : k < s.links.length
      · exact .inr ⟨rfl, congrArg Link.rescue (slot_modSlot_self Link.vacant _ s.links (Nat.succ_pos k) hk)⟩
      · exact .inl (by simp [State.link, State.modLink, slot, modSlot, hk])
  · exact .inl (congrArg Link.rescue (slot_modSlot_other Link.vacant _ s.links (Ne.symm h)))

theorem flags_convertRescue (s : State) (l : Nat) : FlagsGoOn s (convertRescue s l) := by
  unfold convertRescue
  split
  case isFalse => exact .refl s
  case isTrue h =>
    have hwanted := h.2.1
    refine ⟨by simpa only [convertRescue, if_pos h] using goesOn_convertRescue s l, fun b hb => ?_, fun n => ?_⟩
    · refine hb.imp id fun ⟨j, hj, hk⟩ => ⟨j, List.mem_append_left _ hj, hk⟩
    · rcases rescue_modLink (joinQueue (.rescuePick l 1) s) l n .picking with h | ⟨rfl, h⟩
      · exact .inl h
      · exact .inr ⟨hwanted, h, hasJob_joinQueue (k := .rescuePick n 1) (decide_eq_true rfl) s⟩

theorem sweepAsked_joined (b : Nat) (s : State) (f : Band → Band) (c : Nat) :
    SweepAsked b ((joinQueue (.spareSweep b) s).modBand c f) :=
  .inr ⟨⟨.spareSweep b, none, false⟩, List.mem_append_right _ List.mem_cons_self, rfl, fun _ h => by cases h⟩

/-- A flag that is cleared leaves another band's sweep asked for. -/
theorem sweepAsked_clear {s : State} {b c : Nat} (h : SweepAsked b s) (hne : b ≠ c) :
    SweepAsked b (s.modBand c fun k => { k with sweepWanted := false }) := by
  have hband : (s.modBand c fun k => { k with sweepWanted := false }).band b = s.band b := slot_modSlot_other _ _ _ (Ne.symm hne)
  unfold SweepAsked
  rw [hband]
  exact h

theorem flags_convertSweep (s : State) (c : Nat) : FlagsGoOn s (convertSweep s c) := by
  unfold convertSweep
  split
  case isFalse => exact .refl s
  case isTrue h =>
    refine ⟨by simpa only [convertSweep, if_pos h] using goesOn_convertSweep s c, fun b hb => ?_, fun _ => .inl rfl⟩
    by_cases hbc : b = c
    · subst hbc; exact sweepAsked_joined b s _ b
    · refine sweepAsked_clear ?_ hbc
      exact hb.imp id fun ⟨j, hj, hk⟩ => ⟨j, List.mem_append_left _ hj, hk⟩

theorem flags_convert (s : State) : FlagsGoOn s (convert s) := by
  unfold convert
  split
  · exact (FlagsGoOn.foldl _ flags_convertRescue _ s).trans (.foldl _ flags_convertSweep _ _)
  · exact .refl s

theorem chosenJob_mem {q : List Job} {j : Job} (h : chosenJob q = some j) : j ∈ q ∧ j.snap = none := by
  rw [chosenJob, Option.or_eq_some_iff] at h
  have hwaits (p : Job → Bool) (hf : q.find? p = some j) (hp : p j = true → j.snap.isNone = true) : j ∈ q ∧ j.snap = none :=
    ⟨List.mem_of_find?_eq_some hf, Option.isNone_iff_eq_none.1 (hp (List.find?_some hf))⟩
  rcases h with h | ⟨-, h⟩
  · exact hwaits _ h fun h => (Bool.and_eq_true_iff.1 h).1
  · exact hwaits _ h id

theorem mem_replaceFirst {j j' : Job} {q : List Job} (h : j ∈ q) : j' ∈ replaceFirst j j' q := by
  induction q with
  | nil => cases h
  | cons x xs ih =>
    by_cases hx : x = j
    · simp [replaceFirst, hx]
    · have hj : j ∈ xs := (List.mem_cons.1 h).resolve_left (Ne.symm hx)
      simp [replaceFirst, hx, ih hj]

theorem mem_replaceFirst_other {j j' x : Job} {q : List Job} (h : x ∈ q) (hne : x ≠ j) : x ∈ replaceFirst j j' q := by
  induction q with
  | nil => cases h
  | cons y ys ih =>
    by_cases hy : y = j
    · have hx : x ∈ ys := (List.mem_cons.1 h).resolve_left fun hxy => hne (hxy.trans hy)
      simp [replaceFirst, hy, hx]
    · rcases List.mem_cons.1 h with rfl | hx
      · simp [replaceFirst, hy]
      · simp [replaceFirst, hy, ih hx]

/-- A sweep that starts copies its band's counters as they stand (R56). -/
theorem snapshot_sweep (s : State) (b : Nat) : (s.snapshot (.spareSweep b)).one = s.bandSnap b := rfl

theorem startJob_queue (j : Job) (s : State) : (startJob j s).pe.queue =
    replaceFirst j { j with snap := some (s.snapshot j.kind) } s.pe.queue := by
  unfold startJob
  dsimp only
  split <;> rfl

/-- A job that starts leaves each band's counters. -/
theorem startJob_gens (j : Job) (s : State) (b : Nat) : ((startJob j s).band b).core = (s.band b).core := by
  unfold startJob
  dsimp only
  split
  · exact bandCore_of_same (keeps_sweepFlag _ false (s.modPe _) .bands (by decide)) b
  · rfl

theorem sweepWanted_startJob_other {j : Job} {b : Nat} (s : State) (h : j.kind ≠ .spareSweep b) :
    ((startJob j s).band b).sweepWanted = (s.band b).sweepWanted := by
  unfold startJob
  dsimp only
  split
  next c hc =>
    have hne : b ≠ c := by rintro rfl; exact h hc
    exact (sweepWanted_clear _ c b).trans (if_neg hne)
  next => rfl

theorem sweepAsked_startJob {j : Job} {s : State} {b : Nat} (hj : j ∈ s.pe.queue) (h : SweepAsked b s) :
    SweepAsked b (startJob j s) := by
  have hcore := startJob_gens j s b
  have hc : ((startJob j s).band b).carrierGen = (s.band b).carrierGen := (congrArg Band.carrierGen hcore :)
  have hg : ((startJob j s).band b).spectrumGen = (s.band b).spectrumGen := (congrArg Band.spectrumGen hcore :)
  unfold SweepAsked
  rw [hc, hg, startJob_queue]
  by_cases hkind : j.kind = .spareSweep b
  · refine .inr ⟨_, mem_replaceFirst hj, hkind, fun q hq => ?_⟩
    obtain rfl : s.snapshot j.kind = q := Option.some.inj hq
    rw [hkind, snapshot_sweep]
    exact ⟨rfl, rfl⟩
  · refine h.imp (sweepWanted_startJob_other s hkind).trans fun ⟨x, hx, hk⟩ => ⟨x, mem_replaceFirst_other hx ?_, hk⟩
    rintro rfl
    exact hkind hk.1

theorem startJob_links (j : Job) (s : State) : (startJob j s).links = s.links := by
  unfold startJob
  dsimp only
  split <;> rfl

theorem choose_links (s : State) : (choose s).links = s.links := by
  unfold choose
  split
  · exact startJob_links _ _
  · rfl

theorem flags_choose (s : State) : FlagsGoOn s (choose s) := by
  refine ⟨goesOn_choose s, fun b hb => ?_, fun l => .inl ?_⟩
  · unfold choose
    split
    case h_1 j _ hj => exact sweepAsked_startJob (chosenJob_mem hj).1 hb
    case h_2 => exact hb
  · rw [State.link, choose_links]; rfl

/-- An operation that leaves bands, flags and jobs. -/
theorem flags_keeps {ps : List Part} {s t : State} (h : KeepsBut ps s t) (hb : .bands ∉ ps := by decide) (hf : .sweepFlags ∉ ps := by decide)
    (hp : .pe ∉ ps := by decide) (hr : .rescues ∉ ps := by decide) : FlagsGoOn s t := by
  have hpe : t.pe = s.pe := h .pe hp
  have hflag := sweepWanted_of_same (h .sweepFlags hf)
  exact ⟨⟨by simp [State.jobKinds, hpe], by rw [hpe], by rw [hpe]; exact id, fun b h => (hflag b).trans h, fun _ b _ => hflag b⟩,
    fun _ hs => sweepAsked_of_same hs (h .bands hb) (h .sweepFlags hf) (h .pe hp), fun l => .inl (rescue_of_same (h .rescues hr) l)⟩

theorem flags_kick (s : State) : FlagsGoOn s (kick s) := flags_keeps (keeps_kick s)

theorem flags_tkAfter (s0 s1 : State) : FlagsGoOn s1 (tkAfter s0 s1) := flags_keeps (keeps_tkAfter s0 s1)

theorem flags_after (s : State) : FlagsGoOn s (after s) := ((flags_convert s).trans (flags_choose _)).trans (flags_kick _)

theorem flags_finish (s0 s1 : State) : FlagsGoOn s1 (finish s0 s1) := (flags_tkAfter s0 s1).trans (flags_after _)

/-- The engine goes on from the state a request gave, once its reply is put. -/
theorem flags_after_reply (f : HostFrame) (p : List Byte) (s : State) : FlagsGoOn s (after (putReply f p s)) :=
  (flags_keeps (keeps_putReply f p s)).trans (flags_after _)

/-! ## The frame of a request that moves jobs, flags and notices -/

/-- The frame of a request carried out, from the frame of what its owner does. -/
theorem keeps_job_reply {ps : List Part} {f : HostFrame} {p : List Byte} {s s1 : State} (h : KeepsBut ps (dropHead s) s1) :
    KeepsBut (ps ++ afterParts) s (after (putReply f p s1)) := by
  have hdrop : KeepsBut (ps ++ afterParts) s (dropHead s) := (keeps_dropHead s).mono fun p hp => by
    simp only [List.mem_singleton] at hp
    simp [hp, afterParts]
  have hput : KeepsBut (ps ++ afterParts) s1 (putReply f p s1) := (keeps_putReply f p s1).mono fun p hp => by
    simp only [List.mem_singleton] at hp
    simp [hp, afterParts]
  exact ((hdrop.trans (h.mono fun p hp => by simp [hp])).trans hput).trans
    ((keeps_after _).mono fun p hp => by simp [hp])

/-- Past the request, each band's record is the one that its owner left. -/
theorem bandCore_after_reply (f : HostFrame) (p : List Byte) (s : State) (b : Nat) :
    ((after (putReply f p s)).band b).core = (s.band b).core :=
  bandCore_of_same (keeps_after (putReply f p s) .bands (by decide)) b

/-! ## A carrier change by a request (R21, R34, R112) -/

theorem band_modBand_self {s : State} {b : Nat} (hb : 1 ≤ b) (hb' : b ≤ s.bands.length) (f : Band → Band) :
    (s.modBand b f).band b = f (s.band b) := slot_modSlot_self _ _ _ hb hb'

theorem band_modBand_other {s : State} {b m : Nat} (h : m ≠ b) (f : Band → Band) : (s.modBand b f).band m = s.band m :=
  slot_modSlot_other _ _ _ h.symm

theorem length_modBand (s : State) (b : Nat) (f : Band → Band) : (s.modBand b f).bands.length = s.bands.length := modSlot_length ..

theorem carrierChange_band_self {s : State} {b : Nat} (hb : 1 ≤ b) (hb' : b ≤ s.bands.length) :
    (carrierChange b s).band b =
      { s.band b with carrierGen := (s.band b).carrierGen + 1, sparesFresh := false, sweepWanted := true } := by
  rw [State.band, carrierChange_bands]
  exact slot_modSlot_self _ _ _ hb hb'

theorem carrierChange_band_other {s : State} {b m : Nat} (h : m ≠ b) : (carrierChange b s).band m = s.band m := by
  rw [State.band, carrierChange_bands]
  exact slot_modSlot_other _ _ _ h.symm

/-- What a return of a READY plan to OPEN gives (R112, R119). -/
theorem invalidatePlan_does {s : State} (h : s.plan.state = .ready) :
    (invalidatePlan s).plan = { s.plan with state := .opened, checked := none } ∧
      Waits .planState 0 (invalidatePlan s) ∧ Waits .planInvalidated 0 (invalidatePlan s) := by
  refine ⟨by simp [invalidatePlan], ?_, waits_raise _ _ _⟩
  refine Waits.of_acts (wide := .narrow) (waits_setPlanState ?_) (acts_raise _ _ _)
  simp [h]

/-- A READY plan checked against other counters than those that stand returns to OPEN, and its notices wait (R112). -/
theorem planWatch_rechecks (b : Nat) (s : State) :
    (s.plan.state = .ready ∧ CheckedElsewhere b s s →
      (planWatch b s).plan = { s.plan with state := .opened, checked := none } ∧
        Waits .planState 0 (planWatch b s) ∧ Waits .planInvalidated 0 (planWatch b s)) ∧
    (¬ (s.plan.state = .ready ∧ CheckedElsewhere b s s) → (planWatch b s).plan = s.plan) := by
  have hwatch : (s.plan.state = .ready ∧ CheckedElsewhere b s s) ↔ (s.plan.state = .ready ∧
      (s.plan.checked.getD []).any (fun g => decide (g.1 = b) && decide (g.2 ≠ (s.band b).carrierGen)) = true) := by
    refine and_congr_right fun _ => ?_
    rw [CheckedElsewhere]
    rcases s.plan.checked with _ | gs <;> simp
  rw [hwatch, planWatch]
  refine ⟨fun h => ?_, fun h => by rw [if_neg h]⟩
  rw [if_pos h]
  exact invalidatePlan_does h.1

/-- A band's record after a carrier change (R21). -/
def Band.carried (k : Band) : Band := { k with carrierGen := k.carrierGen + 1, sparesFresh := false, sweepWanted := true }

theorem carrierChange_eq (b : Nat) (s : State) : carrierChange b s = planWatch b (s.modBand b Band.carried) := rfl

/-- A carrier change rechecks the plan (R21, R112). -/
theorem carrierChange_rechecks {b : Nat} {s t : State} (h : (t.band b).carrierGen = ((carrierChange b s).band b).carrierGen) :
    (s.plan.state = .ready ∧ CheckedElsewhere b s t →
      (carrierChange b s).plan = { s.plan with state := .opened, checked := none } ∧
        Waits .planState 0 (carrierChange b s) ∧ Waits .planInvalidated 0 (carrierChange b s)) ∧
    (¬ (s.plan.state = .ready ∧ CheckedElsewhere b s t) → (carrierChange b s).plan = s.plan) := by
  have hgen : (t.band b).carrierGen = ((s.modBand b Band.carried).band b).carrierGen := by
    rw [h, State.band, carrierChange_bands]; rfl
  have hiff : CheckedElsewhere b s t ↔ CheckedElsewhere b (s.modBand b Band.carried) (s.modBand b Band.carried) := by
    rw [CheckedElsewhere, hgen]; rfl
  rw [hiff, carrierChange_eq]
  exact planWatch_rechecks b (s.modBand b Band.carried)

/-- What a request does to a band by one carrier change: the owner's answer `s1` is the state after a change of the band's record, a
carrier change, and changes that leave the counter, the flag and the plan. -/
structure Recarried (b : Nat) (s s1 : State) : Prop where
  changes : CarrierChanges b 1 s s1
  asked : (s1.band b).sweepWanted = true
  plan : (s.plan.state = .ready ∧ CheckedElsewhere b s s1 →
      s1.plan = { s.plan with state := .opened, checked := none } ∧ Waits .planState 0 s1 ∧ Waits .planInvalidated 0 s1) ∧
    (¬ (s.plan.state = .ready ∧ CheckedElsewhere b s s1) → s1.plan = s.plan)

namespace Recarried
variable {b : Nat} {s s1 : State}

/-- A change of the band's record that leaves its counter, and then the carrier change. -/
theorem of_change (hb : 1 ≤ b) (hb' : b ≤ s.bands.length) {f : Band → Band} (hf : ∀ k, (f k).carrierGen = k.carrierGen) :
    Recarried b s (carrierChange b (s.modBand b f)) := by
  have hlen : b ≤ (s.modBand b f).bands.length := hb'.trans_eq (length_modBand s b f).symm
  have hmod : CarrierChanges b 0 s (s.modBand b f) :=
    ⟨by rw [band_modBand_self hb hb', hf]; exact (BitVec.add_zero _).symm, fun m hm => by rw [band_modBand_other hm]⟩
  exact ⟨hmod.change hb hlen, by rw [carrierChange_band_self hb hlen], carrierChange_rechecks (s := s.modBand b f) rfl⟩

/-- A further change of the record that leaves the counter and the flag. -/
theorem modBand (h : Recarried b s s1) (hb : 1 ≤ b) (hb' : b ≤ s1.bands.length) {f : Band → Band}
    (hf : ∀ k, (f k).carrierGen = k.carrierGen) (hw : ∀ k, k.sweepWanted = true → (f k).sweepWanted = true) :
    Recarried b s (s1.modBand b f) := by
  have hgen : ((s1.modBand b f).band b).carrierGen = (s1.band b).carrierGen := by rw [band_modBand_self hb hb', hf]
  have hchecked : CheckedElsewhere b s (s1.modBand b f) ↔ CheckedElsewhere b s s1 := by rw [CheckedElsewhere, hgen]; rfl
  refine ⟨⟨hgen.trans h.changes.1, fun m hm => ?_⟩, ?_, ?_⟩
  · rw [band_modBand_other hm]; exact h.changes.2 m hm
  · rw [band_modBand_self hb hb']; exact hw _ h.asked
  · rw [hchecked]; exact h.plan

/-- What of it the reply leaves. -/
theorem replied (h : Recarried b (dropHead s) s1) (f : HostFrame) (p : List Byte) :
    CarrierChanges b 1 s (after (putReply f p s1)) ∧ SweepAsked b (after (putReply f p s1)) ∧
      Rechecks (CheckedElsewhere b s (after (putReply f p s1))) s (after (putReply f p s1)) := by
  have hcore := bandCore_after_reply f p s1
  have hgen : ((after (putReply f p s1)).band b).carrierGen = (s1.band b).carrierGen := (congrArg Band.carrierGen (hcore b) :)
  have hchecked : CheckedElsewhere b s (after (putReply f p s1)) ↔ CheckedElsewhere b (dropHead s) s1 := by
    rw [CheckedElsewhere, hgen]; rfl
  have hplan := plan_after_reply f p s1
  refine ⟨⟨hgen.trans h.changes.1, fun m hm => (hcore m).trans (h.changes.2 m hm)⟩,
    (flags_after_reply f p s1).asked b (.inl h.asked), ?_⟩
  unfold Rechecks
  rw [hchecked, hplan]
  refine ⟨fun hr => ?_, h.plan.2⟩
  obtain ⟨hp, hw, hi⟩ := h.plan.1 hr
  exact ⟨hp, notified_after_reply f p hw, notified_after_reply f p hi⟩

end Recarried

end Sys2Proof.Machine

/-! The requests of the bands, settled: BAND_DEFINE and BAND_GUARDS, EXCL_ADD and EXCL_REMOVE, BAND_FREEZE and BAND_UNFREEZE. -/

namespace Sys2Proof.Machine

-- One theorem at a time: all at once, their threads together outgrow the memory limit of the check.
set_option Elab.async false

/-! ## The carriers of a band (R22) -/

/-- The carriers that a link holds are in its core. -/
theorem Link.carriers_core (k : Link) (l : Nat) : k.core.carriers l = k.carriers l := rfl

theorem carrierSet_of_same {s t : State} (h : Part.links.same s t) (b : Nat) : t.carrierSet b = s.carrierSet b := by
  have hlink (l : Nat) : (if (t.link l).cfg.band = b then (t.link l).carriers l else []) =
      if (s.link l).cfg.band = b then (s.link l).carriers l else [] := by
    have hcore := linkCore_of_same h l
    have hcfg : (t.link l).cfg = (s.link l).cfg := (congrArg Link.cfg hcore :)
    have hcar : (t.link l).carriers l = (s.link l).carriers l := by rw [← Link.carriers_core, hcore, Link.carriers_core]
    rw [hcfg, hcar]
  rw [State.carrierSet, State.carrierSet, funext hlink]

theorem bandHolds_eq_false_iff (s : State) (b : Nat) : s.bandHolds b = false ↔ s.carrierSet b = [] := by
  simp [State.bandHolds]

/-! ## The checks of BAND_DEFINE (R17) -/

theorem oneTo_true_iff (k n : Nat) : oneTo k n = true ↔ 1 ≤ n ∧ n ≤ k := by simp [oneTo]

/-- The scan window has at most 256 bins exactly where their width covers it. -/
theorem binCount_le_iff {p : BandParams} (h : 1 ≤ p.binWidth) :
    p.binCount ≤ Config.bins ↔ p.scanEnd - p.scanStart + 1 ≤ 256 * p.binWidth := by
  show _ / _ ≤ 256 ↔ _
  rw [← Nat.lt_succ_iff, Nat.div_lt_iff_lt_mul (by omega)]
  have : (256 + 1) * p.binWidth = 256 * p.binWidth + p.binWidth := by ring
  show _ < (256 + 1) * _ ↔ _
  omega

theorem scanUnitTaken_eq_false_iff (s : State) (b u : Nat) : s.scanUnitTaken b u = false ↔
    ∀ c, 1 ≤ c → c ≤ 4 → c ≠ b → (s.band c).defined = true → (s.band c).p.scanUnit ≠ some u := by
  rw [← Bool.not_eq_true]
  simp only [State.scanUnitTaken, List.any_eq_true, mem_oneUpTo, Bool.and_eq_true, decide_eq_true_eq]
  show ¬ (∃ c, (1 ≤ c ∧ c ≤ 4) ∧ _) ↔ _
  push Not
  exact ⟨fun h c h1 h4 hne hd => h c ⟨h1, h4⟩ ⟨hne, hd⟩, fun h c hc hx => h c hc.1 hc.2 hx.1 hx.2⟩

/-- The parameters that R17 admits. -/
def BandParams.Right (s : State) (b : Nat) (p : BandParams) : Prop :=
  100000 ≤ p.baseKhz ∧ p.baseKhz ≤ 6000000 ∧ 1 ≤ p.steps ∧ p.steps ≤ 4096 ∧
    p.baseKhz + 25 * (p.steps - 1) ≤ 6000000 ∧ 1 ≤ p.spareStride ∧ p.spareStride ≤ 16 ∧ 1 ≤ p.binWidth ∧ p.binWidth ≤ 64 ∧
    p.scanStart ≤ p.scanEnd ∧ p.scanEnd ≤ p.steps - 1 ∧ p.scanEnd - p.scanStart + 1 ≤ 256 * p.binWidth ∧
    ∀ u, p.scanUnit = some u → 1 ≤ u ∧ u ≤ 24 ∧
      ∀ c, 1 ≤ c → c ≤ 4 → c ≠ b → (s.band c).defined = true → (s.band c).p.scanUnit ≠ some u

theorem all_scanUnit_iff (s : State) (b : Nat) (o : Option Nat) :
    (o.all fun u => oneTo 24 u && !s.scanUnitTaken b u) = true ↔
      ∀ u, o = some u → 1 ≤ u ∧ u ≤ 24 ∧
        ∀ c, 1 ≤ c → c ≤ 4 → c ≠ b → (s.band c).defined = true → (s.band c).p.scanUnit ≠ some u := by
  rw [Option.all_eq_true]
  refine forall_congr' fun u => imp_congr_right fun _ => ?_
  rw [Bool.and_eq_true, oneTo_true_iff, Bool.not_eq_true', scanUnitTaken_eq_false_iff, and_assoc]

theorem valid_iff (s : State) (b : Nat) (p : BandParams) : p.valid s b = true ↔ p.Right s b := by
  simp only [BandParams.valid, Bool.and_eq_true, decide_eq_true_eq, oneTo_true_iff, all_scanUnit_iff, BandParams.Right]
  constructor
  · rintro ⟨⟨⟨⟨⟨⟨⟨⟨hbase, hsteps⟩, htop⟩, hstride⟩, hwidth⟩, hwindow⟩, hend⟩, hbins⟩, hunit⟩
    exact ⟨hbase.1, hbase.2, hsteps.1, hsteps.2, htop, hstride.1, hstride.2, hwidth.1, hwidth.2, hwindow, by omega,
      (binCount_le_iff hwidth.1).1 hbins, hunit⟩
  · rintro ⟨hb, hb', hs, hs', htop, hst, hst', hw, hw', hwindow, hend, hbins, hunit⟩
    exact ⟨⟨⟨⟨⟨⟨⟨⟨⟨hb, hb'⟩, hs, hs'⟩, htop⟩, hst, hst'⟩, hw, hw'⟩, hwindow⟩, by omega⟩, (binCount_le_iff hw).2 hbins⟩, hunit⟩

/-! ## BAND_DEFINE and BAND_GUARDS (R17, R19) -/

section settings
variable {s : State} {f : HostFrame} {b : Nat}

/-- The parameters in force after a BAND_DEFINE: hot_level is at least 12 (R17). -/
def BandParams.raised (p : BandParams) : BandParams := { p with hotLevel := max 12 p.hotLevel }

theorem isBand_of_le (hb : 1 ≤ b) (hb' : b ≤ 4) : isBand b ≠ false := by simp [(isBand_iff b).2 ⟨hb, hb'⟩]

/-- BAND_DEFINE for a band that the part has. -/
theorem defineBand_of_band {p : BandParams} (hb : 1 ≤ b) (hb' : b ≤ 4) : defineBand (b, p) s =
    if p.raised.valid s b = false then refuse .badArgument s
    else if s.mode = .run then refuse .wrongMode s
    else if s.bandHolds b then refuse .wrongState s
    else okWith p.raised.bytes ((carrierChange b (s.modBand b (Band.redefine p.raised))).modBand b (spectrumChanges 1)) :=
  if_neg (isBand_of_le hb hb')

theorem keeps_defined (b : Nat) (q : BandParams) (s : State) : KeepsBut carrierParts s
    ((carrierChange b (s.modBand b (Band.redefine q))).modBand b (spectrumChanges 1)) :=
  (((keeps_modBand _ _ _).mono (by decide)).trans (keeps_carrierChange _ _)).trans ((keeps_modBand _ _ _).mono (by decide))

/-- The record of a band redefined. -/
theorem defined_band (hb : 1 ≤ b) (hb' : b ≤ s.bands.length) (q : BandParams) :
    ((carrierChange b (s.modBand b (Band.redefine q))).modBand b (spectrumChanges 1)).band b =
      spectrumChanges 1 (Band.carried (Band.redefine q (s.band b))) := by
  have hlen : b ≤ (s.modBand b (Band.redefine q)).bands.length := hb'.trans_eq (length_modBand ..).symm
  have hlen' : b ≤ (carrierChange b (s.modBand b (Band.redefine q))).bands.length := by
    rw [carrierChange_bands, modSlot_length]; exact hlen
  rw [band_modBand_self hb hlen', carrierChange_band_self hb hlen, band_modBand_self hb hb']
  rfl

theorem bandDefine_takes {p : BandParams} (hs : s.shaped) (hb : 1 ≤ b) (hb' : b ≤ 4) (ht : Takes 0x10 f s)
    (hr : readBandDefine f.payload = some (b, p))
    (hact : defineBand (b, p) (dropHead s) = okWith p.raised.bytes
      ((carrierChange b ((dropHead s).modBand b (Band.redefine p.raised))).modBand b (spectrumChanges 1))) :
    Reaches .bandDefine s fun t =>
      let q := p.raised
      let k := t.band b
      Replies f (u8 0 ++ q.headBytes ++ q.tailBytes) s t ∧ k.defined = true ∧ k.p = q ∧ k.exclusions = [] ∧
      k.bins = List.replicate q.binCount { level := none, hot := false } ∧ k.spares = [] ∧ k.sparesFresh = false ∧
      k.frozen = (s.band b).frozen ∧ k.spectrumGen = (s.band b).spectrumGen + 1 ∧ CarrierChanges b 1 s t ∧
      SweepAsked b t ∧ Rechecks (CheckedElsewhere b s t) s t ∧ KeepsBut (.bands :: .plan :: afterParts) s t := by
  have hlen : b ≤ (dropHead s).bands.length := hb'.trans_eq hs.1.symm
  have hlen' : b ≤ (carrierChange b ((dropHead s).modBand b (Band.redefine p.raised))).bands.length := by
    rw [carrierChange_bands, modSlot_length, length_modBand]; exact hlen
  have hkeeps := keeps_defined b p.raised (dropHead s)
  have hrec : Recarried b (dropHead s) ((carrierChange b ((dropHead s).modBand b (Band.redefine p.raised))).modBand b
      (spectrumChanges 1)) :=
    (Recarried.of_change hb hlen (f := Band.redefine p.raised) fun _ => rfl).modBand hb hlen' (f := spectrumChanges 1) (fun _ => rfl)
      fun _ _ => rfl
  obtain ⟨hchanges, hasked, hplan⟩ := hrec.replied f (u8 0 ++ p.raised.bytes)
  have hcore := bandCore_after_reply f (u8 0 ++ p.raised.bytes)
    ((carrierChange b ((dropHead s).modBand b (Band.redefine p.raised))).modBand b (spectrumChanges 1)) b
  rw [defined_band hb hlen] at hcore
  have hmp := hkeeps .mp (by decide)
  refine ⟨_, request_oks ht hr hact, ?_⟩
  generalize hT : (carrierChange b ((dropHead s).modBand b (Band.redefine p.raised))).modBand b (spectrumChanges 1) = T at *
  refine ⟨?_, (congrArg Band.defined hcore :), (congrArg Band.p hcore :), (congrArg Band.exclusions hcore :),
    (congrArg Band.bins hcore :), (congrArg Band.spares hcore :), (congrArg Band.sparesFresh hcore :),
    (congrArg Band.frozen hcore :), (congrArg Band.spectrumGen hcore :), hchanges, hasked, hplan,
    (keeps_job_reply hkeeps).mono (by decide)⟩
  rw [List.append_assoc]
  exact replies_of_after hmp

/-- What BAND_GUARDS does to a band that is defined. -/
def guarded (g : Guards) (s : State) : State :=
  let s1 := carrierChange g.band (s.modBand g.band (Band.guard g))
  if (s.band g.band).p.gapCc < g.cc then pruneAll g.band s1 else s1

theorem keeps_guarded (g : Guards) (s : State) : KeepsBut carrierParts s (guarded g s) := by
  have h : KeepsBut carrierParts s (carrierChange g.band (s.modBand g.band (Band.guard g))) :=
    ((keeps_modBand s _ _).mono (by decide)).trans (keeps_carrierChange _ _)
  exact .ite (h.trans ((keeps_pruneAll _ _).mono (by decide))) h

/-- BAND_GUARDS for a band that the part has. -/
theorem guardBand_of_band {g : Guards} (hb : 1 ≤ g.band) (hb' : g.band ≤ 4) : guardBand g s =
    if (s.band g.band).defined = false then refuse .wrongState s
    else okWith (u8 g.cc ++ u8 g.im3 ++ u8 g.im3x ++ u8 g.im5) (guarded g s) := if_neg (isBand_of_le hb hb')

/-- The record of a band whose guards are replaced: a spare goes where the guard grows and a carrier held is then too near (R33). -/
theorem guarded_band {g : Guards} (hb : 1 ≤ g.band) (hb' : g.band ≤ s.bands.length) :
    (guarded g s).band g.band = { Band.carried (Band.guard g (s.band g.band)) with
      spares := (s.band g.band).spares.filter (fun e => decide (g.cc ≤ (s.band g.band).p.gapCc) ||
        !(s.carrierSet g.band).any fun c => within c.step c.hw g.cc e.step) } := by
  have hlen : g.band ≤ (s.modBand g.band (Band.guard g)).bands.length := hb'.trans_eq (length_modBand ..).symm
  have hlen' : g.band ≤ (carrierChange g.band (s.modBand g.band (Band.guard g))).bands.length := by
    rw [carrierChange_bands, modSlot_length]; exact hlen
  have hset : (carrierChange g.band (s.modBand g.band (Band.guard g))).carrierSet g.band = s.carrierSet g.band :=
    (carrierSet_of_same (keeps_carrierChange g.band _ .links (by decide)) _).trans rfl
  have hself := carrierChange_band_self (s := s.modBand g.band (Band.guard g)) hb hlen
  rw [band_modBand_self hb hb'] at hself
  unfold guarded
  dsimp only
  split
  case isTrue h =>
    rw [pruneAll, band_modBand_self hb hlen', hself, hset]
    have : ¬ g.cc ≤ (s.band g.band).p.gapCc := by omega
    simp only [this, decide_false, Bool.false_or]
    rfl
  case isFalse h =>
    rw [hself]
    have : g.cc ≤ (s.band g.band).p.gapCc := by omega
    simp only [this, decide_true, Bool.true_or, List.filter_true]
    rfl

theorem guarded_recarried {g : Guards} (hb : 1 ≤ g.band) (hb' : g.band ≤ s.bands.length) : Recarried g.band s (guarded g s) := by
  have hrec : Recarried g.band s (carrierChange g.band (s.modBand g.band (Band.guard g))) :=
    .of_change hb hb' (f := Band.guard g) fun _ => rfl
  have hlen : g.band ≤ (carrierChange g.band (s.modBand g.band (Band.guard g))).bands.length := by
    rw [carrierChange_bands, modSlot_length, length_modBand]; exact hb'
  unfold guarded
  dsimp only
  split
  · exact hrec.modBand hb hlen (f := fun k => { k with
      spares := k.spares.filter fun e => !((carrierChange g.band (s.modBand g.band (Band.guard g))).carrierSet g.band).any
        fun c => within c.step c.hw k.p.gapCc e.step }) (fun _ => rfl) fun _ => id
  · exact hrec

theorem bandGuards_takes {g : Guards} (hs : s.shaped) (hb : 1 ≤ g.band) (hb' : g.band ≤ 4) (ht : Takes 0x11 f s)
    (hr : readGuards f.payload = some g)
    (hact : guardBand g (dropHead s) = okWith (u8 g.cc ++ u8 g.im3 ++ u8 g.im3x ++ u8 g.im5) (guarded g (dropHead s))) :
    Reaches .bandGuards s fun t =>
      let b := g.band
      let k := s.band b
      Replies f (u8 0 ++ u8 g.cc ++ u8 g.im3 ++ u8 g.im3x ++ u8 g.im5) s t ∧
      (t.band b).p = { k.p with gapCc := g.cc, gapIm3 := g.im3, gapIm3x := g.im3x, gapIm5 := g.im5 } ∧
      (t.band b).spares = k.spares.filter (fun e => decide (g.cc ≤ k.p.gapCc) ||
        !(s.carrierSet b).any fun c => within c.step c.hw g.cc e.step) ∧
      (t.band b).exclusions = k.exclusions ∧ (t.band b).bins = k.bins ∧ (t.band b).sparesFresh = false ∧
      (t.band b).frozen = k.frozen ∧ CarrierChanges b 1 s t ∧ SweepAsked b t ∧ Rechecks (CheckedElsewhere b s t) s t ∧
      KeepsBut (.bands :: .plan :: afterParts) s t := by
  have hlen : g.band ≤ (dropHead s).bands.length := hb'.trans_eq hs.1.symm
  have hkeeps := keeps_guarded g (dropHead s)
  have hrec := guarded_recarried (s := dropHead s) hb hlen
  have hband := guarded_band (s := dropHead s) hb hlen
  refine ⟨_, request_oks ht hr hact, ?_⟩
  generalize guarded g (dropHead s) = T at *
  have hcore := bandCore_after_reply f (u8 0 ++ (u8 g.cc ++ u8 g.im3 ++ u8 g.im3x ++ u8 g.im5)) T g.band
  rw [hband] at hcore
  obtain ⟨hchanges, hasked, hplan⟩ := hrec.replied f (u8 0 ++ (u8 g.cc ++ u8 g.im3 ++ u8 g.im3x ++ u8 g.im5))
  refine ⟨?_, (congrArg Band.p hcore :), (congrArg Band.spares hcore :), (congrArg Band.exclusions hcore :),
    (congrArg Band.bins hcore :), (congrArg Band.sparesFresh hcore :), (congrArg Band.frozen hcore :), hchanges, hasked, hplan,
    (keeps_job_reply hkeeps).mono (by decide)⟩
  simp only [List.append_assoc]
  exact replies_of_after (hkeeps .mp (by decide))

end settings

/-- Settles O35: each request by its checks in turn, and then by one carrier change with what it asks for. -/
theorem bandSettingsTaken : Obligations.BandSettingsTaken := by
  unfold Obligations.BandSettingsTaken
  constructor
  · intro s f b p hs ht hr q right
    have hright : p.raised.valid (dropHead s) b = true ↔ right := valid_iff _ _ _
    refine ⟨fun hbad => ?_, fun hb hb' hok => ?_⟩
    · by_cases hb : isBand b = false
      · exact request_refuses ht hr (if_pos hb) rfl
      · have hband := (isBand_iff b).1 (by simpa using hb)
        have hnot : ¬ right := by
          rcases hbad with h | h | h
          · omega
          · omega
          · exact h
        rw [← hright, Bool.not_eq_true] at hnot
        exact request_refuses ht hr ((defineBand_of_band hband.1 hband.2).trans (if_pos hnot)) rfl
    · have hvalid : ¬ p.raised.valid (dropHead s) b = false := by rw [hright.2 hok]; decide
      have hact := (defineBand_of_band (s := dropHead s) (p := p) hb hb').trans (if_neg hvalid)
      refine ⟨fun hrun => ?_, fun hstand hheld => ?_, fun hstand hnone => ?_⟩
      · exact request_refuses ht hr (hact.trans (if_pos hrun)) rfl
      · have hmode : ¬ (dropHead s).mode = .run := by show ¬ s.mode = .run; rw [hstand]; decide
        have hholds : (dropHead s).bandHolds b = true := by
          rw [← Bool.not_eq_false, bandHolds_eq_false_iff]; exact hheld
        exact request_refuses ht hr (hact.trans ((if_neg hmode).trans (if_pos hholds))) rfl
      · have hmode : ¬ (dropHead s).mode = .run := by show ¬ s.mode = .run; rw [hstand]; decide
        have hholds : ¬ (dropHead s).bandHolds b = true := by
          rw [Bool.not_eq_true, bandHolds_eq_false_iff]; exact hnone
        exact bandDefine_takes hs hb hb' ht hr (hact.trans ((if_neg hmode).trans (if_neg hholds)))
  · intro s f g hs ht hr b k
    refine ⟨fun hbad => ?_, fun hb hb' hdef => ?_, fun hb hb' hdef => ?_⟩
    · exact request_refuses ht hr (if_pos ((isBand_eq_false_iff b).2 hbad)) rfl
    · exact request_refuses ht hr ((guardBand_of_band hb hb').trans (if_pos hdef)) rfl
    · have hdef' : ¬ ((dropHead s).band g.band).defined = false := by
        show ¬ (s.band g.band).defined = false
        simpa using hdef
      exact bandGuards_takes hs hb hb' ht hr ((guardBand_of_band hb hb').trans (if_neg hdef'))

/-! ## EXCL_ADD and EXCL_REMOVE (R25) -/

section exclusions
variable {s : State} {f : HostFrame} {b : Nat} {r : StepRange} {code : Nat} {c : Instr}
  {change : StepRange → List StepRange → List StepRange}

/-- A band whose list of exclusions is replaced, by one carrier change. -/
def excluded (b : Nat) (list : List StepRange) (s : State) : State :=
  carrierChange b (s.modBand b fun k => { k with exclusions := list })

theorem keeps_excluded (b : Nat) (list : List StepRange) (s : State) : KeepsBut carrierParts s (excluded b list s) :=
  ((keeps_modBand _ _ _).mono (by decide)).trans (keeps_carrierChange _ _)

/-- The checks of both requests, for a band that the part has. -/
theorem changeExclusions_of_band (hb : 1 ≤ b) (hb' : b ≤ 4) : changeExclusions change (b, r) s =
    if (s.band b).defined = false then refuse .wrongState s
    else if (s.band b).frozen then refuse .frozen s
    else if r.hi < r.lo ∨ (s.band b).p.steps ≤ r.hi then refuse .badArgument s
    else if Config.exclusions < (change r (s.band b).exclusions).length then refuse .full s
    else okWith (u8 (change r (s.band b).exclusions).length) (excluded b (change r (s.band b).exclusions) s) :=
  if_neg (isBand_of_le hb hb')

theorem exclusions_takes {list : List StepRange} (hs : s.shaped) (hb : 1 ≤ b) (hb' : b ≤ 4)
    (hexec : exec c s = .next (after (putReply f (u8 0 ++ u8 list.length) (excluded b list (dropHead s))))) :
    Reaches c s fun t =>
      Replies f (u8 0 ++ u8 list.length) s t ∧ (t.band b).exclusions = list ∧ (t.band b).sparesFresh = false ∧
        (t.band b).p = (s.band b).p ∧ (t.band b).bins = (s.band b).bins ∧ (t.band b).spares = (s.band b).spares ∧
        CarrierChanges b 1 s t ∧ SweepAsked b t ∧ Rechecks (CheckedElsewhere b s t) s t ∧
        KeepsBut (.bands :: .plan :: afterParts) s t := by
  have hlen : b ≤ (dropHead s).bands.length := hb'.trans_eq hs.1.symm
  have hkeeps := keeps_excluded b list (dropHead s)
  have hrec : Recarried b (dropHead s) (excluded b list (dropHead s)) :=
    .of_change hb hlen (f := fun k => { k with exclusions := list }) fun _ => rfl
  have hband : (excluded b list (dropHead s)).band b = Band.carried { s.band b with exclusions := list } := by
    rw [excluded, carrierChange_band_self hb (hlen.trans_eq (length_modBand ..).symm), band_modBand_self hb hlen]
    rfl
  refine ⟨_, hexec, ?_⟩
  generalize excluded b list (dropHead s) = T at *
  have hcore := bandCore_after_reply f (u8 0 ++ u8 list.length) T b
  rw [hband] at hcore
  obtain ⟨hchanges, hasked, hplan⟩ := hrec.replied f (u8 0 ++ u8 list.length)
  exact ⟨replies_of_after (hkeeps .mp (by decide)), (congrArg Band.exclusions hcore :), (congrArg Band.sparesFresh hcore :),
    (congrArg Band.p hcore :), (congrArg Band.bins hcore :), (congrArg Band.spares hcore :), hchanges, hasked, hplan,
    (keeps_job_reply hkeeps).mono (by decide)⟩

/-- Either request by its checks in turn. -/
theorem exclusions_checked (hs : s.shaped) (ht : Takes code f s) (hr : readRange f.payload = some (b, r))
    (hexec : exec c s = request code readRange (changeExclusions change) afterJob s) :
    let k := s.band b
    let list := change r k.exclusions
    (b = 0 ∨ 4 < b → Reaches c s (Refuses .badArgument f s)) ∧
    (1 ≤ b → b ≤ 4 →
      (k.defined = false → Reaches c s (Refuses .wrongState f s)) ∧
      (k.defined = true → k.frozen = true → Reaches c s (Refuses .frozen f s)) ∧
      (k.defined = true → k.frozen = false → r.hi < r.lo ∨ k.p.steps ≤ r.hi → Reaches c s (Refuses .badArgument f s)) ∧
      (k.defined = true → k.frozen = false → r.lo ≤ r.hi → r.hi < k.p.steps →
        (32 < list.length → Reaches c s (Refuses .full f s)) ∧
        (list.length ≤ 32 → Reaches c s fun t =>
          Replies f (u8 0 ++ u8 list.length) s t ∧ (t.band b).exclusions = list ∧ (t.band b).sparesFresh = false ∧
          (t.band b).p = k.p ∧ (t.band b).bins = k.bins ∧ (t.band b).spares = k.spares ∧ CarrierChanges b 1 s t ∧
          SweepAsked b t ∧ Rechecks (CheckedElsewhere b s t) s t ∧ KeepsBut (.bands :: .plan :: afterParts) s t))) := by
  intro k list
  have hrefuse {x : Result} (hact : changeExclusions change (b, r) (dropHead s) = refuse x (dropHead s))
      (hx : carriedOut (u8 x.code) = false) : Reaches c s (Refuses x f s) := by
    obtain ⟨t, hstep, hrefuses⟩ := request_refuses (rest := afterJob) ht hr hact hx
    exact ⟨t, hexec.trans hstep, hrefuses⟩
  refine ⟨fun hbad => hrefuse (if_pos ((isBand_eq_false_iff b).2 hbad)) rfl, fun hb hb' => ?_⟩
  have hact := changeExclusions_of_band (s := dropHead s) (r := r) (change := change) hb hb'
  simp only [dropHead_band] at hact
  have defined (h : k.defined = true) : ¬ (s.band b).defined = false := by rw [h]; decide
  have thawed (h : k.frozen = false) : ¬ (s.band b).frozen = true := by rw [h]; decide
  refine ⟨fun hdef => ?_, fun hdef hfro => ?_, fun hdef hfro hrange => ?_, fun hdef hfro hlo hhi => ?_⟩
  · exact hrefuse (hact.trans (if_pos hdef)) rfl
  · exact hrefuse (hact.trans ((if_neg (defined hdef)).trans (if_pos hfro))) rfl
  · exact hrefuse (hact.trans ((if_neg (defined hdef)).trans ((if_neg (thawed hfro)).trans (if_pos hrange)))) rfl
  · have hrange : ¬ (r.hi < r.lo ∨ (s.band b).p.steps ≤ r.hi) := fun h => h.elim hlo.not_gt hhi.not_ge
    have hact := hact.trans ((if_neg (defined hdef)).trans ((if_neg (thawed hfro)).trans (if_neg hrange)))
    refine ⟨fun hfull => hrefuse (hact.trans (if_pos hfull)) rfl, fun hroom => ?_⟩
    exact exclusions_takes hs hb hb' (hexec.trans (request_oks ht hr (hact.trans (if_neg hroom.not_gt))))

end exclusions

/-- Settles O36: both requests are the one check of a list's change. -/
theorem exclusionsRequested : Obligations.ExclusionsRequested := by
  intro s f b r hs hr k checked
  exact ⟨fun ht => exclusions_checked hs ht hr rfl, fun ht => exclusions_checked hs ht hr rfl⟩

/-! ## BAND_FREEZE and BAND_UNFREEZE (R20) -/

section frozen
variable {s s1 : State} {f : HostFrame} {b : Nat} {p : List Byte} {v : Bool}

/-- A band's flag is set, with its notice (R20). -/
def setFrozen (b : Nat) (v : Bool) (s : State) : State := raise .bandFreeze b (s.modBand b fun k => { k with frozen := v })

theorem setFrozen_band_self (hb : 1 ≤ b) (hb' : b ≤ s.bands.length) :
    (setFrozen b v s).band b = { s.band b with frozen := v } := by
  show (raise _ _ _).band b = _
  rw [State.band, raise_bands]
  exact band_modBand_self hb hb' fun k => { k with frozen := v }

theorem setFrozen_band_other {m : Nat} (h : m ≠ b) : (setFrozen b v s).band m = s.band m := by
  show (raise _ _ _).band m = _
  rw [State.band, raise_bands]
  exact band_modBand_other h _

/-- A request that changes nothing before its reply. -/
theorem freeze_repeated (b : Nat) (f : HostFrame) (p : List Byte) (hv : (s.band b).frozen = v) :
    Replies f p s (after (putReply f p (dropHead s))) ∧
      ((after (putReply f p (dropHead s))).band b).core = ({ s.band b with frozen := v }).core ∧
      BandAlone b s (after (putReply f p (dropHead s))) ∧ KeepsBut (.bands :: afterParts) s (after (putReply f p (dropHead s))) := by
  have hkeeps : KeepsBut afterParts s (after (putReply f p (dropHead s))) := keeps_after_reply (.refl _ _)
  refine ⟨replies_of_after rfl, ?_, fun m _ => bandCore_of_same (hkeeps .bands (by decide)) m, hkeeps.mono (by decide)⟩
  rw [bandCore_of_same (hkeeps .bands (by decide)) b, ← hv]

/-- Past the reply of a request that sets a band's flag, that band alone has changed, and its notice is on its way. -/
theorem freeze_replied (hb : 1 ≤ b) (hb' : b ≤ (dropHead s).bands.length) (hbands : s1.bands = (setFrozen b v (dropHead s)).bands)
    (hnq : s1.nq = (setFrozen b v (dropHead s)).nq) (hmp : s1.mp = (dropHead s).mp) (f : HostFrame) (p : List Byte) :
    Replies f p s (after (putReply f p s1)) ∧ ((after (putReply f p s1)).band b).core = ({ s.band b with frozen := v }).core ∧
      BandAlone b s (after (putReply f p s1)) ∧ Notified .bandFreeze b (after (putReply f p s1)) := by
  have hband (m : Nat) : s1.band m = (setFrozen b v (dropHead s)).band m := by rw [State.band, hbands]; rfl
  refine ⟨replies_of_after hmp, ?_, fun m hm => ?_, notified_after_reply f p ?_⟩
  · rw [bandCore_after_reply, hband, setFrozen_band_self hb hb']
    rfl
  · rw [bandCore_after_reply, hband, setFrozen_band_other hm]
    rfl
  · exact (waits_raise _ _ _).of_same (s := setFrozen b v (dropHead s)) hnq

/-- A link after a thaw (R20). -/
theorem thaw_link (b l : Nat) (s : State) : (thaw b s).link l = unfreezeLink b (s.link l) := by
  have hvacant : unfreezeLink b Link.vacant = Link.vacant := if_neg fun h => by cases h.2.1
  have := slot_map (unfreezeLink b) Link.vacant s.links l
  rw [hvacant] at this
  exact this

/-- A link at its fade limit that a thaw finds is wanted, or a pick of it is under way (R20). -/
theorem unfreezeLink_wants {k : Link} (hb : k.cfg.band = b) (hst : k.state = .fading) (hlim : k.fadeTimer = k.cfg.fadeLimit)
    (hauto : k.cfg.autoRescue = true) : (unfreezeLink b k).rescue = .wanted ∨ (unfreezeLink b k).rescue = .picking := by
  unfold unfreezeLink
  split
  case isTrue => exact .inl rfl
  case isFalse h =>
    cases hr : k.rescue
    case none => exact absurd ⟨hb, hst, hlim, hauto, .inl hr⟩ h
    case exhausted => exact absurd ⟨hb, hst, hlim, hauto, .inr hr⟩ h
    case wanted => exact .inl rfl
    case picking => exact .inr rfl

/-- Any other link is left by a thaw. -/
theorem unfreezeLink_of_not {k : Link} (h : k.cfg.band ≠ b ∨ k.state ≠ .fading ∨ k.fadeTimer ≠ k.cfg.fadeLimit ∨
    k.cfg.autoRescue = false) : unfreezeLink b k = k := by
  refine if_neg fun ⟨hb, hst, hlim, hauto, _⟩ => ?_
  rcases h with h | h | h | h
  · exact h hb
  · exact h hst
  · exact h hlim
  · rw [h] at hauto; cases hauto

/-- The checks that both requests share. -/
theorem freeze_checked {code : Nat} {c : Instr} {act : Nat → State → Answered} {rest : Answered} (ht : Takes code f s)
    (hr : readOne f.payload = some b) (hexec : exec c s = request code readOne act afterJob s)
    (hact : act b (dropHead s) = if isBand b = false then refuse .badArgument (dropHead s)
      else if (s.band b).defined = false then refuse .wrongState (dropHead s) else rest) :
    (b = 0 ∨ 4 < b → Reaches c s (Refuses .badArgument f s)) ∧
      (1 ≤ b → b ≤ 4 → (s.band b).defined = false → Reaches c s (Refuses .wrongState f s)) ∧
      (1 ≤ b → b ≤ 4 → (s.band b).defined = true → act b (dropHead s) = rest) := by
  have hrefuse {x : Result} (hact : act b (dropHead s) = refuse x (dropHead s))
      (hx : carriedOut (u8 x.code) = false) : Reaches c s (Refuses x f s) := by
    obtain ⟨t, hstep, hrefuses⟩ := request_refuses (rest := afterJob) ht hr hact hx
    exact ⟨t, hexec.trans hstep, hrefuses⟩
  refine ⟨fun hbad => hrefuse (hact.trans (if_pos ((isBand_eq_false_iff b).2 hbad))) rfl, fun hb hb' hdef => ?_,
    fun hb hb' hdef => ?_⟩
  · exact hrefuse (hact.trans ((if_neg (isBand_of_le hb hb')).trans (if_pos hdef))) rfl
  · exact hact.trans ((if_neg (isBand_of_le hb hb')).trans (if_neg (by rw [hdef]; decide)))

theorem bandFreeze_takes (hs : s.shaped) (hb : 1 ≤ b) (hb' : b ≤ 4) (ht : Takes 0x14 f s) (hr : readOne f.payload = some b)
    (hact : freezeBand b (dropHead s) =
      okWith (firstIf true) (if (s.band b).frozen then dropHead s else setFrozen b true (dropHead s))) :
    Reaches .bandFreeze s fun t =>
      Replies f (u8 0 ++ firstIf true) s t ∧ (t.band b).core = ({ s.band b with frozen := true }).core ∧ BandAlone b s t ∧
        ((s.band b).frozen = false → Notified .bandFreeze b t) ∧ KeepsBut (.bands :: afterParts) s t := by
  refine ⟨_, request_oks ht hr hact, ?_⟩
  cases hfro : (s.band b).frozen
  case true =>
    obtain ⟨hreply, hcore, halone, hkeeps⟩ := freeze_repeated b f (u8 0 ++ firstIf true) hfro
    exact ⟨hreply, hcore, halone, fun h => by (cases h), hkeeps⟩
  case false =>
    obtain ⟨hreply, hcore, halone, hnotified⟩ :=
      freeze_replied (v := true) hb (hb'.trans_eq hs.1.symm) rfl rfl rfl f (u8 0 ++ firstIf true)
    exact ⟨hreply, hcore, halone, fun _ => hnotified, (keeps_job_reply (keeps_setFrozen b true _)).mono (by decide)⟩

theorem bandUnfreeze_takes (hs : s.shaped) (hb : 1 ≤ b) (hb' : b ≤ 4) (ht : Takes 0x15 f s) (hr : readOne f.payload = some b)
    (hact : unfreezeBand b (dropHead s) =
      okWith (firstIf false) (if (s.band b).frozen then thaw b (dropHead s) else dropHead s)) :
    Reaches .bandUnfreeze s fun t =>
      Replies f (u8 0 ++ firstIf false) s t ∧ (t.band b).core = ({ s.band b with frozen := false }).core ∧ BandAlone b s t ∧
      ((s.band b).frozen = true → Notified .bandFreeze b t ∧ ∀ l, 1 ≤ l → l ≤ 48 → (s.link l).cfg.band = b →
        (s.link l).state = .fading → (s.link l).fadeTimer = (s.link l).cfg.fadeLimit → (s.link l).cfg.autoRescue = true →
        (t.link l).rescue = .wanted ∨ (t.link l).rescue = .picking) ∧
      (∀ l, (s.link l).cfg.band ≠ b ∨ (s.link l).state ≠ .fading ∨ (s.link l).fadeTimer ≠ (s.link l).cfg.fadeLimit ∨
        (s.link l).cfg.autoRescue = false ∨ (s.band b).frozen = false → (s.link l).rescue ≠ .wanted →
        (t.link l).rescue = (s.link l).rescue) ∧ KeepsBut (.bands :: afterParts) s t := by
  refine ⟨_, request_oks ht hr hact, ?_⟩
  have hflags (T : State) := (flags_after_reply f (u8 0 ++ firstIf false) T).rescue
  cases hfro : (s.band b).frozen
  case false =>
    obtain ⟨hreply, hcore, halone, hkeeps⟩ := freeze_repeated b f (u8 0 ++ firstIf false) hfro
    refine ⟨hreply, hcore, halone, fun h => by (cases h), fun l _ hne => ?_, hkeeps⟩
    exact (hflags (dropHead s) l).resolve_right fun h => hne h.1
  case true =>
    obtain ⟨hreply, hcore, halone, hnotified⟩ :=
      freeze_replied (v := false) (s1 := thaw b (dropHead s)) hb (hb'.trans_eq hs.1.symm) rfl rfl rfl f (u8 0 ++ firstIf false)
    refine ⟨hreply, hcore, halone, fun _ => ⟨hnotified, fun l _ _ hband hst hlim hauto => ?_⟩, fun l hl hne => ?_,
      (keeps_job_reply (keeps_thaw b _)).mono (by decide)⟩
    · have hwants := unfreezeLink_wants (b := b) hband hst hlim hauto
      rcases hflags (thaw b (dropHead s)) l with h | ⟨-, h, -⟩
      · rw [thaw_link] at h
        exact hwants.imp h.trans h.trans
      · exact .inr h
    · have hlink : (thaw b (dropHead s)).link l = s.link l := by
        rw [thaw_link]
        refine unfreezeLink_of_not (k := s.link l) ?_
        rcases hl with h | h | h | h | h
        · exact .inl h
        · exact .inr (.inl h)
        · exact .inr (.inr (.inl h))
        · exact .inr (.inr (.inr h))
        · cases h
      rcases hflags (thaw b (dropHead s)) l with h | ⟨h, -⟩
      · rw [hlink] at h; exact h
      · rw [hlink] at h; exact absurd h hne

end frozen

/-- Settles O38: the flag is set or cleared with its notice, or nothing changes. -/
theorem bandsFreezeAndThaw : Obligations.BandsFreezeAndThaw := by
  intro s f b hs hr k checked
  refine ⟨fun ht => ?_, fun ht => ?_⟩
  · obtain ⟨hbad, hundef, hact⟩ := freeze_checked (c := .bandFreeze) ht hr rfl rfl
    exact ⟨⟨hbad, hundef⟩, fun hb hb' hdef => bandFreeze_takes hs hb hb' ht hr (hact hb hb' hdef)⟩
  · obtain ⟨hbad, hundef, hact⟩ := freeze_checked (c := .bandUnfreeze) ht hr rfl rfl
    exact ⟨⟨hbad, hundef⟩, fun hb hb' hdef => bandUnfreeze_takes hs hb hb' ht hr (hact hb hb' hdef)⟩
end Sys2Proof.Machine

/-! LINK_RELEASE, LINK_PARK and LINK_UNPARK. The order that each issues stays with its unit: what follows withdraws orders of older ids
alone, and displaces none but TALLY and TALK_LAMP orders (R127, R148). -/

namespace Sys2Proof.Machine

-- One theorem at a time: all at once, their threads together outgrow the memory limit of the check.
set_option Elab.async false

/-! ## Orders of new ids stay (R127, R148) -/

/-- Every order of an id from `n` on that may not be displaced stays where it is. -/
def SparesFrom (n : Nat) (s t : State) : Prop :=
  ∀ (a : Nat) (o : Order), n ≤ o.id → o.displaceable = false →
    (o ∈ (s.unit a).waiting → o ∈ (t.unit a).waiting) ∧ (o ∈ (s.unit a).outstanding → o ∈ (t.unit a).outstanding)

namespace SparesFrom
variable {n : Nat} {s t u : State}

theorem refl (n : Nat) (s : State) : SparesFrom n s s := fun _ _ _ _ => ⟨id, id⟩

theorem trans (h : SparesFrom n s t) (k : SparesFrom n t u) : SparesFrom n s u := fun a o hn hd =>
  ⟨fun hw => (k a o hn hd).1 ((h a o hn hd).1 hw), fun ho => (k a o hn hd).2 ((h a o hn hd).2 ho)⟩

theorem of_issues {ok : Issuer → Prop} (h : Issues ok s t) (n : Nat) : SparesFrom n s t := fun _ _ _ hd =>
  ⟨h.waiting, h.outstanding hd⟩

theorem keeps {ps : List Part} (h : KeepsBut ps s t) (n : Nat) (hp : .units ∉ ps := by decide) : SparesFrom n s t :=
  of_issues (ok := fun _ => True) (.keeps h hp) n

/-- A withdrawal of an older order. -/
theorem withdraw (s : State) (a : Nat) {id : Nat} (h : id < n) : SparesFrom n s (withdraw a id s) := fun b o hn _ => by
  obtain he | he := unit_modUnit_cases s a b fun u => { u with waiting := u.waiting.filter fun o => decide (o.id ≠ id) }
  · exact ⟨fun hw => he ▸ hw, fun ho => he ▸ ho⟩
  · refine ⟨fun hw => he ▸ List.mem_filter.2 ⟨hw, decide_eq_true fun hid => ?_⟩, fun ho => he ▸ ho⟩
    omega

end SparesFrom

theorem OrderedAs.spared {n m a : Nat} {body : OrderBody} {i : Issuer} {s t u : State} (h : OrderedAs n a body i s t) (hm : m ≤ n)
    (hd : ∀ o : Order, o.body = body → o.displaceable = false) (k : SparesFrom m t u) : OrderedAs n a body i s u := by
  obtain ⟨o, hid, ha, hb, hi, hdl, hmem⟩ := h
  refine ⟨o, hid, ha, hb, hi, hdl, hmem.imp (fun hw => (k a o (hid ▸ hm) (hd o hb)).1 hw) fun ⟨x, hx⟩ => ⟨x, ?_⟩⟩
  exact (k a { o with number := some x } (hid ▸ hm : m ≤ o.id) (hd { o with number := some x } hb)).2 hx

/-- Every tally order of a link has an id below `n`. -/
def TalliesBelow (n : Nat) (s : State) : Prop := ∀ k ∈ s.links, k.tallyOrder.all (fun x => decide (x.id < n)) = true

theorem TalliesBelow.link {n : Nat} {s : State} (h : TalliesBelow n s) {l : Nat} {x : TallyOrder} (hx : (s.link l).tallyOrder = some x) :
    x.id < n := by
  have hmem : s.link l ∈ s.links ∨ s.link l = Link.vacant := by
    cases l with
    | zero => exact .inr rfl
    | succ k =>
      by_cases hk : k < s.links.length
      · left
        show s.links.getD k Link.vacant ∈ s.links
        rw [List.getD_eq_getElem _ _ hk]
        exact List.getElem_mem hk
      · exact .inr (List.getD_eq_default _ _ (by omega))
  rcases hmem with hm | hv
  · have := h _ hm
    rw [hx] at this
    simpa using this
  · rw [hv] at hx; cases hx

theorem TalliesBelow.modLink {n : Nat} {s : State} (h : TalliesBelow n s) (l : Nat) {f : Link → Link}
    (hf : ∀ k, (f k).tallyOrder = k.tallyOrder ∨ (f k).tallyOrder = none := by exact fun _ => .inl rfl) : TalliesBelow n (s.modLink l f) :=
  fun k hk => by
    obtain hk | ⟨k', hk', rfl⟩ := mem_modSlot hk
    · exact h k hk
    · rcases hf k' with he | he
      · rw [he]; exact h k' hk'
      · rw [he]; rfl

theorem TalliesBelow.of_links {n : Nat} {s t : State} (h : TalliesBelow n s) (hl : t.links = s.links) : TalliesBelow n t := fun k hk =>
  h k (hl ▸ hk)

theorem TalliesBelow.tallyFailed {n : Nat} {s : State} (h : TalliesBelow n s) (l id : Nat) : TalliesBelow n (tallyFailed l id s) := by
  unfold Machine.tallyFailed
  split
  · split
    · exact h.modLink l fun _ => .inr rfl
    · exact h
  · exact h

theorem lampFailed_links (t id : Nat) (s : State) : (lampFailed t id s).links = s.links := by
  unfold lampFailed
  split
  · split <;> rfl
  · rfl

theorem TalliesBelow.displaced {n : Nat} {s : State} (h : TalliesBelow n s) (o : Order) : TalliesBelow n (displaced o s) := by
  unfold Machine.displaced
  split
  · exact h.tallyFailed _ _
  · exact h.of_links (lampFailed_links _ _ _)
  · exact h

/-- An issue gives no link a tally order; a displaced one goes (R127). -/
theorem TalliesBelow.issue {n : Nat} {s : State} (h : TalliesBelow n s) (a : Nat) (body : OrderBody) (i : Issuer) :
    TalliesBelow n (issue a body i s).state := by
  obtain ⟨-, -, hr⟩ | ⟨-, -, -, hr⟩ | ⟨-, -, -, hr⟩ | ⟨-, -, -, v, -, hr⟩ := issue_cases a body i s <;> rw [hr]
  · exact h.of_links rfl
  · exact h.of_links rfl
  · exact h.of_links rfl
  · have hdrop : TalliesBelow n (s.tookId.modUnit a fun u => { u with outstanding := u.outstanding.eraseP Order.displaceable }) :=
      h.of_links rfl
    exact (hdrop.displaced v).of_links rfl

theorem TalliesBelow.issueMute {n : Nat} {s : State} (h : TalliesBelow n s) (l : Nat) (e : FrameNo) (i : Issuer) :
    TalliesBelow n (issueMute l e i s).state := h.issue _ _ _

theorem carrierChange_links (b : Nat) (s : State) : (carrierChange b s).links = s.links := by
  unfold carrierChange planWatch invalidatePlan setPlanState
  split
  · split <;> rfl
  · rfl

theorem TalliesBelow.carrierChange {n : Nat} {s : State} (h : TalliesBelow n s) (b : Nat) : TalliesBelow n (carrierChange b s) :=
  h.of_links (carrierChange_links b s)

/-- A change of state of a link whose tally order, where it has one, is older (R148). -/
theorem sparesFrom_tallySees {n l : Nat} {old : LinkState} {s : State} (h : TalliesBelow n s) : SparesFrom n s (tallySees l old s) := by
  unfold tallySees
  dsimp only
  split
  · exact .refl n s
  · split
    · split
      · rename_i x hx
        split
        · exact (SparesFrom.withdraw s _ (h.link hx)).trans (.keeps (keeps_modLink _ _ _) n)
        · exact .refl n s
      · exact .refl n s
    · exact .of_issues (Issues.ite (issues_deliveryTest l s) (.refl s)) n

theorem sparesFrom_changeState {n l : Nat} {new : LinkState} {c : Option LostCause} {s : State} (h : TalliesBelow n s) :
    SparesFrom n s (changeState l new c s) := by
  unfold changeState
  dsimp only
  split
  · exact .refl n s
  · have hmod : TalliesBelow n (raise .linkState l (s.modLink l (Link.enter new c))) :=
      (h.modLink l fun k => .inl (by unfold Link.enter; dsimp only; split <;> rfl)).of_links rfl
    exact (SparesFrom.of_issues (ok := fun _ => True) (.units rfl) n).trans (sparesFrom_tallySees hmod)

/-- A state in which the tally orders of the links are older than the next order. -/
theorem talliesBelow_of_sound {s : State} (h : s.unitsSound) : TalliesBelow s.nextOrderId s :=
  let ⟨_, _, _, _, hlinks⟩ := h
  hlinks

/-! ## Requests that refuse by a verdict -/

/-- A request whose owner refuses by a verdict, or carries the request out. -/
theorem request_by_verdict {α : Type} {code : Nat} {f : HostFrame} {s s1 : State} {read : List Byte → Option α}
    {act : α → State → Answered} {a : α} {c : Instr} {v : Option Result} {body : List Byte} (ht : Takes code f s)
    (hr : read f.payload = some a) (hexec : exec c s = request code read act finish s)
    (hact : act a (dropHead s) = v.elim (okWith body s1) (refuse · (dropHead s)))
    (hcodes : ∀ r, v = some r → carriedOut (u8 r.code) = false) :
    (∀ r, v = some r → Reaches c s (Refuses r f s)) ∧ (v = none → exec c s = .next (finish s (putReply f (u8 0 ++ body) s1))) := by
  refine ⟨fun r hv => ?_, fun hv => ?_⟩
  · obtain ⟨t, hstep, hrefuses⟩ := request_refuses (rest := finish) ht hr (hact.trans (by rw [hv]; rfl)) (hcodes r hv)
    exact ⟨t, hexec.trans hstep, hrefuses⟩
  · exact hexec.trans (request_finishes ht hr (hact.trans (by rw [hv]; rfl)))

/-! ## The verdicts (R91 to R93) -/

section verdicts
variable {l : Nat} {s : State} {r : Result}

theorem moving_iff (st : LinkState) : st.moving = true ↔ st = .retuning ∨ st = .reverting := by cases st <;> decide

/-- The code of the first check of R93 that fails, where one does. -/
def releaseRefusal (l : Nat) (s : State) : Option Result :=
  if l = 0 ∨ 48 < l then some .badArgument
  else if (s.link l).state = .retuning ∨ (s.link l).state = .reverting then some .linkBusy
  else if (s.link l).state = .vacant ∨ (s.link l).state = .idle then some .wrongState else none

/-- The code of the first check of R91 that fails, where one does. -/
def parkRefusal (l : Nat) (s : State) : Option Result :=
  if l = 0 ∨ 48 < l then some .badArgument
  else if (s.link l).state = .retuning ∨ (s.link l).state = .reverting then some .linkBusy
  else if ((s.link l).state = .vacant ∨ (s.link l).state = .idle) ∨ (s.link l).state = .acquiring ∨ (s.link l).state = .parked
  then some .wrongState else none

/-- The code of the first check of R92 that fails, where one does. -/
def unparkRefusal (l : Nat) (s : State) : Option Result :=
  if l = 0 ∨ 48 < l then some .badArgument
  else if s.mode = .standby then some .wrongMode
  else if (s.link l).state = .retuning ∨ (s.link l).state = .reverting then some .linkBusy
  else if (s.link l).state ≠ .parked then some .wrongState else none

theorem releaseLink_eq (l : Nat) (s : State) :
    releaseLink l s = (releaseRefusal l s).elim (okWith [] (giveUp l s)) (refuse · s) := by
  simp only [releaseLink, releaseRefusal, isLink_eq_false_iff, moving_iff]
  split_ifs <;> rfl

theorem parkLink_eq (l : Nat) (s : State) : parkLink l s = (parkRefusal l s).elim (okWith [] (park l s)) (refuse · s) := by
  simp only [parkLink, parkRefusal, isLink_eq_false_iff]
  cases (s.link l).state <;> simp [LinkState.moving, apply_ite] <;> split_ifs <;> rfl

/-- The unpark of a link that is PARKED (R92). -/
def unpark (l : Nat) (s : State) : State := giveOutcome l .acquired (enterAcquiring l s.nextEffective s)

theorem unparkLink_eq (l : Nat) (s : State) : unparkLink l s = (unparkRefusal l s).elim (okWith [] (unpark l s)) (refuse · s) := by
  simp only [unparkLink, unparkRefusal, isLink_eq_false_iff, moving_iff]
  split_ifs <;> rfl

theorem carriedOut_releaseRefusal (h : releaseRefusal l s = some r) : carriedOut (u8 r.code) = false := by
  simp only [releaseRefusal] at h
  split_ifs at h <;> cases h <;> rfl

theorem carriedOut_parkRefusal (h : parkRefusal l s = some r) : carriedOut (u8 r.code) = false := by
  simp only [parkRefusal] at h
  split_ifs at h <;> cases h <;> rfl

theorem carriedOut_unparkRefusal (h : unparkRefusal l s = some r) : carriedOut (u8 r.code) = false := by
  simp only [unparkRefusal] at h
  split_ifs at h <;> cases h <;> rfl

theorem not_bad_of_release (h : releaseRefusal l s = none) : 1 ≤ l ∧ l ≤ 48 ∧ (s.link l).state ≠ .idle := by
  unfold releaseRefusal at h
  split_ifs at h with hl hm ho
  exact ⟨by omega, by omega, fun hi => ho (.inr hi)⟩

theorem not_bad_of_park (h : parkRefusal l s = none) : 1 ≤ l ∧ l ≤ 48 ∧ (s.link l).state ≠ .parked := by
  unfold parkRefusal at h
  split_ifs at h with hl hm ho
  exact ⟨by omega, by omega, fun hi => ho (.inr (.inr hi))⟩

theorem not_bad_of_unpark (h : unparkRefusal l s = none) : 1 ≤ l ∧ l ≤ 48 ∧ (s.link l).state = .parked := by
  unfold unparkRefusal at h
  split_ifs at h with hl hm ho hp
  exact ⟨by omega, by omega, not_not.1 hp⟩

end verdicts

/-! ## What each request does (R86, R91 to R93, R115) -/

theorem LinkBecomes.carriers {l : Nat} {k : Link} {s t : State} (h : LinkBecomes l k s t) (n : Nat) :
    (t.link l).carriers n = k.carriers n := by
  rw [← Link.carriers_core, h.self, Link.carriers_core]

/-- The order of an event stays to its end. -/
theorem OrderedAs.finish {n a : Nat} {body : OrderBody} {i : Issuer} {s t : State} (h : OrderedAs n a body i s t)
    (hd : ∀ o : Order, o.body = body → o.displaceable = false) (s0 : State) (f : HostFrame) (p : List Byte) :
    Ordered a body i s (Machine.finish s0 (putReply f p t)) :=
  h.ordered.issues hd ((Issues.keeps (keeps_putReply f p t)).trans ((issues_finish s0 _).mono fun _ h => h))

section effects
variable {s : State} {l : Nat}

/-- A change of state between two that are in service, or two that are not, is of the record alone (R72, R148). -/
theorem changeState_of_service {new : LinkState} {c : Option LostCause} (hl : 1 ≤ l) (hl' : l ≤ s.links.length)
    (h : (s.link l).state.inService = new.inService) (hne : (s.link l).state ≠ new) :
    changeState l new c s = raise .linkState l (s.modLink l (Link.enter new c)) := by
  unfold changeState
  dsimp only
  rw [if_neg hne]
  have hself : (raise .linkState l (s.modLink l (Link.enter new c))).link l = Link.enter new c (s.link l) :=
    link_modLink_self hl hl' (Link.enter new c)
  have hst : ((raise .linkState l (s.modLink l (Link.enter new c))).link l).state = new := by
    rw [hself]
    unfold Link.enter
    dsimp only
    split <;> rfl
  unfold tallySees
  dsimp only
  rw [hst, h]
  cases new.inService <;> simp

theorem changeState_units {new : LinkState} {c : Option LostCause} (hl : 1 ≤ l) (hl' : l ≤ s.links.length)
    (h : (s.link l).state.inService = new.inService) : (changeState l new c s).units = s.units := by
  by_cases hne : (s.link l).state = new
  · exact congrArg State.units (if_pos hne)
  · rw [changeState_of_service hl hl' h hne]
    rfl

section
variable (hunits : s.units.length = 25) (htallies : TalliesBelow s.nextOrderId s) (hu : 1 ≤ (s.link l).cfg.unit)
  (hu' : (s.link l).cfg.unit ≤ 24) (hl : 1 ≤ l) (hl' : l ≤ s.links.length)

include hunits hu hu' in
/-- The MUTE of a link is issued, or its unit is full. -/
theorem issueMute_ordered (e : FrameNo) (i : Issuer) :
    (issueMute l e i s).overflow = false ∧
        OrderedAs s.nextOrderId (s.link l).cfg.unit (.mute (s.link l).cfg.channel e) i s (issueMute l e i s).state ∨
      (issueMute l e i s).overflow = true ∧ s.unitFull (s.link l).cfg.unit := by
  cases ho : (issueMute l e i s).overflow with
  | true => exact .inr ⟨rfl, unitFull_of_overflow ho⟩
  | false => exact .inl ⟨rfl, orderedAs_issue (place_of_address hunits (mem_unitAddresses.2 (.inl ⟨hu, hu'⟩))) ho⟩

/-- The link that gives up its carrier, before the outcome in the plan (R93). -/
def givenUp (l : Nat) (s : State) : State :=
  changeState l .idle none (release (s.link l).cfg.band (issueMute l s.nextEffective (.lsRelease l) s).state)

theorem giveUp_eq (l : Nat) (s : State) : giveUp l s =
    if (issueMute l s.nextEffective (.lsRelease l) s).overflow then raise .linkMuteFailed l (giveOutcome l .vacated (givenUp l s))
    else giveOutcome l .vacated (givenUp l s) := rfl

theorem givenUp_link (hl : 1 ≤ l) (hl' : l ≤ s.links.length) (hne : (s.link l).state ≠ .idle) :
    LinkBecomes l (Link.enter .idle none (s.link l)) s (givenUp l s) ∧ Waits .linkState l (givenUp l s) := by
  have h : LinkBecomes l (s.link l) s (release (s.link l).cfg.band (issueMute l s.nextEffective (.lsRelease l) s).state) :=
    ((LinkBecomes.refl l s).keeps (keeps_issueMute _ _ _ _)).keeps (keeps_release _ _)
  exact ⟨h.changeState hl hl' hne, waits_changeState (h.state ▸ hne)⟩

theorem givenUp_carrier (hb : 1 ≤ (s.link l).cfg.band) (hb' : (s.link l).cfg.band ≤ s.bands.length) :
    CarrierChanges (s.link l).cfg.band 1 s (givenUp l s) := by
  have hkeeps := keeps_issueMute l s.nextEffective (.lsRelease l) s
  have h := (CarrierChanges.refl (s.link l).cfg.band s).keeps hkeeps
  have hlen := length_of_bands (hkeeps .bands (by decide))
  exact (h.change hb (hlen.symm ▸ hb')).keeps (keeps_changeState _ _ _ _)

theorem givenUp_plan (hne : s.plan.state ≠ .ready) : (givenUp l s).plan = s.plan := by
  have hplan : (issueMute l s.nextEffective (.lsRelease l) s).state.plan = s.plan := keeps_issueMute _ _ _ _ .plan (by decide)
  rw [givenUp, changeState_plan]
  exact (carrierChange_plan_of_not_ready _ (by rw [hplan]; exact hne)).trans hplan

theorem givenUp_entries : (givenUp l s).plan.entries = s.plan.entries := by
  have hplan : (issueMute l s.nextEffective (.lsRelease l) s).state.plan = s.plan := keeps_issueMute _ _ _ _ .plan (by decide)
  rw [givenUp, changeState_plan]
  exact (carrierChange_entries _ _).trans (by rw [hplan])

theorem givenUp_not_applying (hne : s.plan.state ≠ .applying) : (givenUp l s).plan.state ≠ .applying := by
  have hplan : (issueMute l s.nextEffective (.lsRelease l) s).state.plan = s.plan := keeps_issueMute _ _ _ _ .plan (by decide)
  rw [givenUp, changeState_plan]
  rcases carrierChange_plan (s.link l).cfg.band (issueMute l s.nextEffective (.lsRelease l) s).state with h | ⟨-, h⟩
  · show (carrierChange _ _).plan.state ≠ _
    rw [h, hplan]; exact hne
  · show (carrierChange _ _).plan.state ≠ _
    rw [h]; exact PlanState.noConfusion

/-- What follows the link's own changes raises notices and touches the plan alone. -/
theorem keeps_giveUp_rest (l : Nat) (s : State) : KeepsBut [.plan, .notices] (givenUp l s) (giveUp l s) := by
  rw [giveUp_eq]
  have h : KeepsBut [.plan, .notices] (givenUp l s) (giveOutcome l .vacated (givenUp l s)) := keeps_giveOutcome _ _ _
  exact .ite (h.trans ((keeps_raise _ _ _).mono (by decide))) h

theorem giveUp_plan (l : Nat) (s : State) : (giveUp l s).plan = (giveOutcome l .vacated (givenUp l s)).plan := by
  rw [giveUp_eq]
  split <;> rfl

include hunits htallies hu hu' in
/-- The MUTE of a release goes out, or its unit is full and the failure is told. -/
theorem giveUp_mutes : OrderedAs s.nextOrderId (s.link l).cfg.unit (.mute (s.link l).cfg.channel s.nextEffective) (.lsRelease l) s (giveUp l s) ∨
    s.unitFull (s.link l).cfg.unit ∧ Waits .linkMuteFailed l (giveUp l s) := by
  rcases issueMute_ordered hunits hu hu' s.nextEffective (.lsRelease l) with ⟨-, hord⟩ | ⟨ho, hfull⟩
  · left
    have hcarrier : Issues (fun _ => True) (issueMute l s.nextEffective (.lsRelease l) s).state
        (release (s.link l).cfg.band (issueMute l s.nextEffective (.lsRelease l) s).state) := .keeps (keeps_release _ _)
    have htal : TalliesBelow s.nextOrderId (release (s.link l).cfg.band (issueMute l s.nextEffective (.lsRelease l) s).state) :=
      (htallies.issueMute l _ _).carrierChange _
    exact hord.spared le_rfl displaceable_mute (((SparesFrom.of_issues hcarrier _).trans (sparesFrom_changeState htal)).trans
      (.keeps (keeps_giveUp_rest l s) _))
  · right
    refine ⟨hfull, ?_⟩
    rw [giveUp_eq, if_pos ho]
    exact waits_raise _ _ _

/-- The link once it is PARKED, before a failure of its MUTE is told (R91). -/
def parked (l : Nat) (s : State) : State := changeState l .parked none (issueMute l s.nextEffective (.lsPark l) s).state

theorem park_eq (l : Nat) (s : State) :
    park l s = reportPark l (issueMute l s.nextEffective (.lsPark l) s).overflow (parked l s) := rfl

theorem parked_link (hl : 1 ≤ l) (hl' : l ≤ s.links.length) (hne : (s.link l).state ≠ .parked) :
    LinkBecomes l (Link.enter .parked none (s.link l)) s (parked l s) ∧ Waits .linkState l (parked l s) := by
  have h : LinkBecomes l (s.link l) s (issueMute l s.nextEffective (.lsPark l) s).state :=
    (LinkBecomes.refl l s).keeps (keeps_issueMute _ _ _ _)
  exact ⟨h.changeState hl hl' hne, waits_changeState (h.state ▸ hne)⟩

/-- A PARKED link whose MUTE failed keeps its record but for the MUTE's re-issue (R94). -/
theorem parkMuteFailed_does {t : State} {k : Link} (h : LinkBecomes l k s t) (hl : 1 ≤ l) (hl' : l ≤ s.links.length) :
    (∃ ms, LinkBecomes l { k with muteReissue := ms } s (parkMuteFailed l t)) ∧ Waits .linkMuteFailed l (parkMuteFailed l t) := by
  have hraise : LinkBecomes l k s (raise .linkMuteFailed l t) := h.keeps (keeps_raise _ _ _)
  have hwaits : Waits .linkMuteFailed l (raise .linkMuteFailed l t) := waits_raise _ _ _
  unfold parkMuteFailed
  dsimp only
  split
  · exact ⟨⟨_, hraise.modLink (f := fun k => { k with muteReissue := k.muteReissue ++ [framePlus t.now 1] }) hl hl'⟩, hwaits.of_same rfl⟩
  · exact ⟨⟨k.muteReissue, hraise⟩, hwaits⟩

theorem reportPark_link {t : State} {k : Link} (o : Bool) (h : LinkBecomes l k s t) (hl : 1 ≤ l) (hl' : l ≤ s.links.length) :
    ∃ ms, LinkBecomes l { k with muteReissue := ms } s (reportPark l o t) := by
  cases o
  · exact ⟨k.muteReissue, h⟩
  · exact (parkMuteFailed_does h hl hl').1

theorem sparesFrom_reportPark (n : Nat) (o : Bool) (t : State) : SparesFrom n t (reportPark l o t) := by
  refine .of_issues (ok := fun _ => True) (.units ?_) n
  unfold reportPark parkMuteFailed
  dsimp only
  split
  · split <;> rfl
  · rfl

include hunits htallies hu hu' hl hl' in
/-- The MUTE of a park goes out, or its unit is full and the failure is told. -/
theorem park_mutes (hne : (s.link l).state ≠ .parked) :
    OrderedAs s.nextOrderId (s.link l).cfg.unit (.mute (s.link l).cfg.channel s.nextEffective) (.lsPark l) s (park l s) ∨
      s.unitFull (s.link l).cfg.unit ∧ Waits .linkMuteFailed l (park l s) := by
  rcases issueMute_ordered hunits hu hu' s.nextEffective (.lsPark l) with ⟨-, hord⟩ | ⟨ho, hfull⟩
  · exact .inl (hord.spared le_rfl displaceable_mute
      ((sparesFrom_changeState (htallies.issueMute l _ _)).trans (sparesFrom_reportPark _ _ _)))
  · right
    refine ⟨hfull, ?_⟩
    rw [park_eq, ho]
    exact (parkMuteFailed_does (parked_link hl hl' hne).1 hl hl').2

theorem keeps_park_narrow (l : Nat) (s : State) : KeepsBut stateParts s (park l s) := by
  have h : KeepsBut stateParts s (parked l s) :=
    ((keeps_issueMute l s.nextEffective (.lsPark l) s).mono (by decide)).trans (keeps_changeState _ _ _ _)
  rw [park_eq]
  exact h.trans ((keeps_reportPark _ _ _).mono (by decide))

/-- The record of a link that enters ACQUIRING (R86). -/
def Link.acquiring (e : FrameNo) (k : Link) : Link :=
  { k with effectiveFrame := some e, deadline := some (framePlus e k.cfg.acquireLimit), silenceCounter := k.cfg.silenceLimit, fadeTimer := 0 }

/-- The state in which the TUNE of an acquisition is issued. -/
def acquires (l : Nat) (e : FrameNo) (s : State) : State := (changeState l .acquiring none s).modLink l (Link.acquiring e)

theorem enterAcquiring_eq (l : Nat) (e : FrameNo) (s : State) :
    enterAcquiring l e s = (issueTune l ((s.link l).assigned.getD 0) e (.lsTune l) (acquires l e s)).state := rfl

theorem keeps_enterAcquiring_narrow (l : Nat) (e : FrameNo) (s : State) : KeepsBut stateParts s (enterAcquiring l e s) := by
  have h : KeepsBut stateParts s (acquires l e s) := (keeps_changeState l .acquiring none s).trans ((keeps_modLink _ _ _).mono (by decide))
  rw [enterAcquiring_eq]
  exact h.trans ((keeps_issueTune _ _ _ _ _).mono (by decide))

theorem acquires_link {t : State} {k : Link} (e : FrameNo) (h : LinkBecomes l k s t) (hl : 1 ≤ l) (hl' : l ≤ s.links.length)
    (hne : k.state ≠ .acquiring) :
    LinkBecomes l (Link.acquiring e (Link.enter .acquiring none k)) s (acquires l e t) ∧ Waits .linkState l (acquires l e t) :=
  ⟨(h.changeState hl hl' hne).modLink (f := Link.acquiring e) hl hl', (waits_changeState (h.state ▸ hne)).of_same rfl⟩

/-- What an acquisition leaves of the link, and its notice (R86). -/
theorem enterAcquiring_link {t : State} {k : Link} (e : FrameNo) (h : LinkBecomes l k s t) (hl : 1 ≤ l) (hl' : l ≤ s.links.length)
    (hne : k.state ≠ .acquiring) : LinkBecomes l (Link.acquiring e (Link.enter .acquiring none k)) s (enterAcquiring l e t) ∧
      Waits .linkState l (enterAcquiring l e t) := by
  obtain ⟨hlink, hwaits⟩ := acquires_link e h hl hl' hne
  rw [enterAcquiring_eq]
  exact ⟨hlink.keeps (keeps_issueTune _ _ _ _ _), hwaits.of_acts (wide := .narrow) (acts_issueTune _ _ _ _ _)⟩

theorem khz_of_same {t : State} (hc : (t.link l).cfg = (s.link l).cfg) (hb : Part.bands.same s t) (step : Nat) : t.khz l step = s.khz l step := by
  have hp : (t.band (s.link l).cfg.band).p = (s.band (s.link l).cfg.band).p := (congrArg Band.p (bandCore_of_same hb _) :)
  rw [State.khz, State.khz, hc, hp]

include hunits hu hu' hl hl' in
/-- The TUNE of an acquisition goes out, or its unit is full. -/
theorem enterAcquiring_tunes (e : FrameNo) (hst : (s.link l).state.inService = false) (hne : (s.link l).state ≠ .acquiring) :
    Ordered (s.link l).cfg.unit (.tune (s.link l).cfg.channel (s.khz l ((s.link l).assigned.getD 0)) e) (.lsTune l) s
        (enterAcquiring l e s) ∨ s.unitFull (s.link l).cfg.unit := by
  have hkeeps : KeepsBut stateParts s (changeState l .acquiring none s) := keeps_changeState _ _ _ _
  have hlink := (acquires_link e (.refl l s) hl hl' hne).1
  have hcfg : ((acquires l e s).link l).cfg = (s.link l).cfg := by
    rw [hlink.cfg]
    unfold Link.acquiring Link.enter
    dsimp only
    split <;> rfl
  have hbands : Part.bands.same s (acquires l e s) := hkeeps .bands (by decide)
  have hissue : issueTune l ((s.link l).assigned.getD 0) e (.lsTune l) (acquires l e s) =
      issue (s.link l).cfg.unit (.tune (s.link l).cfg.channel (s.khz l ((s.link l).assigned.getD 0)) e) (.lsTune l) (acquires l e s) := by
    rw [issueTune, hcfg, khz_of_same hcfg hbands]
  have hsame : (acquires l e s).units = s.units := changeState_units hl hl' hst
  have hnow : (acquires l e s).now = s.now := congrArg Ftb.counter (hkeeps .ftb (by decide))
  rw [enterAcquiring_eq, hissue]
  rcases ordered_or_full (s := acquires l e s) (hsame ▸ hunits) (mem_unitAddresses.2 (.inl ⟨hu, hu'⟩))
    (.tune (s.link l).cfg.channel (s.khz l ((s.link l).assigned.getD 0)) e) (.lsTune l) with h | ⟨-, h⟩
  · exact .inl (h.of_now hnow)
  · exact .inr (unitFull_of_units hsame h)

end

end effects

section settled
variable {s s1 : State} {f : HostFrame} {l : Nat} {k : Link} {p : List Byte}

theorem LinkBecomes.of_dropHead (h : LinkBecomes l k (dropHead s) s1) : LinkBecomes l k s s1 := ⟨h.self, h.alone, h.length⟩

theorem CarrierChanges.of_dropHead {b n : Nat} (h : CarrierChanges b n (dropHead s) s1) : CarrierChanges b n s s1 := ⟨h.1, h.2⟩

/-- The reply of a request that moves a link: the link's record, its notice and every other link stay as the request left them. -/
theorem link_replied (h : LinkBecomes l k (dropHead s) s1) (hw : Waits .linkState l s1) (hmp : s1.mp = (dropHead s).mp)
    (f : HostFrame) (p : List Byte) :
    Replies f p s (finish s (putReply f p s1)) ∧ Notified .linkState l (finish s (putReply f p s1)) ∧
      LinkBecomes l k s (finish s (putReply f p s1)) := by
  have hput : LinkBecomes l k s (putReply f p s1) := h.of_dropHead.keeps (keeps_putReply f p s1)
  have hwaits : Waits .linkState l (putReply f p s1) := hw.of_same rfl
  exact ⟨replies_of_finish hmp s, notified_finish hwaits s, hput.finish s⟩

/-- The outcome in the plan stands past the reply. -/
theorem decided_replied {o : EntryOutcome} {t : State} (happ : s.plan.state = .applying) (ht : t.plan = s.plan)
    (h1 : s1.plan = (giveOutcome l o t).plan) (f : HostFrame) (p : List Byte) : Decided l o s (finish s (putReply f p s1)) :=
  (decided_giveOutcome (s := t) (ht ▸ happ)).of_plan ht.symm ((finish_plan _ _).trans h1)

/-- A waiting notice of a request's own is on its way past the reply. -/
theorem notified_replied {c : Cause} {o : Nat} (h : Waits c o s1) (f : HostFrame) (p : List Byte) :
    Notified c o (finish s (putReply f p s1)) := by
  have hwaits : Waits c o (putReply f p s1) := h.of_same rfl
  exact notified_finish hwaits s

variable (hs : s.shaped) (hsound : s.unitsSound) (hl : 1 ≤ l) (hl' : l ≤ 48) (hu : 1 ≤ (s.link l).cfg.unit)
  (hu' : (s.link l).cfg.unit ≤ 24)
include hs hl hl'

include hsound hu hu' in
theorem release_replied (hb : 1 ≤ (s.link l).cfg.band) (hb' : (s.link l).cfg.band ≤ 4) (hne : (s.link l).state ≠ .idle)
    (f : HostFrame) (p : List Byte) :
    let t := finish s (putReply f p (giveUp l (dropHead s)))
    (Replies f p s t ∧ Notified .linkState l t ∧ LinkAlone l s t) ∧
      (t.link l).state = .idle ∧ (t.link l).assigned = none ∧ (t.link l).carriers l = [] ∧
      (Ordered (s.link l).cfg.unit (.mute (s.link l).cfg.channel s.nextEffective) (.lsRelease l) s t ∨
        s.unitFull (s.link l).cfg.unit ∧ Notified .linkMuteFailed l t) ∧
      CarrierChanges (s.link l).cfg.band 1 s t ∧ (s.plan.state = .applying → Decided l .vacated s t) ∧
      (s.plan.state ≠ .applying → t.plan.entries = s.plan.entries ∧ (s.plan.state ≠ .ready → t.plan = s.plan)) ∧
      KeepsBut (.links :: .bands :: .plan :: tailParts) s t := by
  obtain ⟨hbands, hlinks, hunits, -⟩ := hs
  have hlen : l ≤ (dropHead s).links.length := hl'.trans_eq hlinks.symm
  have hrest := keeps_giveUp_rest l (dropHead s)
  obtain ⟨hlink, hwaits⟩ := givenUp_link (s := dropHead s) hl hlen hne
  have hwaits : Waits .linkState l (giveUp l (dropHead s)) := by
    rw [giveUp_eq]
    have h := hwaits.of_acts (wide := .narrow) (acts_giveOutcome l .vacated _)
    split
    · exact h.of_acts (wide := .narrow) (acts_raise _ _ _)
    · exact h
  have hcarrier := (givenUp_carrier (s := dropHead s) (l := l) hb (hb'.trans_eq hbands.symm)).keeps hrest
  have hmutes := giveUp_mutes (s := dropHead s) (l := l) hunits (talliesBelow_of_sound hsound) hu hu'
  have hframe := keeps_giveUp l (dropHead s)
  have happlying := givenUp_plan (s := dropHead s) (l := l)
  have hentries := givenUp_entries (s := dropHead s) (l := l)
  have hplan := giveUp_plan l (dropHead s)
  have hnot := givenUp_not_applying (s := dropHead s) (l := l)
  have hlink := hlink.keeps hrest
  generalize giveUp l (dropHead s) = s1 at *
  obtain ⟨hreply, htold, hend⟩ := link_replied hlink hwaits (hframe .mp (by decide)) f p
  refine ⟨⟨hreply, htold, hend.alone⟩, hend.state, hend.assigned, (hend.carriers l).trans rfl, ?_, ?_, fun happ => ?_, fun happ => ?_, ?_⟩
  · exact hmutes.imp (fun h => h.finish displaceable_mute s f p) fun ⟨hfull, hw⟩ => ⟨hfull, notified_replied hw f p⟩
  · exact (hcarrier.of_dropHead.keeps (keeps_putReply f p s1)).finish s
  · exact decided_replied happ (happlying (by rw [show (dropHead s).plan = s.plan from rfl, happ]; exact PlanState.noConfusion)) hplan f p
  · rw [finish_plan]
    have hsame : (putReply f p s1).plan = (givenUp l (dropHead s)).plan := by
      exact hplan.trans (congrArg State.plan (giveOutcome_of_not_applying (hnot happ)))
    rw [hsame]
    exact ⟨hentries, happlying⟩
  · exact (keeps_finish_reply hframe s).mono (by decide)

include hsound hu hu' in
theorem park_replied (hne : (s.link l).state ≠ .parked) (f : HostFrame) (p : List Byte) :
    let t := finish s (putReply f p (park l (dropHead s)))
    (Replies f p s t ∧ Notified .linkState l t ∧ LinkAlone l s t) ∧
      (t.link l).state = .parked ∧ (t.link l).assigned = (s.link l).assigned ∧
      (Ordered (s.link l).cfg.unit (.mute (s.link l).cfg.channel s.nextEffective) (.lsPark l) s t ∨
        s.unitFull (s.link l).cfg.unit ∧ Notified .linkMuteFailed l t) ∧
      KeepsBut (.links :: tailParts) s t := by
  obtain ⟨-, hlinks, hunits, -⟩ := hs
  have hlen : l ≤ (dropHead s).links.length := hl'.trans_eq hlinks.symm
  obtain ⟨hlink, hwaits⟩ := parked_link (s := dropHead s) hl hlen hne
  have hwaits : Waits .linkState l (park l (dropHead s)) := by
    rw [park_eq]
    exact hwaits.of_acts (wide := .full) (acts_reportPark _ _ _)
  obtain ⟨ms, hlink⟩ := reportPark_link (issueMute l (dropHead s).nextEffective (.lsPark l) (dropHead s)).overflow hlink hl hlen
  rw [← park_eq] at hlink
  have hmutes := park_mutes (s := dropHead s) (l := l) hunits (talliesBelow_of_sound hsound) hu hu' hl hlen hne
  have hframe := keeps_park_narrow l (dropHead s)
  generalize park l (dropHead s) = s1 at *
  obtain ⟨hreply, htold, hend⟩ := link_replied hlink hwaits (hframe .mp (by decide)) f p
  refine ⟨⟨hreply, htold, hend.alone⟩, hend.state, hend.assigned, ?_, (keeps_finish_reply hframe s).mono (by decide)⟩
  exact hmutes.imp (fun h => h.finish displaceable_mute s f p) fun ⟨hfull, hw⟩ => ⟨hfull, notified_replied hw f p⟩

include hu hu' in
theorem unpark_replied (hst : (s.link l).state = .parked) (f : HostFrame) (p : List Byte) :
    let t := finish s (putReply f p (unpark l (dropHead s)))
    (Replies f p s t ∧ Notified .linkState l t ∧ LinkAlone l s t) ∧
      (t.link l).state = .acquiring ∧ (t.link l).assigned = (s.link l).assigned ∧ (t.link l).effectiveFrame = some s.nextEffective ∧
      (t.link l).deadline = some (framePlus s.nextEffective (s.link l).cfg.acquireLimit) ∧
      (t.link l).silenceCounter = (s.link l).cfg.silenceLimit ∧ (t.link l).fadeTimer = 0 ∧
      (Ordered (s.link l).cfg.unit (.tune (s.link l).cfg.channel
          ((s.band (s.link l).cfg.band).p.baseKhz + 25 * (s.link l).assigned.getD 0) s.nextEffective) (.lsTune l) s t ∨
        s.unitFull (s.link l).cfg.unit) ∧
      (s.plan.state = .applying → Decided l .acquired s t) ∧ (s.plan.state ≠ .applying → t.plan = s.plan) ∧
      KeepsBut (.links :: .plan :: tailParts) s t := by
  obtain ⟨-, hlinks, hunits, -⟩ := hs
  have hlen : l ≤ (dropHead s).links.length := hl'.trans_eq hlinks.symm
  have hne : (s.link l).state ≠ .acquiring := by rw [hst]; exact LinkState.noConfusion
  obtain ⟨hlink, hwaits⟩ := enterAcquiring_link (t := dropHead s) (dropHead s).nextEffective (.refl l (dropHead s)) hl hlen hne
  have htunes := enterAcquiring_tunes (s := dropHead s) (l := l) hunits hu hu' hl hlen (dropHead s).nextEffective
    (by rw [show (dropHead s).link l = s.link l from rfl, hst]; rfl) hne
  have hacq := keeps_enterAcquiring_narrow l (dropHead s).nextEffective (dropHead s)
  have hplan : (enterAcquiring l (dropHead s).nextEffective (dropHead s)).plan = s.plan := hacq .plan (by decide)
  have hgive := keeps_giveOutcome l .acquired (enterAcquiring l (dropHead s).nextEffective (dropHead s))
  have hframe : KeepsBut (.plan :: stateParts) (dropHead s) (unpark l (dropHead s)) :=
    (hacq.mono (by decide)).trans (hgive.mono (by decide))
  have hlink : LinkBecomes l (Link.acquiring s.nextEffective (Link.enter .acquiring none (s.link l))) (dropHead s) (unpark l (dropHead s)) :=
    hlink.keeps hgive
  have hwaits : Waits .linkState l (unpark l (dropHead s)) := hwaits.of_acts (wide := .narrow) (acts_giveOutcome _ _ _)
  have hissues : Issues (fun _ => True) (enterAcquiring l (dropHead s).nextEffective (dropHead s)) (unpark l (dropHead s)) := .keeps hgive
  have houtcome : (unpark l (dropHead s)).plan = (giveOutcome l .acquired (enterAcquiring l (dropHead s).nextEffective (dropHead s))).plan := rfl
  generalize unpark l (dropHead s) = s1 at *
  obtain ⟨hreply, htold, hend⟩ := link_replied hlink hwaits (hframe .mp (by decide)) f p
  refine ⟨⟨hreply, htold, hend.alone⟩, hend.state, hend.assigned, hend.effectiveFrame, hend.deadline, hend.silenceCounter,
    hend.fadeTimer, ?_, fun happ => decided_replied happ hplan houtcome f p, fun happ => ?_, (keeps_finish_reply hframe s).mono (by decide)⟩
  · refine htunes.imp (fun h => ?_) id
    have hput : Issues (fun _ => True) s1 (putReply f p s1) := .keeps (keeps_putReply f p s1)
    exact (h.issues displaceable_tune (hissues.trans hput)).issues displaceable_tune (issues_finish s _)
  · rw [finish_plan]
    exact houtcome.trans ((congrArg State.plan (giveOutcome_of_not_applying (by rw [hplan]; exact happ))).trans hplan)

end settled

/-- Settles O43: for each request the verdict of the statement is the code of the first check that fails. -/
theorem linksReleasedAndParked : Obligations.LinksReleasedAndParked := by
  intro s f l hs hsound hr k moving out e mutes decides checked
  refine ⟨fun ht => ?_, fun ht => ?_, fun ht => ?_⟩
  · obtain ⟨hrefuses, hdoes⟩ := request_by_verdict (c := .linkRelease) ht hr rfl (releaseLink_eq l (dropHead s)) fun _ => carriedOut_releaseRefusal
    refine ⟨hrefuses, fun hv hu hu' hb hb' => ⟨_, hdoes hv, ?_⟩⟩
    obtain ⟨hl, hl', hne⟩ := not_bad_of_release hv
    obtain ⟨⟨hreply, htold, halone⟩, hrest⟩ := release_replied hs hsound hl hl' hu hu' hb hb' hne f (u8 0 ++ [])
    exact ⟨hreply, htold, halone, hrest⟩
  · obtain ⟨hrefuses, hdoes⟩ := request_by_verdict (c := .linkPark) ht hr rfl (parkLink_eq l (dropHead s)) fun _ => carriedOut_parkRefusal
    refine ⟨hrefuses, fun hv hu hu' _ _ => ⟨_, hdoes hv, ?_⟩⟩
    obtain ⟨hl, hl', hne⟩ := not_bad_of_park hv
    obtain ⟨⟨hreply, htold, halone⟩, hrest⟩ := park_replied hs hsound hl hl' hu hu' hne f (u8 0 ++ [])
    exact ⟨hreply, htold, halone, hrest⟩
  · obtain ⟨hrefuses, hdoes⟩ := request_by_verdict (c := .linkUnpark) ht hr rfl (unparkLink_eq l (dropHead s)) fun _ => carriedOut_unparkRefusal
    refine ⟨hrefuses, fun hv hu hu' _ _ => ⟨_, hdoes hv, ?_⟩⟩
    obtain ⟨hl, hl', hst⟩ := not_bad_of_unpark hv
    obtain ⟨⟨hreply, htold, halone⟩, hrest⟩ := unpark_replied hs hl hl' hu hu' hst f (u8 0 ++ [])
    exact ⟨hreply, htold, halone, hrest⟩

end Sys2Proof.Machine

/-! What the issue of orders leaves as it is (R127, R175): keys, holders, reasons and slots of routes; link records and the words wanted
and delivered. The Talk Router's part of an event is a re-settling and then such a chain. -/

namespace Sys2Proof.Machine

-- One theorem at a time: all at once, their threads together outgrow the memory limit of the check.
set_option Elab.async false

/-! ## Records without what an order writes -/

/-- A route without its make. -/
def Route.bare (r : Route) : Route := { r with make := none, makeOrder := none }

/-- A station without its DIM and its lamp order. -/
def Station.bare (x : Station) : Station := { x with dimOrder := none, dimRetry := false, lampOrder := none, lampRetry := none }

/-- A link without its tally order and its retry. -/
def Link.bare (k : Link) : Link := { k with tallyOrder := none, retryAt := none }

/-- From `s` to `t` orders have been issued or have failed, and nothing else has changed of what talk and tally stand on. -/
structure Quiet (s t : State) : Prop where
  mode : t.mode = s.mode
  ftb : t.ftb = s.ftb
  tr : t.tr = s.tr
  zones : t.tk.zones = s.tk.zones
  groups : t.tk.groups = s.tk.groups
  routes : t.tk.routes.map Route.bare = s.tk.routes.map Route.bare
  stations : t.tk.stations.map Station.bare = s.tk.stations.map Station.bare
  links : t.links.map Link.bare = s.links.map Link.bare
  tallies : ∀ l, (t.link l).tallyOrder = (s.link l).tallyOrder ∧ (t.link l).retryAt = (s.link l).retryAt ∨
    (s.link l).tallyOrder ≠ none

namespace Quiet
variable {s t u : State}

theorem refl (s : State) : Quiet s s := ⟨rfl, rfl, rfl, rfl, rfl, rfl, rfl, rfl, fun _ => .inl ⟨rfl, rfl⟩⟩

theorem trans (h : Quiet s t) (k : Quiet t u) : Quiet s u where
  mode := k.mode.trans h.mode
  ftb := k.ftb.trans h.ftb
  tr := k.tr.trans h.tr
  zones := k.zones.trans h.zones
  groups := k.groups.trans h.groups
  routes := k.routes.trans h.routes
  stations := k.stations.trans h.stations
  links := k.links.trans h.links
  tallies l := by
    rcases h.tallies l with ⟨ho, hr⟩ | h
    · rw [← ho, ← hr]; exact k.tallies l
    · exact .inr h

theorem ite {c : Prop} [Decidable c] (h : Quiet s t) (k : Quiet s u) : Quiet s (if c then t else u) := by
  split
  · exact h
  · exact k

theorem foldl {α : Type} (f : State → α → State) (h : ∀ s x, Quiet s (f s x)) (xs : List α) (s : State) : Quiet s (xs.foldl f s) := by
  induction xs generalizing s with
  | nil => exact refl s
  | cons x xs ih => exact (h s x).trans (ih _)

theorem foldAct {α : Type} (f : Acting → α → Acting) (h : ∀ x a, Quiet x.1 (f x a).1) (as : List α) (x : Acting) :
    Quiet x.1 (as.foldl f x).1 := by
  induction as generalizing x with
  | nil => exact refl x.1
  | cons a as ih => exact (h x a).trans (ih _)

/-- A change of other parts of the state. -/
theorem others (hm : t.mode = s.mode) (hf : t.ftb = s.ftb) (htr : t.tr = s.tr) (htk : t.tk = s.tk) (hl : t.links = s.links) : Quiet s t where
  mode := hm
  ftb := hf
  tr := htr
  zones := by rw [htk]
  groups := by rw [htk]
  routes := by rw [htk]
  stations := by rw [htk]
  links := by rw [hl]
  tallies l := by
    have : t.link l = s.link l := by rw [State.link, hl]; rfl
    rw [this]
    exact .inl ⟨rfl, rfl⟩

end Quiet

/-! ## Records of quiet states -/

section records
variable {s t : State}

theorem Quiet.length_links (h : Quiet s t) : t.links.length = s.links.length := by simpa using congrArg List.length h.links
theorem Quiet.length_stations (h : Quiet s t) : t.tk.stations.length = s.tk.stations.length := by
  simpa using congrArg List.length h.stations

theorem Quiet.link (h : Quiet s t) (l : Nat) : (t.link l).bare = (s.link l).bare := by
  have hslot (u : State) : (u.link l).bare = slot Link.vacant.bare (u.links.map Link.bare) l :=
    (slot_map Link.bare Link.vacant u.links l).symm
  rw [hslot, hslot, h.links]

theorem Quiet.station (h : Quiet s t) (d : Nat) : (t.station d).bare = (s.station d).bare := by
  have hslot (u : State) : (u.station d).bare = slot Station.undefined.bare (u.tk.stations.map Station.bare) d :=
    (slot_map Station.bare Station.undefined u.tk.stations d).symm
  rw [hslot, hslot, h.stations]

theorem Quiet.wanted (h : Quiet s t) (l : Nat) : (t.link l).wanted = (s.link l).wanted := (congrArg Link.wanted (h.link l) :)
theorem Quiet.delivered (h : Quiet s t) (l : Nat) : (t.link l).delivered = (s.link l).delivered := (congrArg Link.delivered (h.link l) :)

end records

/-! ## Operations that are quiet -/

section operations
variable (s : State)

/-- An update of a link's tally order and retry, where it has an order. -/
theorem quiet_modLink (l : Nat) (f : Link → Link) (hf : ∀ k, (f k).bare = k.bare) (h : (s.link l).tallyOrder ≠ none) :
    Quiet s (s.modLink l f) where
  mode := rfl
  ftb := rfl
  tr := rfl
  zones := rfl
  groups := rfl
  routes := rfl
  stations := rfl
  links := map_modSlot Link.bare f s.links l hf
  tallies n := by
    by_cases hn : n = l
    · exact .inr (hn ▸ h)
    · have : (s.modLink l f).link n = s.link n := slot_modSlot_other _ _ _ (Ne.symm hn)
      rw [this]
      exact .inl ⟨rfl, rfl⟩

/-- An update of the Talk Router's order records. -/
theorem quiet_modTk (f : Tk → Tk) (hz : (f s.tk).zones = s.tk.zones := by exact rfl) (hg : (f s.tk).groups = s.tk.groups := by exact rfl)
    (hr : (f s.tk).routes.map Route.bare = s.tk.routes.map Route.bare)
    (hs : (f s.tk).stations.map Station.bare = s.tk.stations.map Station.bare) : Quiet s (s.modTk f) :=
  ⟨rfl, rfl, rfl, hz, hg, hr, hs, rfl, fun _ => .inl ⟨rfl, rfl⟩⟩

theorem quiet_modStation (d : Nat) (f : Station → Station) (hf : ∀ x, (f x).bare = x.bare := by exact fun _ => rfl) :
    Quiet s (s.modStation d f) :=
  quiet_modTk s (fun k => { k with stations := modSlot f k.stations d }) (hr := rfl) (hs := map_modSlot Station.bare f _ d hf)

theorem quiet_raise (c : Cause) (o : Nat) : Quiet s (raise c o s) := .others rfl rfl rfl rfl rfl

theorem quiet_tallyFailed (l id : Nat) : Quiet s (tallyFailed l id s) := by
  unfold tallyFailed
  split
  case h_1 t h =>
    refine .ite (quiet_modLink s l _ (fun _ => rfl) ?_) (.refl s)
    rw [h]; exact Option.some_ne_none t
  case h_2 => exact .refl s

theorem quiet_lampFailed (d id : Nat) : Quiet s (lampFailed d id s) := by
  unfold lampFailed
  split
  · exact .ite (quiet_modStation s d _) (.refl s)
  · exact .refl s

theorem quiet_displaced (o : Order) : Quiet s (displaced o s) := by
  unfold displaced
  split
  · exact quiet_tallyFailed s _ _
  · exact quiet_lampFailed s _ _
  · exact .refl s

theorem quiet_modUnit (a : Nat) (f : UnitRec → UnitRec) : Quiet s (s.modUnit a f) := .others rfl rfl rfl rfl rfl

theorem quiet_tookId : Quiet s s.tookId := .others rfl rfl rfl rfl rfl

theorem quiet_send (o : Order) : Quiet s (send o s) := .others rfl rfl rfl rfl rfl

theorem quiet_issue (a : Nat) (body : OrderBody) (i : Issuer) : Quiet s (issue a body i s).state := by
  obtain ⟨-, -, hr⟩ | ⟨-, -, -, hr⟩ | ⟨-, -, -, hr⟩ | ⟨-, -, -, v, -, hr⟩ := issue_cases a body i s <;> rw [hr]
  · exact (quiet_tookId s).trans (quiet_send _ _)
  · exact (quiet_tookId s).trans (quiet_modUnit _ _ _)
  · exact quiet_tookId s
  · exact (((quiet_tookId s).trans (quiet_modUnit _ _ _)).trans (quiet_displaced _ v)).trans (quiet_send _ _)

end operations

theorem quiet_tkIssue (address : Nat) (body : OrderBody) (issuer : Issuer) (record : Nat → State → State)
    (h : ∀ id s, Quiet s (record id s)) (x : Acting) : Quiet x.1 (tkIssue address body issuer record x).1 :=
  (quiet_issue x.1 address body issuer).trans (h _ _)

/-- An update of every route's make. -/
theorem bare_mapRoutes {f : Route → Route} (hf : ∀ r, (f r).bare = r.bare) (rs : List Route) :
    (rs.map f).map Route.bare = rs.map Route.bare := by
  rw [List.map_map]
  exact List.map_congr_left fun r _ => hf r

theorem quiet_joinBreak (a d id : Nat) (s : State) : Quiet s (joinBreak a d id s) := by
  unfold joinBreak
  dsimp only
  split
  · exact quiet_modTk s _ (hr := rfl) (hs := rfl)
  · split
    · split
      · exact quiet_modTk s _ (hr := rfl) (hs := rfl)
      · exact (quiet_modTk s _ (hr := rfl) (hs := rfl)).trans (quiet_raise _ _ _)
    · exact quiet_modTk s _ (hr := rfl) (hs := rfl)

theorem quiet_orderBreak (a d : Nat) (x : Acting) : Quiet x.1 (orderBreak a d x).1 := quiet_tkIssue _ _ _ _ (quiet_joinBreak a d) x

theorem quiet_recordMake (a d id : Nat) (s : State) : Quiet s (recordMake a d id s) :=
  quiet_modTk s _ (hr := bare_mapRoutes (fun r => by split <;> rfl) _) (hs := rfl)

theorem quiet_orderMake (a d : Nat) (x : Acting) : Quiet x.1 (orderMake a d x).1 := quiet_tkIssue _ _ _ _ (quiet_recordMake a d) x

theorem quiet_orderDim (t depth : Nat) (x : Acting) : Quiet x.1 (orderDim t depth x).1 :=
  quiet_tkIssue _ _ _ _ (fun _ s => quiet_modStation s t _) x

theorem quiet_orderLamp (t : Nat) (x : Acting) : Quiet x.1 (orderLamp t x).1 := by
  unfold orderLamp
  dsimp only
  split
  · exact quiet_tkIssue _ _ _ _ (fun _ s => quiet_modStation s t _) x
  · exact .refl _

theorem quiet_tkFailed (i : Issuer) (id : Nat) (s : State) : Quiet s (tkFailed i id s) := by
  unfold tkFailed
  split
  · exact .ite ((quiet_modTk s _ (hr := bare_mapRoutes (fun r => by split <;> rfl) _) (hs := rfl)).trans (quiet_raise _ _ _)) (.refl s)
  · exact quiet_modTk s _ (hr := rfl) (hs := rfl)
  · exact .ite (quiet_modStation s _ _) (.refl s)
  · exact quiet_lampFailed s _ _
  · exact .refl s

theorem quiet_reported (x : Acting) : Quiet x.1 (reported x) := .foldl _ (fun s _ => quiet_tkFailed _ _ s) _ _

theorem quiet_lampTest (t : Nat) (s : State) : Quiet s (lampTest t s) := (quiet_orderLamp t (s, [])).trans (quiet_reported _)

theorem quiet_crosspoints (before : List Route) (x : Acting) (d : Nat) : Quiet x.1 (crosspoints before x d).1 :=
  (Quiet.foldAct _ (fun x a => quiet_orderBreak a d x) _ x).trans (.foldAct _ (fun x a => quiet_orderMake a d x) _ _)

theorem quiet_dims (before : List Route) (x : Acting) (t : Nat) : Quiet x.1 (dims before x t).1 := by
  unfold dims
  dsimp only
  split
  · exact quiet_orderDim _ _ _
  · exact .refl _

theorem quiet_lamps (asked : Option Nat) (s0 : State) (x : Acting) (t : Nat) : Quiet x.1 (lamps asked s0 x t).1 := by
  unfold lamps
  split
  · exact quiet_orderLamp _ _
  · exact .refl _

theorem quiet_redim (x : Acting) (t : Nat) : Quiet x.1 (redim x t).1 := by
  unfold redim
  dsimp only
  split
  · exact quiet_orderDim _ _ _
  · exact .refl _

theorem quiet_stopDim (x : Acting) (t : Nat) : Quiet x.1 (stopDim x t).1 := by
  unfold stopDim
  split
  · exact quiet_orderDim _ _ _
  · exact .refl _

theorem quiet_matrixEvent (s : State) : Quiet s (matrixEvent s) :=
  ((Quiet.foldAct _ (fun x (p : Nat × Nat) => quiet_orderMake p.1 p.2 x) _ (s, [])).trans
    (.foldAct _ (fun x (b : Break) => quiet_orderBreak b.source b.destination x) _ _)).trans
    ((Quiet.foldAct _ quiet_redim _ _).trans (quiet_reported _))

/-- The orders of an event follow its re-settling. -/
theorem quiet_tkAfterFor (asked : Option Nat) (s0 s1 : State) : Quiet s1.resettle (tkAfterFor asked s0 s1) :=
  (((Quiet.foldAct _ (fun x d => quiet_crosspoints _ x d) _ (s1.resettle, [])).trans
    (.foldAct _ (fun x t => quiet_dims _ x t) _ _)).trans (.foldAct _ (fun x t => quiet_lamps asked s0 x t) _ _)).trans
    (quiet_reported _)

/-! ## The tally fields past the end of an event -/

/-- A link's wanted and delivered words stand past the end of an event, and so does its order where it has none. -/
structure TallyStands (l : Nat) (s t : State) : Prop where
  wanted : (t.link l).wanted = (s.link l).wanted
  delivered : (t.link l).delivered = (s.link l).delivered
  order : (s.link l).tallyOrder = none → (t.link l).tallyOrder = none ∧ (t.link l).retryAt = (s.link l).retryAt

namespace TallyStands
variable {l : Nat} {s t u : State}

theorem trans (h : TallyStands l s t) (k : TallyStands l t u) : TallyStands l s u :=
  ⟨k.wanted.trans h.wanted, k.delivered.trans h.delivered, fun ho =>
    ⟨(k.order (h.order ho).1).1, (k.order (h.order ho).1).2.trans (h.order ho).2⟩⟩

theorem of_quiet (h : Quiet s t) (l : Nat) : TallyStands l s t := by
  refine ⟨h.wanted l, h.delivered l, fun ho => ?_⟩
  rcases h.tallies l with ⟨hto, hre⟩ | hne
  · exact ⟨hto.trans ho, hre⟩
  · exact absurd ho hne

theorem of_same (h : Part.tallies.same s t) (l : Nat) : TallyStands l s t := by
  have hslot (u : State) : (u.link l).tallyFields = slot Link.vacant.tallyFields (u.links.map Link.tallyFields) l :=
    (slot_map Link.tallyFields Link.vacant u.links l).symm
  have hfields : (t.link l).tallyFields = (s.link l).tallyFields := by rw [hslot, hslot, h]
  have horder : (t.link l).tallyOrder = (s.link l).tallyOrder := (congrArg (fun x => x.2.2.1) hfields :)
  exact ⟨(congrArg Prod.fst hfields :), (congrArg (fun x => x.2.1) hfields :), fun ho => ⟨horder.trans ho,
    (congrArg (fun x => x.2.2.2) hfields :)⟩⟩

theorem resettle_links (s : State) : s.resettle.links = s.links := State.modTk_links ..

theorem after (s : State) (l : Nat) : TallyStands l s (after s) := of_same (keeps_after s .tallies (by decide)) l

theorem finish (s0 s1 : State) (l : Nat) : TallyStands l s1 (finish s0 s1) := by
  have hsettle : TallyStands l s1 s1.resettle := of_same (congrArg (List.map Link.tallyFields) (resettle_links s1)) l
  have hquiet : TallyStands l s1.resettle (tkAfter s0 s1) := of_quiet (quiet_tkAfterFor none s0 s1) l
  exact (hsettle.trans hquiet).trans (after _ l)

end TallyStands

end Sys2Proof.Machine

/-! LINK_DEFINE: its checks in order, the record that a definition leaves, the wanted word, the mark on the link's ASSIGN_CHECK and the
return of a READY plan (R61, R73, R74, R112, R149). -/

namespace Sys2Proof.Machine

-- One theorem at a time: all at once, their threads together outgrow the memory limit of the check.
set_option Elab.async false

/-! ## The checks (R73) -/

section checks
variable {s : State} {l : Nat} {c : LinkConfig}

/-- Another defined link has the same unit and channel, or names the same station. -/
def conflicting (l : Nat) (c : LinkConfig) (s : State) (n : Nat) : Bool :=
  decide (n ≠ l) && (s.link n).cfg.kind.isSome &&
    ((decide ((s.link n).cfg.unit = c.unit) && decide ((s.link n).cfg.channel = c.channel)) ||
      (c.station.isSome && decide ((s.link n).cfg.station = c.station)))

/-- The code of the first check of R73 that fails, where one does. -/
def defineRefusal (l : Nat) (c : LinkConfig) (s : State) : Option Result :=
  if l = 0 ∨ 48 < l then some .badArgument
  else if c.kind ≠ none ∧ (c.band = 0 ∨ 4 < c.band ∨ c.unit = 0 ∨ 24 < c.unit ∨ c.channel = 0 ∨ 4 < c.channel ∨
    24 < c.station.getD 0) then some .badArgument
  else if c.kind = some .mic ∧ c.station ≠ none then some .badArgument
  else if c.kind ≠ none ∧ (s.band c.band).defined = false then some .wrongState
  else if s.mode = .run ∧ (s.link l).state ≠ .vacant ∧ (s.link l).state ≠ .idle then some .wrongState
  else if (s.link l).carriers l ≠ [] ∧ (c.kind = none ∨ (s.link l).cfg.band ≠ c.band ∨ (s.link l).cfg.hw ≠ c.hw ∨
    (s.link l).cfg.unit ≠ c.unit ∨ (s.link l).cfg.channel ≠ c.channel) then some .linkBusy
  else if c.kind ≠ none ∧ (oneUpTo 48).any (conflicting l c s) = true then some .conflict
  else none

theorem oneTo_eq_false_iff' (k n : Nat) : oneTo k n = false ↔ n = 0 ∨ k < n := by
  simp only [oneTo, Bool.and_eq_false_iff, decide_eq_false_iff_not]
  omega

/-- The arguments of a kind given lie out of range. A station given is not 0. -/
theorem inRange_eq_false_iff (h : c.station ≠ some 0) : c.inRange = false ↔ c.band = 0 ∨ 4 < c.band ∨ c.unit = 0 ∨ 24 < c.unit ∨
    c.channel = 0 ∨ 4 < c.channel ∨ 24 < c.station.getD 0 := by
  have hstation : c.station.all (oneTo Config.stations) = false ↔ 24 < c.station.getD 0 := by
    rcases hc : c.station with _ | n
    · simp
    · have hn : n ≠ 0 := fun h0 => h (hc.trans (congrArg some h0))
      show oneTo 24 n = false ↔ 24 < n
      rw [oneTo_eq_false_iff']
      exact or_iff_right hn
  simp only [LinkConfig.inRange, Bool.and_eq_false_iff, oneTo_eq_false_iff', hstation, or_assoc]
  rfl

theorem holds_iff (k : Link) (l : Nat) : k.holds = true ↔ k.carriers l ≠ [] := by
  unfold Link.holds Link.carriers
  cases k.state <;> cases k.assigned <;> cases k.pending <;> simp

theorem moves_iff (old new : LinkConfig) : old.moves new = true ↔ new.kind = none ∨ old.band ≠ new.band ∨ old.hw ≠ new.hw ∨
    old.unit ≠ new.unit ∨ old.channel ≠ new.channel := by
  simp [LinkConfig.moves, or_assoc]

theorem displaces_iff (old new : LinkConfig) : old.displaces new = true ↔ new.kind = none ∨ old.band ≠ new.band ∨ old.hw ≠ new.hw := by
  simp [LinkConfig.displaces, or_assoc]

/-- The record and the plan after a definition: it is stored, or the link becomes VACANT. -/
def definedLink (l : Nat) (c : LinkConfig) (s : State) : State :=
  if c.kind.isSome then storeLink l c.clamped s else vacateLink l s

/-- What a definition does that passes its checks. -/
def defined (l : Nat) (c : LinkConfig) (s : State) : State :=
  if (s.link l).cfg.displaces c then jobsSeeMove l (definedLink l c s) else definedLink l c s

theorem defineLink_eq (h : c.station ≠ some 0) : defineLink (l, c) s =
    (defineRefusal l c s).elim (okWith ((definedLink l c s).linkBytes l) (defined l c s)) (refuse · s) := by
  have hgiven : c.kind.isSome = true ↔ c.kind ≠ none := Option.isSome_iff_ne_none
  have hstation : c.station.isSome = true ↔ c.station ≠ none := Option.isSome_iff_ne_none
  have hconflict : s.linkConflict l c = (oneUpTo 48).any (conflicting l c s) := rfl
  simp only [defineLink, defineRefusal, isLink_eq_false_iff, Bool.and_eq_true, Bool.not_eq_true', hgiven, inRange_eq_false_iff h,
    hstation, holds_iff _ l, moves_iff, hconflict, definedLink, defined]
  split_ifs <;> rfl

theorem carriedOut_defineRefusal {r : Result} (h : defineRefusal l c s = some r) : carriedOut (u8 r.code) = false := by
  simp only [defineRefusal] at h
  split_ifs at h <;> cases h <;> rfl

theorem isLink_of_defineRefusal (h : defineRefusal l c s = none) : 1 ≤ l ∧ l ≤ 48 := by
  unfold defineRefusal at h
  split_ifs at h with hl
  omega

/-- A station read from a payload is not 0. -/
theorem station_of_read {p : List Byte} (h : readLinkDefine p = some (l, c)) : c.station ≠ some 0 := by
  unfold readLinkDefine at h
  split at h
  · split at h
    · cases h
      simp only [noneIfZero]
      split <;> simp_all
    · cases h
  · cases h

end checks

/-! ## The plan sees a definition (R112) -/

section plan
variable {s : State} {l : Nat} {old new : LinkConfig}

theorem planSeesDefine_links (l : Nat) (old new : LinkConfig) (s : State) : (planSeesDefine l old new s).links = s.links := by
  unfold planSeesDefine invalidatePlan setPlanState
  split
  · split <;> rfl
  · rfl

/-- A READY plan with an entry for a link that moves returns to OPEN; any other plan stands. -/
theorem planSeesDefine_rechecks (l : Nat) (old new : LinkConfig) (s : State) :
    (s.plan.state = .ready ∧ old.displaces new = true ∧ (∃ e ∈ s.plan.entries, e.link = l) →
      (planSeesDefine l old new s).plan = { s.plan with state := .opened, checked := none } ∧
        Waits .planState 0 (planSeesDefine l old new s) ∧ Waits .planInvalidated 0 (planSeesDefine l old new s)) ∧
    (¬ (s.plan.state = .ready ∧ old.displaces new = true ∧ ∃ e ∈ s.plan.entries, e.link = l) →
      (planSeesDefine l old new s).plan = s.plan) := by
  have hany : s.plan.entries.any (fun e => decide (e.link = l)) = true ↔ ∃ e ∈ s.plan.entries, e.link = l := by simp
  unfold planSeesDefine
  refine ⟨fun ⟨hready, hd, he⟩ => ?_, fun h => ?_⟩
  · rw [if_pos ⟨hready, hany.2 he, hd⟩]
    exact invalidatePlan_does hready
  · rw [if_neg fun ⟨hready, he, hd⟩ => h ⟨hready, hd, hany.1 he⟩]

end plan

/-! ## The wanted word made anew (R144) -/

section rewant
variable {s : State} {l : Nat}

/-- A delivery test leaves every wanted and delivered word. -/
theorem deliveryTest_words (l n : Nat) (s : State) : ((deliveryTest l s).link n).wanted = (s.link n).wanted ∧
    ((deliveryTest l s).link n).delivered = (s.link n).delivered := by
  unfold deliveryTest
  dsimp only
  split
  case isFalse => exact ⟨rfl, rfl⟩
  case isTrue =>
    generalize hr : issue (s.link l).cfg.unit (.tally (s.link l).cfg.channel (s.link l).wanted) (.tr l) s = r
    have hissue : Quiet s r.state := hr ▸ quiet_issue s _ _ _
    let f : Link → Link := fun k' => { k' with tallyOrder := some { id := r.id, word := (s.link l).wanted, issueFrame := s.now } }
    have hmod : ((r.state.modLink l f).link n).wanted = (r.state.link n).wanted ∧
        ((r.state.modLink l f).link n).delivered = (r.state.link n).delivered :=
      ⟨slot_modSlot_field Link.wanted Link.vacant f _ l n fun _ => rfl, slot_modSlot_field Link.delivered Link.vacant f _ l n fun _ => rfl⟩
    have hbase : ((r.state.modLink l f).link n).wanted = (s.link n).wanted ∧
        ((r.state.modLink l f).link n).delivered = (s.link n).delivered :=
      ⟨hmod.1.trans (hissue.wanted n), hmod.2.trans (hissue.delivered n)⟩
    split
    · have hfail := quiet_tallyFailed (r.state.modLink l f) l r.id
      exact ⟨(hfail.wanted n).trans hbase.1, (hfail.delivered n).trans hbase.2⟩
    · exact hbase

theorem rewant_wanted (hl : 1 ≤ l) (hl' : l ≤ s.links.length) : ((rewant l s).link l).wanted = s.wantedWord l :=
  (deliveryTest_words l l _).1.trans (congrArg Link.wanted (link_modLink_self hl hl' _))

theorem rewant_delivered (l n : Nat) (s : State) : ((rewant l s).link n).delivered = (s.link n).delivered :=
  (deliveryTest_words l n _).2.trans (slot_modSlot_field Link.delivered Link.vacant _ _ l n fun _ => rfl)

/-- A link that is no CAMERA is sent no word. -/
theorem rewant_of_not_camera (hl : 1 ≤ l) (hl' : l ≤ s.links.length) (h : (s.link l).cfg.kind ≠ some .camera) :
    rewant l s = s.modLink l fun k => { k with wanted := s.wantedWord l } := by
  refine if_neg ?_
  rw [link_modLink_self hl hl']
  simp [Link.deliverable, h]

end rewant

/-! ## The record that a definition leaves (R74, R149) -/

section record
variable {s : State} {l : Nat} {c : LinkConfig}

/-- The record of a link that takes a definition with a kind: a VACANT one enters IDLE. -/
def Link.stored (c : LinkConfig) (k : Link) : Link :=
  if k.state = .vacant then Link.enter .idle none (Link.redefine c k) else Link.redefine c k

/-- The state before the plan and the Tally Resolver see a definition. -/
def recorded (l : Nat) (c : LinkConfig) (s : State) : State :=
  if (s.link l).state = .vacant then changeState l .idle none (s.modLink l (Link.redefine c)) else s.modLink l (Link.redefine c)

theorem storeLink_eq (l : Nat) (c : LinkConfig) (s : State) :
    storeLink l c s = rewant l (planSeesDefine l (s.link l).cfg c (recorded l c s)) := rfl

theorem redefine_state (c : LinkConfig) (k : Link) : (Link.redefine c k).state = k.state := by
  unfold Link.redefine Link.retally
  split <;> rfl

theorem recorded_eq (hl : 1 ≤ l) (hl' : l ≤ s.links.length) : recorded l c s =
    if (s.link l).state = .vacant then raise .linkState l ((s.modLink l (Link.redefine c)).modLink l (Link.enter .idle none))
    else s.modLink l (Link.redefine c) := by
  unfold recorded
  split
  case isFalse => rfl
  case isTrue hv =>
    have hst : ((s.modLink l (Link.redefine c)).link l).state = .vacant := by
      rw [link_modLink_self hl hl', redefine_state, hv]
    refine changeState_of_service hl (hl'.trans_eq (modSlot_length ..).symm) ?_ ?_
    · rw [hst]; rfl
    · rw [hst]; exact LinkState.noConfusion

theorem recorded_link (hl : 1 ≤ l) (hl' : l ≤ s.links.length) : (recorded l c s).link l = (s.link l).stored c := by
  rw [recorded_eq hl hl', Link.stored]
  split
  · show (raise _ _ _).link l = _
    have hself := link_modLink_self (s := s.modLink l (Link.redefine c)) hl (hl'.trans_eq (modSlot_length ..).symm) (Link.enter .idle none)
    rw [link_modLink_self hl hl'] at hself
    exact hself
  · exact link_modLink_self hl hl' _

theorem recorded_other (hl : 1 ≤ l) (hl' : l ≤ s.links.length) {n : Nat} (hn : n ≠ l) : (recorded l c s).link n = s.link n := by
  have hother (t : State) (f : Link → Link) : (t.modLink l f).link n = t.link n := slot_modSlot_other _ _ _ hn.symm
  rw [recorded_eq hl hl']
  split
  · show ((s.modLink l (Link.redefine c)).modLink l (Link.enter .idle none)).link n = _
    rw [hother, hother]
  · exact hother s _

theorem keeps_recorded (hl : 1 ≤ l) (hl' : l ≤ s.links.length) : KeepsBut [.links, .rescues, .tallies, .notices] s (recorded l c s) := by
  rw [recorded_eq hl hl']
  have h : KeepsBut [.links, .rescues, .tallies, .notices] s (s.modLink l (Link.redefine c)) := (keeps_modLink s l _).mono (by decide)
  exact .ite ((h.trans ((keeps_modLink _ l _).mono (by decide))).trans ((keeps_raise _ _ _).mono (by decide))) h

end record

/-! ## What a definition leaves -/

section leaves
variable {s : State} {l : Nat} {c : LinkConfig}

theorem called_of_tk {s t : State} (h : t.tk = s.tk) : t.called = s.called := by
  funext d
  rw [State.called, State.called, State.station, State.station, h]

theorem stored_cfg (c : LinkConfig) (k : Link) : (k.stored c).cfg = c := by
  unfold Link.stored Link.redefine Link.retally Link.enter
  dsimp only
  split <;> split <;> rfl

/-- What a definition with a kind leaves of the part (R74, R112, R149). -/
theorem storeLink_does (hl : 1 ≤ l) (hl' : l ≤ s.links.length) :
    LinkBecomes l ((s.link l).stored c) s (storeLink l c s) ∧ ((s.link l).state = .vacant → Waits .linkState l (storeLink l c s)) ∧
      ((storeLink l c s).link l).wanted = ⟨slot .off s.tr.linkTally l, c.station.any s.called⟩ ∧
      ((storeLink l c s).link l).delivered = ((s.link l).stored c).delivered ∧
      KeepsBut (.plan :: stateParts) s (storeLink l c s) := by
  have hrec : KeepsBut [.links, .rescues, .tallies, .notices] s (recorded l c s) := keeps_recorded hl hl'
  have hsees := keeps_planSeesDefine l (s.link l).cfg c (recorded l c s)
  have hlink : LinkBecomes l ((s.link l).stored c) s (recorded l c s) :=
    ⟨by rw [recorded_link hl hl'], fun n hn => by rw [recorded_other hl hl' hn], by
      rw [recorded_eq hl hl']
      split <;> simp [modSlot_length]⟩
  have hlen : l ≤ (planSeesDefine l (s.link l).cfg c (recorded l c s)).links.length := by
    rw [planSeesDefine_links, hlink.length]; exact hl'
  have hself : (planSeesDefine l (s.link l).cfg c (recorded l c s)).link l = (s.link l).stored c := by
    rw [State.link, planSeesDefine_links]
    exact recorded_link hl hl'
  have htr : (planSeesDefine l (s.link l).cfg c (recorded l c s)).tr = s.tr := (hsees .tr (by decide)).trans (hrec .tr (by decide))
  have htk : (planSeesDefine l (s.link l).cfg c (recorded l c s)).tk = s.tk := (hsees .tk (by decide)).trans (hrec .tk (by decide))
  rw [storeLink_eq]
  refine ⟨(hlink.keeps hsees).keeps (keeps_rewant _ _), fun hv => ?_, ?_, ?_, ?_⟩
  · have hwaits : Waits .linkState l (recorded l c s) := by
      rw [recorded_eq hl hl', if_pos hv]
      exact waits_raise _ _ _
    have hsaw : Waits .linkState l (planSeesDefine l (s.link l).cfg c (recorded l c s)) := by
      unfold planSeesDefine
      split
      · exact hwaits.of_acts (wide := .narrow) (acts_invalidatePlan _)
      · exact hwaits
    exact hsaw.of_acts (wide := .narrow) (acts_rewant _ _)
  · rw [rewant_wanted hl hlen, State.wantedWord, hself, htr, stored_cfg, called_of_tk htk]
  · rw [rewant_delivered, hself]
  · exact ((hrec.mono (by decide)).trans (hsees.mono (by decide))).trans ((keeps_rewant _ _).mono (by decide))

/-- The state of a VACANT link, before the plan and the Tally Resolver see it. -/
def vacated (l : Nat) (s : State) : State :=
  if (s.link l).state = .vacant then s.modLink l fun _ => Link.vacant else raise .linkState l (s.modLink l fun _ => Link.vacant)

theorem vacateLink_eq (l : Nat) (s : State) :
    vacateLink l s = rewant l (planSeesDefine l (s.link l).cfg LinkConfig.vacant (vacated l s)) := rfl

theorem vacated_links (l : Nat) (s : State) : (vacated l s).links = (s.modLink l fun _ => Link.vacant).links := by
  unfold vacated
  split <;> rfl

theorem keeps_vacated (l : Nat) (s : State) : KeepsBut [.links, .rescues, .tallies, .notices] s (vacated l s) := by
  have h : KeepsBut [.links, .rescues, .tallies, .notices] s (s.modLink l fun _ => Link.vacant) := (keeps_modLink s l _).mono (by decide)
  exact .ite h (h.trans ((keeps_raise _ _ _).mono (by decide)))

/-- What a definition with kind none leaves of the part (R74, R112, R149). -/
theorem vacateLink_does (hl : 1 ≤ l) (hl' : l ≤ s.links.length) :
    LinkBecomes l Link.vacant s (vacateLink l s) ∧ ((s.link l).state ≠ .vacant → Waits .linkState l (vacateLink l s)) ∧
      (vacateLink l s).link l = { Link.vacant with wanted := ⟨slot .off s.tr.linkTally l, false⟩ } ∧
      KeepsBut (.plan :: stateParts) s (vacateLink l s) := by
  have hvac := keeps_vacated l s
  have hsees := keeps_planSeesDefine l (s.link l).cfg LinkConfig.vacant (vacated l s)
  have hlinks : (planSeesDefine l (s.link l).cfg LinkConfig.vacant (vacated l s)).links = (s.modLink l fun _ => Link.vacant).links :=
    (planSeesDefine_links ..).trans (vacated_links l s)
  have hlink : LinkBecomes l Link.vacant s (planSeesDefine l (s.link l).cfg LinkConfig.vacant (vacated l s)) :=
    ((LinkBecomes.refl l s).modLink (f := fun _ => Link.vacant) hl hl').same (congrArg (List.map Link.core) hlinks)
  have hself : (planSeesDefine l (s.link l).cfg LinkConfig.vacant (vacated l s)).link l = Link.vacant := by
    rw [State.link, hlinks]
    exact link_modLink_self hl hl' _
  have hlen : l ≤ (planSeesDefine l (s.link l).cfg LinkConfig.vacant (vacated l s)).links.length := by
    rw [hlink.length]; exact hl'
  have htr : (planSeesDefine l (s.link l).cfg LinkConfig.vacant (vacated l s)).tr = s.tr :=
    (hsees .tr (by decide)).trans (hvac .tr (by decide))
  rw [vacateLink_eq]
  refine ⟨hlink.keeps (keeps_rewant _ _), fun hv => ?_, ?_, ?_⟩
  · have hwaits : Waits .linkState l (vacated l s) := by
      rw [vacated, if_neg hv]
      exact waits_raise _ _ _
    have hsaw : Waits .linkState l (planSeesDefine l (s.link l).cfg LinkConfig.vacant (vacated l s)) := by
      unfold planSeesDefine
      split
      · exact hwaits.of_acts (wide := .narrow) (acts_invalidatePlan _)
      · exact hwaits
    exact hsaw.of_acts (wide := .narrow) (acts_rewant _ _)
  · rw [rewant_of_not_camera hl hlen (by rw [hself]; exact fun h => by cases h), link_modLink_self hl hlen, hself, State.wantedWord,
      hself, htr]
    rfl
  · exact ((hvac.mono (by decide)).trans (hsees.mono (by decide))).trans ((keeps_rewant _ _).mono (by decide))

/-- A link that moves, or becomes VACANT, with an entry in a READY plan: the plan returns to OPEN, and any other plan stands (R112). -/
theorem definedLink_rechecks (l : Nat) (c : LinkConfig) (s : State) :
    (s.plan.state = .ready ∧ (s.link l).cfg.displaces c = true ∧ (∃ e ∈ s.plan.entries, e.link = l) →
      (definedLink l c s).plan = { s.plan with state := .opened, checked := none } ∧
        Waits .planState 0 (definedLink l c s) ∧ Waits .planInvalidated 0 (definedLink l c s)) ∧
    (¬ (s.plan.state = .ready ∧ (s.link l).cfg.displaces c = true ∧ ∃ e ∈ s.plan.entries, e.link = l) →
      (definedLink l c s).plan = s.plan) := by
  have hgeneral (c' : LinkConfig) (t : State) (ht : t.plan = s.plan) (hd : (s.link l).cfg.displaces c' = (s.link l).cfg.displaces c)
      (heq : definedLink l c s = rewant l (planSeesDefine l (s.link l).cfg c' t)) :
      (s.plan.state = .ready ∧ (s.link l).cfg.displaces c = true ∧ (∃ e ∈ s.plan.entries, e.link = l) →
        (definedLink l c s).plan = { s.plan with state := .opened, checked := none } ∧
          Waits .planState 0 (definedLink l c s) ∧ Waits .planInvalidated 0 (definedLink l c s)) ∧
      (¬ (s.plan.state = .ready ∧ (s.link l).cfg.displaces c = true ∧ ∃ e ∈ s.plan.entries, e.link = l) →
        (definedLink l c s).plan = s.plan) := by
    have hsees := planSeesDefine_rechecks l (s.link l).cfg c' t
    rw [ht, hd] at hsees
    have hplan : (definedLink l c s).plan = (planSeesDefine l (s.link l).cfg c' t).plan := by
      rw [heq]
      exact keeps_rewant l _ .plan (by decide)
    refine ⟨fun h => ?_, fun h => hplan.trans (hsees.2 h)⟩
    obtain ⟨hp, hw, hi⟩ := hsees.1 h
    refine ⟨hplan.trans hp, ?_, ?_⟩
    · rw [heq]; exact hw.of_acts (wide := .narrow) (acts_rewant _ _)
    · rw [heq]; exact hi.of_acts (wide := .narrow) (acts_rewant _ _)
  cases hk : c.kind with
  | none =>
    refine hgeneral LinkConfig.vacant (vacated l s) ?_ ?_ ?_
    · unfold vacated
      split <;> rfl
    · simp [LinkConfig.displaces, hk, LinkConfig.vacant]
    · rw [definedLink, hk]; rfl
  | some kind =>
    refine hgeneral c.clamped (recorded l c.clamped s) ?_ rfl ?_
    · unfold recorded
      split
      · exact changeState_plan _ _ _ _
      · rfl
    · rw [definedLink, hk]; rfl

end leaves

/-! ## The jobs of the queue past an event (R54 to R57, R61) -/

/-- A job of `t` is one of `s`, with its mark, or it is a sweep or a pick that has just joined, without one. -/
def JobsFollow (s t : State) : Prop :=
  ∀ j ∈ t.pe.queue, (∃ i ∈ s.pe.queue, i.kind = j.kind ∧ i.moved = j.moved) ∨
    (j.moved = false ∧ ∀ l step o, j.kind ≠ .assignCheck l step o)

namespace JobsFollow
variable {s t u : State}

theorem of_pe (h : t.pe = s.pe) : JobsFollow s t := fun j hj => .inl ⟨j, h ▸ hj, rfl, rfl⟩

theorem trans (h : JobsFollow s t) (k : JobsFollow t u) : JobsFollow s u := fun j hj => by
  rcases k j hj with ⟨i, hi, hkind, hmoved⟩ | hnew
  · rcases h i hi with ⟨i', hi', hkind', hmoved'⟩ | ⟨hm, hno⟩
    · exact .inl ⟨i', hi', hkind'.trans hkind, hmoved'.trans hmoved⟩
    · exact .inr ⟨hmoved ▸ hm, hkind ▸ hno⟩
  · exact .inr hnew

theorem foldl {α : Type} (f : State → α → State) (h : ∀ s x, JobsFollow s (f s x)) (xs : List α) (s : State) :
    JobsFollow s (xs.foldl f s) := by
  induction xs generalizing s with
  | nil => exact of_pe rfl
  | cons x xs ih => exact (h s x).trans (ih _)

/-- A sweep or a pick joins the queue. -/
theorem joinQueue {k : JobKind} (hk : ∀ l step o, k ≠ .assignCheck l step o) (s : State) : JobsFollow s (joinQueue k s) := fun j hj => by
  rcases List.mem_append.1 hj with hj | hj
  · exact .inl ⟨j, hj, rfl, rfl⟩
  · obtain rfl := List.mem_singleton.1 hj
    exact .inr ⟨rfl, hk⟩

theorem convert (s : State) : JobsFollow s (convert s) := by
  unfold Machine.convert
  split
  · refine (JobsFollow.foldl _ (fun s l => ?_) _ s).trans (.foldl _ (fun s b => ?_) _ _)
    · unfold convertRescue
      split
      · exact (joinQueue (fun _ _ _ => JobKind.noConfusion) s).trans (of_pe rfl)
      · exact of_pe rfl
    · unfold convertSweep
      split
      · exact (joinQueue (fun _ _ _ => JobKind.noConfusion) s).trans (of_pe rfl)
      · exact of_pe rfl
  · exact of_pe rfl

theorem mem_replaceFirst_cases {j j' x : Job} {q : List Job} (h : x ∈ replaceFirst j j' q) : x ∈ q ∨ x = j' ∧ j ∈ q := by
  induction q with
  | nil => cases h
  | cons y ys ih =>
    by_cases hy : y = j
    · subst hy
      rw [replaceFirst, if_pos rfl] at h
      rcases List.mem_cons.1 h with rfl | h
      · exact .inr ⟨rfl, List.mem_cons_self⟩
      · exact .inl (List.mem_cons_of_mem _ h)
    · rw [replaceFirst, if_neg hy] at h
      rcases List.mem_cons.1 h with rfl | h
      · exact .inl List.mem_cons_self
      · exact (ih h).imp (List.mem_cons_of_mem y) fun ⟨hx, hj⟩ => ⟨hx, List.mem_cons_of_mem y hj⟩

theorem choose (s : State) : JobsFollow s (choose s) := by
  unfold Machine.choose
  split
  case h_1 j _ _ =>
    intro x hx
    rw [startJob_queue] at hx
    rcases mem_replaceFirst_cases hx with hx | ⟨rfl, hj⟩
    · exact .inl ⟨x, hx, rfl, rfl⟩
    · exact .inl ⟨j, hj, rfl, rfl⟩
  case h_2 => exact of_pe rfl

theorem after (s : State) : JobsFollow s (after s) :=
  ((convert s).trans (choose _)).trans (of_pe (keeps_kick _ .pe (by decide)))

theorem finish (s0 s1 : State) : JobsFollow s1 (finish s0 s1) := (of_pe (keeps_tkAfter s0 s1 .pe (by decide))).trans (after _)

end JobsFollow

/-! ## The definition as a whole -/

section settled
variable {s : State} {f : HostFrame} {l : Nat} {c : LinkConfig}

/-- The fields of a record that has taken a definition with a kind (R74). -/
theorem stored_fields (c : LinkConfig) (k : Link) :
    (k.stored c).state = (if k.state = .vacant then .idle else k.state) ∧ (k.stored c).badRun = 0 ∧ (k.stored c).goodRun = 0 ∧
      (k.stored c).fadeTimer = min k.fadeTimer c.fadeLimit ∧
      (k.stored c).silenceCounter = (if k.state = .vacant then c.silenceLimit else min k.silenceCounter c.silenceLimit) ∧
      (k.state ≠ .vacant → (k.stored c).core = ({ k with
        cfg := c, badRun := 0, goodRun := 0, fadeTimer := min k.fadeTimer c.fadeLimit,
        silenceCounter := min k.silenceCounter c.silenceLimit }).core) ∧
      (k.cfg.kind ≠ c.kind ∨ k.cfg.unit ≠ c.unit ∨ k.cfg.channel ≠ c.channel → (k.stored c).delivered = none) := by
  by_cases hv : k.state = .vacant
  · rw [if_pos hv, if_pos hv, Link.stored, if_pos hv]
    refine ⟨rfl, rfl, rfl, ?_, ?_, fun h => absurd hv h, fun h => ?_⟩
    · have hst : ¬ ((Link.redefine c k).state = .fading ∨ LinkState.idle = .fading) := by
        rw [redefine_state, hv]
        exact fun h => h.elim LinkState.noConfusion LinkState.noConfusion
      exact if_neg hst
    · exact if_pos hv
    · show (Link.retally k.cfg c k).delivered = none
      rw [Link.retally, if_pos h]
  · rw [if_neg hv, if_neg hv, Link.stored, if_neg hv]
    refine ⟨redefine_state c k, rfl, rfl, rfl, if_neg hv, fun _ => ?_, fun h => ?_⟩
    · unfold Link.redefine Link.retally
      rw [if_neg hv]
      split <;> rfl
    · show (Link.retally k.cfg c k).delivered = none
      rw [Link.retally, if_pos h]

theorem keeps_defined_jobs (l : Nat) (c : LinkConfig) (s : State) : KeepsBut [.pe] (definedLink l c s) (defined l c s) :=
  .ite (keeps_jobsSeeMove l _) (.refl _ _)

theorem keeps_definedLink (hl : 1 ≤ l) (hl' : l ≤ s.links.length) : KeepsBut (.plan :: stateParts) s (definedLink l c s) :=
  .ite (storeLink_does hl hl').2.2.2.2 (vacateLink_does hl hl').2.2.2

/-- The jobs past a definition: a link that moves marks its ASSIGN_CHECK, and otherwise no job is marked anew (R61, R74). -/
theorem defined_jobs (hl : 1 ≤ l) (hl' : l ≤ s.links.length) {t : State} (ht : JobsFollow (defined l c s) t) :
    ((s.link l).cfg.displaces c = true → ∀ j ∈ t.pe.queue, ∀ step o, j.kind = .assignCheck l step o → j.moved = true) ∧
    (¬ (s.link l).cfg.displaces c = true →
      ∀ j ∈ t.pe.queue, j.moved = true → ∃ i ∈ s.pe.queue, i.kind = j.kind ∧ i.moved = true) := by
  refine ⟨fun hd j hj step o hkind => ?_, fun hd j hj hmoved => ?_⟩
  · rcases ht j hj with ⟨i, hi, hik, him⟩ | ⟨-, hno⟩
    · rw [defined, if_pos hd] at hi
      obtain ⟨i', -, rfl⟩ := List.mem_map.1 hi
      have hassign : i'.kind = .assignCheck l step o := by
        rw [← hkind, ← hik]
        split <;> rfl
      rw [← him, if_pos (by rw [hassign]; exact decide_eq_true rfl)]
    · exact absurd hkind (hno l step o)
  · rcases ht j hj with ⟨i, hi, hik, him⟩ | ⟨hno, -⟩
    · rw [defined, if_neg hd, keeps_definedLink hl hl' .pe (by decide)] at hi
      exact ⟨i, hi, hik, him.trans hmoved⟩
    · rw [hno] at hmoved; cases hmoved

/-- What of the plan the reply leaves. -/
theorem defined_plan (l : Nat) (c : LinkConfig) (s : State) (f : HostFrame) (p : List Byte) :
    Rechecks (((s.link l).cfg.displaces c = true) ∧ ∃ e ∈ s.plan.entries, e.link = l) s
      (finish s (putReply f p (defined l c (dropHead s)))) := by
  have hplan : (defined l c (dropHead s)).plan = (definedLink l c (dropHead s)).plan := keeps_defined_jobs l c _ .plan (by decide)
  have hnq : (defined l c (dropHead s)).nq = (definedLink l c (dropHead s)).nq := keeps_defined_jobs l c _ .notices (by decide)
  have hdoes := definedLink_rechecks l c (dropHead s)
  generalize defined l c (dropHead s) = s1 at *
  refine ⟨fun h => ?_, fun h => ?_⟩
  · obtain ⟨hp, hw, hi⟩ := hdoes.1 h
    exact ⟨(finish_plan _ _).trans (hplan.trans hp), notified_replied (hw.of_same hnq) f p, notified_replied (hi.of_same hnq) f p⟩
  · exact (finish_plan _ _).trans (hplan.trans (hdoes.2 h))

/-- A link's words past the reply are those that the definition left. -/
theorem defined_tally (l : Nat) (c : LinkConfig) (s : State) (f : HostFrame) (p : List Byte) :
    TallyStands l (definedLink l c (dropHead s)) (finish s (putReply f p (defined l c (dropHead s)))) := by
  have hjobs : TallyStands l (definedLink l c (dropHead s)) (defined l c (dropHead s)) :=
    .of_same (keeps_defined_jobs l c _ .tallies (by decide)) l
  have hput : TallyStands l (defined l c (dropHead s)) (putReply f p (defined l c (dropHead s))) :=
    .of_same (keeps_putReply f p _ .tallies (by decide)) l
  exact (hjobs.trans hput).trans (.finish _ _ l)

/-- The link's record past the reply is the one that the definition left. -/
theorem defined_link {k : Link} (h : LinkBecomes l k (dropHead s) (definedLink l c (dropHead s))) (f : HostFrame) (p : List Byte) :
    LinkBecomes l k s (finish s (putReply f p (defined l c (dropHead s)))) :=
  ((h.of_dropHead.keeps (keeps_defined_jobs l c _)).keeps (keeps_putReply f p _)).finish s

theorem defined_notified {o : Cause} (h : Waits o l (definedLink l c (dropHead s))) (f : HostFrame) (p : List Byte) :
    Notified o l (finish s (putReply f p (defined l c (dropHead s)))) :=
  notified_replied (h.of_same (keeps_defined_jobs l c _ .notices (by decide))) f p

/-- A link whose definition has no kind sends its kind alone. -/
theorem linkBytes_of_vacant {k : Link} (h : s.link l = k) (hk : k.cfg.kind = none) : s.linkBytes l = u8 4 := by
  rw [State.linkBytes, h, hk]
  rfl

end settled

/-- Settles O41: the verdict of the statement is the code of the first check that fails; a definition that passes is stored, or makes
the link VACANT. -/
theorem linkDefined : Obligations.LinkDefined := by
  intro s f l c hs ht hr k given other verdict stored
  have hstation := station_of_read hr
  have hcodes (r : Result) := carriedOut_defineRefusal (s := dropHead s) (l := l) (c := c) (r := r)
  obtain ⟨hrefuses, hdoes⟩ := request_by_verdict (c := .linkDefine) ht hr rfl (defineLink_eq (s := dropHead s) hstation) hcodes
  refine ⟨hrefuses, fun hv => ⟨_, hdoes hv, ?_⟩⟩
  obtain ⟨hl, hl'⟩ := isLink_of_defineRefusal (s := dropHead s) hv
  have hlen : l ≤ (dropHead s).links.length := hl'.trans_eq hs.2.1.symm
  have hdisplaced := displaces_iff (s.link l).cfg c
  have hkeeps := keeps_definedLink (s := dropHead s) (c := c) hl hlen
  have hpe := keeps_defined_jobs l c (dropHead s)
  have hmp : (defined l c (dropHead s)).mp = (dropHead s).mp := (hpe .mp (by decide)).trans (hkeeps .mp (by decide))
  have hplan := defined_plan l c s f (u8 0 ++ (definedLink l c (dropHead s)).linkBytes l)
  have htally := defined_tally l c s f (u8 0 ++ (definedLink l c (dropHead s)).linkBytes l)
  have hput : JobsFollow (defined l c (dropHead s)) (putReply f (u8 0 ++ (definedLink l c (dropHead s)).linkBytes l) (defined l c (dropHead s))) :=
    .of_pe rfl
  have hjobs := defined_jobs (s := dropHead s) (c := c) hl hlen (hput.trans (.finish s _))
  have hframe : KeepsBut (.links :: .plan :: tailParts) s
      (finish s (putReply f (u8 0 ++ (definedLink l c (dropHead s)).linkBytes l) (defined l c (dropHead s)))) :=
    (keeps_finish_reply ((hkeeps.mono (by simp)).trans (hpe.mono (qs := .pe :: .plan :: stateParts) (by decide))) s).mono (by decide)
  have hreply := replies_of_finish (f := f) (p := u8 0 ++ (definedLink l c (dropHead s)).linkBytes l) hmp s
  rw [hdisplaced] at hplan
  obtain ⟨hmarked, hunmarked⟩ := hjobs
  have hpart : LinkAlone l s (finish s (putReply f (u8 0 ++ (definedLink l c (dropHead s)).linkBytes l) (defined l c (dropHead s)))) := by
    by_cases hkind : c.kind.isSome = true
    · have hdef : definedLink l c (dropHead s) = storeLink l c.clamped (dropHead s) := if_pos hkind
      exact (defined_link (by rw [hdef]; exact (storeLink_does hl hlen).1) f _).alone
    · have hdef : definedLink l c (dropHead s) = vacateLink l (dropHead s) := if_neg hkind
      exact (defined_link (by rw [hdef]; exact (vacateLink_does hl hlen).1) f _).alone
  refine ⟨fun hkind => ?_, fun hkind => ?_, fun hd => hmarked (hdisplaced.2 hd), fun hd => hunmarked fun h => hd (hdisplaced.1 h),
    hpart, hplan, hframe⟩
  · have hdef : definedLink l c (dropHead s) = storeLink l c.clamped (dropHead s) := if_pos (Option.isSome_iff_ne_none.2 hkind)
    obtain ⟨hlink, hwaits, hwanted, hdelivered, -⟩ := storeLink_does (s := dropHead s) (c := c.clamped) hl hlen
    rw [← hdef] at hlink hwaits hwanted hdelivered
    have hend := defined_link hlink f (u8 0 ++ (definedLink l c (dropHead s)).linkBytes l)
    have htold := fun h => defined_notified (hwaits h) f (u8 0 ++ (definedLink l c (dropHead s)).linkBytes l)
    obtain ⟨hst, hbad, hgood, hfade, hsilence, hcore, hnone⟩ := stored_fields c.clamped (s.link l)
    refine ⟨hend.cfg.trans (stored_cfg _ _), hend.state.trans hst, hend.badRun.trans hbad, hend.goodRun.trans hgood,
      hend.fadeTimer.trans hfade, hend.silenceCounter.trans hsilence, fun h => hend.self.trans (hcore h), htold,
      htally.wanted.trans hwanted, fun h => htally.delivered.trans (hdelivered.trans (hnone h)), ?_⟩
    rw [show storeLink l stored (dropHead s) = definedLink l c (dropHead s) from hdef.symm]
    exact hreply
  · have hnone : c.kind = none := not_not.1 hkind
    have hdef : definedLink l c (dropHead s) = vacateLink l (dropHead s) := if_neg (by rw [hnone]; exact Bool.false_ne_true)
    obtain ⟨hlink, hwaits, hrecord, -⟩ := vacateLink_does (s := dropHead s) hl hlen
    rw [← hdef] at hlink hwaits hrecord
    have hend := defined_link hlink f (u8 0 ++ (definedLink l c (dropHead s)).linkBytes l)
    have htold := fun h => defined_notified (hwaits h) f (u8 0 ++ (definedLink l c (dropHead s)).linkBytes l)
    have hbytes := linkBytes_of_vacant hrecord rfl
    obtain ⟨horder, hretry⟩ := htally.order (by rw [hrecord]; rfl)
    refine ⟨hend.self, htally.wanted.trans (by rw [hrecord]; rfl), htally.delivered.trans (by rw [hrecord]; rfl), horder,
      hretry.trans (by rw [hrecord]; rfl), htold, ?_⟩
    rw [hbytes] at hreply ⊢
    exact hreply

end Sys2Proof.Machine

/-! The steps of a boundary that issue failed orders again (R28, R94), and the fade timer at its limit (R57, R80). Each issue adds one
order to its unit, or finds both lists full; an event that issues again in turn adds so many. -/

namespace Sys2Proof.Machine

-- One theorem at a time: all at once, their threads together outgrow the memory limit of the check.
set_option Elab.async false

/-! ## Orders of a kind, counted -/

/-- A kind of orders that is told by body and issuer, none of which may be displaced. -/
structure Lasting (p : Order → Bool) : Prop where
  number : ∀ (o : Order) (n : Option Byte), p { o with number := n } = p o
  stays : ∀ o : Order, p o = true → o.displaceable = false

/-- The orders of a kind that a unit holds. -/
def UnitRec.count (p : Order → Bool) (u : UnitRec) : Nat := u.orders.countP p

theorem UnitRec.count_eq (p : Order → Bool) (u : UnitRec) : u.count p = u.outstanding.countP p + u.waiting.countP p :=
  List.countP_append

section counts
variable {p : Order → Bool}

theorem count_send (hp : Lasting p) (o : Order) (u : UnitRec) : (u.send o).count p = u.count p + if p o then 1 else 0 := by
  rw [UnitRec.count_eq, UnitRec.count_eq]
  show (u.outstanding ++ [{ o with number := some u.nextNumber }]).countP p + u.waiting.countP p = _
  rw [List.countP_append, List.countP_singleton, hp.number]
  omega

theorem count_wait (o : Order) (u : UnitRec) :
    UnitRec.count p { u with waiting := u.waiting ++ [o] } = u.count p + if p o then 1 else 0 := by
  rw [UnitRec.count_eq, UnitRec.count_eq]
  show u.outstanding.countP p + (u.waiting ++ [o]).countP p = _
  rw [List.countP_append, List.countP_singleton]
  omega

theorem count_drop (hp : Lasting p) (u : UnitRec) :
    UnitRec.count p { u with outstanding := u.outstanding.eraseP Order.displaceable } = u.count p := by
  have herase : (u.outstanding.eraseP Order.displaceable).countP p = u.outstanding.countP p := by
    rcases List.exists_or_eq_self_of_eraseP Order.displaceable u.outstanding with h | ⟨a, l1, l2, -, ha, h1, h2⟩
    · rw [h]
    · have hpa : p a = false := by
        by_contra hne
        exact Bool.false_ne_true ((hp.stays a (by simpa using hne)).symm.trans ha)
      rw [h2, List.countP_append, h1, List.countP_append, List.countP_cons, hpa]
      simp
  rw [UnitRec.count_eq, UnitRec.count_eq]
  exact congrArg (· + u.waiting.countP p) herase

/-- What an issue adds to the orders of a kind that its unit holds. -/
theorem count_issue (hp : Lasting p) {s : State} {a : Nat} (ha : 1 ≤ unitPlace a ∧ unitPlace a ≤ s.units.length) (body : OrderBody)
    (i : Issuer) : ((issue a body i s).state.unit a).count p =
      (s.unit a).count p + if (issue a body i s).overflow = false ∧ p (s.newOrder a body i) = true then 1 else 0 := by
  obtain ⟨-, ho, hr⟩ | ⟨-, -, ho, hr⟩ | ⟨-, -, ho, hr⟩ | ⟨-, -, ho, v, -, hr⟩ := issue_cases a body i s <;> rw [hr, ho]
  · rw [show (send (s.newOrder a body i) s.tookId).unit a = (s.unit a).send (s.newOrder a body i) from
      unit_send_self (o := s.newOrder a body i) (s := s.tookId) ha, count_send hp]
    simp
  · rw [unit_modUnit_self (s := s.tookId) ha.1 ha.2]
    refine (count_wait _ _).trans ?_
    simp
    rfl
  · simp
    rfl
  · have hdropped : ((s.tookId.modUnit a fun u => { u with outstanding := u.outstanding.eraseP Order.displaceable }).unit a).count p =
        (s.unit a).count p := by
      rw [unit_modUnit_self (s := s.tookId) ha.1 ha.2]
      exact count_drop hp _
    have hlen : unitPlace a ≤ (displaced v (s.tookId.modUnit a fun u =>
        { u with outstanding := u.outstanding.eraseP Order.displaceable })).units.length := by
      rw [displaced_units]; exact ha.2.trans_eq (modSlot_length ..).symm
    rw [show (send (s.newOrder a body i) _).unit a = _ from unit_send_self (o := s.newOrder a body i) ⟨ha.1, hlen⟩, count_send hp,
      unit_of_units (displaced_units v _)]
    show UnitRec.count p (State.unit _ a) + _ = _
    rw [hdropped]
    simp

/-- A chain of issues of other issuers leaves the orders of a kind. -/
theorem count_issues (hp : Lasting p) {ok : Issuer → Prop} {s t : State} (h : Issues ok s t)
    (hok : ∀ o : Order, ok o.issuer → p o = false) (a : Nat) : (t.unit a).count p = (s.unit a).count p :=
  h.lasts (P := fun u => u.count p = (s.unit a).count p)
    ⟨fun o u ho hu => by rw [count_send hp, hok o ho]; exact hu, fun o u ho hu => by rw [count_wait, hok o ho]; exact hu,
      fun u hu => by rw [count_drop hp]; exact hu⟩ a rfl

end counts

/-- An issue makes neither list of a unit longer by more than one. -/
theorem length_issue (a : Nat) (body : OrderBody) (i : Issuer) (s : State) (b : Nat) :
    ((issue a body i s).state.unit b).outstanding.length ≤ (s.unit b).outstanding.length + 1 ∧
      ((issue a body i s).state.unit b).waiting.length ≤ (s.unit b).waiting.length + 1 := by
  have hsend (o : Order) (t : State) (ht : (t.unit b).outstanding.length ≤ (s.unit b).outstanding.length ∧
      (t.unit b).waiting.length ≤ (s.unit b).waiting.length) : ((send o t).unit b).outstanding.length ≤ (s.unit b).outstanding.length + 1 ∧
        ((send o t).unit b).waiting.length ≤ (s.unit b).waiting.length + 1 := by
    have hun : (send o t).unit b = (t.modUnit o.address (UnitRec.send o)).unit b := rfl
    rw [hun]
    obtain he | he := unit_modUnit_cases t o.address b (UnitRec.send o) <;> rw [he]
    · exact ⟨by omega, by omega⟩
    · show (_ ++ [_]).length ≤ _ ∧ (t.unit b).waiting.length ≤ _
      rw [List.length_append, List.length_singleton]
      exact ⟨by omega, by omega⟩
  obtain ⟨-, -, hr⟩ | ⟨-, -, -, hr⟩ | ⟨-, -, -, hr⟩ | ⟨-, -, -, v, -, hr⟩ := issue_cases a body i s <;> rw [hr]
  · exact hsend _ s.tookId ⟨le_rfl, le_rfl⟩
  · obtain he | he := unit_modUnit_cases s.tookId a b fun u => { u with waiting := u.waiting ++ [s.newOrder a body i] }
    · rw [he]
      exact ⟨Nat.le_succ _, Nat.le_succ _⟩
    · rw [he]
      show (s.unit b).outstanding.length ≤ _ ∧ (_ ++ [_]).length ≤ _
      rw [List.length_append, List.length_singleton]
      exact ⟨Nat.le_succ _, le_rfl⟩
  · exact ⟨Nat.le_succ _, Nat.le_succ _⟩
  · refine hsend _ _ ?_
    rw [unit_of_units (displaced_units v _)]
    obtain he | he := unit_modUnit_cases s.tookId a b fun u => { u with outstanding := u.outstanding.eraseP Order.displaceable }
    · rw [he]
      exact ⟨le_rfl, le_rfl⟩
    · rw [he]
      exact ⟨List.length_eraseP_le, le_rfl⟩

theorem issue_length_units (a : Nat) (body : OrderBody) (i : Issuer) (s : State) :
    (issue a body i s).state.units.length = s.units.length := by
  obtain ⟨-, -, hr⟩ | ⟨-, -, -, hr⟩ | ⟨-, -, -, hr⟩ | ⟨-, -, -, v, -, hr⟩ := issue_cases a body i s <;> rw [hr]
  · exact modSlot_length _ _ _
  · exact modSlot_length _ _ _
  · rfl
  · refine (modSlot_length _ _ _).trans ?_
    rw [displaced_units]
    exact modSlot_length _ _ _

/-! ## FADE_TIMER_LIMIT (R57, R80) -/

section fade
variable {s : State} {l : Nat}

/-- The conditions under which a fade at its limit wants a rescue (R80). -/
def State.fadeWants (s : State) (l : Nat) : Prop :=
  (s.link l).state = .fading ∧ (s.link l).fadeTimer = (s.link l).cfg.fadeLimit ∧ (s.link l).cfg.autoRescue = true ∧
    (s.band (s.link l).cfg.band).frozen = false ∧ (s.link l).rescue = .none

/-- A link is wanted. -/
def wantRescue (l : Nat) (s : State) : State := s.modLink l fun k => { k with rescue := .wanted }

theorem fadeTest_of_wants (h : s.fadeWants l) : fadeTest l s = wantRescue l s := if_pos h

theorem fadeTest_of_not (h : ¬ s.fadeWants l) : fadeTest l s = s := if_neg h

theorem convertRescue_of_not_wanted {n : Nat} (h : (s.link n).rescue ≠ .wanted) : convertRescue s n = s :=
  if_neg fun ⟨_, hw, _⟩ => h hw

/-- The one link wanted becomes a pick, where the queue has room and holds no pick of it (R57). -/
theorem convert_picks (hmode : s.mode = .run) (hl : 1 ≤ l) (hl' : l ≤ 48) (hlen : l ≤ s.links.length) (hw : (s.link l).rescue = .wanted)
    (hother : ∀ n, n ≠ l → (s.link n).rescue ≠ .wanted) (hroom : s.queueRoom = true) (hnone : s.hasJob (JobKind.isPickOf l) = false)
    (hthawed : (s.band (s.link l).cfg.band).frozen = false) :
    ((convert s).link l).rescue = .picking ∧ (convert s).hasJob (JobKind.isPickOf l) = true := by
  have hfold (xs : List Nat) (hx : l ∈ xs) : ((xs.foldl convertRescue s).link l).rescue = .picking ∧
      (xs.foldl convertRescue s).hasJob (JobKind.isPickOf l) = true := by
    induction xs with
    | nil => cases hx
    | cons x xs ih =>
      by_cases hxl : x = l
      · subst hxl
        have hpicked : convertRescue s x = (joinQueue (.rescuePick x 1) s).modLink x fun k => { k with rescue := .picking } :=
          if_pos ⟨hroom, hw, hnone, hthawed⟩
        have hself : ((convertRescue s x).link x).rescue = .picking := by
          rw [hpicked]
          exact congrArg Link.rescue (link_modLink_self (s := joinQueue (.rescuePick x 1) s) hl hlen _)
        have hjob : (convertRescue s x).hasJob (JobKind.isPickOf x) = true := by
          rw [hpicked]
          exact hasJob_joinQueue (k := .rescuePick x 1) (decide_eq_true rfl) s
        have hgo := FlagsGoOn.foldl _ flags_convertRescue xs (convertRescue s x)
        refine ⟨((hgo.rescue x).resolve_right fun h => ?_).trans hself, hgo.toEngineGoesOn.hasJob hjob⟩
        rw [hself] at h
        exact Rescue.noConfusion h.1
      · rw [List.foldl_cons, convertRescue_of_not_wanted (hother x hxl)]
        exact ih ((List.mem_cons.1 hx).resolve_left (Ne.symm hxl))
  obtain ⟨hp, hj⟩ := hfold (oneUpTo Config.links) (mem_oneUpTo.2 ⟨hl, hl'⟩)
  have hgo := FlagsGoOn.foldl _ flags_convertSweep (oneUpTo Config.bands) ((oneUpTo Config.links).foldl convertRescue s)
  unfold convert
  rw [if_pos hmode]
  refine ⟨((hgo.rescue l).resolve_right fun h => ?_).trans hp, hgo.toEngineGoesOn.hasJob hj⟩
  rw [hp] at h
  exact Rescue.noConfusion h.1

/-- A pick that conversion makes stands at the end of the event. -/
theorem finish_picks {s0 : State} (hmode : s.mode = .run) (hl : 1 ≤ l) (hl' : l ≤ 48) (hlen : l ≤ s.links.length)
    (hw : (s.link l).rescue = .wanted) (hother : ∀ n, n ≠ l → (s.link n).rescue ≠ .wanted) (hroom : s.queueRoom = true)
    (hnone : s.hasJob (JobKind.isPickOf l) = false) (hthawed : (s.band (s.link l).cfg.band).frozen = false) :
    ((finish s0 s).link l).rescue = .picking ∧ (finish s0 s).hasJob (JobKind.isPickOf l) = true := by
  have hkeeps := keeps_tkAfter s0 s
  have hresc := rescue_of_same (hkeeps .rescues (by decide))
  have hpe : (tkAfter s0 s).pe = s.pe := hkeeps .pe (by decide)
  have hcfg : ((tkAfter s0 s).link l).cfg = (s.link l).cfg := (congrArg Link.cfg (linkCore_of_same (hkeeps .links (by decide)) l) :)
  have hfro : ((tkAfter s0 s).band (s.link l).cfg.band).frozen = (s.band (s.link l).cfg.band).frozen :=
    (congrArg Band.frozen (bandCore_of_same (hkeeps .bands (by decide)) _) :)
  have hmode' : (tkAfter s0 s).mode = s.mode := hkeeps .mode (by decide)
  obtain ⟨hp, hj⟩ := convert_picks (s := tkAfter s0 s) (l := l) (hmode'.trans hmode) hl hl'
    (hlen.trans_eq (length_of_links (hkeeps .links (by decide))).symm) ((hresc l).trans hw) (fun n hn => by rw [hresc n]; exact hother n hn)
    (by rw [State.queueRoom, hpe]; exact hroom) (by rw [State.hasJob, hpe]; exact hnone) (by rw [hcfg, hfro]; exact hthawed)
  have hgo := (flags_choose (convert (tkAfter s0 s))).trans (flags_kick _)
  refine ⟨((hgo.rescue l).resolve_right fun h => ?_).trans hp, hgo.toEngineGoesOn.hasJob hj⟩
  rw [hp] at h
  exact Rescue.noConfusion h.1

end fade

/-- Settles O21: the link is wanted, and what follows the event converts its flag or leaves it. -/
theorem fadeLimitWantsRescue : Obligations.FadeLimitWantsRescue := by
  intro s l hs hl hl' hmode hdue k wants
  have hlen : l ≤ (s.without (.fade l)).links.length := hl'.trans_eq hs.2.1.symm
  have hstep : owedStep (.fade l) (s.without (.fade l)) = fadeTest l (s.without (.fade l)) := if_pos hmode
  have hframe : KeepsBut [.rescues] (s.without (.fade l)) (fadeTest l (s.without (.fade l))) := by
    unfold fadeTest
    dsimp only
    split
    · exact keeps_modLink_rescue _ _ _ (fun _ => rfl) fun _ => rfl
    · exact .refl _ _
  have hframe := (keeps_dueStep hframe).mono (qs := .owed :: tailParts) (by decide)
  refine ⟨_, congrArg Host.Outcome.next (takeOwed_of_due hdue), ?_⟩
  rw [hstep]
  have hself : ((wantRescue l (s.without (.fade l))).link l).rescue = .wanted :=
    congrArg Link.rescue (link_modLink_self hl hlen fun k => { k with rescue := .wanted })
  have hgo (t : State) := (flags_finish (s.without (.fade l)) t).rescue l
  refine ⟨fun hw => ?_, fun hw hroom hnone hno => ?_, fun hw hne => ?_, hframe⟩
  · rw [fadeTest_of_wants (s := s.without (.fade l)) hw]
    rcases hgo (wantRescue l (s.without (.fade l))) with h | ⟨-, h⟩
    · exact .inl (h.trans hself)
    · exact .inr h
  · rw [fadeTest_of_wants (s := s.without (.fade l)) hw]
    have hcfg : ((wantRescue l (s.without (.fade l))).link l).cfg = (s.link l).cfg :=
      (by rw [wantRescue, link_modLink_self hl hlen]; rfl)
    refine finish_picks (s := wantRescue l (s.without (.fade l))) hmode hl hl' (hlen.trans_eq (modSlot_length ..).symm) hself
      (fun n hn => ?_) (decide_eq_true hroom) hno ?_
    · have : (wantRescue l (s.without (.fade l))).link n = s.link n := slot_modSlot_other _ _ _ hn.symm
      rw [this]
      exact hnone n
    · rw [hcfg]
      exact hw.2.2.2.1
  · rw [fadeTest_of_not (s := s.without (.fade l)) hw]
    exact (hgo (s.without (.fade l))).resolve_right fun h => hne h.1

/-! ## SCAN_ASSIGN_REISSUE (R28) -/

theorem displaceable_scan {b khz width count : Nat} (o : Order) (h : o.body = .scanAssign b khz width count) : o.displaceable = false := by
  rw [Order.displaceable, h]

section scan
variable {s t : State} {b : Nat}

/-- The band's record is the same but for the failed orders that wait for a boundary; every other band is. -/
structure ScanOnly (b : Nat) (s t : State) : Prop where
  self : ({ t.band b with scanReissue := [] }).core = ({ s.band b with scanReissue := [] }).core
  alone : BandAlone b s t
  length : t.bands.length = s.bands.length

namespace ScanOnly
variable {u : State}

theorem refl (b : Nat) (s : State) : ScanOnly b s s := ⟨rfl, fun _ _ => rfl, rfl⟩
theorem trans (h : ScanOnly b s t) (k : ScanOnly b t u) : ScanOnly b s u :=
  ⟨k.self.trans h.self, fun n hn => (k.alone n hn).trans (h.alone n hn), k.length.trans h.length⟩

theorem same (h : Part.bands.same s t) : ScanOnly b s t := by
  have hcore := bandCore_of_same h
  refine ⟨?_, fun n _ => hcore n, length_of_bands h⟩
  have hc (k : Band) : ({ k with scanReissue := [] } : Band).core = { k.core with scanReissue := [] } := rfl
  rw [hc, hc, hcore]

theorem keeps {ps : List Part} (h : KeepsBut ps s t) (hp : .bands ∉ ps := by decide) : ScanOnly b s t := same (h .bands hp)

theorem modBand (hb : 1 ≤ b) (hb' : b ≤ s.bands.length) (f : List (FrameNo × ScanOrder) → List (FrameNo × ScanOrder)) :
    ScanOnly b s (s.modBand b fun k => { k with scanReissue := f k.scanReissue }) :=
  ⟨by rw [band_modBand_self hb hb'], fun n hn => by rw [band_modBand_other hn], length_modBand _ _ _⟩

end ScanOnly

/-- A SCAN_ASSIGN that overflows is set for the next boundary. -/
theorem issueScanAssign_cases (b : Nat) (x : ScanOrder) (s : State) :
    (issue x.unit (x.body b) (.st b) s).overflow = false ∧ issueScanAssign b x s = (issue x.unit (x.body b) (.st b) s).state ∨
      s.unitFull x.unit ∧ issueScanAssign b x s = scanFailed b x (issue x.unit (x.body b) (.st b) s).state := by
  cases h : (issue x.unit (x.body b) (.st b) s).overflow with
  | false => exact .inl ⟨rfl, if_neg (by rw [h]; exact Bool.false_ne_true)⟩
  | true => exact .inr ⟨unitFull_of_overflow h, if_pos h⟩

theorem issue_now (a : Nat) (body : OrderBody) (i : Issuer) (s : State) : (issue a body i s).state.now = s.now :=
  congrArg Ftb.counter (keeps_issue a body i s .ftb (by decide))

theorem issue_scanReissue (a : Nat) (body : OrderBody) (i : Issuer) (s : State) (b : Nat) :
    ((issue a body i s).state.band b).scanReissue = (s.band b).scanReissue :=
  (congrArg Band.scanReissue (bandCore_of_same (keeps_issue a body i s .bands (by decide)) b) :)

/-- What one SCAN_ASSIGN issued again leaves: it is held, or it waits for the next boundary, its unit's lists full. -/
structure ScanAgain (b : Nat) (xs : List ScanOrder) (s t : State) : Prop where
  issued : ∀ x ∈ xs, 1 ≤ x.unit → x.unit ≤ 24 → Ordered x.unit (x.body b) (.st b) s t ∨
    ((framePlus s.now 1, x) ∈ (t.band b).scanReissue ∧ 32 < (s.unit x.unit).waiting.length + xs.length)
  kept : ∀ y ∈ (s.band b).scanReissue, y ∈ (t.band b).scanReissue
  only : ∀ y ∈ (t.band b).scanReissue, y ∈ (s.band b).scanReissue ∨ (y.1 = framePlus s.now 1 ∧ y.2 ∈ xs)
  band : ScanOnly b s t
  issues : Issues (fun _ => True) s t

theorem issues_scanFailed (b : Nat) (x : ScanOrder) (s : State) : Issues (fun _ => True) s (scanFailed b x s) := .units rfl

theorem issues_issueScanAssign (b : Nat) (x : ScanOrder) (s : State) : Issues (fun _ => True) s (issueScanAssign b x s) := by
  rcases issueScanAssign_cases b x s with ⟨-, h⟩ | ⟨-, h⟩ <;> rw [h]
  · exact .issue s _ _ _ trivial
  · exact (Issues.issue s _ _ _ trivial).trans (issues_scanFailed b x _)

theorem scanFailed_band (hb : 1 ≤ b) (hb' : b ≤ s.bands.length) (x : ScanOrder) :
    ((scanFailed b x s).band b).scanReissue = (s.band b).scanReissue ++ [(framePlus s.now 1, x)] :=
  congrArg Band.scanReissue (band_modBand_self (s := s) hb hb' fun k =>
    { k with scanReissue := k.scanReissue ++ [(framePlus s.now 1, x)] })

theorem issueScanAssign_does (hb : 1 ≤ b) (hb' : b ≤ s.bands.length) (hs : s.units.length = 25) (x : ScanOrder) :
    ScanAgain b [x] s (issueScanAssign b x s) ∧ (issueScanAssign b x s).now = s.now ∧ (issueScanAssign b x s).units.length = 25 ∧
      ∀ a, ((issueScanAssign b x s).unit a).waiting.length ≤ (s.unit a).waiting.length + 1 := by
  have hissues := issues_issueScanAssign b x s
  have hkeeps := keeps_issue x.unit (x.body b) (.st b) s
  have hlen := length_of_bands (hkeeps .bands (by decide))
  have hwaiting := fun a => (length_issue x.unit (x.body b) (.st b) s a).2
  have hunits : (issue x.unit (x.body b) (.st b) s).state.units.length = 25 := (issue_length_units _ _ _ _).trans hs
  rcases issueScanAssign_cases b x s with ⟨ho, h⟩ | ⟨hfull, h⟩
  · rw [h] at hissues ⊢
    refine ⟨⟨fun y hy hu hu' => .inl ?_, fun y hy => ?_, fun y hy => .inl ?_, .keeps hkeeps, hissues⟩, issue_now _ _ _ _, hunits, hwaiting⟩
    · obtain rfl := List.mem_singleton.1 hy
      exact ordered_issue (place_of_address hs (mem_unitAddresses.2 (.inl ⟨hu, hu'⟩))) ho
    · rw [issue_scanReissue]; exact hy
    · rw [issue_scanReissue] at hy; exact hy
  · have hre := scanFailed_band hb (hb'.trans_eq hlen.symm) (s := (issue x.unit (x.body b) (.st b) s).state) x
    rw [issue_scanReissue, issue_now] at hre
    rw [h] at hissues ⊢
    refine ⟨⟨fun y hy _ _ => .inr ⟨?_, ?_⟩, fun y hy => ?_, fun y hy => ?_, ?_, hissues⟩, issue_now _ _ _ _, hunits, hwaiting⟩
    · obtain rfl := List.mem_singleton.1 hy
      rw [hre]
      exact List.mem_append_right _ (List.mem_singleton_self _)
    · obtain rfl := List.mem_singleton.1 hy
      exact Nat.lt_succ_of_le hfull.2
    · rw [hre]
      exact List.mem_append_left _ hy
    · rw [hre] at hy
      rcases List.mem_append.1 hy with hy | hy
      · exact .inl hy
      · obtain rfl := List.mem_singleton.1 hy
        exact .inr ⟨rfl, List.mem_singleton_self _⟩
    · exact (ScanOnly.keeps hkeeps).trans (.modBand hb (hb'.trans_eq hlen.symm) (· ++ [(framePlus _ 1, x)]))

/-- Failed orders issued again, each in turn. -/
theorem scansAgain_does (hb : 1 ≤ b) (xs : List ScanOrder) (hb' : b ≤ s.bands.length) (hs : s.units.length = 25) :
    ScanAgain b xs s (xs.foldl (fun s x => issueScanAssign b x s) s) := by
  induction xs generalizing s with
  | nil => exact ⟨fun _ h => (List.not_mem_nil h).elim, fun _ h => h, fun _ h => .inl h, .refl b s, .refl s⟩
  | cons x xs ih =>
    obtain ⟨hone, hnow, hunits, hwaiting⟩ := issueScanAssign_does hb hb' hs x
    have hrest := ih (s := issueScanAssign b x s) (hb'.trans_eq hone.band.length.symm) hunits
    rw [List.foldl_cons]
    refine ⟨fun y hy hu hu' => ?_, fun y hy => hrest.kept y (hone.kept y hy), fun y hy => ?_, hone.band.trans hrest.band,
      hone.issues.trans hrest.issues⟩
    · rcases List.mem_cons.1 hy with rfl | hy
      · refine (hone.issued y List.mem_cons_self hu hu').imp (fun h => h.issues displaceable_scan hrest.issues) fun ⟨hmem, hlen⟩ => ⟨hrest.kept _ hmem, ?_⟩
        rw [List.length_cons]
        rw [List.length_singleton] at hlen
        omega
      · refine (hrest.issued y hy hu hu').imp (fun h => h.of_now hnow) fun ⟨hmem, hlen⟩ => ⟨hnow ▸ hmem, ?_⟩
        have := hwaiting y.unit
        rw [List.length_cons]
        omega
    · rcases hrest.only y hy with hy | ⟨hat, hmem⟩
      · rcases hone.only y hy with hy | ⟨hat, hmem⟩
        · exact .inl hy
        · exact .inr ⟨hat, List.mem_cons.2 (.inl (List.mem_singleton.1 hmem))⟩
      · exact .inr ⟨hat.trans (by rw [hnow]), List.mem_cons_of_mem _ hmem⟩

/-- The orders of a band that failed in the frame before and may be issued again. -/
def State.scansDue (s : State) (b : Nat) : List ScanOrder :=
  (((s.band b).scanReissue.filter fun x => decide (x.1 = s.now)).map Prod.snd).filter (s.scansAgain b)

theorem mem_scansDue {x : ScanOrder} : x ∈ s.scansDue b ↔ (s.now, x) ∈ (s.band b).scanReissue ∧ s.mode = .run ∧
    (s.band b).defined = true ∧ (s.band b).p.scanUnit = some x.unit := by
  simp only [State.scansDue, State.scansAgain, List.mem_filter, List.mem_map, Bool.and_eq_true, decide_eq_true_eq]
  constructor
  · rintro ⟨⟨⟨e, x'⟩, ⟨hmem, rfl⟩, rfl⟩, ⟨hmode, hdef⟩, hunit⟩
    exact ⟨hmem, hmode, hdef, hunit⟩
  · rintro ⟨hmem, hmode, hdef, hunit⟩
    exact ⟨⟨(s.now, x), ⟨hmem, rfl⟩, rfl⟩, ⟨hmode, hdef⟩, hunit⟩

theorem length_scansDue (s : State) (b : Nat) :
    (s.scansDue b).length ≤ (s.band b).scanReissue.countP fun y => decide (y.1 = s.now) := by
  rw [List.countP_eq_length_filter, State.scansDue]
  exact (List.length_filter_le _ _).trans (List.length_map _).le

/-- The failed orders that are due leave the band's list. -/
def scansTaken (b : Nat) (s : State) : State :=
  s.modBand b fun k => { k with scanReissue := k.scanReissue.filter fun x => decide (x.1 ≠ s.now) }

theorem scanStep_eq (b : Nat) (s : State) :
    scanStep b s = (s.scansDue b).foldl (fun s x => issueScanAssign b x s) (scansTaken b s) := rfl

/-- What the step of a boundary does to a band's failed orders (R28). -/
theorem scanStep_does (hs : s.shaped) (hb : 1 ≤ b) (hb' : b ≤ 4) :
    ScanAgain b (s.scansDue b) (scansTaken b s) (scanStep b s) ∧ ScanOnly b s (scanStep b s) ∧
      ((scansTaken b s).band b).scanReissue = (s.band b).scanReissue.filter fun x => decide (x.1 ≠ s.now) := by
  obtain ⟨hbands, -, hunits, -⟩ := hs
  have hlen : b ≤ s.bands.length := hb'.trans_eq hbands.symm
  have htaken : ScanOnly b s (scansTaken b s) := .modBand hb hlen fun l => l.filter fun x => decide (x.1 ≠ s.now)
  have hagain := scansAgain_does (s := scansTaken b s) hb (s.scansDue b) (hlen.trans_eq (length_modBand ..).symm) hunits
  rw [← scanStep_eq] at hagain
  exact ⟨hagain, htaken.trans hagain.band, congrArg Band.scanReissue (band_modBand_self hb hlen fun k =>
    { k with scanReissue := k.scanReissue.filter fun x => decide (x.1 ≠ s.now) })⟩

theorem scanReissue_finish (s0 s1 : State) (b : Nat) : ((finish s0 s1).band b).scanReissue = (s1.band b).scanReissue :=
  (congrArg Band.scanReissue (bandCore_of_same (keeps_finishTail s0 s1 .bands (by decide)) b) :)

end scan

/-! ## MUTE_REISSUE (R94) -/

section mute
variable {s t u : State} {l : Nat} {k k' : Link}

theorem LinkBecomes.trans (h : LinkBecomes l k s t) (h' : LinkBecomes l k' t u) : LinkBecomes l k' s u :=
  ⟨h'.self, fun n hn => (h'.alone n hn).trans (h.alone n hn), h'.length.trans h.length⟩

theorem LinkBecomes.congr (h : LinkBecomes l k s t) (hk : k.core = k'.core) : LinkBecomes l k' s t := ⟨h.self.trans hk, h.alone, h.length⟩

/-- The MUTE that a PARKED link is issued again. -/
def State.muteBody (s : State) (l : Nat) : OrderBody := .mute (s.link l).cfg.channel s.nextEffective

/-- The MUTEs of a body for a PARKED link. -/
def isMute (l : Nat) (body : OrderBody) (o : Order) : Bool := decide (o.issuer = .lsPark l ∧ o.body = body)

theorem lasting_isMute (l c : Nat) (e : FrameNo) : Lasting (isMute l (.mute c e)) :=
  ⟨fun _ _ => rfl, fun o ho => displaceable_mute o (of_decide_eq_true ho).2⟩

/-- A number of MUTEs issued again to a PARKED link: some were lost for want of room, and wait for the next boundary. -/
structure MutesAgain (l n lost : Nat) (s t : State) : Prop where
  few : lost ≤ n
  link : LinkBecomes l { s.link l with muteReissue := (s.link l).muteReissue ++ List.replicate lost (framePlus s.now 1) } s t
  held : (t.unit (s.link l).cfg.unit).count (isMute l (s.muteBody l)) =
    (s.unit (s.link l).cfg.unit).count (isMute l (s.muteBody l)) + (n - lost)
  issued : lost < n → Ordered (s.link l).cfg.unit (s.muteBody l) (.lsPark l) s t
  full : 0 < lost → 8 < (s.unit (s.link l).cfg.unit).outstanding.length + n ∧
    32 < (s.unit (s.link l).cfg.unit).waiting.length + n ∧ Waits .linkMuteFailed l t
  issues : Issues (fun _ => True) s t
  ftb : t.ftb = s.ftb
  acts : Acts .full s t

/-- The MUTEs of one step that is taken, and those of the steps after it. -/
theorem MutesAgain.append {n a b : Nat} (h : MutesAgain l 1 a s t) (h' : MutesAgain l n b t u)
    (hlen : (t.unit (s.link l).cfg.unit).outstanding.length ≤ (s.unit (s.link l).cfg.unit).outstanding.length + 1 ∧
      (t.unit (s.link l).cfg.unit).waiting.length ≤ (s.unit (s.link l).cfg.unit).waiting.length + 1) :
    MutesAgain l (n + 1) (a + b) s u := by
  have hcfg : (t.link l).cfg = (s.link l).cfg := h.link.cfg
  have hnow : t.now = s.now := congrArg Ftb.counter h.ftb
  have hbody : t.muteBody l = s.muteBody l := by
    rw [State.muteBody, State.muteBody, hcfg, State.nextEffective, State.nextEffective, hnow, h.ftb]
  have hheld := h'.held
  have hissued := h'.issued
  have hfull := h'.full
  rw [hcfg, hbody] at hheld hissued
  rw [hcfg] at hfull
  have hfew := h.few
  have hfew' := h'.few
  refine ⟨by omega, ?_, ?_, fun hlt => ?_, fun hpos => ?_, h.issues.trans h'.issues, h'.ftb.trans h.ftb, h.acts.trans h'.acts⟩
  · refine (h.link.trans h'.link).congr ?_
    rw [hnow, core_congr (f := fun k => { k with muteReissue := k.muteReissue ++ List.replicate b (framePlus s.now 1) })
      (fun _ => rfl) h.link.self]
    simp only [List.append_assoc, List.replicate_append_replicate]
  · have := h.held
    omega
  · by_cases ha : a < 1
    · exact (h.issued ha).issues displaceable_mute h'.issues
    · exact (hissued (by omega)).of_now hnow
  · by_cases hb : 0 < b
    · obtain ⟨ho, hw, hn⟩ := hfull hb
      exact ⟨by omega, by omega, hn⟩
    · obtain ⟨ho, hw, hn⟩ := h.full (by omega)
      exact ⟨by omega, by omega, hn.of_acts h'.acts⟩

/-- One MUTE issued again. -/
theorem muteAgain_does (hl : 1 ≤ l) (hl' : l ≤ s.links.length) (hunits : s.units.length = 25) (hu : 1 ≤ (s.link l).cfg.unit)
    (hu' : (s.link l).cfg.unit ≤ 24) (hst : (s.link l).state = .parked) :
    ∃ lost, MutesAgain l 1 lost s (muteAgain l s) := by
  have hkeeps := keeps_issueMute l s.nextEffective (.lsPark l) s
  have hplace := place_of_address hunits (mem_unitAddresses.2 (.inl ⟨hu, hu'⟩))
  have hlink : LinkBecomes l (s.link l) s (issueMute l s.nextEffective (.lsPark l) s).state := (LinkBecomes.refl l s).keeps hkeeps
  have hcount : ((issueMute l s.nextEffective (.lsPark l) s).state.unit (s.link l).cfg.unit).count (isMute l (s.muteBody l)) =
      (s.unit (s.link l).cfg.unit).count (isMute l (s.muteBody l)) +
        if (issueMute l s.nextEffective (.lsPark l) s).overflow = false then 1 else 0 := by
    refine (count_issue (lasting_isMute l _ _) hplace (s.muteBody l) (.lsPark l)).trans ?_
    have hp : isMute l (.mute (s.link l).cfg.channel s.nextEffective) (s.newOrder (s.link l).cfg.unit (s.muteBody l) (.lsPark l)) = true := decide_eq_true ⟨rfl, rfl⟩
    rw [hp]
    simp only [and_true]
    rfl
  have hissues : Issues (fun _ => True) s (issueMute l s.nextEffective (.lsPark l) s).state := .issue s _ _ _ trivial
  have hftb : (issueMute l s.nextEffective (.lsPark l) s).state.ftb = s.ftb := hkeeps .ftb (by decide)
  have hacts : Acts .full s (issueMute l s.nextEffective (.lsPark l) s).state := acts_issueMute _ _ _ _
  rcases issueMute_ordered hunits hu hu' s.nextEffective (.lsPark l) with ⟨ho, hord⟩ | ⟨ho, hfull⟩
  · rw [if_pos ho] at hcount
    have heq : muteAgain l s = (issueMute l s.nextEffective (.lsPark l) s).state := if_neg (by rw [ho]; exact Bool.false_ne_true)
    rw [heq]
    exact ⟨0, ⟨Nat.zero_le _, hlink.congr (by simp), hcount, fun _ => hord.ordered, fun h => absurd h (Nat.lt_irrefl 0), hissues, hftb, hacts⟩⟩
  · rw [if_neg (by rw [ho]; exact Bool.noConfusion)] at hcount
    have heq : muteAgain l s = parkMuteFailed l (issueMute l s.nextEffective (.lsPark l) s).state := if_pos ho
    rw [heq]
    have hunit : (parkMuteFailed l (issueMute l s.nextEffective (.lsPark l) s).state).units =
        (issueMute l s.nextEffective (.lsPark l) s).state.units := by
      unfold parkMuteFailed
      dsimp only
      split <;> rfl
    have hparked : ((issueMute l s.nextEffective (.lsPark l) s).state.link l).state = .parked := hlink.state.trans hst
    have hfail := (parkMuteFailed_does hlink hl hl').2
    have hrec : LinkBecomes l { s.link l with muteReissue := (s.link l).muteReissue ++ [framePlus s.now 1] } s
        (parkMuteFailed l (issueMute l s.nextEffective (.lsPark l) s).state) := by
      have hnow : (issueMute l s.nextEffective (.lsPark l) s).state.now = s.now := congrArg Ftb.counter hftb
      unfold parkMuteFailed
      dsimp only
      rw [if_pos hparked, hnow]
      exact (hlink.keeps (keeps_raise _ .linkMuteFailed l)).modLink (f := fun k => { k with muteReissue := k.muteReissue ++ [framePlus s.now 1] }) hl hl'
    refine ⟨1, ⟨le_rfl, hrec, ?_, fun h => absurd h (Nat.lt_irrefl 1), fun _ => ⟨?_, ?_, hfail⟩, hissues.trans (.units hunit), ?_,
      hacts.trans (acts_parkMuteFailed _ _)⟩⟩
    · rw [unit_of_units hunit]; exact hcount
    · exact Nat.lt_succ_of_le hfull.1
    · exact Nat.lt_succ_of_le hfull.2
    · exact (keeps_parkMuteFailed l _ .ftb (by decide)).trans hftb

/-- A number of MUTEs issued again, each in turn. -/
theorem mutesAgain_do (hl : 1 ≤ l) (xs : List FrameNo) (hl' : l ≤ s.links.length) (hunits : s.units.length = 25)
    (hu : 1 ≤ (s.link l).cfg.unit) (hu' : (s.link l).cfg.unit ≤ 24) (hst : (s.link l).state = .parked) :
    ∃ lost, MutesAgain l xs.length lost s (xs.foldl (fun s _ => muteAgain l s) s) := by
  induction xs generalizing s with
  | nil => exact ⟨0, ⟨le_rfl, (LinkBecomes.refl l s).congr (by simp), rfl, fun h => absurd h (Nat.lt_irrefl 0),
      fun h => absurd h (Nat.lt_irrefl 0), .refl s, rfl, .refl s⟩⟩
  | cons x xs ih =>
    obtain ⟨a, hone⟩ := muteAgain_does hl hl' hunits hu hu' hst
    have hcfg : ((muteAgain l s).link l).cfg = (s.link l).cfg := hone.link.cfg
    have hsame : (muteAgain l s).units = (issueMute l s.nextEffective (.lsPark l) s).state.units := by
      unfold muteAgain reportPark parkMuteFailed
      dsimp only
      split
      · split <;> rfl
      · rfl
    have hlen := length_issue (s.link l).cfg.unit (s.muteBody l) (.lsPark l) s (s.link l).cfg.unit
    obtain ⟨b, hrest⟩ := ih (s := muteAgain l s) (hone.link.length.symm ▸ hl') (by rw [hsame]; exact (issue_length_units _ _ _ _).trans hunits)
      (hcfg ▸ hu) (hcfg ▸ hu') (hone.link.state.trans hst)
    exact ⟨a + b, hone.append hrest (by rw [unit_of_units hsame]; exact hlen)⟩

/-- The failed MUTEs that are due leave the link's list. -/
def mutesTaken (l : Nat) (s : State) : State :=
  s.modLink l fun k => { k with muteReissue := k.muteReissue.filter fun e => decide (e ≠ s.now) }

theorem muteStep_eq (l : Nat) (s : State) : muteStep l s =
    if (s.link l).state = .parked then ((s.link l).muteReissue.filter fun e => decide (e = s.now)).foldl (fun s _ => muteAgain l s) (mutesTaken l s)
    else mutesTaken l s := rfl

theorem mutesTaken_link (hl : 1 ≤ l) (hl' : l ≤ s.links.length) : (mutesTaken l s).link l =
    { s.link l with muteReissue := (s.link l).muteReissue.filter fun e => decide (e ≠ s.now) } := link_modLink_self hl hl' _

theorem keeps_muteAgain_narrow (l : Nat) (s : State) : KeepsBut (.links :: issueParts) s (muteAgain l s) :=
  ((keeps_issueMute l s.nextEffective (.lsPark l) s).mono (by decide)).trans ((keeps_reportPark _ _ _).mono (by decide))

theorem keeps_muteStep_narrow (l : Nat) (s : State) : KeepsBut (.links :: issueParts) s (muteStep l s) := by
  have h : KeepsBut (.links :: issueParts) s (mutesTaken l s) :=
    (keeps_modLink_core s l (fun k => { k with muteReissue := k.muteReissue.filter fun e => decide (e ≠ s.now) }) (fun _ => rfl) fun _ => rfl).mono
      (by decide)
  rw [muteStep_eq]
  exact .ite (h.trans (.foldl _ (fun s _ => keeps_muteAgain_narrow l s) _ _)) h

/-- The Talk Router's orders of an event are no MUTE. -/
theorem held_finish (l : Nat) (c : Nat) (e : FrameNo) (s0 s1 : State) (a : Nat) :
    ((finish s0 s1).unit a).count (isMute l (.mute c e)) = (s1.unit a).count (isMute l (.mute c e)) :=
  count_issues (lasting_isMute l c e) (issues_finish s0 s1) (fun o ho => decide_eq_false fun h => by
    rw [h.1] at ho
    exact ho) a

end mute

/-- Settles O20: both steps issue their failed orders again in turn. -/
theorem failedOrdersIssuedAgain : Obligations.FailedOrdersIssuedAgain := by
  unfold Obligations.FailedOrdersIssuedAgain
  constructor
  · intro s b hs hb hb' hdue k later due count may
    have hstep : owedStep (.scan b) (s.without (.scan b)) = scanStep b (s.without (.scan b)) := rfl
    obtain ⟨hagain, honly, htaken⟩ := scanStep_does (s := s.without (.scan b)) hs hb hb'
    have hcount := length_scansDue (s.without (.scan b)) b
    have hframe : KeepsBut (.bands :: issueParts) (s.without (.scan b)) (scanStep b (s.without (.scan b))) := by
      have h : KeepsBut (.bands :: issueParts) (s.without (.scan b)) (scansTaken b (s.without (.scan b))) :=
        (keeps_modBand_core _ b (fun k => { k with scanReissue := k.scanReissue.filter fun x => decide (x.1 ≠ s.now) }) fun _ => rfl).mono
          (by decide)
      rw [scanStep_eq]
      exact h.trans (.foldl _ (fun s x => keeps_issueScanAssign b x s) _ _)
    have hframe := (keeps_dueStep hframe).mono (qs := .bands :: .owed :: tailParts) (by decide)
    have hre := scanReissue_finish (s.without (.scan b)) (scanStep b (s.without (.scan b))) b
    have hband := honly.trans (.keeps (keeps_finishTail (s.without (.scan b)) (scanStep b (s.without (.scan b)))))
    refine ⟨_, congrArg Host.Outcome.next (takeOwed_of_due hdue), ?_⟩
    rw [hstep]
    refine ⟨fun x hx hmay hxu hxu' => ?_, fun y hy hne => ?_, fun y hy => ?_, hband.self, hband.alone, hframe⟩
    · have hmem : x ∈ (s.without (.scan b)).scansDue b := mem_scansDue.2 ⟨hx, hmay.1, hmay.2.1, hmay.2.2⟩
      refine (hagain.issued x hmem hxu hxu').imp (fun h => h.issues displaceable_scan (issues_finish _ _)) fun ⟨hin, hlong⟩ => ⟨?_, ?_⟩
      · rw [hre]; exact hin
      · exact lt_of_lt_of_le hlong (Nat.add_le_add_left hcount _)
    · rw [hre]
      exact hagain.kept y (by rw [htaken]; exact List.mem_filter.2 ⟨hy, decide_eq_true hne⟩)
    · rw [hre] at hy
      rcases hagain.only y hy with h | ⟨hat, hmem⟩
      · rw [htaken] at h
        exact .inl ⟨(List.mem_filter.1 h).1, of_decide_eq_true (List.mem_filter.1 h).2⟩
      · obtain ⟨hin, hmode, hdef, hunit⟩ := mem_scansDue.1 hmem
        exact .inr ⟨hat, hin, hmode, hdef, hunit⟩
  · intro s l hs hl hl' hu hu' hdue k u due rest body held waits
    have hlen : l ≤ (s.without (.mute l)).links.length := hl'.trans_eq hs.2.1.symm
    have hstep : owedStep (.mute l) (s.without (.mute l)) = muteStep l (s.without (.mute l)) := rfl
    have hframe := (keeps_dueStep (keeps_muteStep_narrow l (s.without (.mute l)))).mono (qs := .links :: .owed :: tailParts) (by decide)
    have htaken := mutesTaken_link (s := s.without (.mute l)) hl hlen
    have htook : LinkBecomes l { s.link l with muteReissue := rest } s (mutesTaken l (s.without (.mute l))) :=
      ((LinkBecomes.refl l s).keeps (keeps_without _ s)).modLink (f := fun k => { k with muteReissue := k.muteReissue.filter fun e => decide (e ≠ s.now) })
        hl (hl'.trans_eq hs.2.1.symm)
    refine ⟨_, congrArg Host.Outcome.next (takeOwed_of_due hdue), ?_⟩
    rw [hstep]
    have hcfg : ((mutesTaken l (s.without (.mute l))).link l).cfg = k.cfg := htook.cfg
    have hbody : (mutesTaken l (s.without (.mute l))).muteBody l = body := by
      rw [State.muteBody, hcfg]
      rfl
    have hheld (t : State) : held (finish (s.without (.mute l)) t) = (t.unit k.cfg.unit).count (isMute l body) := held_finish l _ _ _ _ _
    by_cases hst : k.state = .parked
    · have heq : muteStep l (s.without (.mute l)) = ((s.link l).muteReissue.filter fun e => decide (e = s.now)).foldl
          (fun s _ => muteAgain l s) (mutesTaken l (s.without (.mute l))) := if_pos hst
      obtain ⟨lost, hagain⟩ := mutesAgain_do (s := mutesTaken l (s.without (.mute l))) hl
        ((s.link l).muteReissue.filter fun e => decide (e = s.now)) (hlen.trans_eq (modSlot_length ..).symm) hs.2.2.1 (hcfg ▸ hu) (hcfg ▸ hu')
        (htook.state.trans hst)
      have hdue' : ((s.link l).muteReissue.filter fun e => decide (e = s.now)).length = due := by
        rw [← List.countP_eq_length_filter]; rfl
      rw [← heq, hdue'] at hagain
      generalize muteStep l (s.without (.mute l)) = t at *
      obtain ⟨hfew, hlink, hcount, hissued, hfull, hissues, -, -⟩ := hagain
      rw [hcfg, hbody] at hcount hissued
      rw [hcfg] at hfull
      have hlink' : LinkBecomes l { k with muteReissue := rest ++ List.replicate lost (framePlus s.now 1) } s t := by
        refine (htook.trans hlink).congr ?_
        rw [htaken]
        rfl
      refine ⟨fun _ => ⟨lost, hfew, (hlink'.finish _).self, (hheld t).trans hcount, fun hlt => ?_, fun hpos => ?_⟩,
        fun h => absurd hst h, (hlink'.finish _).alone, hframe⟩
      · exact ((hissued hlt).issues displaceable_mute (issues_finish _ _) : Ordered _ body _ s _)
      · obtain ⟨ho, hw, hn⟩ := hfull hpos
        exact ⟨ho, hw, notified_finish hn _⟩
    · have heq : muteStep l (s.without (.mute l)) = mutesTaken l (s.without (.mute l)) := if_neg hst
      rw [heq] at hframe ⊢
      exact ⟨fun h => absurd h hst, fun _ => ⟨(htook.finish _).self, hheld _⟩, (htook.finish _).alone, hframe⟩

end Sys2Proof.Machine

/-! The requests of the Lamp Drivers and the Talk Router's configuration, settled: LAMP_CONFIGURE (O47), STATION_DEFINE and
GROUP_DEFINE (O48). -/

namespace Sys2Proof.Machine

-- One theorem at a time: all at once, their threads together outgrow the memory limit of the check.
set_option Elab.async false

/-- The frame of a request that reads or configures, from that of its owner: the transmit path's choice is all that follows. -/
theorem keeps_kick_parts {ps : List Part} {f : HostFrame} {s s1 : State} {p : List Byte} (h : KeepsBut ps (dropHead s) s1) :
    KeepsBut (ps ++ sendParts) s (kick (putReply f p s1)) := by
  have hdrop := (keeps_dropHead s).mono (qs := ps ++ sendParts) fun _ hq => List.mem_append_right _ (by simp_all [sendParts])
  have hreply := (keeps_putReply f p s1).mono (qs := ps ++ sendParts) fun _ hq => List.mem_append_right _ (by simp_all [sendParts])
  exact ((hdrop.trans (h.mono fun _ => List.mem_append_left _)).trans hreply).trans
    ((keeps_kick _).mono fun _ => List.mem_append_right _)

/-! ## The sizes of tables -/

section sizes
variable {s : State}

theorem State.shaped.lamps (hs : s.shaped) : s.lamps.length = 16 := by
  obtain ⟨-, -, -, h, -⟩ := hs
  exact h

theorem State.shaped.stations (hs : s.shaped) : s.tk.stations.length = 24 := by
  obtain ⟨-, -, -, -, -, -, -, -, -, -, -, h, -⟩ := hs
  exact h

theorem State.shaped.groups (hs : s.shaped) : s.tk.groups.length = 8 := by
  obtain ⟨-, -, -, -, -, -, -, -, -, -, -, -, h, -⟩ := hs
  exact h

end sizes

/-! ## Lamps (O47) -/

/-- A source that names an object names one that the part has (R160). -/
theorem lampSource_valid (c : LampSource) : c.valid = match c with
    | .zone z => decide (1 ≤ z ∧ z ≤ 4) | .talk y => decide (1 ≤ y ∧ y ≤ 24) | .none | .tally => true := by
  cases c with
  | none => rfl
  | tally => rfl
  | zone z => exact (Bool.decide_and _ _).symm
  | talk y => exact (Bool.decide_and _ _).symm

/-- LAMP_CONFIGURE with arguments in range. -/
theorem configureLamp_of_right {m : Nat} {c : LampConfig} {s : State} (hm : 1 ≤ m) (hm' : m ≤ 16) (hc : c.source.valid = true)
    (hp : c.periodSelect ≤ 14) :
    configureLamp (m, c) s = okWith c.clamped.bytes (s.modLamp m (Lamp.configure c.clamped)) := by
  have hbad : ¬ c.source.valid = false := by rw [hc]; exact Bool.noConfusion
  exact ((if_neg (oneTo_ne_false hm hm')).trans (if_neg hbad)).trans (if_neg (Nat.not_lt.2 hp))

/-- LAMP_CONFIGURE refuses an argument out of range, whichever it is. -/
theorem configureLamp_refuses {m : Nat} {c : LampConfig} {s : State}
    (h : m = 0 ∨ 16 < m ∨ c.source.valid = false ∨ 14 < c.periodSelect) : configureLamp (m, c) s = refuse .badArgument s := by
  unfold configureLamp
  split_ifs with hm hc hp
  · rfl
  · rfl
  · rfl
  · obtain h | h | h | h := h
    · exact absurd ((oneTo_eq_false_iff 16 m).2 (.inl h)) hm
    · exact absurd ((oneTo_eq_false_iff 16 m).2 (.inr h)) hm
    · exact absurd h hc
    · exact absurd h hp

/-- Output `m` is the lamp's. -/
theorem outputs_lamp {m : Nat} (hm : 1 ≤ m) (hm' : m ≤ 16) (s : State) (tick : Nat → Nat) :
    (s.outputs true tick).lamps[m - 1]? = some ((s.lamp m).active (tick m)) := by
  have hidx : m - 1 < 16 := by omega
  have hnum : m - 1 + 1 = m := by omega
  show ((oneUpTo 16).map fun m => (s.lamp m).active (tick m))[m - 1]? = _
  simp [oneUpTo, hidx, hnum]

/-- Settles O47. -/
theorem lampsConfiguredAndDriven : Obligations.LampsConfiguredAndDriven := by
  refine ⟨fun s f m c hs ht hr => ?_, fun s m hs howed hm hm' => ?_⟩
  · intro x source clamp stored changed
    have hsource : c.source.valid = source := lampSource_valid c.source
    refine ⟨fun h => ?_, fun hm hm' hc hp => ?_⟩
    · exact request_refuses ht hr (configureLamp_refuses (h.imp_right (Or.imp_right (Or.imp_left hsource.trans)))) rfl
    · have hlen : m ≤ (dropHead s).lamps.length := hm'.trans_eq hs.lamps.symm
      have hkeeps := keeps_kick_parts (f := f) (p := u8 0 ++ c.clamped.bytes)
        (keeps_modLamp (dropHead s) m (Lamp.configure c.clamped))
      have hlamps := (keeps_kick (putReply f (u8 0 ++ c.clamped.bytes) ((dropHead s).modLamp m (Lamp.configure c.clamped))))
        .lamps (by decide)
      refine ⟨_, request_reads ht hr (configureLamp_of_right hm hm' (hsource.trans hc) hp), replies_of_kick rfl, ?_, fun n hn => ?_, hkeeps⟩
      · exact (congrArg (fun xs => slot Lamp.reset xs m) hlamps).trans (slot_modSlot_self _ _ _ hm hlen)
      · exact (congrArg (fun xs => slot Lamp.reset xs n) hlamps).trans (slot_modSlot_other _ _ _ hn.symm)
  · have hexec : exec (.pwmPeriodStart m) s = .next (s.modLamp m Lamp.load) := by
      show event (fun s => s.modLamp m Lamp.load) s = _
      rw [event, settleOwed_of_nil s howed]
    have hlamp : (s.modLamp m Lamp.load).lamp m = (s.lamp m).load :=
      slot_modSlot_self _ _ _ hm (hm'.trans_eq hs.lamps.symm)
    refine ⟨_, hexec, hlamp, fun tick => ⟨?_, ?_⟩, fun n hn => slot_modSlot_other _ _ _ hn.symm, keeps_modLamp s m _⟩
    · rw [hlamp]
      rfl
    · rw [outputs_lamp hm hm', hlamp]
      rfl

/-! ## Groups (O48) -/

/-- A record replaced is set. -/
theorem modSlot_const {α : Type} (a : α) (xs : List α) {n : Nat} (h : 1 ≤ n) : modSlot (fun _ => a) xs n = xs.set (n - 1) a := by
  obtain _ | k := n
  · exact absurd h (by decide)
  · exact List.ext_getElem? fun i => by
      rw [modSlot, List.getElem?_modify, Nat.add_sub_cancel, List.getElem?_set']
      split_ifs
      · rfl
      · exact congrFun Option.map_id xs[i]?

/-- The members that R165 admits. -/
def GroupRight (g : Nat) (ms : List Nat) : Prop := 1 ≤ g ∧ g ≤ 8 ∧ ms.length ≤ 12 ∧ (∀ m ∈ ms, 1 ≤ m ∧ m ≤ 24) ∧ ms.Nodup

theorem all_isStation_iff (ms : List Nat) : ms.all isStation = true ↔ ∀ m ∈ ms, 1 ≤ m ∧ m ≤ 24 := by
  rw [List.all_eq_true]
  exact forall₂_congr fun m _ => oneTo_iff 24 m

/-- The checks of GROUP_DEFINE (R165). -/
theorem defineGroup_of_not_right {g : Nat} {ms : List Nat} {s : State} (h : ¬ GroupRight g ms) :
    defineGroup (g, ms) s = refuse .badArgument s := by
  unfold defineGroup
  split_ifs with hg hms
  · rfl
  · rfl
  all_goals
    obtain ⟨hlen, hin, hnodup⟩ : ms.length ≤ 12 ∧ ms.all isStation = true ∧ ms.Nodup := by
      push Not at hms
      exact ⟨hms.1, Bool.not_eq_false _ ▸ hms.2.1, hms.2.2⟩
    obtain ⟨h1, h8⟩ := (oneTo_iff 8 g).1 (Bool.not_eq_false _ ▸ hg)
    exact absurd ⟨h1, h8, hlen, (all_isStation_iff ms).1 hin, hnodup⟩ h

theorem defineGroup_of_right {g : Nat} {ms : List Nat} {s : State} (h : GroupRight g ms) : defineGroup (g, ms) s =
    if s.mode = .run then refuse .wrongMode s
    else okWith [] (s.modTk fun k => { k with groups := modSlot (fun _ => ms) k.groups g }) := by
  obtain ⟨h1, h8, hlen, hin, hnodup⟩ := h
  refine (if_neg (oneTo_ne_false h1 h8)).trans (if_neg ?_)
  rintro (hlong | hout | hdup)
  · exact absurd hlen (Nat.not_le.2 hlong)
  · exact absurd ((all_isStation_iff ms).2 hin) (by rw [hout]; exact Bool.noConfusion)
  · exact hdup hnodup

/-! ## Stations (O48) -/

/-- A key's target is in range: a station other than its own, or a group (R164). -/
def Key.Aims (n : Nat) (k : Key) : Prop := match k.target with
  | .station m => 1 ≤ m ∧ m ≤ 24 ∧ m ≠ n
  | .group g => 1 ≤ g ∧ g ≤ 8

/-- The configuration that R164 admits. -/
def Station.Right (n : Nat) (x : Station) : Prop :=
  1 ≤ n ∧ n ≤ 24 ∧ (x.kind = some .linked ∨ x.kind = some .ifb → ∃ l, x.link = some l ∧ 1 ≤ l ∧ l ≤ 48) ∧
    (x.kind = some .panel ∨ x.kind = some .speaker → x.link = none) ∧ (∀ z, x.zone = some z → z ≤ 4) ∧ x.priority ≤ 7 ∧
    (x.kind = some .speaker ∨ x.kind = some .ifb → x.keys = []) ∧ x.keys.length ≤ 8 ∧
    (∀ k ∈ x.keys, 1 ≤ k.number ∧ k.number ≤ 8 ∧ k.Aims n) ∧ (x.keys.map Key.number).Nodup

theorem keyValid_iff (n : Nat) (k : Key) : k.valid n = true ↔ 1 ≤ k.number ∧ k.number ≤ 8 ∧ k.Aims n := by
  rw [Key.valid, Bool.and_eq_true, oneTo_iff, and_assoc, Key.Aims]
  cases k.target with
  | station m => simp only [isStation, Bool.and_eq_true, oneTo_iff, decide_eq_true_eq, and_assoc]; rfl
  | group g => simp only [oneTo_iff]; rfl

theorem linkValid_iff (x : Station) : x.linkValid = true ↔
    (x.kind = some .linked ∨ x.kind = some .ifb → ∃ l, x.link = some l ∧ 1 ≤ l ∧ l ≤ 48) ∧
      (x.kind = some .panel ∨ x.kind = some .speaker → x.link = none) := by
  have hride : x.link.any (oneTo Config.links) = true ↔ ∃ l, x.link = some l ∧ 1 ≤ l ∧ l ≤ 48 := by
    rw [Option.any_eq_true]
    exact exists_congr fun l => and_congr_right fun _ => oneTo_iff 48 l
  unfold Station.linkValid
  rcases x.kind with _ | ⟨_ | _ | _ | _⟩ <;> simp [StationKind.riding, hride]

/-- The zone of a station as a STATION_DEFINE carries it is no zone 0. -/
theorem zoneValid_iff {o : Option Nat} (h0 : o ≠ some 0) : o.all (oneTo Config.zones) = true ↔ ∀ z, o = some z → z ≤ 4 := by
  rw [Option.all_eq_true]
  refine forall₂_congr fun z hz => (oneTo_iff 4 z).trans (and_iff_right (Nat.pos_of_ne_zero fun h => h0 (hz.trans (congrArg some h))))

theorem keysValid_iff (n : Nat) (x : Station) : x.keysValid n = true ↔
    (x.kind = some .speaker ∨ x.kind = some .ifb → x.keys = []) ∧ x.keys.length ≤ 8 ∧
      (∀ k ∈ x.keys, 1 ≤ k.number ∧ k.number ≤ 8 ∧ k.Aims n) ∧ (x.keys.map Key.number).Nodup := by
  have hkeyed : (x.keys.isEmpty || x.kind.all StationKind.keyed) = true ↔
      (x.kind = some .speaker ∨ x.kind = some .ifb → x.keys = []) := by
    rcases x.kind with _ | ⟨_ | _ | _ | _⟩ <;> simp [StationKind.keyed]
  rw [Station.keysValid, Bool.and_eq_true, Bool.and_eq_true, Bool.and_eq_true, hkeyed, decide_eq_true_eq, decide_eq_true_eq,
    List.all_eq_true]
  simp only [keyValid_iff]
  exact ⟨fun ⟨⟨⟨hlen, hin⟩, hdup⟩, hkind⟩ => ⟨hkind, hlen, hin, hdup⟩, fun ⟨hkind, hlen, hin, hdup⟩ => ⟨⟨⟨hlen, hin⟩, hdup⟩, hkind⟩⟩

/-- The checks of STATION_DEFINE before its mode (R164). -/
theorem defineStation_of_not_right {n : Nat} {x : Station} {s : State} (h0 : x.zone ≠ some 0) (h : ¬ x.Right n) :
    defineStation (n, x) s = refuse .badArgument s := by
  simp only [defineStation]
  split_ifs with hn hl hz hk
  iterate 4 rfl
  all_goals
    obtain ⟨h1, h24⟩ := (oneTo_iff 24 n).1 (Bool.not_eq_false _ ▸ hn)
    obtain ⟨hride, hwire⟩ := (linkValid_iff x).1 (Bool.not_eq_false _ ▸ hl)
    obtain ⟨hzone, hprio⟩ := not_or.1 hz
    obtain ⟨hkeyed, hkeys⟩ := (keysValid_iff n x).1 (Bool.not_eq_false _ ▸ hk)
    exact absurd ⟨h1, h24, hride, hwire, (zoneValid_iff h0).1 (Bool.not_eq_false _ ▸ hzone), Nat.not_lt.1 hprio, hkeyed, hkeys⟩ h

theorem defineStation_of_right {n : Nat} {x : Station} {s : State} (h0 : x.zone ≠ some 0) (h : x.Right n) :
    defineStation (n, x) s =
      if s.mode = .run then refuse .wrongMode s
      else if x.kind.isSome && s.stationConflict n x then refuse .conflict s
      else
        let s1 := s.modStation n fun _ => if x.kind.isSome then x.clamped else Station.undefined
        okWith (s1.stationBytes n) s1 := by
  obtain ⟨h1, h24, hride, hwire, hzone, hprio, hkeys⟩ := h
  have htrue {c : Bool} (hc : c = true) : ¬ c = false := by rw [hc]; exact Bool.noConfusion
  refine (if_neg (oneTo_ne_false h1 h24)).trans ((if_neg (htrue ((linkValid_iff x).2 ⟨hride, hwire⟩))).trans ((if_neg ?_).trans
    (if_neg (htrue ((keysValid_iff n x).2 hkeys)))))
  exact not_or.2 ⟨htrue ((zoneValid_iff h0).2 hzone), Nat.not_lt.2 hprio⟩

/-- Another defined station names the link of the one defined (R164). -/
def Station.Clashes (s : State) (n : Nat) (x : Station) : Prop :=
  x.kind ≠ none ∧ x.link ≠ none ∧ ∃ m, 1 ≤ m ∧ m ≤ 24 ∧ m ≠ n ∧ (s.station m).kind ≠ none ∧ (s.station m).link = x.link

theorem clashes_iff (s : State) (n : Nat) (x : Station) : (x.kind.isSome && s.stationConflict n x) = true ↔ x.Clashes s n := by
  rw [Bool.and_eq_true, State.stationConflict, Bool.and_eq_true, List.any_eq_true, Option.isSome_iff_ne_none, Option.isSome_iff_ne_none]
  refine and_congr_right fun _ => and_congr_right fun _ => exists_congr fun m => ?_
  rw [mem_oneUpTo, Bool.and_eq_true, Bool.and_eq_true, decide_eq_true_eq, decide_eq_true_eq, Option.isSome_iff_ne_none]
  exact ⟨fun ⟨⟨h1, h24⟩, ⟨hne, hkind⟩, hlink⟩ => ⟨h1, h24, hne, hkind, hlink⟩,
    fun ⟨h1, h24, hne, hkind, hlink⟩ => ⟨⟨h1, h24⟩, ⟨hne, hkind⟩, hlink⟩⟩

/-! ### What a STATION_DEFINE carries -/

/-- A key as it is defined: OFF and released, with no deadline. -/
def Key.AtRest (k : Key) : Prop := k.state = .off ∧ k.pressed = false ∧ k.tapDeadline = none

theorem keyOf_atRest {bs : List Byte} {k : Key} (h : keyOf bs = some k) : k.AtRest := by
  unfold keyOf at h
  split at h
  · split at h
    · rw [← Option.some.inj h]
      exact ⟨rfl, rfl, rfl⟩
    · cases h
  · cases h

/-- Each item of a list read is one that was read. -/
theorem mem_of_mapM {α β : Type} {f : α → Option β} : ∀ {xs : List α} {ys : List β}, xs.mapM f = some ys →
    ∀ y ∈ ys, ∃ x ∈ xs, f x = some y
  | [], ys, h, y, hy => by
    rw [List.mapM_nil] at h
    rw [← Option.some.inj h] at hy
    cases hy
  | x :: xs, ys, h, y, hy => by
    rw [List.mapM_cons] at h
    obtain ⟨b, hb, h⟩ := Option.bind_eq_some_iff.1 h
    obtain ⟨bs, hbs, h⟩ := Option.bind_eq_some_iff.1 h
    rw [← Option.some.inj h] at hy
    obtain rfl | hy := List.mem_cons.1 hy
    · exact ⟨x, List.mem_cons_self .., hb⟩
    · obtain ⟨a, ha, hfa⟩ := mem_of_mapM hbs y hy
      exact ⟨a, List.mem_cons_of_mem _ ha, hfa⟩

theorem noneIfZero_ne (n : Nat) : noneIfZero n ≠ some 0 := by
  unfold noneIfZero
  split_ifs with h
  · exact fun h => by cases h
  · exact fun h0 => h (Option.some.inj h0)

/-- A station as a STATION_DEFINE carries it: every working field is at rest. -/
def Station.AtRest (x : Station) : Prop :=
  x.pulseEnd = none ∧ x.dimOrder = none ∧ x.dimRetry = false ∧ x.lampAcked = none ∧ x.lampOrder = none ∧
    x.lampRetry = none ∧ x.lastRefusal = none

theorem readStationDefine_spec {bs : List Byte} {n : Nat} {x : Station} (h : readStationDefine bs = some (n, x)) :
    x.zone ≠ some 0 ∧ x.AtRest ∧ ∀ k ∈ x.keys, k.AtRest := by
  unfold readStationDefine at h
  split at h
  · split at h
    · obtain ⟨keys, hkeys, h⟩ := Option.map_eq_some_iff.1 h
      obtain ⟨-, rfl⟩ := Prod.mk.inj h
      refine ⟨noneIfZero_ne _, ⟨rfl, rfl, rfl, rfl, rfl, rfl, rfl⟩, fun k hk => ?_⟩
      obtain ⟨b, -, hb⟩ := mem_of_mapM hkeys k hk
      exact keyOf_atRest hb
    · cases h
  · cases h

/-- An order of items has the items. -/
theorem sortBy_perm {α : Type} (before : α → α → Bool) (xs : List α) : (sortBy before xs).Perm xs := by
  induction xs with
  | nil => exact .nil
  | cons a xs ih => exact (insertBy_perm before a _).trans (ih.cons a)

/-- A station's bytes show its record and the numbers of its orders. -/
theorem stationBytes_of_same {s t : State} (htk : t.tk = s.tk) (hunits : t.units = s.units) (n : Nat) :
    t.stationBytes n = s.stationBytes n := by
  have horder : t.orderBytes = s.orderBytes := by
    funext id
    show opt _ (State.orderNumber t id) = opt _ (State.orderNumber s id)
    rw [State.orderNumber, State.orderNumber, hunits]
  simp only [State.stationBytes, State.station, htk, horder]

section define
variable {s : State} {f : HostFrame} {n : Nat} {x : Station}

/-- The record that a STATION_DEFINE gives: the configuration clamped, or the defaults for kind none. -/
def Station.definedAs (x : Station) : Station := if x.kind.isSome then x.clamped else Station.undefined

theorem definedAs_of_some (h : x.kind ≠ none) : x.definedAs = x.clamped := if_pos (Option.isSome_iff_ne_none.2 h)

theorem definedAs_of_none (h : x.kind = none) : x.definedAs = Station.undefined := if_neg (by rw [h]; exact Bool.noConfusion)

/-- A station defined anew. -/
theorem stationDefine_takes (hs : s.shaped) (hn : 1 ≤ n) (hn' : n ≤ 24) (ht : Takes 0x40 f s)
    (hr : readStationDefine f.payload = some (n, x))
    (hact : defineStation (n, x) (dropHead s) = okWith (((dropHead s).modStation n fun _ => x.definedAs).stationBytes n)
      ((dropHead s).modStation n fun _ => x.definedAs)) :
    Reaches .stationDefine s fun t => Replies f (u8 0 ++ t.stationBytes n) s t ∧ t.station n = x.definedAs ∧
      (∀ m, m ≠ n → t.station m = s.station m) ∧ t.tk = { s.tk with stations := t.tk.stations } ∧
      KeepsBut (.tk :: sendParts) s t := by
  have hlen : n ≤ (dropHead s).tk.stations.length := hn'.trans_eq hs.stations.symm
  have hframe : KeepsBut [.tk] (dropHead s) ((dropHead s).modStation n fun _ => x.definedAs) := keeps_modStation _ _ _
  have hkeeps := keeps_kick_parts (f := f) (p := u8 0 ++ ((dropHead s).modStation n fun _ => x.definedAs).stationBytes n) hframe
  have hkick := keeps_kick (putReply f (u8 0 ++ ((dropHead s).modStation n fun _ => x.definedAs).stationBytes n)
    ((dropHead s).modStation n fun _ => x.definedAs))
  have htk := hkick .tk (by decide)
  refine ⟨_, request_reads ht hr hact, ?_, ?_, fun m hm => ?_, ?_, hkeeps⟩
  · rw [stationBytes_of_same htk (hkick .units (by decide))]
    exact replies_of_kick rfl
  · exact (congrArg (fun k : Tk => slot Station.undefined k.stations n) htk).trans (slot_modSlot_self _ _ _ hn hlen)
  · exact (congrArg (fun k : Tk => slot Station.undefined k.stations m) htk).trans (slot_modSlot_other _ _ _ hm.symm)
  · rw [htk]
    rfl

end define

/-- Settles O48. -/
theorem stationsAndGroupsDefined : Obligations.StationsAndGroupsDefined := by
  have hrun {m : Mode} (h : m = .standby) : ¬ m = .run := by rw [h]; exact Mode.noConfusion
  refine fun s f hs => ⟨fun g ms ht hr => ?_, fun n x ht hr => ?_⟩
  · refine ⟨fun hbad => ?_, fun hright hmode => ?_, fun hright hmode => ?_⟩
    · exact request_refuses ht hr (defineGroup_of_not_right hbad) rfl
    · exact request_refuses ht hr ((defineGroup_of_right hright).trans (if_pos hmode)) rfl
    · have hact := (defineGroup_of_right (s := dropHead s) hright).trans (if_neg (hrun hmode))
      have htk := (keeps_kick (putReply f (u8 0 ++ []) ((dropHead s).modTk fun k => { k with groups := modSlot (fun _ => ms) k.groups g })))
        .tk (by decide)
      refine ⟨_, request_reads ht hr hact, replies_of_kick rfl, ?_, keeps_kick_parts (keeps_modTk _ _)⟩
      refine htk.trans ?_
      show ({ s.tk with groups := modSlot (fun _ => ms) s.tk.groups g } : Tk) = _
      rw [modSlot_const ms _ hright.1]
  · intro riding wired aims right clash
    obtain ⟨h0, hrest, hkeys⟩ := readStationDefine_spec hr
    refine ⟨fun hbad => ?_, fun hright hmode => ?_, fun hright hmode hclash => ?_, fun hright hmode hclash => ?_⟩
    · exact request_refuses ht hr (defineStation_of_not_right h0 hbad) rfl
    · exact request_refuses ht hr ((defineStation_of_right h0 hright).trans (if_pos hmode)) rfl
    · exact request_refuses ht hr ((defineStation_of_right h0 hright).trans
        ((if_neg (hrun hmode)).trans (if_pos ((clashes_iff (dropHead s) n x).2 hclash)))) rfl
    · have hact := (defineStation_of_right (s := dropHead s) h0 hright).trans
        ((if_neg (hrun hmode)).trans (if_neg fun h => hclash ((clashes_iff (dropHead s) n x).1 h)))
      obtain ⟨t, hexec, hreply, hrec, hothers, htk, hframe⟩ := stationDefine_takes hs hright.1 hright.2.1 ht hr hact
      have hperm : x.clamped.keys.Perm x.keys := sortBy_perm _ _
      refine ⟨t, hexec, hreply, fun hkind => hrec.trans (definedAs_of_none hkind), fun hkind => ?_, hothers, htk, hframe⟩
      rw [hrec, definedAs_of_some hkind]
      obtain ⟨h1, h2, h3, h4, h5, h6, h7⟩ := hrest
      exact ⟨rfl, h1, h2, h3, h4, h5, h6, h7, hperm, fun k hk => hkeys k (hperm.mem_iff.1 hk)⟩

end Sys2Proof.Machine

/-! The summing arbiter (R174): each destination's slots go to the first 4 of its routes that nothing suspends. -/

namespace Sys2Proof.Machine

-- One theorem at a time: all at once, their threads together outgrow the memory limit of the check.
set_option Elab.async false

/-! ## The arbiter on positions

The routes to one destination that nothing suspends stand at the positions `E` of the table, older ones first; `p` is the priority of
the source at a position, and `L` holds the positions that have a slot. -/

section arbiter
variable {E L₀ L L' : Finset ℕ} {p : ℕ → ℕ} {w x y : ℕ}

/-- The position that is granted next: the highest priority, and among equals the oldest. -/
structure Next (E : Finset ℕ) (p : ℕ → ℕ) (L : Finset ℕ) (w : ℕ) : Prop where
  mem : w ∈ E
  waits : w ∉ L
  best : ∀ y ∈ E, y ∉ L → p y < p w ∨ p y = p w ∧ w ≤ y

/-- The position that is preempted first: the lowest priority, and among equals the newest. -/
structure Last (p : ℕ → ℕ) (L : Finset ℕ) (v : ℕ) : Prop where
  mem : v ∈ L
  worst : ∀ x ∈ L, p v < p x ∨ p x = p v ∧ x ≤ v

/-- One step of the arbiter: a slot is granted, or it passes to a higher priority. -/
inductive Grants (E : Finset ℕ) (p : ℕ → ℕ) (L : Finset ℕ) : Finset ℕ → Prop
  | free (w : ℕ) (hw : Next E p L w) (hroom : L.card < 4) : Grants E p L (insert w L)
  | preempt (w v : ℕ) (hw : Next E p L w) (hv : Last p L v) (hfull : 4 ≤ L.card) (hlt : p v < p w) :
      Grants E p L (insert w (L.erase v))

/-- No step of the arbiter applies. -/
def Granted (E : Finset ℕ) (p : ℕ → ℕ) (L : Finset ℕ) : Prop :=
  ∀ y ∈ E, y ∉ L → 4 ≤ L.card ∧ ∀ x ∈ L, p y ≤ p x

/-- One position comes before another: by priority, at one priority those that had a slot at first, and else the older. -/
def Before (L₀ : Finset ℕ) (p : ℕ → ℕ) (x y : ℕ) : Prop :=
  p y < p x ∨ p x = p y ∧ ((x ∈ L₀ ∧ y ∉ L₀) ∨ ((x ∈ L₀ ↔ y ∈ L₀) ∧ x < y))

/-- What every step of the arbiter keeps, from the slots `L₀` at first. -/
structure Fair (E : Finset ℕ) (p : ℕ → ℕ) (L₀ L : Finset ℕ) : Prop where
  sub : L ⊆ E
  room : L.card ≤ 4
  equals : ∀ x ∈ L, ∀ y ∈ E, y ∉ L → p x = p y → Before L₀ p x y
  preempted : ∀ y ∈ L₀, y ∉ L → L.card = 4 ∧ ∀ x ∈ L, p y ≤ p x
  granted : ∀ x ∈ L, x ∉ L₀ → ∀ y ∈ E, y ∉ L → p y ≤ p x

theorem Fair.refl (hsub : L₀ ⊆ E) (hroom : L₀.card ≤ 4) : Fair E p L₀ L₀ where
  sub := hsub
  room := hroom
  equals := fun _ hx _ _ hy hp => .inr ⟨hp, .inl ⟨hx, hy⟩⟩
  preempted := fun _ h h' => absurd h h'
  granted := fun _ h h' => absurd h h'

theorem Fair.free (h : Fair E p L₀ L) (hw : Next E p L w) (hroom : L.card < 4) : Fair E p L₀ (insert w L) := by
  have hkept : ∀ y ∈ L₀, y ∈ L := fun y hy => by
    by_contra hne
    have := (h.preempted y hy hne).1
    omega
  have hout {y : ℕ} (hy : y ∉ insert w L) : y ∉ L := fun hm => hy (Finset.mem_insert_of_mem hm)
  refine ⟨Finset.insert_subset hw.mem h.sub, (Finset.card_insert_le _ _).trans hroom, fun x hx y hy hyL hp => ?_,
    fun y hy hyL => absurd (hkept y hy) (hout hyL), fun x hx hx₀ y hy hyL => ?_⟩
  · obtain rfl | hxL := Finset.mem_insert.1 hx
    · have hle : x ≤ y := by have := hw.best y hy (hout hyL); omega
      have hlt : x < y := lt_of_le_of_ne hle fun he => hyL (he ▸ Finset.mem_insert_self _ _)
      exact .inr ⟨hp, .inr ⟨iff_of_false (fun hm => hw.waits (hkept _ hm)) fun hm => hout hyL (hkept _ hm), hlt⟩⟩
    · exact h.equals x hxL y hy (hout hyL) hp
  · obtain rfl | hxL := Finset.mem_insert.1 hx
    · have := hw.best y hy (hout hyL)
      omega
    · exact h.granted x hxL hx₀ y hy (hout hyL)

theorem Fair.preempt {v : ℕ} (h : Fair E p L₀ L) (hw : Next E p L w) (hv : Last p L v) (hfull : 4 ≤ L.card) (hlt : p v < p w) :
    Fair E p L₀ (insert w (L.erase v)) := by
  have hcard : L.card = 4 := le_antisymm h.room hfull
  have hcard' : (insert w (L.erase v)).card = 4 := by
    rw [Finset.card_insert_of_notMem fun hm => hw.waits (Finset.mem_of_mem_erase hm), Finset.card_erase_of_mem hv.mem, hcard]
  have hlow : ∀ x ∈ L, p v ≤ p x := fun x hx => by have := hv.worst x hx; omega
  have hout {y : ℕ} (hy : y ∉ insert w (L.erase v)) : y = v ∨ y ∉ L ∧ y ≠ w := by
    rw [Finset.mem_insert, Finset.mem_erase] at hy
    by_cases hyv : y = v
    · exact .inl hyv
    · exact .inr ⟨fun hm => hy (.inr ⟨hyv, hm⟩), fun he => hy (.inl he)⟩
  have hin {x : ℕ} (hx : x ∈ insert w (L.erase v)) : x = w ∨ x ∈ L ∧ x ≠ v := by
    rw [Finset.mem_insert, Finset.mem_erase] at hx
    exact hx.imp_right And.symm
  refine ⟨Finset.insert_subset hw.mem ((Finset.erase_subset _ _).trans h.sub), hcard'.le, fun x hx y hy hyL hp => ?_,
    fun y hy hyL => ⟨hcard', fun x hx => ?_⟩, fun x hx hx₀ y hy hyL => ?_⟩
  · obtain rfl | ⟨hxL, hxv⟩ := hin hx
    · obtain rfl | ⟨hyL, hyw⟩ := hout hyL
      · omega
      · have hle : x < y := lt_of_le_of_ne (by have := hw.best y hy hyL; omega) (Ne.symm hyw)
        refine .inr ⟨hp, .inr ⟨iff_of_false (fun hm => ?_) fun hm => ?_, hle⟩⟩
        · have := (h.preempted x hm hw.waits).2 v hv.mem
          omega
        · have := (h.preempted y hm hyL).2 v hv.mem
          omega
    · obtain rfl | ⟨hyL, -⟩ := hout hyL
      · have hlt' : x < y := lt_of_le_of_ne (by have := hv.worst x hxL; omega) hxv
        by_cases hx₀ : x ∈ L₀
        · by_cases hy₀ : y ∈ L₀
          · exact .inr ⟨hp, .inr ⟨iff_of_true hx₀ hy₀, hlt'⟩⟩
          · exact .inr ⟨hp, .inl ⟨hx₀, hy₀⟩⟩
        · have := h.granted x hxL hx₀ w hw.mem hw.waits
          omega
      · exact h.equals x hxL y hy hyL hp
  · have hyv : p y ≤ p v := by
      obtain rfl | ⟨hyL, -⟩ := hout hyL
      · exact le_rfl
      · exact (h.preempted y hy hyL).2 v hv.mem
    obtain rfl | ⟨hxL, -⟩ := hin hx
    · omega
    · exact hyv.trans (hlow x hxL)
  · obtain rfl | ⟨hxL, -⟩ := hin hx
    · obtain rfl | ⟨hyL, -⟩ := hout hyL
      · exact hlt.le
      · have := hw.best y hy hyL
        omega
    · obtain rfl | ⟨hyL, -⟩ := hout hyL
      · exact hlow x hxL
      · exact h.granted x hxL hx₀ y hy hyL

/-- Every step keeps the invariant. -/
theorem Fair.step (h : Fair E p L₀ L) (hg : Grants E p L L') : Fair E p L₀ L' := by
  cases hg with
  | free w hw hroom => exact h.free hw hroom
  | preempt w v hw hv hfull hlt => exact h.preempt hw hv hfull hlt

theorem Before.asymm (h : Before L₀ p x y) (h' : Before L₀ p y x) : False := by
  unfold Before at h h'
  by_cases hx : x ∈ L₀ <;> by_cases hy : y ∈ L₀ <;> simp only [hx, hy, not_true, not_false_iff, and_self, and_false, false_and,
    true_and, iff_self, false_iff, true_iff, false_or, or_false] at h h' <;> omega

/-- The slots at the end: the first 4 of the routes that nothing suspends. -/
theorem Fair.first [DecidableRel (Before L₀ p)] (h : Fair E p L₀ L) (hend : Granted E p L) (hx : x ∈ E) :
    x ∈ L ↔ (E.filter fun y => Before L₀ p y x).card < 4 := by
  have hbefore : ∀ x ∈ L, ∀ y ∈ E, y ∉ L → Before L₀ p x y := fun x hx y hy hyL => by
    obtain hlt | heq := (hend y hy hyL |>.2 x hx).lt_or_eq
    · exact .inl hlt
    · exact h.equals x hx y hy hyL heq.symm
  constructor
  · intro hxL
    have hsub : (E.filter fun y => Before L₀ p y x) ⊆ L.erase x := fun y hy => by
      obtain ⟨hyE, hyx⟩ := Finset.mem_filter.1 hy
      refine Finset.mem_erase.2 ⟨fun he => ?_, ?_⟩
      · subst he
        exact hyx.asymm hyx
      · by_contra hyL
        exact hyx.asymm (hbefore x hxL y hyE hyL)
    have hcard := Finset.card_le_card hsub
    have hpos : 0 < L.card := Finset.card_pos.2 ⟨x, hxL⟩
    rw [Finset.card_erase_of_mem hxL] at hcard
    have := h.room
    omega
  · intro hlt
    by_contra hxL
    have hsub : L ⊆ E.filter fun y => Before L₀ p y x := fun y hy => Finset.mem_filter.2 ⟨h.sub hy, hbefore y hy x hx hxL⟩
    have := Finset.card_le_card hsub
    have := (hend x hx hxL).1
    omega

/-- What every step raises: the slots taken and the priorities of those that have them. -/
def weight (p : ℕ → ℕ) (L : Finset ℕ) : ℕ := ∑ x ∈ L, (p x + 1)

theorem Grants.weight_lt (h : Grants E p L L') : weight p L < weight p L' := by
  unfold weight
  cases h with
  | free w hw _ =>
    rw [Finset.sum_insert hw.waits]
    omega
  | preempt w v hw hv _ hlt =>
    rw [Finset.sum_insert fun hm => hw.waits (Finset.mem_of_mem_erase hm), ← Finset.add_sum_erase L (fun x => p x + 1) hv.mem]
    omega

theorem Fair.weight_le (h : Fair E p L₀ L) (hp : ∀ x ∈ E, p x ≤ 7) : weight p L ≤ 32 := by
  have hsum : weight p L ≤ L.card * 8 :=
    Finset.sum_le_card_nsmul L _ 8 fun x hx => Nat.succ_le_succ (hp x (h.sub hx))
  have := h.room
  omega

end arbiter

end Sys2Proof.Machine

/-! The route table settled: the arbiter's steps on the routes of one destination, and what they leave (R173 to R175). -/

namespace Sys2Proof.Machine

-- One theorem at a time: all at once, their threads together outgrow the memory limit of the check.
set_option Elab.async false

/-! ## Positions in the table -/

/-- The positions of the routes with a property. -/
def positions (P : Route → Bool) (rs : List Route) : Finset ℕ := (Finset.range rs.length).filter fun i => rs[i]?.any P

theorem mem_positions {P : Route → Bool} {rs : List Route} {i : ℕ} : i ∈ positions P rs ↔ ∃ r, rs[i]? = some r ∧ P r = true := by
  rw [positions, Finset.mem_filter, Finset.mem_range, Option.any_eq_true]
  exact and_iff_right_of_imp fun ⟨r, hr, _⟩ => (List.getElem?_eq_some_iff.1 hr).1

/-- The routes with a property of the route and its position, counted. -/
theorem countP_zipIdx (Q : Route → ℕ → Bool) (rs : List Route) :
    (rs.zipIdx.countP fun x => Q x.1 x.2) = ((Finset.range rs.length).filter fun i => rs[i]?.any fun r => Q r i).card := by
  induction rs using List.reverseRecOn with
  | nil => rfl
  | append_singleton rs r ih =>
    have hold : ((Finset.range rs.length).filter fun i => (rs ++ [r])[i]?.any fun r => Q r i) =
        (Finset.range rs.length).filter fun i => rs[i]?.any fun r => Q r i :=
      Finset.filter_congr fun i hi => by rw [List.getElem?_append_left (Finset.mem_range.1 hi)]
    have hnew : (rs ++ [r])[rs.length]? = some r := List.getElem?_concat_length
    rw [List.length_append, List.length_singleton, Finset.range_add_one, Finset.filter_insert, hold, hnew, List.zipIdx_append,
      List.countP_append, ih, List.zipIdx_singleton, List.countP_singleton, Nat.zero_add]
    by_cases hQ : Q r rs.length = true
    · rw [if_pos (show Option.any (fun r => Q r rs.length) (some r) = true from hQ), if_pos hQ, Finset.card_insert_of_notMem]
      exact fun hm => absurd (Finset.mem_range.1 (Finset.mem_filter.1 hm).1) (lt_irrefl _)
    · rw [if_neg (show ¬ Option.any (fun r => Q r rs.length) (some r) = true from hQ), if_neg hQ]
      rfl

theorem card_positions (P : Route → Bool) (rs : List Route) : (positions P rs).card = rs.countP P := by
  rw [positions, ← countP_zipIdx fun r _ => P r]
  have h := List.countP_map (p := P) (f := Prod.fst) (l := rs.zipIdx)
  rw [List.zipIdx_map_fst] at h
  exact h.symm

/-- A LIVE route to a destination. -/
def Route.liveAt (d : Nat) (r : Route) : Bool := decide (r.destination = d) && r.live

/-- A route to a destination without a reason to be suspended. -/
def Route.openAt (d : Nat) (r : Route) : Bool := decide (r.destination = d) && (!r.onAir && !r.linkDown)

def livePos (d : Nat) (rs : List Route) : Finset ℕ := positions (Route.liveAt d) rs
def openPos (d : Nat) (rs : List Route) : Finset ℕ := positions (Route.openAt d) rs

/-- The priority of the source of the route at a position. -/
def priorityAt (pr : Nat → Nat) (rs : List Route) (i : ℕ) : ℕ := pr ((rs[i]?.map Route.source).getD 0)

theorem mem_livePos {d : Nat} {rs : List Route} {i : ℕ} :
    i ∈ livePos d rs ↔ ∃ r, rs[i]? = some r ∧ r.destination = d ∧ r.live = true := by
  refine mem_positions.trans (exists_congr fun r => and_congr_right fun _ => ?_)
  rw [Route.liveAt, Bool.and_eq_true, decide_eq_true_eq]

theorem mem_openPos {d : Nat} {rs : List Route} {i : ℕ} :
    i ∈ openPos d rs ↔ ∃ r, rs[i]? = some r ∧ r.destination = d ∧ r.onAir = false ∧ r.linkDown = false := by
  refine mem_positions.trans (exists_congr fun r => and_congr_right fun _ => ?_)
  rw [Route.openAt, Bool.and_eq_true, Bool.and_eq_true, decide_eq_true_eq, Bool.not_eq_true', Bool.not_eq_true']

theorem card_livePos (d : Nat) (rs : List Route) : (livePos d rs).card = (liveTo d rs).length := by
  rw [livePos, card_positions, liveTo_length]
  rfl

theorem priorityAt_of {pr : Nat → Nat} {rs : List Route} {i : ℕ} {r : Route} (h : rs[i]? = some r) :
    priorityAt pr rs i = pr r.source := by
  rw [priorityAt, h]
  rfl

theorem held_at {rs rs' : List Route} (h : rs'.map Route.held = rs.map Route.held) (i : ℕ) :
    rs'[i]?.map Route.held = rs[i]?.map Route.held := by
  rw [← List.getElem?_map, ← List.getElem?_map, h]

theorem priorityAt_of_held {rs rs' : List Route} (h : rs'.map Route.held = rs.map Route.held) (pr : Nat → Nat) :
    priorityAt pr rs' = priorityAt pr rs := by
  have hsource (xs : List Route) (i : ℕ) : xs[i]?.map Route.source = (xs[i]?.map Route.held).map Prod.fst := by
    rw [Option.map_map]
    rfl
  funext i
  rw [priorityAt, priorityAt, hsource, hsource, held_at h]

/-- The pairs of the table stand in its held fields. -/
theorem pairs_of_held {rs rs' : List Route} (h : rs'.map Route.held = rs.map Route.held) :
    (rs'.map fun r => (r.source, r.destination)) = rs.map fun r => (r.source, r.destination) := by
  have hpairs (xs : List Route) : (xs.map fun r => (r.source, r.destination)) = (xs.map Route.held).map fun x => (x.1, x.2.1) := by
    rw [List.map_map]
    rfl
  rw [hpairs, hpairs, h]

/-- In a table without a pair twice, a pair has one position. -/
theorem position_unique {rs : List Route} (hnodup : (rs.map fun r => (r.source, r.destination)).Nodup) {i j : ℕ} {r v : Route}
    (hi : rs[i]? = some r) (hj : rs[j]? = some v) (hs : r.source = v.source) (hd : r.destination = v.destination) : i = j := by
  have hlt : i < (rs.map fun r => (r.source, r.destination)).length := by
    rw [List.length_map]
    exact (List.getElem?_eq_some_iff.1 hi).1
  refine (List.getElem?_inj hlt hnodup).1 ?_
  rw [List.getElem?_map, List.getElem?_map, hi, hj, Option.map_some, Option.map_some, hs, hd]

/-! ## The best and the last route of a list (R174) -/

/-- A choice that goes through a list and changes its mind where `c` says takes the first or the last of the best, by position. -/
theorem chosen_position {ch : List Route → Option Route} {c : Route → Route → Prop} [DecidableRel c] (hnil : ch [] = none)
    (hcat : ∀ xs x, ch (xs ++ [x]) = some (match ch xs with | none => x | some m => if c m x then x else m))
    (htrans : ∀ x y z, c x y → c y z → c x z) (hneg : ∀ x y z, ¬ c y x → c y z → c x z) (P : Route → Bool) (rs : List Route) :
    (ch (rs.filter P) = none → ∀ r ∈ rs, P r ≠ true) ∧
      ∀ w, ch (rs.filter P) = some w → ∃ i : ℕ, rs[i]? = some w ∧ P w = true ∧
        ∀ (j : ℕ) (r : Route), rs[j]? = some r → P r = true → (j < i → c r w) ∧ (i < j → ¬ c w r) := by
  induction rs using List.reverseRecOn with
  | nil => exact ⟨fun _ r hr => absurd hr List.not_mem_nil, fun w hw => absurd (hnil.symm.trans hw) (by simp)⟩
  | append_singleton rs x ih =>
    obtain ⟨ihnone, ihsome⟩ := ih
    have hsplit {j : ℕ} {r : Route} (h : (rs ++ [x])[j]? = some r) : rs[j]? = some r ∧ j < rs.length ∨ j = rs.length ∧ r = x := by
      obtain hj | hj := lt_or_ge j rs.length
      · exact .inl ⟨by rwa [List.getElem?_append_left hj] at h, hj⟩
      · have hlen := (List.getElem?_eq_some_iff.1 h).1
        rw [List.length_append, List.length_singleton] at hlen
        have hje : j = rs.length := by omega
        subst hje
        exact .inr ⟨rfl, Option.some.inj (h.symm.trans List.getElem?_concat_length)⟩
    by_cases hx : P x = true
    · have hfilter : (rs ++ [x]).filter P = rs.filter P ++ [x] := by rw [List.filter_append, List.filter_singleton, hx]; rfl
      rw [hfilter, hcat]
      refine ⟨fun h => absurd h (by simp), fun w hw => ?_⟩
      cases hch : ch (rs.filter P) with
      | none =>
        rw [hch] at hw
        obtain rfl := Option.some.inj hw
        refine ⟨rs.length, List.getElem?_concat_length, hx, fun j r hr hPr => ?_⟩
        obtain ⟨hr, -⟩ | ⟨rfl, rfl⟩ := hsplit hr
        · exact absurd hPr (ihnone hch r (List.mem_of_getElem? hr))
        · exact ⟨fun h => absurd h (lt_irrefl _), fun h => absurd h (lt_irrefl _)⟩
      | some m =>
        rw [hch] at hw
        obtain ⟨i, hi, hPm, hbest⟩ := ihsome m hch
        have hilt := (List.getElem?_eq_some_iff.1 hi).1
        dsimp only at hw
        split_ifs at hw with hc
        · obtain rfl := Option.some.inj hw
          refine ⟨rs.length, List.getElem?_concat_length, hx, fun j r hr hPr => ?_⟩
          obtain ⟨hr, hj⟩ | ⟨rfl, rfl⟩ := hsplit hr
          · obtain ⟨hbefore, hafter⟩ := hbest j r hr hPr
            refine ⟨fun _ => ?_, fun h => absurd hj (by omega)⟩
            obtain hji | rfl | hij := lt_trichotomy j i
            · exact htrans _ _ _ (hbefore hji) hc
            · rwa [Option.some.inj (hr.symm.trans hi)]
            · exact hneg _ _ _ (hafter hij) hc
          · exact ⟨fun h => absurd h (lt_irrefl _), fun h => absurd h (lt_irrefl _)⟩
        · obtain rfl := Option.some.inj hw
          refine ⟨i, by rwa [List.getElem?_append_left hilt], hPm, fun j r hr hPr => ?_⟩
          obtain ⟨hr, hj⟩ | ⟨rfl, rfl⟩ := hsplit hr
          · exact hbest j r hr hPr
          · exact ⟨fun h => absurd hilt (by omega), fun _ => hc⟩
    · have hfilter : (rs ++ [x]).filter P = rs.filter P := by
        rw [List.filter_append, List.filter_singleton, Bool.eq_false_iff.2 hx]
        exact List.append_nil _
      rw [hfilter]
      refine ⟨fun h r hr => ?_, fun w hw => ?_⟩
      · obtain hr | hr := List.mem_append.1 hr
        · exact ihnone h r hr
        · rwa [List.mem_singleton.1 hr]
      · obtain ⟨i, hi, hPw, hbest⟩ := ihsome w hw
        have hilt := (List.getElem?_eq_some_iff.1 hi).1
        refine ⟨i, by rwa [List.getElem?_append_left hilt], hPw, fun j r hr hPr => ?_⟩
        obtain ⟨hr, -⟩ | ⟨rfl, rfl⟩ := hsplit hr
        · exact hbest j r hr hPr
        · exact absurd hPr hx

theorem bestRoute_concat (pr : Nat → Nat) (xs : List Route) (x : Route) : bestRoute pr (xs ++ [x]) =
    some (match bestRoute pr xs with | none => x | some m => if pr m.source < pr x.source then x else m) := by
  cases xs with
  | nil => rfl
  | cons y ys =>
    rw [List.cons_append, bestRoute, List.foldl_append]
    rfl

theorem victimRoute_concat (pr : Nat → Nat) (xs : List Route) (x : Route) : victimRoute pr (xs ++ [x]) =
    some (match victimRoute pr xs with | none => x | some m => if pr x.source ≤ pr m.source then x else m) := by
  cases xs with
  | nil => rfl
  | cons y ys =>
    rw [List.cons_append, victimRoute, List.foldl_append]
    rfl

/-- The best route of a list is the oldest of the highest priority. -/
theorem bestRoute_position (pr : Nat → Nat) (P : Route → Bool) (rs : List Route) :
    (bestRoute pr (rs.filter P) = none → ∀ r ∈ rs, P r ≠ true) ∧
      ∀ w, bestRoute pr (rs.filter P) = some w → ∃ i : ℕ, rs[i]? = some w ∧ P w = true ∧
        ∀ (j : ℕ) (r : Route), rs[j]? = some r → P r = true → pr r.source < pr w.source ∨ pr r.source = pr w.source ∧ i ≤ j := by
  obtain ⟨hnone, hsome⟩ := chosen_position (ch := bestRoute pr) (c := fun m x => pr m.source < pr x.source) rfl (bestRoute_concat pr)
    (fun _ _ _ h k => lt_trans h k) (fun _ _ _ h k => lt_of_le_of_lt (not_lt.1 h) k) P rs
  refine ⟨hnone, fun w hw => ?_⟩
  obtain ⟨i, hi, hPw, hbest⟩ := hsome w hw
  refine ⟨i, hi, hPw, fun j r hr hPr => ?_⟩
  obtain ⟨hbefore, hafter⟩ := hbest j r hr hPr
  obtain hji | rfl | hij := lt_trichotomy j i
  · exact .inl (hbefore hji)
  · exact .inr ⟨by rw [Option.some.inj (hr.symm.trans hi)], le_rfl⟩
  · have := hafter hij
    omega

/-- The victim of a list is the newest of the lowest priority. -/
theorem victimRoute_position (pr : Nat → Nat) (P : Route → Bool) (rs : List Route) :
    (victimRoute pr (rs.filter P) = none → ∀ r ∈ rs, P r ≠ true) ∧
      ∀ v, victimRoute pr (rs.filter P) = some v → ∃ i : ℕ, rs[i]? = some v ∧ P v = true ∧
        ∀ (j : ℕ) (r : Route), rs[j]? = some r → P r = true → pr v.source < pr r.source ∨ pr r.source = pr v.source ∧ j ≤ i := by
  obtain ⟨hnone, hsome⟩ := chosen_position (ch := victimRoute pr) (c := fun m x => pr x.source ≤ pr m.source) rfl
    (victimRoute_concat pr) (fun _ _ _ h k => le_trans k h) (fun _ _ _ h k => k.trans (not_le.1 h).le) P rs
  refine ⟨hnone, fun w hw => ?_⟩
  obtain ⟨i, hi, hPw, hbest⟩ := hsome w hw
  refine ⟨i, hi, hPw, fun j r hr hPr => ?_⟩
  obtain ⟨hbefore, hafter⟩ := hbest j r hr hPr
  obtain hji | rfl | hij := lt_trichotomy j i
  · have := hbefore hji
    omega
  · exact .inr ⟨by rw [Option.some.inj (hr.symm.trans hi)], le_rfl⟩
  · have := hafter hij
    omega

end Sys2Proof.Machine

/-! The Talk Router at rest: what settling every destination leaves (R173 to R175). -/

namespace Sys2Proof.Machine

-- One theorem at a time: all at once, their threads together outgrow the memory limit of the check.
set_option Elab.async false

/-! ## Reasons (R173) -/

section reasons
variable {s : State} {r : Route}

theorem suspend_of_mayRun (h : s.mayRun r) : s.suspend r = { r with onAir := false, linkDown := false, noSlot := !r.live } := by
  obtain ⟨h1, h2, h3⟩ := h
  simp only [State.suspend, h1, h2, h3, Bool.or_false, Bool.false_eq_true, if_false]

theorem suspend_of_not_mayRun (h : ¬ s.mayRun r) : s.suspend r =
    { r with live := false, onAir := s.zoneCuts r.destination, linkDown := s.linkDown r.source || s.linkDown r.destination,
             noSlot := false, make := none, makeOrder := none } := by
  refine if_pos ?_
  rw [Bool.or_eq_true, Bool.or_eq_true]
  by_contra hne
  push Not at hne
  exact h ⟨Bool.eq_false_iff.2 hne.1, Bool.eq_false_iff.2 hne.2.1, Bool.eq_false_iff.2 hne.2.2⟩

theorem suspend_suspend : s.suspend (s.suspend r) = s.suspend r := by
  by_cases h : s.mayRun r
  · rw [suspend_of_mayRun h]
    exact suspend_of_mayRun (r := { r with onAir := false, linkDown := false, noSlot := !r.live }) h
  · rw [suspend_of_not_mayRun h]
    exact suspend_of_not_mayRun (s := s) (r := { r with
      live := false, onAir := s.zoneCuts r.destination, linkDown := s.linkDown r.source || s.linkDown r.destination,
      noSlot := false, make := none, makeOrder := none }) h

/-- Whether a route may run depends on its pair alone. -/
theorem mayRun_congr {r' : Route} (hs : r'.source = r.source) (hd : r'.destination = r.destination) : s.mayRun r' ↔ s.mayRun r := by
  unfold State.mayRun
  rw [hs, hd]

/-- A route has the reasons that now stand. -/
def State.Reasoned (s : State) (r : Route) : Prop := s.suspend r = r

theorem State.Reasoned.mayRun_iff (h : s.Reasoned r) : s.mayRun r ↔ r.onAir = false ∧ r.linkDown = false := by
  constructor
  · intro hr
    rw [← show s.suspend r = r from h, suspend_of_mayRun hr]
    exact ⟨rfl, rfl⟩
  · intro ⟨h1, h2⟩
    by_contra hne
    rw [← show s.suspend r = r from h, suspend_of_not_mayRun hne] at h1 h2
    exact hne ⟨h1, (Bool.or_eq_false_iff.1 h2).1, (Bool.or_eq_false_iff.1 h2).2⟩

theorem State.Reasoned.mayRun_of_live (h : s.Reasoned r) (hl : r.live = true) : s.mayRun r := by
  by_contra hne
  rw [← show s.suspend r = r from h, suspend_of_not_mayRun hne] at hl
  cases hl

theorem State.Reasoned.noSlot (h : s.Reasoned r) (hr : s.mayRun r) : r.noSlot = !r.live := by
  have hsus : s.suspend r = r := h
  rw [suspend_of_mayRun hr] at hsus
  exact (congrArg Route.noSlot hsus :).symm

theorem State.Reasoned.goLive (h : s.Reasoned r) (h1 : r.onAir = false) (h2 : r.linkDown = false) : s.Reasoned r.goLive :=
  suspend_of_mayRun (r := r.goLive) ((h.mayRun_iff).2 ⟨h1, h2⟩)

theorem State.Reasoned.preempted (h : s.Reasoned r) (hl : r.live = true) : s.Reasoned r.preempted :=
  suspend_of_mayRun (r := r.preempted) (h.mayRun_of_live hl)

end reasons

/-! ## A step of settling as a step of the arbiter (R174) -/

section step
variable {s : State} {pr : Nat → Nat} {d : Nat} {rs rs' : List Route}

/-- A table without a pair twice, whose routes have the reasons that stand. -/
structure State.Ready (s : State) (rs : List Route) : Prop where
  nodup : (rs.map fun r => (r.source, r.destination)).Nodup
  reasoned : ∀ r ∈ rs, s.Reasoned r

theorem State.Ready.live_open (h : s.Ready rs) (d : Nat) : livePos d rs ⊆ openPos d rs := fun i hi => by
  obtain ⟨r, hr, hd, hl⟩ := mem_livePos.1 hi
  have hreasoned := h.reasoned r (List.mem_of_getElem? hr)
  exact mem_openPos.2 ⟨r, hr, hd, hreasoned.mayRun_iff.1 (hreasoned.mayRun_of_live hl)⟩

theorem eligibleTo_eq (d : Nat) (rs : List Route) :
    eligibleTo d rs = rs.filter fun r => decide (r.destination = d) && r.eligible := rfl

/-- The route granted next stands at the position that the arbiter grants next. -/
theorem next_of_bestRoute {w : Route} (h : bestRoute pr (eligibleTo d rs) = some w) :
    ∃ i, rs[i]? = some w ∧ w.destination = d ∧ w.live = false ∧ w.onAir = false ∧ w.linkDown = false ∧
      Next (openPos d rs) (priorityAt pr rs) (livePos d rs) i := by
  obtain ⟨i, hi, hw, hbest⟩ := (bestRoute_position pr _ rs).2 w h
  have hfields {r : Route} : (decide (r.destination = d) && r.eligible) = true ↔
      r.destination = d ∧ r.live = false ∧ r.onAir = false ∧ r.linkDown = false := by
    simp [Route.eligible, and_assoc]
  obtain ⟨hwd, hwl, hwa, hwk⟩ := hfields.1 hw
  refine ⟨i, hi, hwd, hwl, hwa, hwk, mem_openPos.2 ⟨w, hi, hwd, hwa, hwk⟩, fun hm => ?_, fun j hj hjl => ?_⟩
  · obtain ⟨r, hr, -, hrl⟩ := mem_livePos.1 hm
    rw [Option.some.inj (hi.symm.trans hr), hrl] at hwl
    cases hwl
  · obtain ⟨r, hr, hrd, hra, hrk⟩ := mem_openPos.1 hj
    have hrl : r.live = false := by
      by_contra hne
      exact hjl (mem_livePos.2 ⟨r, hr, hrd, by simpa using hne⟩)
    rw [priorityAt_of hr, priorityAt_of hi]
    exact hbest j r hr (hfields.2 ⟨hrd, hrl, hra, hrk⟩)

theorem last_of_victimRoute {v : Route} (h : victimRoute pr (liveTo d rs) = some v) :
    ∃ i, rs[i]? = some v ∧ v.destination = d ∧ v.live = true ∧ Last (priorityAt pr rs) (livePos d rs) i := by
  obtain ⟨i, hi, hv, hworst⟩ := (victimRoute_position pr _ rs).2 v h
  have hfields {r : Route} : (decide (r.destination = d) && r.live) = true ↔ r.destination = d ∧ r.live = true := by simp
  obtain ⟨hvd, hvl⟩ := hfields.1 hv
  refine ⟨i, hi, hvd, hvl, mem_livePos.2 ⟨v, hi, hvd, hvl⟩, fun j hj => ?_⟩
  obtain ⟨r, hr, hrd, hrl⟩ := mem_livePos.1 hj
  rw [priorityAt_of hr, priorityAt_of hi]
  exact hworst j r hr (hfields.2 ⟨hrd, hrl⟩)

/-- What a step makes of the route at a position: that of the one granted, of the one preempted, or of another. -/
theorem settled_cases (hnodup : (rs.map fun r => (r.source, r.destination)).Nodup) {w : Route} {iw : ℕ} (hw : rs[iw]? = some w)
    (hwd : w.destination = d) (o : Option Nat) {j : ℕ} {r : Route} (hr : rs[j]? = some r) :
    (j = iw ∧ r = w ∧ r.settled w.source o d = r.goLive) ∨
      (j ≠ iw ∧ r.destination = d ∧ o = some r.source ∧ r.settled w.source o d = r.preempted) ∨
      (j ≠ iw ∧ ¬ (r.destination = d ∧ o = some r.source) ∧ r.settled w.source o d = r) := by
  by_cases hjw : r.joins w.source d = true
  · obtain ⟨hsrc, hdst⟩ := (Bool.and_eq_true _ _).mp hjw |>.imp of_decide_eq_true of_decide_eq_true
    have hij : j = iw := position_unique hnodup hr hw hsrc (hdst.trans hwd.symm)
    refine .inl ⟨hij, Option.some.inj (hr.symm.trans (hij ▸ hw)), if_pos hjw⟩
  · have hij : j ≠ iw := fun he => hjw (by
      rw [Option.some.inj (hr.symm.trans (he ▸ hw)), ← hwd]
      exact w.joins_self)
    by_cases hv : (o.any fun v => r.joins v d) = true
    · obtain ⟨v, rfl, hv'⟩ := (Option.any_eq_true _ _).1 hv
      obtain ⟨hsrc, hdst⟩ := (Bool.and_eq_true _ _).mp hv' |>.imp of_decide_eq_true of_decide_eq_true
      exact .inr (.inl ⟨hij, hdst, by rw [hsrc], (if_neg hjw).trans (if_pos hv)⟩)
    · refine .inr (.inr ⟨hij, fun ⟨hd, ho⟩ => hv ?_, (if_neg hjw).trans (if_neg hv)⟩)
      rw [ho, ← hd]
      exact r.joins_self

theorem getElem?_map_eq {α β : Type} {f : α → β} {xs : List α} {i : ℕ} {b : β} :
    (xs.map f)[i]? = some b ↔ ∃ a, xs[i]? = some a ∧ f a = b := by
  rw [List.getElem?_map, Option.map_eq_some_iff]

/-- The routes that a step of settling changes: the one granted, at its position, and the LIVE one preempted, where one is. -/
structure Settles (s : State) (d : Nat) (rs : List Route) (w : Route) (i : ℕ) (o : Option Nat) : Prop where
  ready : s.Ready rs
  at_ : rs[i]? = some w
  destination : w.destination = d
  onAir : w.onAir = false
  linkDown : w.linkDown = false
  victim : ∀ (j : ℕ) (r : Route), rs[j]? = some r → r.destination = d → o = some r.source → r.live = true

namespace Settles
variable {w : Route} {i : ℕ} {o : Option Nat} (h : Settles s d rs w i o)
include h

theorem reasoned : ∀ r ∈ rs.map (Route.settled w.source o d), s.Reasoned r := fun r' hr' => by
  obtain ⟨j, hj⟩ := List.getElem?_of_mem hr'
  obtain ⟨r, hr, rfl⟩ := getElem?_map_eq.1 hj
  have hok := h.ready.reasoned r (List.mem_of_getElem? hr)
  obtain ⟨-, hrw, heq⟩ | ⟨-, hrd, ho, heq⟩ | ⟨-, -, heq⟩ := settled_cases h.ready.nodup h.at_ h.destination o hr
  · rw [heq]
    exact hok.goLive (hrw ▸ h.onAir) (hrw ▸ h.linkDown)
  · rw [heq]
    exact hok.preempted (h.victim j r hr hrd ho)
  · rw [heq]
    exact hok

theorem isReady : s.Ready (rs.map (Route.settled w.source o d)) :=
  ⟨by simpa [Function.comp_def] using h.ready.nodup, h.reasoned⟩

theorem openPos_eq (e : Nat) : openPos e (rs.map (Route.settled w.source o d)) = openPos e rs := by
  have hsame {j : ℕ} {r : Route} (hr : rs[j]? = some r) : ((r.settled w.source o d).onAir = false ∧ (r.settled w.source o d).linkDown = false) ↔
      r.onAir = false ∧ r.linkDown = false := by
    rw [← (h.ready.reasoned r (List.mem_of_getElem? hr)).mayRun_iff,
      ← (h.reasoned _ (List.mem_of_getElem? (getElem?_map_eq.2 ⟨r, hr, rfl⟩))).mayRun_iff]
    exact mayRun_congr (Route.settled_source ..) (Route.settled_destination ..)
  ext j
  simp only [mem_openPos, getElem?_map_eq]
  constructor
  · rintro ⟨_, ⟨r, hr, rfl⟩, hd, hok⟩
    exact ⟨r, hr, (Route.settled_destination ..).symm.trans hd, (hsame hr).1 hok⟩
  · rintro ⟨r, hr, hd, hok⟩
    exact ⟨_, ⟨r, hr, rfl⟩, (Route.settled_destination ..).trans hd, (hsame hr).2 hok⟩

/-- The positions that are LIVE after the step. -/
theorem mem_livePos_iff {e : Nat} {j : ℕ} : j ∈ livePos e (rs.map (Route.settled w.source o d)) ↔
    ∃ r, rs[j]? = some r ∧ r.destination = e ∧ (j = i ∨ r.live = true ∧ ¬ (r.destination = d ∧ o = some r.source)) := by
  have hlive {r : Route} (hr : rs[j]? = some r) : (r.settled w.source o d).live = true ↔
      j = i ∨ r.live = true ∧ ¬ (r.destination = d ∧ o = some r.source) := by
    obtain ⟨rfl, -, heq⟩ | ⟨hj, hrd, ho, heq⟩ | ⟨hj, hne, heq⟩ := settled_cases h.ready.nodup h.at_ h.destination o hr
    · rw [heq]
      exact iff_of_true rfl (.inl rfl)
    · rw [heq]
      exact iff_of_false Bool.false_ne_true (by rintro (hm | ⟨-, hm⟩); exacts [hj hm, hm ⟨hrd, ho⟩])
    · rw [heq]
      exact ⟨fun hl => .inr ⟨hl, hne⟩, fun hm => hm.elim (fun h => absurd h hj) And.left⟩
  simp only [mem_livePos, getElem?_map_eq]
  constructor
  · rintro ⟨_, ⟨r, hr, rfl⟩, hd, hl⟩
    exact ⟨r, hr, (Route.settled_destination ..).symm.trans hd, (hlive hr).1 hl⟩
  · rintro ⟨r, hr, hd, hl⟩
    exact ⟨_, ⟨r, hr, rfl⟩, (Route.settled_destination ..).trans hd, (hlive hr).2 hl⟩

theorem livePos_other {e : Nat} (he : e ≠ d) : livePos e (rs.map (Route.settled w.source o d)) = livePos e rs := by
  ext j
  rw [h.mem_livePos_iff, mem_livePos]
  refine exists_congr fun r => and_congr_right fun hr => and_congr_right fun hre => ?_
  have hj : j ≠ i := fun hj => he (by rw [← hre, Option.some.inj (hr.symm.trans (hj ▸ h.at_)), h.destination])
  exact ⟨fun hm => hm.elim (fun hm => absurd hm hj) And.left, fun hm => .inr ⟨hm, fun hd => he (hre.symm.trans hd.1)⟩⟩

end Settles

theorem livePos_free {w : Route} {i : ℕ} (h : Settles s d rs w i none) :
    livePos d (rs.map (Route.settled w.source none d)) = insert i (livePos d rs) := by
  ext j
  rw [h.mem_livePos_iff, Finset.mem_insert, mem_livePos]
  constructor
  · rintro ⟨r, hr, hd, hj | ⟨hl, -⟩⟩
    exacts [.inl hj, .inr ⟨r, hr, hd, hl⟩]
  · rintro (rfl | ⟨r, hr, hd, hl⟩)
    exacts [⟨w, h.at_, h.destination, .inl rfl⟩, ⟨r, hr, hd, .inr ⟨hl, fun hn => by cases hn.2⟩⟩]

theorem livePos_preempt {w v : Route} {i j : ℕ} (h : Settles s d rs w i (some v.source)) (hv : rs[j]? = some v)
    (hvd : v.destination = d) : livePos d (rs.map (Route.settled w.source (some v.source) d)) = insert i ((livePos d rs).erase j) := by
  ext n
  rw [h.mem_livePos_iff, Finset.mem_insert, Finset.mem_erase, mem_livePos]
  constructor
  · rintro ⟨r, hr, hd, hn | ⟨hl, hne⟩⟩
    · exact .inl hn
    · exact .inr ⟨fun he => hne (by rw [Option.some.inj (hr.symm.trans (he ▸ hv))]; exact ⟨hvd, rfl⟩), r, hr, hd, hl⟩
  · rintro (rfl | ⟨hne, r, hr, hd, hl⟩)
    · exact ⟨w, h.at_, h.destination, .inl rfl⟩
    · exact ⟨r, hr, hd, .inr ⟨hl, fun hn => hne (position_unique h.ready.nodup hr hv (Option.some.inj hn.2).symm (hn.1.trans hvd.symm))⟩⟩

/-- A step of settling, said once: a step of the arbiter for its destination, of which no other destination sees anything. -/
theorem grants_of_settleStep (hrs : s.Ready rs) (h : settleStep pr d rs = some rs') :
    s.Ready rs' ∧ (∀ e, openPos e rs' = openPos e rs) ∧ (∀ e, e ≠ d → livePos e rs' = livePos e rs) ∧
      Grants (openPos d rs) (priorityAt pr rs) (livePos d rs) (livePos d rs') := by
  obtain ⟨w, hw, hcase⟩ := settleStep_cases h
  obtain ⟨i, hi, hwd, -, hwa, hwk, hnext⟩ := next_of_bestRoute hw
  obtain ⟨hroom, rfl⟩ | ⟨hfull, v, hv, hlt, rfl⟩ := hcase
  · have hset : Settles s d rs w i none := ⟨hrs, hi, hwd, hwa, hwk, fun _ _ _ _ h => by cases h⟩
    refine ⟨hset.isReady, hset.openPos_eq, fun e he => hset.livePos_other he, ?_⟩
    rw [livePos_free hset]
    exact .free i hnext (by rw [card_livePos]; exact hroom)
  · obtain ⟨j, hj, hvd, hvl, hlast⟩ := last_of_victimRoute hv
    have hset : Settles s d rs w i (some v.source) := ⟨hrs, hi, hwd, hwa, hwk, fun n r hr hrd ho => by
      have hn := position_unique hrs.nodup hr hj (Option.some.inj ho).symm (hrd.trans hvd.symm)
      rw [Option.some.inj (hr.symm.trans (hn ▸ hj))]
      exact hvl⟩
    refine ⟨hset.isReady, hset.openPos_eq, fun e he => hset.livePos_other he, ?_⟩
    rw [livePos_preempt hset hj hvd]
    refine .preempt i j hnext hlast (by rw [card_livePos]; exact hfull) ?_
    rw [priorityAt_of hj, priorityAt_of hi]
    exact hlt

end step

end Sys2Proof.Machine

/-! The Talk Router at rest: every destination settled (R174, R175). -/

namespace Sys2Proof.Machine

-- One theorem at a time: all at once, their threads together outgrow the memory limit of the check.
set_option Elab.async false

section settle
variable {s : State} {pr : Nat → Nat} {d : Nat} {ds : List Nat} {rs rs₁ rs₂ : List Route}

/-- No step of R174 applies exactly where the arbiter is done. -/
theorem settleStep_eq_none_iff (hrs : s.Ready rs) :
    settleStep pr d rs = none ↔ Granted (openPos d rs) (priorityAt pr rs) (livePos d rs) := by
  constructor
  · intro h i hi hil
    obtain ⟨r, hr, hrd, hra, hrk⟩ := mem_openPos.1 hi
    have hrl : r.live = false := by
      by_contra hne
      exact hil (mem_livePos.2 ⟨r, hr, hrd, by simpa using hne⟩)
    unfold settleStep at h
    split at h
    · rename_i hnone
      exact absurd (by simp [hrd, hrl, hra, hrk, Route.eligible])
        ((bestRoute_position pr (fun r => decide (r.destination = d) && r.eligible) rs).1 hnone r (List.mem_of_getElem? hr))
    · rename_i w hw
      obtain ⟨j, hj, -, -, -, -, hnext⟩ := next_of_bestRoute hw
      split_ifs at h with hroom
      refine ⟨by rw [card_livePos]; exact Nat.le_of_not_lt hroom, fun n hn => ?_⟩
      split at h
      · rename_i hnone
        obtain ⟨v, hv, hvd, hvl⟩ := mem_livePos.1 hn
        exact absurd (by simp [hvd, hvl])
          ((victimRoute_position pr (fun r => decide (r.destination = d) && r.live) rs).1 hnone v (List.mem_of_getElem? hv))
      · rename_i v hv
        split_ifs at h with hlt
        obtain ⟨m, hm, -, -, hlast⟩ := last_of_victimRoute hv
        have hbest := hnext.best i hi hil
        have hworst := hlast.worst n hn
        rw [priorityAt_of hj] at hbest
        rw [priorityAt_of hm] at hworst
        omega
  · intro h
    by_contra hne
    obtain ⟨rs', hrs'⟩ := Option.ne_none_iff_exists'.1 hne
    obtain ⟨-, -, -, hgrants⟩ := grants_of_settleStep hrs hrs'
    generalize livePos d rs' = L' at hgrants
    cases hgrants with
    | free w hw hroom =>
      have := (h w hw.mem hw.waits).1
      omega
    | preempt w v hw hv _ hlt =>
      have := (h w hw.mem hw.waits).2 v hv.mem
      omega

/-- Some destinations of a table are settled, and nothing else changes. -/
structure Arbitrated (s : State) (pr : Nat → Nat) (ds : List Nat) (rs rs' : List Route) : Prop where
  ready : s.Ready rs'
  held : rs'.map Route.held = rs.map Route.held
  opens : ∀ e, openPos e rs' = openPos e rs
  others : ∀ e, e ∉ ds → livePos e rs' = livePos e rs
  fair : ∀ e ∈ ds, Fair (openPos e rs) (priorityAt pr rs) (livePos e rs) (livePos e rs')
  done : ∀ e ∈ ds, Granted (openPos e rs) (priorityAt pr rs) (livePos e rs')

theorem Arbitrated.nil (hrs : s.Ready rs) : Arbitrated s pr [] rs rs :=
  ⟨hrs, rfl, fun _ => rfl, fun _ _ => rfl, fun _ h => absurd h List.not_mem_nil, fun _ h => absurd h List.not_mem_nil⟩

theorem Arbitrated.snoc (h : Arbitrated s pr ds rs rs₁) (hd : d ∉ ds) (k : Arbitrated s pr [d] rs₁ rs₂) :
    Arbitrated s pr (ds ++ [d]) rs rs₂ := by
  have hpr : priorityAt pr rs₁ = priorityAt pr rs := priorityAt_of_held h.held pr
  have hkeep {e : Nat} (he : e ∈ ds) : livePos e rs₂ = livePos e rs₁ :=
    k.others e fun hm => hd (List.mem_singleton.1 hm ▸ he)
  refine ⟨k.ready, k.held.trans h.held, fun e => (k.opens e).trans (h.opens e), fun e he => ?_, fun e he => ?_, fun e he => ?_⟩
  · rw [List.mem_append, not_or] at he
    exact (k.others e he.2).trans (h.others e he.1)
  · obtain he | he := List.mem_append.1 he
    · rw [hkeep he]
      exact h.fair e he
    · have hfair := k.fair e he
      obtain rfl := List.mem_singleton.1 he
      rwa [h.opens, h.others _ hd, hpr] at hfair
  · obtain he | he := List.mem_append.1 he
    · rw [hkeep he]
      exact h.done e he
    · have hdone := k.done e he
      rwa [h.opens, hpr] at hdone

/-- Settling a destination for some steps: it is done, or each step weighed. -/
theorem settle_fair {L₀ : Finset ℕ} (n : Nat) (hrs : s.Ready rs) (hfair : Fair (openPos d rs) (priorityAt pr rs) L₀ (livePos d rs)) :
    let rs' := settle pr d n rs
    s.Ready rs' ∧ (∀ e, openPos e rs' = openPos e rs) ∧ (∀ e, e ≠ d → livePos e rs' = livePos e rs) ∧
      Fair (openPos d rs) (priorityAt pr rs) L₀ (livePos d rs') ∧
      (settleStep pr d rs' = none ∨
        weight (priorityAt pr rs) (livePos d rs) + n ≤ weight (priorityAt pr rs) (livePos d rs')) := by
  induction n generalizing rs with
  | zero => exact ⟨hrs, fun _ => rfl, fun _ _ => rfl, hfair, .inr le_rfl⟩
  | succ n ih =>
    dsimp only
    unfold settle
    split
    · rename_i hnone
      exact ⟨hrs, fun _ => rfl, fun _ _ => rfl, hfair, .inl hnone⟩
    · rename_i rs₁ hstep
      obtain ⟨hready, hopens, hothers, hgrants⟩ := grants_of_settleStep hrs hstep
      have hpr : priorityAt pr rs₁ = priorityAt pr rs := priorityAt_of_held (settleStep_held hstep) pr
      have hfair₁ : Fair (openPos d rs₁) (priorityAt pr rs₁) L₀ (livePos d rs₁) := by
        rw [hopens, hpr]
        exact hfair.step hgrants
      obtain ⟨h1, h2, h3, h4, h5⟩ := ih hready hfair₁
      rw [hopens, hpr] at h4
      rw [hpr] at h5
      have hlt := hgrants.weight_lt
      exact ⟨h1, fun e => (h2 e).trans (hopens e), fun e he => (h3 e he).trans (hothers e he), h4, h5.imp_right fun h => by omega⟩

/-- 33 steps settle a destination (R174). -/
theorem settle_arbitrates (hrs : s.Ready rs) (hroom : (liveTo d rs).length ≤ 4) (hpr : ∀ t, pr t ≤ 7) :
    Arbitrated s pr [d] rs (settle pr d 33 rs) := by
  have hfair : Fair (openPos d rs) (priorityAt pr rs) (livePos d rs) (livePos d rs) :=
    .refl (hrs.live_open d) (by rw [card_livePos]; exact hroom)
  obtain ⟨hready, hopens, hothers, hfair', hdone⟩ := settle_fair 33 hrs hfair
  have hheld := settle_held pr d 33 rs
  refine ⟨hready, hheld, hopens, fun e he => hothers e fun h => he (List.mem_singleton.2 h), fun e he => ?_, fun e he => ?_⟩
  · obtain rfl := List.mem_singleton.1 he
    exact hfair'
  · obtain rfl := List.mem_singleton.1 he
    have hnone : settleStep pr e (settle pr e 33 rs) = none := hdone.resolve_right fun h => by
      have := hfair'.weight_le fun _ _ => hpr _
      omega
    have hgranted := (settleStep_eq_none_iff hready).1 hnone
    rwa [hopens, priorityAt_of_held hheld] at hgranted

theorem settleAll_arbitrates (hrs : s.Ready rs) (hroom : ∀ d, (liveTo d rs).length ≤ 4) (hpr : ∀ t, pr t ≤ 7) :
    Arbitrated s pr (oneUpTo Config.stations) rs (settleAll pr rs) := by
  have hnodup : (oneUpTo Config.stations).Nodup := by decide
  unfold settleAll
  generalize oneUpTo Config.stations = xs at hnodup ⊢
  induction xs using List.reverseRecOn with
  | nil => exact .nil hrs
  | append_singleton ds d ih =>
    obtain ⟨hds, -, hdisj⟩ := List.nodup_append.1 hnodup
    have hd : d ∉ ds := fun hm => hdisj d hm d (List.mem_singleton_self d) rfl
    have h := ih hds
    rw [List.foldl_append]
    refine h.snoc hd (settle_arbitrates h.ready ?_ hpr)
    rw [← card_livePos, h.others d hd, card_livePos]
    exact hroom d

end settle

/-! ## The state at rest -/

section rest
variable {s t : State}

theorem priority_le (h : s.tk.sound) (t : Nat) : s.priority t ≤ 7 := by
  obtain ⟨-, -, -, hpri⟩ := h
  cases t with
  | zero => exact Nat.zero_le _
  | succ k =>
    show (s.tk.stations.getD k Station.undefined).priority ≤ 7
    rw [List.getD_eq_getElem?_getD]
    cases hk : s.tk.stations[k]? with
    | none => exact Nat.zero_le _
    | some x => exact hpri x (List.mem_of_getElem? hk)

theorem liveTo_le (h : s.tk.sound) (d : Nat) : (liveTo d s.tk.routes).length ≤ 4 := by
  obtain ⟨-, -, hroutes, -⟩ := h
  by_cases hd : ∃ r ∈ s.tk.routes, r.destination = d
  · obtain ⟨r, hr, rfl⟩ := hd
    exact (hroutes r hr).2
  · have hnil : liveTo d s.tk.routes = [] := List.filter_eq_nil_iff.2 fun r hr h => hd ⟨r, hr, by
      rw [Bool.and_eq_true, decide_eq_true_eq] at h
      exact h.1⟩
    rw [hnil]
    exact Nat.zero_le _

theorem suspended_ready (h : s.tk.sound) : s.Ready (s.tk.routes.map s.suspend) := by
  obtain ⟨-, hnodup, -⟩ := h
  refine ⟨?_, fun r hr => ?_⟩
  · rw [pairs_of_held (held_map (fun r => by rw [Route.held, State.suspend_source, State.suspend_destination, State.suspend_holders]; rfl) _)]
    exact hnodup
  · obtain ⟨r, -, rfl⟩ := List.mem_map.1 hr
    exact suspend_suspend

theorem resettle_routes (s : State) : s.resettle.tk.routes = settleAll s.priority (s.tk.routes.map s.suspend) := by
  rw [State.resettle, State.modTk_tk]

/-- Settling every destination, said once. -/
theorem resettle_arbitrates (h : s.tk.sound) :
    Arbitrated s s.priority (oneUpTo Config.stations) (s.tk.routes.map s.suspend) s.resettle.tk.routes := by
  rw [resettle_routes]
  exact settleAll_arbitrates (suspended_ready h) (fun d => (liveTo_map_length (tame_suspend s) d _).trans (liveTo_le h d)) (priority_le h)

/-- Every route has the reasons that stand, and no destination has a step of R174 to take. -/
structure State.AtRest (s : State) : Prop where
  reasoned : ∀ r ∈ s.tk.routes, s.Reasoned r
  granted : ∀ d ∈ oneUpTo Config.stations, settleStep s.priority d s.tk.routes = none

theorem State.AtRest.ready (h : s.AtRest) (hs : s.tk.sound) : s.Ready s.tk.routes := ⟨hs.2.1, h.reasoned⟩

/-- Settling a state at rest changes nothing. -/
theorem State.AtRest.talkSettled (h : s.AtRest) : s.talkSettled := by
  have hmap : s.tk.routes.map s.suspend = s.tk.routes := (List.map_congr_left h.reasoned).trans (List.map_id' _)
  have hstays (ds : List Nat) (hds : ds ⊆ oneUpTo Config.stations) :
      ds.foldl (fun rs d => settle s.priority d 33 rs) s.tk.routes = s.tk.routes := by
    induction ds with
    | nil => rfl
    | cons d ds ih =>
      have hd : settle s.priority d 33 s.tk.routes = s.tk.routes := by
        rw [settle, h.granted d (hds List.mem_cons_self)]
      rw [List.foldl_cons, hd]
      exact ih fun _ hm => hds (List.mem_cons_of_mem _ hm)
  have hall : settleAll s.priority (s.tk.routes.map s.suspend) = s.tk.routes := by
    rw [hmap]
    exact hstays _ fun _ hm => hm
  rw [State.talkSettled, State.resettle, State.modTk]
  beta_reduce
  rw [hall]

end rest

end Sys2Proof.Machine

/-! The end of an event leaves the Talk Router at rest: the orders that settling makes do not unsettle it (R175). -/

namespace Sys2Proof.Machine

-- One theorem at a time: all at once, their threads together outgrow the memory limit of the check.
set_option Elab.async false

/-! ## Operations that leave WAITING routes alone -/

/-- A table without a pair twice. -/
def State.PairsOnce (s : State) : Prop := (s.tk.routes.map fun r => (r.source, r.destination)).Nodup

/-- Orders have been issued or have failed, and no WAITING route has changed. -/
structure Calm (s t : State) : Prop extends Quiet s t where
  waiting : s.PairsOnce → (t.tk.routes.filter fun r => !r.live) = s.tk.routes.filter fun r => !r.live

/-- What of a route depends on neither its make nor its order. -/
theorem map_of_bare {α : Type} {rs rs' : List Route} (h : rs'.map Route.bare = rs.map Route.bare) {g : Route → α}
    (hg : ∀ r : Route, g r.bare = g r) : rs'.map g = rs.map g := by
  have hmap (xs : List Route) : xs.map g = (xs.map Route.bare).map g := by
    rw [List.map_map]
    exact List.map_congr_left fun r _ => (hg r).symm
  rw [hmap rs', hmap rs, h]

theorem Quiet.pairsOnce {s t : State} (h : Quiet s t) (hs : s.PairsOnce) : t.PairsOnce := by
  have hpairs : (t.tk.routes.map fun r => (r.source, r.destination)) = s.tk.routes.map fun r => (r.source, r.destination) :=
    map_of_bare h.routes fun _ => rfl
  rw [State.PairsOnce, hpairs]
  exact hs

namespace Calm
variable {s t u : State}

theorem of_routes (h : Quiet s t) (hr : t.tk.routes = s.tk.routes) : Calm s t := ⟨h, fun _ => by rw [hr]⟩

theorem refl (s : State) : Calm s s := of_routes (.refl s) rfl

theorem trans (h : Calm s t) (k : Calm t u) : Calm s u :=
  ⟨h.toQuiet.trans k.toQuiet, fun hs => (k.waiting (h.toQuiet.pairsOnce hs)).trans (h.waiting hs)⟩

theorem ite {c : Prop} [Decidable c] (h : Calm s t) (k : Calm s u) : Calm s (if c then t else u) := by
  split
  · exact h
  · exact k

theorem foldl {α : Type} (f : State → α → State) (h : ∀ s x, Calm s (f s x)) (xs : List α) (s : State) : Calm s (xs.foldl f s) := by
  induction xs generalizing s with
  | nil => exact refl s
  | cons x xs ih => exact (h s x).trans (ih _)

/-- Steps of an action, each of which may suppose what no such step changes. -/
theorem foldAct {α : Type} {P : α → State → Prop} (f : Acting → α → Acting) (hP : ∀ a s t, Quiet s t → P a s → P a t)
    (h : ∀ x a, P a x.1 → Calm x.1 (f x a).1) (as : List α) (x : Acting) (has : ∀ a ∈ as, P a x.1) : Calm x.1 (as.foldl f x).1 := by
  induction as generalizing x with
  | nil => exact refl x.1
  | cons a as ih =>
    have ha := h x a (has a List.mem_cons_self)
    exact ha.trans (ih _ fun b hb => hP b _ _ ha.toQuiet (has b (List.mem_cons_of_mem _ hb)))

theorem foldActs {α : Type} (f : Acting → α → Acting) (h : ∀ x a, Calm x.1 (f x a).1) (as : List α) (x : Acting) :
    Calm x.1 (as.foldl f x).1 := foldAct (P := fun _ _ => True) f (fun _ _ _ _ => id) (fun x a _ => h x a) as x fun _ _ => trivial

end Calm

/-! ## Orders -/

section orders
variable (s : State)

theorem routes_lampFailed (d id : Nat) : (lampFailed d id s).tk.routes = s.tk.routes := by
  unfold lampFailed
  split
  · split <;> rfl
  · rfl

theorem routes_displaced (o : Order) : (displaced o s).tk.routes = s.tk.routes := by
  unfold displaced
  split
  · exact congrArg Tk.routes (keeps_tallyFailed _ _ s .tk (by decide))
  · exact routes_lampFailed s _ _
  · rfl

theorem routes_issue (a : Nat) (body : OrderBody) (i : Issuer) : (issue a body i s).state.tk.routes = s.tk.routes := by
  obtain ⟨-, -, hr⟩ | ⟨-, -, -, hr⟩ | ⟨-, -, -, hr⟩ | ⟨-, -, -, v, -, hr⟩ := issue_cases a body i s <;> rw [hr]
  · rfl
  · rfl
  · rfl
  · exact routes_displaced _ v

theorem calm_issue (a : Nat) (body : OrderBody) (i : Issuer) : Calm s (issue a body i s).state :=
  .of_routes (quiet_issue s a body i) (routes_issue s a body i)

end orders

theorem calm_tkIssue (address : Nat) (body : OrderBody) (issuer : Issuer) (record : Nat → State → State) (x : Acting)
    (h : ∀ id s, Quiet x.1 s → Calm s (record id s)) : Calm x.1 (tkIssue address body issuer record x).1 :=
  (calm_issue x.1 address body issuer).trans (h _ _ (quiet_issue _ _ _ _))

theorem calm_joinBreak (a d id : Nat) (s : State) : Calm s (joinBreak a d id s) := by
  refine .of_routes (quiet_joinBreak a d id s) ?_
  unfold joinBreak
  dsimp only
  split
  · rfl
  · split
    · split <;> rfl
    · rfl

theorem calm_orderBreak (a d : Nat) (x : Acting) : Calm x.1 (orderBreak a d x).1 :=
  calm_tkIssue _ _ _ _ x fun id s _ => calm_joinBreak a d id s

/-- The route of a pair, where there is one, is LIVE. -/
def State.LivePair (s : State) (a d : Nat) : Prop := ∀ r ∈ s.tk.routes, r.joins a d = true → r.live = true

theorem Quiet.livePair {s t : State} (h : Quiet s t) {a d : Nat} (hs : s.LivePair a d) : t.LivePair a d := fun r hr hj => by
  have hmem : r.bare ∈ s.tk.routes.map Route.bare := h.routes ▸ List.mem_map_of_mem hr
  obtain ⟨r', hr', heq⟩ := List.mem_map.1 hmem
  have hlive : r'.live = r.live := (congrArg Route.live heq :)
  have hjoins : r'.joins a d = r.joins a d := (congrArg (Route.joins a d) heq :)
  exact hlive.symm.trans (hs r' hr' (hjoins.trans hj))

/-- A change of the LIVE routes alone, in their makes alone. -/
theorem calm_mapRoutes {s : State} {f : Route → Route} {g : Tk → Tk} (hroutes : (g s.tk).routes = s.tk.routes.map f)
    (hz : (g s.tk).zones = s.tk.zones) (hgr : (g s.tk).groups = s.tk.groups) (hst : (g s.tk).stations = s.tk.stations)
    (hbare : ∀ r, (f r).bare = r.bare) (hf : s.PairsOnce → ∀ r ∈ s.tk.routes, r.live = false → f r = r) : Calm s (s.modTk g) := by
  refine ⟨quiet_modTk s g hz hgr (by rw [hroutes]; exact bare_mapRoutes hbare _) (by rw [hst]), fun hs => ?_⟩
  rw [State.modTk_tk, hroutes, List.filter_map]
  have hlive : (fun r : Route => !r.live) ∘ f = fun r => !r.live := by
    funext r
    exact congrArg not (congrArg Route.live (hbare r) :)
  rw [hlive]
  refine (List.map_congr_left fun r hr => ?_).trans (List.map_id' _)
  obtain ⟨hmem, hl⟩ := List.mem_filter.1 hr
  exact hf hs r hmem (Bool.not_eq_true' _ ▸ hl)

theorem calm_orderMake (a d : Nat) (x : Acting) (h : x.1.LivePair a d) : Calm x.1 (orderMake a d x).1 :=
  calm_tkIssue _ _ _ _ x fun id s hs => calm_mapRoutes rfl rfl rfl rfl (fun r => by split <;> rfl) fun _ r hr hl => by
    refine if_neg fun hj => ?_
    rw [hs.livePair h r hr hj] at hl
    cases hl

theorem calm_modStation (d : Nat) (f : Station → Station) (s : State) (hf : ∀ x, (f x).bare = x.bare := by exact fun _ => rfl) :
    Calm s (s.modStation d f) := .of_routes (quiet_modStation s d f hf) rfl

theorem calm_orderDim (t depth : Nat) (x : Acting) : Calm x.1 (orderDim t depth x).1 :=
  calm_tkIssue _ _ _ _ x fun _ s _ => calm_modStation t _ s

theorem calm_orderLamp (t : Nat) (x : Acting) : Calm x.1 (orderLamp t x).1 := by
  unfold orderLamp
  dsimp only
  split
  · exact calm_tkIssue _ _ _ _ x fun _ s _ => calm_modStation t _ s
  · exact .refl _

/-- In a table without a pair twice, a pair with a LIVE route has no other. -/
theorem livePair_of_any {s : State} (hs : s.PairsOnce) {a d : Nat} (h : s.tk.routes.any (fun r => r.joins a d && r.live) = true) :
    s.LivePair a d := fun r hr hj => by
  obtain ⟨v, hv, hok⟩ := List.any_eq_true.1 h
  obtain ⟨hvj, hvl⟩ := (Bool.and_eq_true _ _).mp hok
  have hrv : r = v := by
    simp only [Route.joins, Bool.and_eq_true, decide_eq_true_eq] at hj hvj
    exact Route.eq_of_joins hs hr hv (by simp [Route.joins, hj, hvj])
  rwa [hrv]

theorem calm_raise (c : Cause) (o : Nat) (s : State) : Calm s (raise c o s) := .of_routes (quiet_raise s c o) rfl

theorem calm_tkFailed (i : Issuer) (id : Nat) (s : State) : Calm s (tkFailed i id s) := by
  unfold tkFailed
  split
  · rename_i a d
    split
    · rename_i h
      refine (calm_mapRoutes rfl rfl rfl rfl (fun r => by split <;> rfl) fun hs r hr hl => if_neg fun hj => ?_).trans (calm_raise _ _ _)
      have hany : s.tk.routes.any (fun r => r.joins a d && r.live) = true := by
        obtain ⟨v, hv, hok⟩ := List.any_eq_true.1 h
        exact List.any_eq_true.2 ⟨v, hv, ((Bool.and_eq_true _ _).mp hok).1⟩
      rw [livePair_of_any hs hany r hr hj] at hl
      cases hl
    · exact .refl s
  · exact .of_routes (quiet_modTk s _ (hr := rfl) (hs := rfl)) rfl
  · exact .ite (calm_modStation _ _ s) (.refl s)
  · exact .of_routes (quiet_lampFailed s _ _) (routes_lampFailed s _ _)
  · exact .refl s

theorem calm_reported (x : Acting) : Calm x.1 (reported x) := .foldl _ (fun s _ => calm_tkFailed _ _ s) _ _

theorem mem_liveSources {a d : Nat} {rs : List Route} :
    a ∈ liveSources d rs ↔ a ∈ oneUpTo Config.stations ∧ rs.any (fun r => r.joins a d && r.live) = true := by
  rw [liveSources, List.mem_filter]

theorem liveSources_of_bare {rs rs' : List Route} (h : rs'.map Route.bare = rs.map Route.bare) (d : Nat) :
    liveSources d rs' = liveSources d rs := by
  have hany (a : Nat) : rs'.any (fun r => r.joins a d && r.live) = rs.any (fun r => r.joins a d && r.live) := by
    have hmap := map_of_bare h (g := fun r => r.joins a d && r.live) fun _ => rfl
    have hid (xs : List Route) : xs.any (fun r => r.joins a d && r.live) = (xs.map fun r => r.joins a d && r.live).any id := by
      rw [List.any_map]
      rfl
    rw [hid, hid, hmap]
  unfold liveSources
  exact List.filter_congr fun a _ => hany a

theorem calm_crosspoints (before : List Route) (x : Acting) (d : Nat) (hx : x.1.PairsOnce) :
    Calm x.1 (crosspoints before x d).1 := by
  have hbreaks : Calm x.1
      (((liveSources d before).filter fun a => !(liveSources d x.1.tk.routes).contains a).foldl (fun x a => orderBreak a d x) x).1 :=
    .foldActs _ (fun x a => calm_orderBreak a d x) _ x
  refine hbreaks.trans (.foldAct (P := fun a s => s.LivePair a d) (fun x a => orderMake a d x) (fun _ _ _ h hs => h.livePair hs)
    (fun x a h => calm_orderMake a d x h) _ _ fun a ha => hbreaks.toQuiet.livePair (livePair_of_any hx ?_))
  exact (mem_liveSources.1 (List.mem_filter.1 ha).1).2

theorem calm_dims (before : List Route) (x : Acting) (t : Nat) : Calm x.1 (dims before x t).1 := by
  unfold dims
  dsimp only
  split
  · exact calm_orderDim _ _ _
  · exact .refl _

theorem calm_lamps (asked : Option Nat) (s0 : State) (x : Acting) (t : Nat) : Calm x.1 (lamps asked s0 x t).1 := by
  unfold lamps
  split
  · exact calm_orderLamp _ _
  · exact .refl _

theorem calm_tkAfterFor (asked : Option Nat) (s0 s1 : State) (h : s1.resettle.PairsOnce) :
    Calm s1.resettle (tkAfterFor asked s0 s1) :=
  (((Calm.foldAct (P := fun _ s => s.PairsOnce) _ (fun _ _ _ hq hs => hq.pairsOnce hs) (fun x d hx => calm_crosspoints _ x d hx) _
    (s1.resettle, []) fun _ _ => h).trans (.foldActs _ (fun x t => calm_dims _ x t) _ _)).trans
    (.foldActs _ (fun x t => calm_lamps asked s0 x t) _ _)).trans (calm_reported _)

/-! ## What stays at rest -/

/-- The reasons and the priorities stand in the same. -/
structure SameReasons (s t : State) : Prop where
  cuts : ∀ d, t.zoneCuts d = s.zoneCuts d
  down : ∀ d, t.linkDown d = s.linkDown d
  priority : t.priority = s.priority

theorem SameReasons.suspend {s t : State} (h : SameReasons s t) : t.suspend = s.suspend := by
  funext r
  rw [State.suspend, State.suspend, h.cuts, h.down, h.down]

/-- What bears on reasons and priorities: what a station is, the zones, and whether links are in service. -/
theorem SameReasons.of {s t : State}
    (hst : ∀ d, (t.station d).kind = (s.station d).kind ∧ (t.station d).zone = (s.station d).zone ∧
      (t.station d).link = (s.station d).link ∧ (t.station d).priority = (s.station d).priority)
    (hz : t.tk.zones = s.tk.zones) (hl : ∀ l, (t.link l).state.inService = (s.link l).state.inService) : SameReasons s t := by
  refine ⟨fun d => ?_, fun d => ?_, funext fun d => (hst d).2.2.2⟩
  · obtain ⟨hk, hzone, -, -⟩ := hst d
    rw [State.zoneCuts, State.zoneCuts, hk, hzone, hz]
  · obtain ⟨hk, -, hlink, -⟩ := hst d
    rw [State.linkDown, State.linkDown, hk, hlink]
    simp only [hl]

theorem SameReasons.of_quiet {s t : State} (h : Quiet s t) : SameReasons s t :=
  .of (fun d => ⟨(congrArg Station.kind (h.station d) :), (congrArg Station.zone (h.station d) :), (congrArg Station.link (h.station d) :),
    (congrArg Station.priority (h.station d) :)⟩) h.zones fun l => congrArg LinkState.inService (congrArg Link.state (h.link l) :)

theorem positions_of_bare {P : Route → Bool} (hP : ∀ r : Route, P r.bare = P r) {rs rs' : List Route}
    (h : rs'.map Route.bare = rs.map Route.bare) : positions P rs' = positions P rs := by
  have hmap := map_of_bare h hP
  have hany (xs : List Route) (i : ℕ) : xs[i]?.any P = ((xs.map P)[i]?).any id := by
    rw [List.getElem?_map, Option.any_map]
    rfl
  have hlen : rs'.length = rs.length := by simpa using congrArg List.length h
  rw [positions, positions, hlen]
  exact Finset.filter_congr fun i _ => by rw [hany, hany, hmap]

theorem fields_of_bare {r r' : Route} (h : r'.bare = r.bare) : r'.source = r.source ∧ r'.destination = r.destination ∧
    r'.live = r.live ∧ r'.onAir = r.onAir ∧ r'.linkDown = r.linkDown ∧ r'.noSlot = r.noSlot := by
  simp only [Route.bare, Route.mk.injEq] at h
  obtain ⟨h1, h2, -, h4, h5, h6, h7, -⟩ := h
  exact ⟨h1, h2, h4, h5, h6, h7⟩

theorem reasoned_of_mayRun {s : State} {r : Route} (h : s.mayRun r) (ha : r.onAir = false) (hd : r.linkDown = false)
    (hn : r.noSlot = !r.live) : s.suspend r = r := by
  rw [suspend_of_mayRun h]
  obtain ⟨source, destination, holders, live, onAir, linkDown, noSlot, make, makeOrder⟩ := r
  obtain rfl : onAir = false := ha
  obtain rfl : linkDown = false := hd
  obtain rfl : noSlot = !live := hn
  rfl

/-- A state at rest stays so where the makes of LIVE routes alone change, and no reason does. -/
theorem State.AtRest.made {s t : State} (h : s.AtRest) (hs : s.tk.sound) (hsame : SameReasons s t)
    (hroutes : t.tk.routes.map Route.bare = s.tk.routes.map Route.bare)
    (hwaiting : (t.tk.routes.filter fun r => !r.live) = s.tk.routes.filter fun r => !r.live) : t.AtRest := by
  have honce : s.PairsOnce := hs.2.1
  have hreasoned : ∀ r ∈ t.tk.routes, t.Reasoned r := fun r hr => by
    rw [State.Reasoned, hsame.suspend]
    by_cases hl : r.live = true
    · have hmem : r.bare ∈ s.tk.routes.map Route.bare := hroutes ▸ List.mem_map_of_mem hr
      obtain ⟨r', hr', heq⟩ := List.mem_map.1 hmem
      obtain ⟨hsrc, hdst, hlive, hair, hdown, hslot⟩ := fields_of_bare heq
      have hok : s.Reasoned r' := h.reasoned r' hr'
      have hmay := hok.mayRun_of_live (hlive.trans hl)
      obtain ⟨ha, hd⟩ := hok.mayRun_iff.1 hmay
      refine reasoned_of_mayRun ((mayRun_congr hsrc hdst).1 hmay) (hair.symm.trans ha) (hdown.symm.trans hd) ?_
      rw [← hslot, hok.noSlot hmay, hlive]
    · have hmem : r ∈ t.tk.routes.filter fun r => !r.live := List.mem_filter.2 ⟨hr, by simpa using hl⟩
      rw [hwaiting] at hmem
      exact h.reasoned r (List.mem_filter.1 hmem).1
  have honce' : t.PairsOnce := by
    have hpairs : (t.tk.routes.map fun r => (r.source, r.destination)) = s.tk.routes.map fun r => (r.source, r.destination) :=
      map_of_bare hroutes fun _ => rfl
    rw [State.PairsOnce, hpairs]
    exact honce
  have hready : t.Ready t.tk.routes := ⟨honce', hreasoned⟩
  refine ⟨hreasoned, fun d hd => ?_⟩
  have hgranted := (settleStep_eq_none_iff (h.ready hs)).1 (h.granted d hd)
  rw [settleStep_eq_none_iff hready, hsame.priority, openPos, livePos, positions_of_bare (fun _ => rfl) hroutes,
    positions_of_bare (fun _ => rfl) hroutes, priorityAt_of_held (map_of_bare hroutes fun _ => rfl)]
  exact hgranted

/-- A state at rest stays so where orders are issued or fail. -/
theorem State.AtRest.calm {s t : State} (h : s.AtRest) (hs : s.tk.sound) (k : Calm s t) : t.AtRest :=
  h.made hs (.of_quiet k.toQuiet) k.routes (k.waiting hs.2.1)

/-- A state at rest stays so where nothing changes that its routes stand on. -/
theorem State.AtRest.same {s t : State} (h : s.AtRest) (hr : t.tk.routes = s.tk.routes) (k : SameReasons s t) : t.AtRest :=
  ⟨fun r hm => by rw [State.Reasoned, k.suspend]; exact h.reasoned r (hr ▸ hm), fun d hd => by rw [k.priority, hr]; exact h.granted d hd⟩

theorem sameReasons_of_parts {s t : State} (htk : t.tk = s.tk) (hl : ∀ l, (t.link l).state = (s.link l).state) : SameReasons s t := by
  have hst (d : Nat) : t.station d = s.station d := by rw [State.station, htk]; rfl
  exact .of (fun d => by rw [hst]; exact ⟨rfl, rfl, rfl, rfl⟩) (by rw [htk]) fun l => by rw [hl]

end Sys2Proof.Machine

/-! What the end of an event leaves of the route table (R170 to R175). -/

namespace Sys2Proof.Machine

-- One theorem at a time: all at once, their threads together outgrow the memory limit of the check.
set_option Elab.async false

section resettle
variable {s t : State}

theorem sound_of_acts {wide : Reach} (h : Acts wide s t) (hs : s.tk.sound) : t.tk.sound := h.keeps (fun _ _ => routesSound_change) hs

theorem sound_resettle (hs : s.tk.sound) : s.resettle.tk.sound := sound_of_acts (wide := .full) (acts_resettle s) hs

theorem resettle_stations (s : State) : s.resettle.tk.stations = s.tk.stations := by rw [State.resettle, State.modTk_tk]
theorem resettle_zones (s : State) : s.resettle.tk.zones = s.tk.zones := by rw [State.resettle, State.modTk_tk]

theorem sameReasons_resettle (s : State) : SameReasons s s.resettle := by
  have hst (d : Nat) : s.resettle.station d = s.station d := by rw [State.station, State.station, resettle_stations]
  have hl (l : Nat) : s.resettle.link l = s.link l := by rw [State.link, State.link, TallyStands.resettle_links]
  exact .of (fun d => by rw [hst]; exact ⟨rfl, rfl, rfl, rfl⟩) (resettle_zones s) fun l => by rw [hl]

theorem atRest_resettle (hs : s.tk.sound) : s.resettle.AtRest := by
  have h := resettle_arbitrates hs
  have hsame := sameReasons_resettle s
  have hready : s.resettle.Ready s.resettle.tk.routes :=
    ⟨h.ready.nodup, fun r hr => by rw [State.Reasoned, hsame.suspend]; exact h.ready.reasoned r hr⟩
  refine ⟨hready.reasoned, fun d hd => ?_⟩
  rw [settleStep_eq_none_iff hready, hsame.priority, h.opens, priorityAt_of_held h.held]
  exact h.done d hd

theorem atRest_of_talkSettled (hs : s.tk.sound) (h : s.talkSettled) : s.AtRest := by
  have hrest := atRest_resettle hs
  rwa [show s.resettle = s from h] at hrest

/-- The end of an event leaves the Talk Router at rest. -/
theorem atRest_tkAfterFor (asked : Option Nat) (s0 : State) (hs : s.tk.sound) : (tkAfterFor asked s0 s).AtRest :=
  (atRest_resettle hs).calm (sound_resettle hs) (calm_tkAfterFor asked s0 s (sound_resettle hs).2.1)

/-- What follows the end of an event in the engine and on the transmit path leaves the Talk Router alone. -/
theorem atRest_of_keeps {ps : List Part} (h : s.AtRest) (k : KeepsBut ps s t) (htk : Part.tk ∉ ps) (hl : Part.links ∉ ps) : t.AtRest := by
  have htk' : t.tk = s.tk := k .tk htk
  exact h.same (by rw [htk']) (sameReasons_of_parts htk' fun l =>
    (congrArg Link.state (linkCore_of_same (k .links hl) l) :))

theorem atRest_after (h : s.AtRest) : (after s).AtRest := atRest_of_keeps h (keeps_after s) (by decide) (by decide)

theorem atRest_finishKey (asked : Option Nat) (s0 : State) (hs : s.tk.sound) : (finishKey asked s0 s).AtRest :=
  atRest_after (atRest_tkAfterFor asked s0 hs)

theorem atRest_finish (s0 : State) (hs : s.tk.sound) : (finish s0 s).AtRest := atRest_finishKey none s0 hs

end resettle

/-! ## A table at rest (R170, R173, R174) -/

section slots
variable {s : State}

theorem mayTalk_of_atRest (h : s.AtRest) {r : Route} (hr : r ∈ s.tk.routes) (hl : r.live = true) : s.mayRun r :=
  State.Reasoned.mayRun_of_live (h.reasoned r hr) hl

theorem slotsRight_of_atRest (hs : s.tk.sound) (h : s.AtRest) : s.slotsRight := by
  intro r hr hd hd'
  have hok : s.Reasoned r := h.reasoned r hr
  refine ⟨fun hl => ?_, fun hl => ?_, fun hl hmay => ?_⟩
  · have hmay := hok.mayRun_of_live hl
    obtain ⟨ha, hk⟩ := hok.mayRun_iff.1 hmay
    exact ⟨ha, hk, by rw [hok.noSlot hmay, hl]; rfl⟩
  · by_cases hmay : s.mayRun r
    · obtain ⟨ha, hk⟩ := hok.mayRun_iff.1 hmay
      obtain ⟨h1, h2, h3⟩ := hmay
      exact ⟨ha.trans h1.symm, by rw [h2, h3, hk]; rfl, by rw [hok.noSlot ⟨h1, h2, h3⟩, ha, hk, hl]; rfl⟩
    · have hsus : s.suspend r = r := hok
      rw [suspend_of_not_mayRun hmay] at hsus
      have ha : s.zoneCuts r.destination = r.onAir := (congrArg Route.onAir hsus :)
      have hk : (s.linkDown r.source || s.linkDown r.destination) = r.linkDown := (congrArg Route.linkDown hsus :)
      have hn : false = r.noSlot := (congrArg Route.noSlot hsus :)
      refine ⟨ha.symm, hk.symm, ?_⟩
      rw [← hn]
      by_contra hne
      have hne' : (!r.onAir && !r.linkDown) = true := by simpa using hne
      rw [Bool.and_eq_true, Bool.not_eq_true', Bool.not_eq_true'] at hne'
      exact hmay (hok.mayRun_iff.2 hne')
  · obtain ⟨i, hi⟩ := List.getElem?_of_mem hr
    have hgranted := (settleStep_eq_none_iff (h.ready hs)).1 (h.granted r.destination (mem_oneUpTo.2 ⟨hd, hd'⟩))
    have hopen : i ∈ openPos r.destination s.tk.routes := mem_openPos.2 ⟨r, hi, rfl, hok.mayRun_iff.1 hmay⟩
    have hout : i ∉ livePos r.destination s.tk.routes := fun hm => by
      obtain ⟨v, hv, -, hvl⟩ := mem_livePos.1 hm
      rw [Option.some.inj (hi.symm.trans hv), hvl] at hl
      cases hl
    obtain ⟨hfull, hlow⟩ := hgranted i hopen hout
    rw [card_livePos] at hfull
    refine ⟨le_antisymm (liveTo_le hs _) hfull, fun v hv hvd hvl => ?_⟩
    obtain ⟨j, hj⟩ := List.getElem?_of_mem hv
    have := hlow j (mem_livePos.2 ⟨v, hj, hvd, hvl⟩)
    rwa [priorityAt_of hi, priorityAt_of hj] at this

end slots

/-! ## Who has a slot (R174) -/

section first
variable {s : State} {d : Nat} {i : ℕ} {r : Route}

theorem suspended_at (h : s.tk.routes[i]? = some r) : (s.tk.routes.map s.suspend)[i]? = some (s.suspend r) :=
  getElem?_map_eq.2 ⟨r, h, rfl⟩

theorem mem_openPos_suspended (h : s.tk.routes[i]? = some r) :
    i ∈ openPos d (s.tk.routes.map s.suspend) ↔ r.destination = d ∧ s.mayRun r := by
  rw [mem_openPos]
  have hok : s.Reasoned (s.suspend r) := suspend_suspend
  have hmay : s.mayRun (s.suspend r) ↔ s.mayRun r := mayRun_congr (State.suspend_source s r) (State.suspend_destination s r)
  constructor
  · rintro ⟨v, hv, hd, hfields⟩
    obtain rfl := Option.some.inj ((suspended_at h).symm.trans hv)
    exact ⟨(State.suspend_destination s r).symm.trans hd, hmay.1 (hok.mayRun_iff.2 hfields)⟩
  · rintro ⟨hd, hr⟩
    exact ⟨_, suspended_at h, (State.suspend_destination s r).trans hd, hok.mayRun_iff.1 (hmay.2 hr)⟩

theorem mem_livePos_suspended (h : s.tk.routes[i]? = some r) (hr : s.mayRun r) :
    i ∈ livePos d (s.tk.routes.map s.suspend) ↔ r.destination = d ∧ r.live = true := by
  have hsus := suspend_of_mayRun hr
  rw [mem_livePos]
  constructor
  · rintro ⟨v, hv, hd, hl⟩
    obtain rfl := Option.some.inj ((suspended_at h).symm.trans hv)
    rw [hsus] at hd hl
    exact ⟨hd, hl⟩
  · rintro ⟨hd, hl⟩
    exact ⟨_, suspended_at h, by rw [hsus]; exact hd, by rw [hsus]; exact hl⟩

theorem priorityAt_suspended (h : s.tk.routes[i]? = some r) :
    priorityAt s.priority (s.tk.routes.map s.suspend) i = (s.station r.source).priority := by
  rw [priorityAt_of (suspended_at h), State.suspend_source]
  rfl

/-- The order of the arbiter is that of the statement, for routes that nothing suspends. -/
theorem before_iff_outranks {x : Route} {j : ℕ} (hr : s.tk.routes[i]? = some r) (hx : s.tk.routes[j]? = some x)
    (hmr : s.mayRun r) (hmx : s.mayRun x) (hd : x.destination = r.destination) :
    Before (livePos r.destination (s.tk.routes.map s.suspend)) (priorityAt s.priority (s.tk.routes.map s.suspend)) j i ↔
      s.outranks x j r i := by
  have hi : i ∈ livePos r.destination (s.tk.routes.map s.suspend) ↔ r.live = true :=
    (mem_livePos_suspended hr hmr).trans (and_iff_right rfl)
  have hj : j ∈ livePos r.destination (s.tk.routes.map s.suspend) ↔ x.live = true :=
    (mem_livePos_suspended hx hmx).trans (and_iff_right hd)
  unfold Before State.outranks
  dsimp only
  rw [priorityAt_suspended hr, priorityAt_suspended hx, hi, hj, Bool.not_eq_true, ← Bool.eq_iff_iff]

theorem slot_iff (hs : s.tk.sound) (hr : s.tk.routes[i]? = some r) (hd : 1 ≤ r.destination) (hd' : r.destination ≤ 24) :
    i ∈ livePos r.destination s.resettle.tk.routes ↔ s.mayRun r ∧ (s.tk.routes.zipIdx.countP fun (x, j) =>
      decide (x.destination = r.destination ∧ s.mayRun x ∧ s.outranks x j r i)) < 4 := by
  classical
  have h := resettle_arbitrates hs
  have hmem : r.destination ∈ oneUpTo Config.stations := mem_oneUpTo.2 ⟨hd, hd'⟩
  have hfair := h.fair _ hmem
  by_cases hmay : s.mayRun r
  · have hopen : i ∈ openPos r.destination (s.tk.routes.map s.suspend) := (mem_openPos_suspended hr).2 ⟨rfl, hmay⟩
    rw [hfair.first (h.done _ hmem) hopen, and_iff_right hmay,
      countP_zipIdx fun x j => decide (x.destination = r.destination ∧ s.mayRun x ∧ s.outranks x j r i)]
    refine iff_of_eq (congrArg (fun n => n < 4) (congrArg Finset.card (Finset.ext fun j => ?_)))
    rw [Finset.mem_filter, Finset.mem_filter, Finset.mem_range, Option.any_eq_true]
    simp only [decide_eq_true_eq]
    constructor
    · rintro ⟨hj, hb⟩
      obtain ⟨v, hv, -⟩ := mem_openPos.1 hj
      obtain ⟨x, hx, -⟩ := getElem?_map_eq.1 hv
      obtain ⟨hxd, hmx⟩ := (mem_openPos_suspended hx).1 hj
      exact ⟨(List.getElem?_eq_some_iff.1 hx).1, x, hx, hxd, hmx, (before_iff_outranks hr hx hmay hmx hxd).1 hb⟩
    · rintro ⟨-, x, hx, hxd, hmx, ho⟩
      exact ⟨(mem_openPos_suspended hx).2 ⟨hxd, hmx⟩, (before_iff_outranks hr hx hmay hmx hxd).2 ho⟩
  · refine iff_of_false (fun hm => hmay ?_) fun hm => hmay hm.1
    have hopen := hfair.sub hm
    exact ((mem_openPos_suspended hr).1 hopen).2

/-- The route at a position, settled. -/
theorem resettled_at (hs : s.tk.sound) (hr : s.tk.routes[i]? = some r) (hd : 1 ≤ r.destination) (hd' : r.destination ≤ 24) :
    ∃ r', s.resettle.tk.routes[i]? = some r' ∧ r'.source = r.source ∧ r'.destination = r.destination ∧ r'.holders = r.holders ∧
      (r'.live = true ↔ s.mayRun r ∧ (s.tk.routes.zipIdx.countP fun (x, j) =>
        decide (x.destination = r.destination ∧ s.mayRun x ∧ s.outranks x j r i)) < 4) := by
  have hheld := held_at (resettle_arbitrates hs).held i
  rw [suspended_at hr] at hheld
  obtain ⟨r', hr', hfields⟩ := Option.map_eq_some_iff.1 hheld
  simp only [Route.held, Prod.mk.injEq, State.suspend_source, State.suspend_destination, State.suspend_holders] at hfields
  obtain ⟨hsrc, hdst, hhold⟩ := hfields
  refine ⟨r', hr', hsrc, hdst, hhold, ?_⟩
  rw [← slot_iff hs hr hd hd', mem_livePos]
  exact ⟨fun hl => ⟨r', hr', hdst, hl⟩, fun ⟨v, hv, _, hl⟩ => by rwa [Option.some.inj (hr'.symm.trans hv)]⟩

end first

end Sys2Proof.Machine

/-! The holders of routes (R171): what leaves them, and what a key that starts or stops talking makes of them. -/

namespace Sys2Proof.Machine

-- One theorem at a time: all at once, their threads together outgrow the memory limit of the check.
set_option Elab.async false

/-! ## What leaves the holders -/

/-- No key talks or stops, no route gains or loses a holder, and the mode stands. -/
structure Held (s t : State) : Prop where
  mode : t.mode = s.mode
  tk : s.tk.Held t.tk

namespace Held
variable {s t u : State}

theorem refl (s : State) : Held s s := ⟨rfl, rfl, rfl, rfl⟩

theorem trans (h : Held s t) (k : Held t u) : Held s u :=
  ⟨k.mode.trans h.mode, k.tk.groups.trans h.tk.groups, k.tk.stations.trans h.tk.stations, k.tk.routes.trans h.tk.routes⟩

theorem of_tk (hm : t.mode = s.mode) (h : t.tk = s.tk) : Held s t := ⟨hm, by rw [h], by rw [h], by rw [h]⟩

theorem of_quiet (h : Quiet s t) : Held s t := by
  refine ⟨h.mode, h.groups, ?_, map_of_bare h.routes fun _ => rfl⟩
  have hmap (xs : List Station) : xs.map Station.talk = (xs.map Station.bare).map Station.talk := by
    rw [List.map_map]
    exact List.map_congr_left fun _ _ => rfl
  rw [hmap t.tk.stations, hmap s.tk.stations, h.stations]

theorem of_change {wide : Reach} (hc : Change wide s t) (hk : wide.keys = false) : Held s t := by
  cases hc with
  | mode h => exact absurd (hk.symm.trans h) Bool.false_ne_true
  | tk k _ _ h => exact ⟨rfl, h.resolve_left fun h => absurd (hk.symm.trans h) Bool.false_ne_true⟩
  | issue a body i => exact .of_quiet (quiet_issue s a body i)
  | free a n f =>
    exact .of_tk (keeps_grant a n (s.modUnit a f) .mode (by decide)) (keeps_grant a n (s.modUnit a f) .tk (by decide))
  | _ => exact .of_tk rfl rfl

theorem of_moves {b : Bool} (h : Moves ⟨b, false⟩ s t) : Held s t := by
  induction h with
  | refl => exact .refl s
  | tail _ hm ih =>
    refine ih.trans ?_
    cases hm with
    | change hc => exact .of_change hc rfl
    | mp | dequeue => exact .of_tk rfl rfl
    | warm _ hk => cases hk

theorem of_acts {b : Bool} (h : Acts ⟨b, false⟩ s t) : Held s t := .of_moves h.moves

theorem station (h : Held s t) (d : Nat) : (t.station d).talk = (s.station d).talk := by
  have hslot (u : State) : (u.station d).talk = slot Station.undefined.talk (u.tk.stations.map Station.talk) d :=
    (slot_map Station.talk Station.undefined u.tk.stations d).symm
  rw [hslot, hslot, h.tk.stations]

end Held

/-! ## Holders and talking keys in what `Held` keeps -/

section counted
variable {s t : State}

/-- The holders of a pair in a table. -/
def holdersIn (rs : List Route) (a d : Nat) : Nat := ((rs.find? (Route.joins a d)).map Route.holders).getD 0

theorem holdersIn_of_held {rs rs' : List Route} (h : rs'.map Route.held = rs.map Route.held) (a d : Nat) :
    holdersIn rs' a d = holdersIn rs a d := by
  have hmap (xs : List Route) : holdersIn xs a d =
      (((xs.map Route.held).find? fun x => decide (x.1 = a) && decide (x.2.1 = d)).map fun x => x.2.2).getD 0 := by
    rw [List.find?_map, Option.map_map]
    rfl
  rw [hmap rs', hmap rs, h]

theorem covers_of_held (h : Held s t) (a : Nat) (k : Key) (d : Nat) : t.covers a k d = s.covers a k d := by
  have hkind : (t.station d).kind = (s.station d).kind := (congrArg Prod.fst (h.station d) :)
  unfold State.covers
  rw [hkind, h.tk.groups]

/-- Talking keys are counted in what the holders stand on. -/
theorem talkers_of_held (h : Held s t) (a d : Nat) : t.talkers a d = s.talkers a d := by
  have hkeys : (t.station a).keys.map (fun k => (k.number, k.target, k.state.talking)) =
      (s.station a).keys.map fun k => (k.number, k.target, k.state.talking) := (congrArg Prod.snd (h.station a) :)
  have hcount (u : State) : u.talkers a d = ((u.station a).keys.map fun k => (k.number, k.target, k.state.talking)).countP fun x =>
      x.2.2 && u.covers a { number := x.1, target := x.2.1, mode := .momentary, state := .off, pressed := false, tapDeadline := none } d := by
    rw [List.countP_map]
    rfl
  rw [hcount, hcount, hkeys]
  simp only [covers_of_held h]

theorem talking_eq_false_iff (k : KeyState) : k.talking = false ↔ k = .off := by cases k <;> simp [KeyState.talking]

theorem mem_pairs_of_held {rs rs' : List Route} (h : rs'.map Route.held = rs.map Route.held) {r : Route} (hr : r ∈ rs') :
    ∃ r' ∈ rs, r'.source = r.source ∧ r'.destination = r.destination ∧ r'.holders = r.holders := by
  have hmem : r.held ∈ rs.map Route.held := h ▸ List.mem_map_of_mem hr
  obtain ⟨r', hr', heq⟩ := List.mem_map.1 hmem
  simp only [Route.held, Prod.mk.injEq] at heq
  exact ⟨r', hr', heq.1, heq.2.1, heq.2.2⟩

theorem mem_talk_of_held (h : Held s t) {x : Station} (hx : x ∈ t.tk.stations) : ∃ y ∈ s.tk.stations, y.talk = x.talk := by
  have hmem : x.talk ∈ s.tk.stations.map Station.talk := h.tk.stations ▸ List.mem_map_of_mem hx
  obtain ⟨y, hy, heq⟩ := List.mem_map.1 hmem
  exact ⟨y, hy, heq⟩

theorem keys_of_talk {x y : Station} (h : y.talk = x.talk) :
    x.keys.map (fun k => (k.number, k.target, k.state.talking)) = y.keys.map fun k => (k.number, k.target, k.state.talking) :=
  (congrArg Prod.snd h.symm :)

theorem numbers_of_talk {x y : Station} (h : y.talk = x.talk) : x.keys.map Key.number = y.keys.map Key.number := by
  have hmap (z : Station) : z.keys.map Key.number = (z.keys.map fun k => (k.number, k.target, k.state.talking)).map Prod.fst := by
    rw [List.map_map]
    rfl
  rw [hmap x, hmap y, keys_of_talk h]

theorem off_of_talk {x y : Station} (h : y.talk = x.talk) (hy : ∀ k ∈ y.keys, k.state = .off) : ∀ k ∈ x.keys, k.state = .off := by
  intro k hk
  have hmem : (k.number, k.target, k.state.talking) ∈ y.keys.map fun k => (k.number, k.target, k.state.talking) :=
    keys_of_talk h ▸ List.mem_map_of_mem hk
  obtain ⟨k', hk', heq⟩ := List.mem_map.1 hmem
  simp only [Prod.mk.injEq] at heq
  rw [← talking_eq_false_iff, ← heq.2.2, hy k' hk']
  rfl

/-- The holders stay counted where nothing bears on them. -/
theorem holdersCounted_of_held (h : Held s t) (hs : s.holdersCounted) : t.holdersCounted := by
  obtain ⟨hcount, hpairs, hnumbers, hoff⟩ := hs
  refine ⟨fun a ha d hd => ?_, fun r hr => ?_, fun x hx => ?_, fun hm x hx => ?_⟩
  · rw [talkers_of_held h, ← hcount a ha d hd]
    exact holdersIn_of_held h.tk.routes a d
  · obtain ⟨r', hr', hsrc, hdst, -⟩ := mem_pairs_of_held h.tk.routes hr
    rw [← hsrc, ← hdst]
    exact hpairs r' hr'
  · obtain ⟨y, hy, heq⟩ := mem_talk_of_held h hx
    rw [numbers_of_talk heq]
    exact hnumbers y hy
  · obtain ⟨y, hy, heq⟩ := mem_talk_of_held h hx
    exact off_of_talk heq (hoff (h.mode.symm.trans hm) y hy)

end counted

/-! ## A key that starts or stops talking (R171) -/

section keys

theorem holdersIn_of_mem {rs : List Route} (hnodup : (rs.map fun r => (r.source, r.destination)).Nodup) {r : Route} (hr : r ∈ rs) :
    holdersIn rs r.source r.destination = r.holders := by
  unfold holdersIn
  cases hf : rs.find? (Route.joins r.source r.destination) with
  | none => exact absurd r.joins_self (List.find?_eq_none.1 hf r hr)
  | some v =>
    have hv : v = r := Route.eq_of_joins hnodup (List.mem_of_find?_eq_some hf) hr (List.find?_some hf)
    rw [hv]
    rfl

theorem holdersIn_of_not_mem {rs : List Route} {a d : Nat} (h : ∀ r ∈ rs, ¬ (r.source = a ∧ r.destination = d)) : holdersIn rs a d = 0 := by
  have hnone : rs.find? (Route.joins a d) = none := List.find?_eq_none.2 fun r hr hj => h r hr (by simpa [Route.joins] using hj)
  rw [holdersIn, hnone]
  rfl

/-- A destination that a key covers gains a holder. -/
theorem holdersIn_addHolder (s : State) (a d : Nat) (rs : List Route) (x y : Nat) :
    holdersIn (s.addHolder a rs d) x y = holdersIn rs x y + if x = a ∧ y = d then 1 else 0 := by
  unfold State.addHolder
  split
  · rename_i hany
    have hjoins : Route.joins x y ∘ (fun r => if r.joins a d then { r with holders := r.holders + 1 } else r) = Route.joins x y := by
      funext r
      show Route.joins x y (if r.joins a d then { r with holders := r.holders + 1 } else r) = _
      split_ifs <;> rfl
    unfold holdersIn
    rw [List.find?_map, hjoins]
    cases hf : rs.find? (Route.joins x y) with
    | none =>
      have hxy : ¬ (x = a ∧ y = d) := fun ⟨hx, hy⟩ => by
        obtain ⟨v, hv, hsrc, hdst⟩ := any_joins_iff.1 hany
        have hj := List.find?_eq_none.1 hf v hv
        rw [hx, hy, ← hsrc, ← hdst] at hj
        exact hj v.joins_self
      rw [if_neg hxy]
      rfl
    | some v =>
      have hv : v.source = x ∧ v.destination = y := by simpa [Route.joins] using List.find?_some hf
      have hjoin : v.joins a d = true ↔ x = a ∧ y = d := by rw [← hv.1, ← hv.2]; simp [Route.joins]
      simp only [Option.map_some, Option.getD_some]
      by_cases hxy : x = a ∧ y = d
      · rw [if_pos (hjoin.2 hxy), if_pos hxy]
      · rw [if_neg fun h => hxy (hjoin.1 h), if_neg hxy]
        rfl
  · rename_i hnone
    unfold holdersIn
    rw [List.find?_append]
    cases hf : rs.find? (Route.joins x y) with
    | none =>
      by_cases hxy : x = a ∧ y = d
      · obtain ⟨rfl, rfl⟩ := hxy
        simp [Route.joins]
      · rw [if_neg hxy]
        have hj : (s.newRoute a d).joins x y = false := by simp [Route.joins]; tauto
        simp [hj]
    | some v =>
      have hv : v.source = x ∧ v.destination = y := by simpa [Route.joins] using List.find?_some hf
      have hxy : ¬ (x = a ∧ y = d) := fun ⟨hx, hy⟩ =>
        hnone (any_joins_iff.2 ⟨v, List.mem_of_find?_eq_some hf, hv.1.trans hx, hv.2.trans hy⟩)
      rw [if_neg hxy]
      rfl

theorem holdersIn_addHolders (s : State) (a : Nat) {ds : List Nat} (hds : ds.Nodup) (x y : Nat) :
    holdersIn (s.addHolders a ds) x y = holdersIn s.tk.routes x y + if x = a ∧ y ∈ ds then 1 else 0 := by
  rw [State.addHolders_eq]
  generalize s.tk.routes = rs
  induction ds generalizing rs with
  | nil => simp
  | cons d ds ih =>
    obtain ⟨hd, hds⟩ := List.nodup_cons.1 hds
    rw [List.foldl_cons, ih hds, holdersIn_addHolder]
    by_cases hx : x = a
    · by_cases hy : y = d
      · subst hy
        simp [hx, hd]
      · simp [hx, hy]
    · simp [hx]

/-- A route after a key of `a` that covers `ds` stops talking (R171). -/
def Route.dropHolder (a : Nat) (ds : List Nat) (r : Route) : Route :=
  if decide (r.source = a) && ds.contains r.destination then { r with holders := r.holders - 1 } else r

theorem mem_dropHolders {a : Nat} {ds : List Nat} {rs : List Route} {r' : Route} :
    r' ∈ dropHolders a ds rs ↔ ∃ r ∈ rs, r.dropHolder a ds = r' ∧ r'.holders ≠ 0 := by
  show r' ∈ (rs.map (Route.dropHolder a ds)).filter (fun r => decide (r.holders ≠ 0)) ↔ _
  rw [List.mem_filter, List.mem_map, decide_eq_true_eq]
  exact ⟨fun ⟨⟨r, hr, heq⟩, hne⟩ => ⟨r, hr, heq, hne⟩, fun ⟨r, hr, heq, hne⟩ => ⟨⟨r, hr, heq⟩, hne⟩⟩

theorem dropHolder_fields (a : Nat) (ds : List Nat) (r : Route) : (r.dropHolder a ds).source = r.source ∧
    (r.dropHolder a ds).destination = r.destination ∧
      (r.dropHolder a ds).holders = r.holders - if r.source = a ∧ r.destination ∈ ds then 1 else 0 := by
  have hcond : (decide (r.source = a) && ds.contains r.destination) = true ↔ r.source = a ∧ r.destination ∈ ds := by simp
  unfold Route.dropHolder
  by_cases h : r.source = a ∧ r.destination ∈ ds
  · rw [if_pos (hcond.2 h), if_pos h]
    exact ⟨rfl, rfl, rfl⟩
  · rw [if_neg fun h' => h (hcond.1 h'), if_neg h]
    exact ⟨rfl, rfl, rfl⟩

/-- A destination that a key covers loses a holder. -/
theorem holdersIn_dropHolders {k : Tk} (hk : k.sound) (a : Nat) (ds : List Nat) (x y : Nat) :
    holdersIn (dropHolders a ds k.routes) x y = holdersIn k.routes x y - if x = a ∧ y ∈ ds then 1 else 0 := by
  have hnodup' := (Tk.sound_dropHolders a ds hk).2.1
  by_cases hin : ∃ r ∈ k.routes, r.source = x ∧ r.destination = y
  · obtain ⟨r, hr, rfl, rfl⟩ := hin
    rw [holdersIn_of_mem hk.2.1 hr]
    obtain ⟨hsrc, hdst, hhold⟩ := dropHolder_fields a ds r
    by_cases hzero : r.holders - (if r.source = a ∧ r.destination ∈ ds then 1 else 0) = 0
    · rw [hzero]
      refine holdersIn_of_not_mem fun r' hr' ⟨hs, hd⟩ => ?_
      obtain ⟨v, hv, rfl, hne⟩ := mem_dropHolders.1 hr'
      obtain ⟨hsrc', hdst', -⟩ := dropHolder_fields a ds v
      have hvr : v = r := List.inj_on_of_nodup_map hk.2.1 hv hr (Prod.ext (hsrc'.symm.trans hs) (hdst'.symm.trans hd))
      exact hne (hvr ▸ hhold.trans hzero)
    · have := holdersIn_of_mem hnodup' (mem_dropHolders.2 ⟨r, hr, rfl, fun h => hzero (hhold.symm.trans h)⟩)
      rwa [hsrc, hdst, hhold] at this
  · rw [holdersIn_of_not_mem fun r hr h => hin ⟨r, hr, h⟩, Nat.zero_sub]
    refine holdersIn_of_not_mem fun r' hr' ⟨hs, hd⟩ => ?_
    obtain ⟨v, hv, rfl, -⟩ := mem_dropHolders.1 hr'
    obtain ⟨hsrc', hdst', -⟩ := dropHolder_fields a ds v
    exact hin ⟨v, hv, hsrc'.symm.trans hs, hdst'.symm.trans hd⟩

/-- A count after the one item of a number is changed. -/
theorem countP_setNumber {P Q : Key → Bool} {f : Key → Key} {ks : List Key} (hnodup : (ks.map Key.number).Nodup) {k : Key} (hk : k ∈ ks)
    (hother : ∀ x ∈ ks, x.number ≠ k.number → Q x = P x) :
    (ks.map fun x => if x.number = k.number then f x else x).countP Q + (P k).toNat = ks.countP P + (Q (f k)).toNat := by
  have toNat_ite (b : Bool) : (if b = true then 1 else 0) = b.toNat := by cases b <;> rfl
  induction ks with
  | nil => exact absurd hk List.not_mem_nil
  | cons y ys ih =>
    rw [List.map_cons, List.nodup_cons] at hnodup
    obtain ⟨hy, hys⟩ := hnodup
    rw [List.map_cons, List.countP_cons, List.countP_cons, toNat_ite, toNat_ite]
    obtain rfl | hk := List.mem_cons.1 hk
    · have hrest : (ys.map fun x => if x.number = k.number then f x else x).countP Q = ys.countP P := by
        rw [List.countP_map]
        refine List.countP_congr fun x hx => ?_
        have hne : x.number ≠ k.number := fun he => hy (he ▸ List.mem_map_of_mem hx)
        show Q (if x.number = k.number then f x else x) = true ↔ _
        rw [if_neg hne, hother x (List.mem_cons_of_mem _ hx) hne]
      rw [hrest, if_pos rfl]
      omega
    · have hne : y.number ≠ k.number := fun he => hy (he ▸ List.mem_map_of_mem hk)
      have := ih hys hk fun x hx => hother x (List.mem_cons_of_mem _ hx)
      rw [if_neg hne, hother y List.mem_cons_self hne]
      omega

theorem station_in_table {s : State} {t : Nat} {k : Key} (hk : k ∈ (s.station t).keys) : 1 ≤ t ∧ t ≤ s.tk.stations.length := by
  cases t with
  | zero => exact absurd hk List.not_mem_nil
  | succ n =>
    refine ⟨Nat.succ_pos n, Nat.succ_le_of_lt (Nat.lt_of_not_le fun hle => ?_)⟩
    have hnone : s.station (n + 1) = Station.undefined := List.getD_eq_default _ _ hle
    rw [hnone] at hk
    exact absurd hk List.not_mem_nil

/-- A key's coverage depends on its target alone, and on no key. -/
theorem covers_congr {s u : State} {t : Nat} {k k' : Key} (hk : k'.target = k.target) (hgr : u.tk.groups = s.tk.groups)
    (hst : ∀ d, (u.station d).kind = (s.station d).kind) (d : Nat) : u.covers t k' d = s.covers t k d := by
  unfold State.covers
  rw [hst, hk, hgr]

theorem kind_setKey (t n : Nat) (f : Key → Key) (s : State) (d : Nat) : ((setKey t n f s).station d).kind = (s.station d).kind :=
  slot_modSlot_field Station.kind _ _ _ _ _ fun _ => rfl

theorem keys_setKey_self {s : State} {t : Nat} (n : Nat) (f : Key → Key) (ht : 1 ≤ t) (ht' : t ≤ s.tk.stations.length) :
    ((setKey t n f s).station t).keys = (s.station t).keys.map fun k => if k.number = n then f k else k :=
  congrArg Station.keys (slot_modSlot_self Station.undefined
    (fun x => { x with keys := x.keys.map fun k => if k.number = n then f k else k }) _ ht ht')

theorem station_setKey_other {s : State} {t d : Nat} (n : Nat) (f : Key → Key) (h : d ≠ t) : (setKey t n f s).station d = s.station d :=
  slot_modSlot_other _ _ _ h.symm

/-- A change of one key: its pairs have one talking key more or less. -/
theorem talkers_setKey {s u : State} {t : Nat} {k : Key} {f : Key → Key} (hnodup : ((s.station t).keys.map Key.number).Nodup)
    (hk : k ∈ (s.station t).keys) (hf : (f k).target = k.target) (hst : ∀ d, u.station d = (setKey t k.number f s).station d)
    (hgr : u.tk.groups = s.tk.groups) (a d : Nat) :
    u.talkers a d + (if a = t ∧ s.covers t k d = true then k.state.talking.toNat else 0) =
      s.talkers a d + if a = t ∧ s.covers t k d = true then (f k).state.talking.toNat else 0 := by
  have hcov (k : Key) : u.covers a k d = s.covers a k d :=
    covers_congr rfl hgr (fun d => (congrArg Station.kind (hst d)).trans (kind_setKey _ _ _ _ _)) d
  have htalk : u.talkers a d = ((setKey t k.number f s).station a).keys.countP fun k => k.state.talking && s.covers a k d := by
    rw [State.talkers, hst]
    exact List.countP_congr fun k _ => by rw [hcov]
  rw [htalk]
  by_cases ha : a = t
  · subst ha
    obtain ⟨ht, ht'⟩ := station_in_table hk
    have hterm (x : Key) (hx : x.target = k.target) : (x.state.talking && s.covers a x d).toNat =
        if a = a ∧ s.covers a k d = true then x.state.talking.toNat else 0 := by
      rw [covers_congr (u := s) (s := s) hx rfl (fun _ => rfl)]
      cases s.covers a k d <;> simp
    have hcount := countP_setNumber (P := fun k => k.state.talking && s.covers a k d) (Q := fun k => k.state.talking && s.covers a k d)
      (f := f) hnodup hk fun _ _ _ => rfl
    rw [keys_setKey_self _ _ ht ht', State.talkers]
    rw [hterm k rfl, hterm (f k) hf] at hcount
    exact hcount
  · rw [station_setKey_other _ _ ha, if_neg fun h => ha h.1, if_neg fun h => ha h.1]
    rfl

end keys

/-! ## Key events (R166 to R168) -/

/-- The talk tables are sound, and the holders are counted. -/
structure Counted (s : State) : Prop where
  sound : s.tk.sound
  stations : s.tk.stations.length = Config.stations
  holders : s.holdersCounted

section events
variable {s t u : State}

theorem Held.length (h : Held s t) : t.tk.stations.length = s.tk.stations.length := by
  simpa using congrArg List.length h.tk.stations

theorem Counted.acts {b : Bool} (hs : Counted s) (h : Acts ⟨b, false⟩ s t) : Counted t :=
  ⟨sound_of_acts h hs.sound, (Held.of_acts h).length.trans hs.stations, holdersCounted_of_held (.of_acts h) hs.holders⟩

theorem Counted.nodup (hs : Counted s) (t : Nat) : ((s.station t).keys.map Key.number).Nodup := by
  obtain ⟨-, -, hnumbers, -⟩ := hs.holders
  cases t with
  | zero => exact List.nodup_nil
  | succ n =>
    show ((s.tk.stations.getD n Station.undefined).keys.map Key.number).Nodup
    rw [List.getD_eq_getElem?_getD]
    cases hn : s.tk.stations[n]? with
    | none => exact List.nodup_nil
    | some x => exact hnumbers x (List.mem_of_getElem? hn)

/-- A key changes, and the holders of its pairs with it. -/
theorem holdersCounted_setKey {x : Nat} {k : Key} {f : Key → Key} (hs : Counted s) (hk : k ∈ (s.station x).keys)
    (hf : ∀ k, (f k).number = k.number ∧ (f k).target = k.target) (hm : u.mode ≠ .standby)
    (hst : u.tk.stations = (setKey x k.number f s).tk.stations) (hgr : u.tk.groups = s.tk.groups)
    (hcount : ∀ a d, d ∈ oneUpTo Config.stations →
      holdersIn u.tk.routes a d + (if a = x ∧ s.covers x k d = true then k.state.talking.toNat else 0) =
        holdersIn s.tk.routes a d + if a = x ∧ s.covers x k d = true then (f k).state.talking.toNat else 0)
    (hpairs : ∀ r ∈ u.tk.routes, (∃ r' ∈ s.tk.routes, r'.source = r.source ∧ r'.destination = r.destination) ∨
      r.source = x ∧ r.destination ∈ oneUpTo Config.stations) : u.holdersCounted := by
  obtain ⟨hholders, hold, hnumbers, -⟩ := hs.holders
  refine ⟨fun a ha d hd => ?_, fun r hr => ?_, fun y hy => ?_, fun h => absurd h hm⟩
  · have htalk := talkers_setKey (u := u) (hs.nodup x) hk (hf k).2 (fun d => by rw [State.station, hst]; rfl) hgr a d
    have hbefore : holdersIn s.tk.routes a d = s.talkers a d := hholders a ha d hd
    have hafter := hcount a d hd
    show holdersIn u.tk.routes a d = _
    omega
  · obtain ⟨r', hr', hsrc, hdst⟩ | ⟨hsrc, hdst⟩ := hpairs r hr
    · rw [← hsrc, ← hdst]
      exact hold r' hr'
    · obtain ⟨hx, hx'⟩ := station_in_table hk
      exact ⟨by rw [hsrc]; exact mem_oneUpTo.2 ⟨hx, hx'.trans_eq hs.stations⟩, hdst⟩
  · rw [hst] at hy
    obtain hy | ⟨z, hz, rfl⟩ := mem_modSlot hy
    · exact hnumbers y hy
    · have hsame : (z.keys.map fun k' => if k'.number = k.number then f k' else k').map Key.number = z.keys.map Key.number := by
        rw [List.map_map]
        refine List.map_congr_left fun k' _ => ?_
        show (if k'.number = k.number then f k' else k').number = _
        split_ifs
        · exact (hf k').1
        · rfl
      rw [hsame]
      exact hnumbers z hz

theorem mem_covered {x d : Nat} {k : Key} : d ∈ s.covered x k ↔ d ∈ oneUpTo Config.stations ∧ s.covers x k d = true := by
  rw [State.covered, List.mem_filter]

theorem covered_nodup (s : State) (x : Nat) (k : Key) : (s.covered x k).Nodup :=
  List.Nodup.filter _ (by decide : (oneUpTo Config.stations).Nodup)

/-- A new route joins the source and a destination that the key covers. -/
theorem mem_addHolders (s : State) (a : Nat) (ds : List Nat) {r : Route} (h : r ∈ s.addHolders a ds) :
    (∃ r' ∈ s.tk.routes, r'.source = r.source ∧ r'.destination = r.destination) ∨ r.source = a ∧ r.destination ∈ ds := by
  rw [State.addHolders_eq] at h
  generalize s.tk.routes = rs at h ⊢
  induction ds generalizing rs with
  | nil => exact .inl ⟨r, h, rfl, rfl⟩
  | cons d ds ih =>
    obtain ⟨r', hr', hsrc, hdst⟩ | ⟨hsrc, hdst⟩ := ih _ h
    · unfold State.addHolder at hr'
      split at hr'
      · obtain ⟨v, hv, rfl⟩ := List.mem_map.1 hr'
        refine .inl ⟨v, hv, ?_, ?_⟩
        · rw [← hsrc]; split_ifs <;> rfl
        · rw [← hdst]; split_ifs <;> rfl
      · obtain hr' | hr' := List.mem_append.1 hr'
        · exact .inl ⟨r', hr', hsrc, hdst⟩
        · rw [List.mem_singleton.1 hr', State.newRoute_source] at hsrc
          rw [List.mem_singleton.1 hr', State.newRoute_destination] at hdst
          exact .inr ⟨hsrc.symm, hdst ▸ List.mem_cons_self⟩
    · exact .inr ⟨hsrc, List.mem_cons_of_mem _ hdst⟩

/-- A key as a command found it, before it was pressed or released. -/
structure Key.Same (k k' : Key) : Prop where
  number : k'.number = k.number
  target : k'.target = k.target
  state : k'.state = k.state

theorem covered_of_same {x : Nat} {k k' : Key} (h : k.Same k') : s.covered x k' = s.covered x k :=
  List.filter_congr fun d _ => covers_congr h.target rfl (fun _ => rfl) d

theorem counted_startTalking {x : Nat} {k k' : Key} {new : KeyState} (tap : Option FrameNo) (hs : Counted s) (hm : s.mode ≠ .standby)
    (hk : k' ∈ (s.station x).keys) (hsame : k.Same k') (hoff : k.state = .off) (hnew : new.talking = true) :
    Counted (startTalking x k new tap s) := by
  have hall : Acts .full s (startTalking x k new tap s) := acts_startTalking rfl x k new tap s
  have hsound := sound_of_acts hall hs.sound
  revert hsound
  unfold startTalking
  dsimp only
  split
  · exact fun _ => hs.acts (b := true) ((acts_modStation s x _).trans (acts_raise _ _ _))
  · intro hsound
    refine ⟨hsound, (modSlot_length _ _ _).trans hs.stations, ?_⟩
    refine holdersCounted_setKey (f := fun k => { k with state := new, tapDeadline := tap }) hs hk (fun _ => ⟨rfl, rfl⟩) hm
      (by rw [hsame.number]; rfl) rfl (fun a d hd => ?_) fun r hr => ?_
    · show holdersIn (s.addHolders x (s.covered x k)) a d + _ = _
      have hcov : (a = x ∧ d ∈ s.covered x k) ↔ (a = x ∧ s.covers x k' d = true) := by
        rw [← covered_of_same hsame, mem_covered, and_iff_right hd]
      have hcase := if_congr hcov (Eq.refl (1 : Nat)) (Eq.refl (0 : Nat))
      rw [holdersIn_addHolders s x (covered_nodup s x k), hcase, hsame.state, hoff, hnew]
      simp [KeyState.talking]
    · refine (mem_addHolders s x _ hr).imp id fun ⟨hsrc, hdst⟩ => ⟨hsrc, (mem_covered.1 hdst).1⟩

theorem counted_stopTalking {x : Nat} {k k' : Key} (hs : Counted s) (hm : s.mode ≠ .standby)
    (hk : k' ∈ (s.station x).keys) (hsame : k.Same k') (hon : k.state.talking = true) : Counted (stopTalking x k s) := by
  have hall : Acts .full s (stopTalking x k s) := acts_stopTalking rfl x k s
  refine ⟨sound_of_acts hall hs.sound, (modSlot_length _ _ _).trans hs.stations, ?_⟩
  refine holdersCounted_setKey (f := fun k => { k with state := .off, tapDeadline := none }) hs hk (fun _ => ⟨rfl, rfl⟩) hm
    (by rw [hsame.number]; rfl) rfl (fun a d hd => ?_) fun r hr => ?_
  · have htalks : a = x → s.covers x k' d = true → 1 ≤ holdersIn s.tk.routes a d := fun ha hc => by
      obtain ⟨hx, hx'⟩ := station_in_table hk
      have hcount : holdersIn s.tk.routes a d = s.talkers a d :=
        hs.holders.1 a (ha ▸ mem_oneUpTo.2 ⟨hx, hx'.trans_eq hs.stations⟩) d hd
      rw [hcount, ha]
      exact List.countP_pos_iff.2 ⟨k', hk, by rw [hsame.state, hon, hc]; rfl⟩
    show holdersIn (dropHolders x (s.covered x k) s.tk.routes) a d + _ = _
    have hcov : (a = x ∧ d ∈ s.covered x k) ↔ (a = x ∧ s.covers x k' d = true) := by
      rw [← covered_of_same hsame, mem_covered, and_iff_right hd]
    rw [holdersIn_dropHolders hs.sound, if_congr hcov (Eq.refl (1 : Nat)) (Eq.refl (0 : Nat)), hsame.state, hon]
    by_cases hcase : a = x ∧ s.covers x k' d = true
    · have := htalks hcase.1 hcase.2
      rw [if_pos hcase, if_pos hcase, if_pos hcase]
      show holdersIn s.tk.routes a d - 1 + 1 = holdersIn s.tk.routes a d + 0
      omega
    · rw [if_neg hcase, if_neg hcase, if_neg hcase]
      rfl
  · obtain ⟨v, hv, hveq, -⟩ := mem_dropHolders.1 (show r ∈ dropHolders x (s.covered x k) s.tk.routes from hr)
    obtain ⟨hsrc, hdst, -⟩ := dropHolder_fields x (s.covered x k) v
    rw [hveq] at hsrc hdst
    exact .inl ⟨v, hv, hsrc.symm, hdst.symm⟩

/-- A key that talks and goes on talking. -/
theorem counted_latch {x : Nat} {k k' : Key} (hs : Counted s) (hm : s.mode ≠ .standby)
    (hk : k' ∈ (s.station x).keys) (hsame : k.Same k') (hon : k.state = .tapping) :
    Counted (setKey x k.number (fun k => { k with state := .latched, tapDeadline := none }) s) := by
  refine ⟨sound_of_acts (acts_setKey (wide := .full) rfl _ _ _ s) hs.sound, (modSlot_length _ _ _).trans hs.stations, ?_⟩
  refine holdersCounted_setKey (f := fun k => { k with state := .latched, tapDeadline := none }) hs hk (fun _ => ⟨rfl, rfl⟩) hm
    (by rw [hsame.number]) rfl (fun a d _ => ?_) fun r hr => .inl ⟨r, hr, rfl, rfl⟩
  rw [hsame.state, hon]
  rfl

theorem counted_keyActs {x : Nat} {k k' : Key} (down : Bool) (hs : Counted s) (hm : s.mode ≠ .standby)
    (hk : k' ∈ (s.station x).keys) (hsame : k.Same k') : Counted (keyActs x k down s) := by
  unfold keyActs
  split
  case h_1 _ _ hst => exact counted_startTalking _ hs hm hk hsame hst rfl
  case h_2 _ _ hst => exact counted_stopTalking hs hm hk hsame (by rw [hst]; rfl)
  case h_3 _ _ hst => exact counted_startTalking _ hs hm hk hsame hst rfl
  case h_4 _ _ hst => exact counted_stopTalking hs hm hk hsame (by rw [hst]; rfl)
  case h_5 _ _ hst => exact counted_startTalking _ hs hm hk hsame hst rfl
  case h_6 _ _ hst => exact counted_stopTalking hs hm hk hsame (by rw [hst]; rfl)
  case h_7 _ _ hst => exact counted_latch hs hm hk hsame hst
  case h_8 _ _ hst => exact counted_stopTalking hs hm hk hsame (by rw [hst]; rfl)
  case h_9 => exact hs.acts (b := true) (.foldl _ (fun s d => acts_startPulse _ d s) _ _)
  case h_10 => exact hs

theorem key_mem {x : Station} {n : Nat} {k : Key} (h : x.key n = some k) : k ∈ x.keys ∧ k.number = n :=
  ⟨List.mem_of_find?_eq_some h, of_decide_eq_true (List.find?_some (p := fun k : Key => decide (k.number = n)) h)⟩

theorem counted_pressKey (x n : Nat) (down : Bool) (hs : Counted s) (hm : s.mode ≠ .standby) : Counted (pressKey x n down s) := by
  unfold pressKey
  split
  · exact hs
  · rename_i k hkey
    split
    · exact hs
    · obtain ⟨hk, hn⟩ := key_mem hkey
      obtain ⟨hx, hx'⟩ := station_in_table hk
      have hpressed : Counted (setKey x n (fun k => { k with pressed := down }) s) :=
        hs.acts (b := true) (acts_setKeyQuietly _ _ _ s fun _ => ⟨rfl, rfl, rfl⟩)
      refine counted_keyActs (k' := { k with pressed := down }) down hpressed hm ?_ ⟨rfl, rfl, rfl⟩
      rw [keys_setKey_self _ _ hx hx']
      exact List.mem_map.2 ⟨k, hk, if_pos hn⟩

end events

end Sys2Proof.Machine

/-! Every command leaves the Talk Router at rest and its holders counted (O12). -/

namespace Sys2Proof.Machine

-- One theorem at a time: all at once, their threads together outgrow the memory limit of the check.
set_option Elab.async false

/-! ## The shape of a request -/

/-- The parts of the state that the Talk Router's rest does not stand on. -/
def deskParts : List Part :=
  [.ftb, .bands, .sweepFlags, .rescues, .tallies, .pe, .plan, .units, .orderIds, .bus, .tr, .lamps, .lampZones, .mp, .notices,
   .owed, .pending]

section request
variable {α : Type} {P : State → Prop} {code : Nat} {read : List Byte → Option α} {act : α → State → Answered}
  {rest : State → State → State} {s t : State}

/-- A property kept by what the Talk Router does not stand on. -/
def Firm (P : State → Prop) : Prop := ∀ s t, KeepsBut deskParts s t → P s → P t

/-- A request that its owner may refuse, and what follows one that is carried out. -/
theorem request_firm (hP : Firm P) (hs : P (settleOwed s)) (hact : ∀ bs a u, read bs = some a → P u → P (act a u).1)
    (hrest : ∀ s0 s1, P s1 → P (rest s0 s1)) (h : request code read act rest s = .next t) : P t := by
  unfold request at h
  dsimp only at h
  split at h
  · cases h
    exact hs
  · rename_i f _
    cases h
    have hdrop : P (dropHead (settleOwed s)) := hP _ _ ((keeps_dropHead _).mono (by decide)) hs
    have hanswer : P (answer f read act (dropHead (settleOwed s))).1 := by
      unfold answer
      split
      · exact hdrop
      · exact hact f.payload _ _ ‹_› hdrop
    have hput : P (putReply f (answer f read act (dropHead (settleOwed s))).2 (answer f read act (dropHead (settleOwed s))).1) :=
      hP _ _ ((keeps_putReply _ _ _).mono (by decide)) hanswer
    split_ifs
    · exact hrest _ _ hput
    · exact hP _ _ ((keeps_kick _).mono (by decide)) hput

/-- An answer that is carried out, or has changed nothing (R190). -/
def Tidy (s : State) (r : Answered) : Prop := carriedOut r.2 = true ∨ r.1 = s

namespace Tidy
variable {r r' : Answered}
theorem refuse (c : Result) : Tidy s (refuse c s) := .inr rfl
theorem ok {body : List Byte} : Tidy s (okWith body t) := .inl rfl
theorem ite {c : Prop} [Decidable c] (h : Tidy s r) (k : Tidy s r') : Tidy s (if c then r else r') := by
  split
  · exact h
  · exact k
theorem check {c : Prop} [Decidable c] {code : Result} (k : Tidy s r') : Tidy s (if c then Machine.refuse code s else r') :=
  .ite (.refuse code) k
end Tidy

/-- A request whose event the Talk Router ends. -/
theorem request_ends (hP : Firm P) (hs : P (settleOwed s)) (hact : ∀ a u, Tidy u (act a u))
    (hrest : ∀ a u u', P u → KeepsBut [.mp] (act a u).1 u' → P (rest (settleOwed s) u'))
    (h : request code read act rest s = .next t) : P t := by
  unfold request at h
  dsimp only at h
  split at h
  · cases h
    exact hs
  · rename_i f _
    cases h
    have hdrop : P (dropHead (settleOwed s)) := hP _ _ ((keeps_dropHead _).mono (by decide)) hs
    unfold answer
    split
    · exact hP _ _ (((keeps_putReply _ _ _).mono (by decide)).trans ((keeps_kick _).mono (by decide))) hdrop
    · rename_i a _
      split_ifs with hcarried
      · exact hrest a _ _ hdrop (keeps_putReply _ _ _)
      · refine hP _ _ (((keeps_putReply _ _ _).mono (by decide)).trans ((keeps_kick _).mono (by decide))) ?_
        rw [(hact a _).resolve_left hcarried]
        exact hdrop

end request

/-! ## The Talk Router between events -/

/-- The route table is sound and at rest, and empty in STANDBY. -/
structure Talks (s : State) : Prop where
  sound : s.tk.sound
  rest : s.AtRest
  standby : s.mode = .standby → s.tk.routes = []

section talks
variable {s t u : State}

theorem talks_iff : Talks s ↔ s.routesSound ∧ s.routesMayTalk ∧ s.talkSettled := by
  constructor
  · exact fun h => ⟨h.sound, ⟨h.standby, fun r hr hl => mayTalk_of_atRest h.rest hr hl⟩, h.rest.talkSettled⟩
  · exact fun ⟨hs, hmay, hset⟩ => ⟨hs, atRest_of_talkSettled hs hset, hmay.1⟩

theorem firm_talks : Firm Talks := fun s t h hs =>
  ⟨by rw [h .tk (by decide)]; exact hs.sound, atRest_of_keeps hs.rest h (by decide) (by decide),
    fun hm => by rw [h .tk (by decide)]; exact hs.standby ((h .mode (by decide)).symm.trans hm)⟩

theorem Talks.keeps {ps : List Part} (hs : Talks s) (h : KeepsBut ps s t) (hps : ps ⊆ deskParts) : Talks t :=
  firm_talks s t (h.mono hps) hs

theorem nil_of_held (h : Held s t) (hs : s.tk.routes = []) : t.tk.routes = [] := by
  have := h.tk.routes
  rw [hs] at this
  exact List.map_eq_nil_iff.1 this

theorem Talks.of_held (hs : Talks s) (h : Held s t) (hsound : t.tk.sound) (hrest : t.AtRest) : Talks t :=
  ⟨hsound, hrest, fun hm => nil_of_held h (hs.standby (h.mode.symm.trans hm))⟩

/-- The end of an event. -/
theorem Talks.ended {b : Bool} (hs : Talks s) (asked : Option Nat) (s0 : State) (h : Acts ⟨b, false⟩ s u) :
    Talks (finishKey asked s0 u) := by
  have hsound := sound_of_acts h hs.sound
  have hend : Acts ⟨b, false⟩ s (tkAfterFor asked s0 u) := h.trans (acts_tkAfterFor asked s0 u)
  have htalks : Talks (tkAfterFor asked s0 u) :=
    hs.of_held (.of_acts hend) (sound_of_acts hend hs.sound) (atRest_tkAfterFor asked s0 hsound)
  exact htalks.keeps (keeps_after _) (by decide)

theorem atRest_of_nil (h : s.tk.routes = []) : s.AtRest :=
  ⟨fun r hr => absurd (h ▸ hr) List.not_mem_nil, fun d _ => by rw [h]; rfl⟩

theorem talks_of_nil (hsound : s.tk.sound) (h : s.tk.routes = []) : Talks s := ⟨hsound, atRest_of_nil h, fun _ => h⟩

/-! ### The steps of a boundary -/

theorem Talks.takeOwed (hs : Talks s) (o : Owed) : Talks (takeOwed o s) := by
  unfold Machine.takeOwed
  split
  · exact hs.ended (b := true) none s ((acts_owed _ s).trans (acts_owedStep o _))
  · exact hs

theorem Talks.takeSome (hs : Talks s) (xs : List Owed) : Talks (takeSome xs s) := by
  unfold Machine.takeSome
  induction xs generalizing s with
  | nil => exact hs
  | cons o xs ih => exact ih (hs.takeOwed o)

theorem Talks.settleOwed (hs : Talks s) : Talks (settleOwed s) := (hs.takeSome s.owed).keeps (keeps_owed _ _) (by decide)

theorem Talks.event {act : State → State} (hs : Talks s) (hact : ∀ u, Talks u → Talks (act u)) (h : event act s = .next t) : Talks t := by
  cases h
  exact hact _ hs.settleOwed

/-! ### The boundary and the timebase -/

theorem Link.count_state (k : Link) : k.count.state = k.state := by
  unfold Link.count
  dsimp only
  split_ifs <;> rfl

theorem Talks.countLinks (hs : Talks s) : Talks (countLinks s) := by
  have hstate (l : Nat) : ((Machine.countLinks s).link l).state = (s.link l).state := by
    cases l with
    | zero => rfl
    | succ n =>
      show ((s.links.map Link.count).getD n Link.vacant).state = (s.links.getD n Link.vacant).state
      rw [List.getD_eq_getElem?_getD, List.getD_eq_getElem?_getD, List.getElem?_map]
      cases s.links[n]? with
      | none => rfl
      | some k => exact k.count_state
  exact ⟨hs.sound, hs.rest.same rfl (sameReasons_of_parts rfl hstate), hs.standby⟩

theorem Talks.presentNow (hs : Talks s) (tkFirst : Bool) (h : Acts ⟨true, false⟩ s u) : Talks (presentNow tkFirst u) := by
  have hend (s0 : State) {v : State} (hv : Acts ⟨true, false⟩ s v) : Talks (tkAfter s0 v) :=
    hs.of_held (.of_acts (hv.trans (acts_tkAfter s0 v))) (sound_of_acts (hv.trans (acts_tkAfter s0 v)) hs.sound)
      (atRest_tkAfterFor none s0 (sound_of_acts hv hs.sound))
  unfold Machine.presentNow
  split
  · exact (hend u ((h.trans (acts_presentZones u)).trans (acts_endPulses _))).keeps (keeps_frameStep _) (by decide)
  · exact hend _ ((h.trans (acts_frameStep u)).trans (acts_presentZones _))

theorem Talks.boundaryAt (hs : Talks s) (t : Nat) (tkFirst : Bool) : Talks (boundaryAt t tkFirst s) := by
  unfold Machine.boundaryAt
  cases s.mode with
  | standby => exact (hs.keeps (keeps_beginFrameAt t s) (by decide)).keeps (keeps_owed _ _) (by decide)
  | run =>
    have hrun : Talks (runBoundary tkFirst (beginFrameAt t s)) :=
      (hs.presentNow tkFirst ((acts_beginFrameAt t s).trans (acts_resolveNow _))).countLinks
    exact hrun.keeps (keeps_owed _ _) (by decide)

theorem Talks.modFtb (hs : Talks s) (f : Ftb → Ftb) : Talks (s.modFtb f) := hs.keeps (keeps_modFtb s f) (by decide)

theorem Talks.raise (hs : Talks s) (c : Cause) (o : Nat) : Talks (raise c o s) := hs.keeps (keeps_raise s c o) (by decide)

theorem Talks.ite {c : Prop} [Decidable c] (h : Talks s) (k : Talks t) : Talks (if c then s else t) := by
  split
  · exact h
  · exact k

theorem Talks.repace (hs : Talks s) (pace t : Nat) (tkFirst : Bool) : Talks (repace pace t tkFirst s) :=
  .ite ((hs.modFtb _).boundaryAt _ _) (hs.modFtb _)

theorem Talks.timerDue (hs : Talks s) (tkFirst : Bool) : Talks (timerDue tkFirst s) := by
  unfold Machine.timerDue
  cases s.ftb.nextInternal with
  | none => exact hs
  | some due =>
    dsimp only
    cases s.ftb.refState with
    | locked => exact .ite ((hs.modFtb _).boundaryAt _ _) (hs.modFtb _)
    | absent | locking | holdover => exact (hs.modFtb _).boundaryAt _ _

theorem Talks.inHoldover (hs : Talks s) : Talks (inHoldover s) := (hs.modFtb _).raise _ _

theorem Talks.enterLocking (hs : Talks s) : Talks (enterLocking s) := (hs.modFtb _).raise _ _

theorem Talks.pulseInLocking (hs : Talks s) (period : Option Nat) : Talks (pulseInLocking period s) := by
  unfold Machine.pulseInLocking
  split
  · exact hs
  · exact .ite (.ite (((hs.modFtb _).modFtb _).raise _ _) (hs.modFtb _)) (hs.modFtb _)

theorem Talks.pulseInLocked (hs : Talks s) (t : Nat) (period : Option Nat) (tkFirst : Bool) : Talks (pulseInLocked t period tkFirst s) := by
  unfold Machine.pulseInLocked
  split
  · exact (hs.modFtb _).boundaryAt _ _
  · exact hs.inHoldover.repace _ _ _

theorem Talks.pulseAt (hs : Talks s) (t : Nat) (tkFirst : Bool) : Talks (pulseAt t tkFirst s) := by
  have hrec : Talks (s.modFtb (Ftb.recordPulse t)) := hs.modFtb _
  unfold Machine.pulseAt
  dsimp only
  cases s.ftb.refState with
  | absent => exact hrec.enterLocking
  | holdover => exact hrec.enterLocking.repace _ _ _
  | locking => exact hrec.pulseInLocking _
  | locked => exact hrec.pulseInLocked _ _ _

theorem Talks.watchdogExpires (hs : Talks s) (tkFirst : Bool) : Talks (watchdogExpires tkFirst s) := by
  unfold Machine.watchdogExpires
  split
  · exact hs.modFtb _
  · exact .ite ((hs.inHoldover.modFtb _).boundaryAt _ _) (hs.inHoldover.modFtb _)
  · exact hs

theorem Talks.after (hs : Talks s) : Talks (after s) := hs.keeps (keeps_after s) (by decide)

theorem Talks.configureTimebase (hs : Talks s) (t : Nat) (a : Nat × Nat) : Talks (configureTimebase t a s).1 := by
  unfold Machine.configureTimebase
  split
  · exact hs
  · split
    · exact hs
    · refine .ite (hs.modFtb _) ?_
      exact (((((hs.modFtb _).modFtb _).raise _ _).raise _ _).repace _ _ _)

end talks

end Sys2Proof.Machine

/-! Every command leaves the Talk Router at rest and its holders counted: O12 settled. -/

namespace Sys2Proof.Machine

-- One theorem at a time: all at once, their threads together outgrow the memory limit of the check.
set_option Elab.async false

section commands
variable {s t : State}

/-! ## Requests that the Talk Router ends -/

theorem tidy_defineLink (a : Nat × LinkConfig) (s : State) : Tidy s (defineLink a s) :=
  .check (.check (.check (.check (.check (.check (.check .ok))))))
theorem tidy_releaseLink (l : Nat) (s : State) : Tidy s (releaseLink l s) := .check (.check (.check .ok))
theorem tidy_parkLink (l : Nat) (s : State) : Tidy s (parkLink l s) := .check (.check (.ite .ok (.refuse _)))
theorem tidy_unparkLink (l : Nat) (s : State) : Tidy s (unparkLink l s) := .check (.check (.check (.check .ok)))
theorem tidy_forceSilence (l : Nat) (s : State) : Tidy s (forceSilence l s) := .check (.check .ok)
theorem tidy_launchPlan (a : Option FrameNo) (s : State) : Tidy s (launchPlan a s) := by
  refine .check (.check (.check ?_))
  split
  · exact .refuse _
  · exact .ok
theorem tidy_setInterlock (a : Nat × Bool) (s : State) : Tidy s (setInterlock a s) := .check .ok
theorem tidy_keyRequest (a : KeyPress) (s : State) : Tidy s (keyRequest a s) := .check (.check (.check (.check .ok)))

/-- The route table is sound, and empty in STANDBY, though it may not be at rest. -/
def Bounded (s : State) : Prop := s.tk.sound ∧ (s.mode = .standby → s.tk.routes = [])

theorem Bounded.ends {s0 u : State} (asked : Option Nat) (h : Bounded u) : Talks (finishKey asked s0 u) := by
  obtain ⟨hsound, hnil⟩ := h
  have hacts : Acts ⟨true, false⟩ u (tkAfterFor asked s0 u) := acts_tkAfterFor asked _ _
  have htalks : Talks (tkAfterFor asked s0 u) :=
    ⟨sound_of_acts hacts hsound, atRest_tkAfterFor asked s0 hsound, fun hm =>
      nil_of_held (.of_acts hacts) (hnil ((Held.of_acts hacts).mode.symm.trans hm))⟩
  exact htalks.after

theorem Talks.bounded (hs : Talks s) : Bounded s := ⟨hs.sound, hs.standby⟩

/-- A chain of moves of which none moves keys. -/
theorem Talks.moves {r : State} (hs : Talks s) (h : Moves ⟨true, false⟩ s r) : Bounded r :=
  ⟨h.keeps (fun _ _ => routesSound_move) hs.sound, fun hm => nil_of_held (.of_moves h) (hs.standby ((Held.of_moves h).mode.symm.trans hm))⟩

theorem Talks.carries {α : Type} {code : Nat} {read : List Byte → Option α} {act : α → State → Answered} (hs : Talks s)
    (htidy : ∀ a u, Tidy u (act a u)) (hact : ∀ a u, Talks u → Bounded (act a u).1)
    (h : request code read act finish s = .next t) : Talks t := by
  refine request_ends firm_talks hs.settleOwed htidy (fun a u u' hu hput => ?_) h
  obtain ⟨hsound, hnil⟩ := hact a u hu
  have htk : u'.tk = (act a u).1.tk := hput .tk (by decide)
  refine Bounded.ends none ⟨by rw [htk]; exact hsound, fun hm => ?_⟩
  rw [htk]
  exact hnil ((hput .mode (by decide)).symm.trans hm)

/-- In STANDBY a KEY_EVENT is refused. -/
theorem Talks.keyRequest (hs : Talks s) (a : KeyPress) : Bounded (keyRequest a s).1 := by
  unfold Machine.keyRequest
  split_ifs with h1 h2 h3 h4
  iterate 4 exact hs.bounded
  have hmode : (pressKey a.station a.key a.down s).mode = s.mode := keeps_pressKey _ _ _ s .mode (by decide)
  exact ⟨sound_of_acts (acts_pressKey (wide := .full) rfl _ _ _ s) hs.sound, fun hm => absurd (hmode.symm.trans hm) h2⟩

/-- A request that leaves what the Talk Router stands on. -/
theorem Talks.plain {α : Type} {code : Nat} {read : List Byte → Option α} {act : α → State → Answered} {rest : State → State → State}
    {ps : List Part} (hs : Talks s) (hact : ∀ a u, Answers ps u (act a u)) (hps : ps ⊆ deskParts)
    (hrest : ∀ s0 s1, KeepsBut deskParts s1 (rest s0 s1)) (h : request code read act rest s = .next t) : Talks t :=
  request_firm firm_talks hs.settleOwed (fun _ a u _ hu => firm_talks _ _ ((hact a u).mono hps) hu)
    (fun s0 s1 h1 => firm_talks _ _ (hrest s0 s1) h1) h

theorem desk_afterRead (s0 s1 : State) : KeepsBut deskParts s1 (afterRead s0 s1) := (keeps_kick s1).mono (by decide)
theorem desk_afterJob (s0 s1 : State) : KeepsBut deskParts s1 (afterJob s0 s1) := (keeps_after s1).mono (by decide)

/-! ## Requests that move keys or the mode -/

theorem standby_of_not_run {m : Mode} (h : ¬ m = .run) : m = .standby := by
  cases m with
  | standby => rfl
  | run => exact absurd rfl h

/-- Where the table is empty, a station or a group may be defined anew. -/
theorem Talks.defined {u : State} (hs : Talks s) (hm : s.mode = .standby) (hroutes : u.tk.routes = s.tk.routes) (hsound : u.tk.sound) :
    Talks u := talks_of_nil hsound (hroutes.trans (hs.standby hm))

theorem Talks.defineStation (hs : Talks s) (a : Nat × Station) : Talks (defineStation a s).1 := by
  have hsound : (Machine.defineStation a s).1.tk.sound :=
    Moves.keeps (wide := .full) (fun _ _ => routesSound_move) (moved_defineStation rfl a s) hs.sound
  revert hsound
  unfold Machine.defineStation
  dsimp only
  iterate 4
    split
    · exact fun _ => hs
  split
  · exact fun _ => hs
  · rename_i hmode
    split
    · exact fun _ => hs
    · exact fun hsound => hs.defined (standby_of_not_run hmode) rfl hsound

theorem Talks.defineGroup (hs : Talks s) (a : Nat × List Nat) : Talks (defineGroup a s).1 := by
  have hsound : (Machine.defineGroup a s).1.tk.sound :=
    Moves.keeps (wide := .full) (fun _ _ => routesSound_move) (moved_defineGroup rfl a s) hs.sound
  revert hsound
  simp only [Machine.defineGroup]
  split_ifs with h1 h2 h3
  case neg => exact fun hsound => hs.defined (standby_of_not_run h3) rfl hsound
  all_goals exact fun _ => hs

/-- Every key OFF, and no route. -/
def State.silenced (s : State) : State := s.modTk fun k => { k with stations := k.stations.map Station.keysOff, routes := [] }

theorem talk_keysOff_congr {x y : Station} (h : y.talk = x.talk) : y.keysOff.talk = x.keysOff.talk := by
  have htalk (z : Station) : z.keysOff.talk = (z.talk.1, z.talk.2.map fun k => (k.1, k.2.1, false)) :=
    Prod.ext rfl (by
      show (z.keys.map fun k => ({ k with state := .off, pressed := false, tapDeadline := none } : Key)).map _ = (z.keys.map _).map _
      rw [List.map_map, List.map_map]
      rfl)
  rw [htalk, htalk, h]

theorem Held.silenced (h : Held s t) : Held s.silenced t.silenced := by
  refine ⟨h.mode, h.tk.groups, ?_, rfl⟩
  have hmap (xs : List Station) : (xs.map Station.keysOff).map Station.talk =
      (xs.map Station.talk).map fun x => (x.1, x.2.map fun k => (k.1, k.2.1, false)) := by
    rw [List.map_map, List.map_map]
    refine List.map_congr_left fun z _ => Prod.ext rfl ?_
    show (z.keys.map fun k => ({ k with state := .off, pressed := false, tapDeadline := none } : Key)).map _ = (z.keys.map _).map _
    rw [List.map_map, List.map_map]
    rfl
  show (t.tk.stations.map Station.keysOff).map Station.talk = (s.tk.stations.map Station.keysOff).map Station.talk
  rw [hmap, hmap, h.tk.stations]

/-- The Talk Router at STOP: every key OFF and no route, and then orders alone (R184). -/
theorem held_tkStop (resolved : Bool) (s : State) : Held s.silenced (tkStop resolved s) := by
  let x1 : Acting := stopRoutes (s.modTk fun k => { k with stations := k.stations.map Station.keysOff })
  have h1 : Acts ⟨true, false⟩ s.silenced x1.1 := .foldAct _ (fun x d => .foldAct _ (fun x a => acts_orderBreak a d x) _ x) _
    (s.silenced, [])
  have h2 : Acts ⟨true, false⟩ s.silenced (stopPulses resolved x1.1) := h1.trans (acts_stopPulses resolved _)
  exact .of_acts (h2.trans ((Acts.foldAct _ (fun x t => acts_stopDim x t) _ ((stopPulses resolved x1.1, x1.2) : Acting)).trans
    ((Acts.foldAct _ (fun x t => acts_orderLamp t x) _ _).trans (acts_reported _))))

theorem held_enterStandby (tkFirst : Bool) (s : State) :
    Held (State.silenced { s with mode := .standby }) (enterStandby tkFirst s) := by
  have hwithdraw : Held { s with mode := .standby } (withdrawAll { s with mode := .standby }) :=
    .of_acts (b := true) (acts_withdrawAll _)
  have htally (u : State) : Held u (stopTally u) := .of_acts (b := true) (acts_stopTally u)
  have hend (u : State) : Held u (presentZones (stopLamps u)) :=
    .of_acts (b := true) ((acts_stopLamps u).trans (acts_presentZones _))
  unfold enterStandby
  refine Held.trans ?_ (hend _)
  split
  · exact (hwithdraw.silenced.trans (held_tkStop false _)).trans (htally _)
  · exact (hwithdraw.trans (htally _)).silenced.trans (held_tkStop true _)

theorem held_warmReset (s : State) : Held (State.silenced { s with mode := .standby }) (warmReset s) := by
  refine ⟨rfl, rfl, ?_, rfl⟩
  show (s.tk.stations.map Station.warm).map Station.talk = (s.tk.stations.map Station.keysOff).map Station.talk
  rw [List.map_map, List.map_map]
  rfl

theorem held_enterRun (s : State) : Held { s with mode := .run } (enterRun s) :=
  .of_acts (b := true) ((acts_mapLinks { s with mode := .run } (Link.start s.now) fun k => by unfold Link.start; split <;> rfl).trans
    (.foldl _ acts_startScan _ _))

theorem Talks.startPart (hs : Talks s) : Talks (startPart () s).1 := by
  have hsound : (Machine.startPart () s).1.tk.sound :=
    Moves.keeps (wide := .full) (fun _ _ => routesSound_move) (moved_startPart rfl () s) hs.sound
  revert hsound
  unfold Machine.startPart
  split
  · exact fun _ => hs
  · rename_i hm
    exact fun hsound => talks_of_nil hsound (nil_of_held (held_enterRun s) (hs.standby (standby_of_not_run hm)))

theorem Talks.stopPart (hs : Talks s) (tkFirst : Bool) : Talks (stopPart tkFirst () s).1 := by
  have hsound : (Machine.stopPart tkFirst () s).1.tk.sound :=
    Moves.keeps (wide := .full) (fun _ _ => routesSound_move) (moved_stopPart rfl tkFirst () s) hs.sound
  revert hsound
  unfold Machine.stopPart
  split
  · exact fun _ => hs
  · split
    · exact fun _ => hs
    · exact fun hsound => talks_of_nil hsound (nil_of_held (held_enterStandby tkFirst s) rfl)

theorem Talks.restartPart (hs : Talks s) : Talks (restartPart () s).1 :=
  talks_of_nil (Moves.keeps (wide := .full) (fun _ _ => routesSound_move) (moved_restartPart rfl () s) hs.sound) rfl

/-! ## Packets and completions -/

theorem Talks.reportSample (hs : Talks s) (u : Nat) (x : Sample) : Talks (reportSample u s x) := by
  unfold Machine.reportSample
  split
  · exact hs
  · exact hs.ended (b := true) none s (acts_takeSample _ _ s)

theorem mode_reportSample (u : Nat) (s : State) (x : Sample) : (reportSample u s x).mode = s.mode :=
  keeps_reportSample u s x .mode (by decide)

theorem mode_reportKey (u : Nat) (s : State) (x : KeyReport) : (reportKey u s x).mode = s.mode :=
  keeps_reportKey u s x .mode (by decide)

theorem Talks.reportKey (hs : Talks s) (hm : s.mode ≠ .standby) (u : Nat) (x : KeyReport) : Talks (reportKey u s x) := by
  unfold Machine.reportKey
  split
  · exact hs
  · rename_i y _
    split
    · have hmode : (pressKey y x.key x.down s).mode = s.mode := keeps_pressKey _ _ _ s .mode (by decide)
      exact Bounded.ends _ ⟨sound_of_acts (acts_pressKey (wide := .full) rfl _ _ _ s) hs.sound, fun h => absurd (hmode.symm.trans h) hm⟩
    · exact hs

theorem Talks.takeReport (hs : Talks s) (r : Report) : Talks (takeReport r s) := by
  have hacks : Talks (finish s (acknowledgeAll r.unit r.acks s)) := hs.ended (b := true) none s (acts_acknowledgeAll _ _ s)
  unfold Machine.takeReport
  dsimp only
  split
  · rename_i hm
    have hmode : (finish s (acknowledgeAll r.unit r.acks s)).mode = .run :=
      (((keeps_acknowledgeAll _ _ s).mono (by decide)).trans (keeps_finish s _) .mode (by decide)).trans hm
    have hsamples : Talks (r.samples.foldl (Machine.reportSample r.unit) (finish s (acknowledgeAll r.unit r.acks s))) ∧
        (r.samples.foldl (Machine.reportSample r.unit) (finish s (acknowledgeAll r.unit r.acks s))).mode = .run :=
      Kept.foldl (P := fun u => Talks u ∧ u.mode = .run) _
        (fun u x hu => ⟨hu.1.reportSample _ x, (mode_reportSample _ u x).trans hu.2⟩) _ ⟨hacks, hmode⟩
    exact (Kept.foldl (P := fun u => Talks u ∧ u.mode = .run) _
      (fun u x hu => ⟨hu.1.reportKey (by rw [hu.2]; exact Mode.noConfusion) _ x, (mode_reportKey _ u x).trans hu.2⟩) _ hsamples).1
  · exact hacks

theorem Talks.acceptReport (hs : Talks s) (r : Report) : Talks (acceptReport r s) := by
  unfold Machine.acceptReport
  split
  · exact (hs.takeSome _).takeReport r
  · exact hs.takeReport r

/-! ## Every command -/

theorem Talks.finished {b : Bool} {u : State} (hs : Talks s) (h : Acts ⟨b, false⟩ s u) : Talks (Machine.finish s u) := hs.ended none s h

theorem Talks.completeAssign (hs : Talks s) : Talks (completeAssign s) := by
  unfold Machine.completeAssign
  split
  · exact hs.finished (b := true) ((acts_assignDone _ _ _ _ s).trans (acts_leaveQueue _))
  · exact hs

theorem Talks.completePick (hs : Talks s) : Talks (completePick s) := by
  unfold Machine.completePick
  split
  · rename_i h
    exact hs.finished (b := true) (acts_rescueDone _ _ _ s (by rw [h]; rfl))
  · exact hs

theorem keeps_leftQueue {s u : State} {ps : List Part} (h : KeepsBut ps s u) (hps : ps ⊆ deskParts) :
    KeepsBut deskParts s (Machine.after (leaveQueue u)) :=
  ((h.mono hps).trans ((keeps_leaveQueue _).mono (by decide))).trans ((keeps_after _).mono (by decide))

theorem keeps_completions (s : State) : KeepsBut deskParts s (completePlan s) ∧ KeepsBut deskParts s (completeQuery s) ∧
    KeepsBut deskParts s (completeSweep s) ∧ KeepsBut deskParts s (completeDrain s) := by
  refine ⟨?_, ?_, ?_, ?_⟩
  · unfold completePlan; split
    · exact keeps_leftQueue (keeps_planDone _ s) (by decide)
    · exact .refl _ _
  · unfold completeQuery; split
    · exact keeps_leftQueue (keeps_queryDone _ _ _ _ _ _ s) (by decide)
    · exact .refl _ _
  · unfold completeSweep; split
    · exact keeps_leftQueue (keeps_sweepDone _ _ s) (by decide)
    · exact .refl _ _
  · unfold completeDrain; split
    · exact ((keeps_modPe s _).mono (by decide)).trans ((keeps_after _).mono (by decide))
    all_goals exact .refl _ _

/-- Every command but COLD_RESET keeps the Talk Router at rest. -/
theorem exec_talks {c : Instr} (hc : ∀ straps, c ≠ .coldReset straps) (hs : Talks s) (h : exec c s = .next t) : Talks t := by
  have hread {α : Type} {code : Nat} {read : List Byte → Option α} {act : α → State → Answered} {ps : List Part}
      (hact : ∀ a u, Answers ps u (act a u)) (hps : ps ⊆ deskParts) (h : request code read act afterRead s = .next t) : Talks t :=
    hs.plain hact hps desk_afterRead h
  have hjob {α : Type} {code : Nat} {read : List Byte → Option α} {act : α → State → Answered} {ps : List Part}
      (hact : ∀ a u, Answers ps u (act a u)) (hps : ps ⊆ deskParts) (h : request code read act afterJob s = .next t) : Talks t :=
    hs.plain hact hps desk_afterJob h
  have hends {α : Type} {code : Nat} {read : List Byte → Option α} {act : α → State → Answered} (htidy : ∀ a u, Tidy u (act a u))
      (hact : ∀ a u, Moved ⟨true, false⟩ u (act a u)) (h : request code read act finish s = .next t) : Talks t :=
    hs.carries htidy (fun a u hu => hu.moves (hact a u)) h
  have howns {α : Type} {code : Nat} {read : List Byte → Option α} {act : α → State → Answered} {rest : State → State → State}
      (hact : ∀ a u, Talks u → Talks (act a u).1) (hrest : ∀ s0 s1, KeepsBut deskParts s1 (rest s0 s1))
      (h : request code read act rest s = .next t) : Talks t :=
    request_firm firm_talks hs.settleOwed (fun _ a u _ hu => hact a u hu) (fun s0 s1 h1 => firm_talks _ _ (hrest s0 s1) h1) h
  have hquiet {act : State → State} (hact : ∀ u, KeepsBut deskParts u (act u)) (h : event act s = .next t) : Talks t :=
    hs.event (fun u hu => firm_talks _ _ (hact u) hu) h
  cases c with
  | coldReset straps => exact absurd rfl (hc straps)
  | refPulse n k => exact hs.event (fun u hu => (hu.pulseAt n k).after) h
  | internalTimerDue k => exact hs.event (fun u hu => (hu.timerDue k).after) h
  | pulseWatchdogExpiry k => exact hs.event (fun u hu => (hu.watchdogExpires k).after) h
  | fadeTimerLimit | silenceExpiry | acquireDeadline | retuneDeadline | revertDeadline | vacateEffective | orderExpiry | tallyRetry
  | lampRetry | tapDeadline | callPulseEnd | scanAssignReissue | muteReissue =>
    cases h
    exact hs.takeOwed _
  | pwmPeriodStart m => exact hquiet (fun u => (keeps_modLamp u m _).mono (by decide)) h
  | edge n high => exact hquiet (fun u => ((keeps_sampleLine n high u).mono (by decide)).trans ((keeps_kick _).mono (by decide))) h
  | frameGood bs | frameFailed bs => exact hquiet (fun u => (keeps_receiveBytes bs u).mono (by decide)) h
  | frameAbandoned => exact hquiet (fun u => (keeps_modMp u _).mono (by decide)) h
  | transmitPathFree => exact hquiet (fun u => ((keeps_mpRecord _ u).trans (keeps_kick _)).mono (by decide)) h
  | unknownRequest =>
    change execUnknownRequest s = .next t at h
    unfold execUnknownRequest at h
    dsimp only at h
    split at h
    · cases h
      exact hs.settleOwed
    · cases h
      exact ((hs.settleOwed.keeps (keeps_dropHead _) (by decide)).keeps (keeps_putReply _ _ _) (by decide)).keeps (keeps_kick _) (by decide)
  | tbConfigure n => exact howns (fun a u hu => hu.configureTimebase n a) desk_afterJob h
  | tbStatus => exact hread (ps := []) (fun _ u => .read) (by decide) h
  | bandDefine => exact hjob answers_defineBand (by decide) h
  | bandGuards => exact hjob answers_guardBand (by decide) h
  | exclAdd => exact hjob (answers_changeExclusions _) (by decide) h
  | exclRemove => exact hjob (answers_changeExclusions _) (by decide) h
  | bandFreeze => exact hjob answers_freezeBand (by decide) h
  | bandUnfreeze => exact hjob answers_unfreezeBand (by decide) h
  | bandRead => exact hread answers_readBand (by decide) h
  | scanRead => exact hread answers_readScan (by decide) h
  | checkCandidate => exact hjob answers_checkCandidate (by decide) h
  | spareSweep => exact hjob answers_askSweep (by decide) h
  | linkDefine => exact hends tidy_defineLink moved_defineLink h
  | linkAssign => exact hjob answers_assignLink (by decide) h
  | linkRelease => exact hends tidy_releaseLink moved_releaseLink h
  | linkPark => exact hends tidy_parkLink moved_parkLink h
  | linkUnpark => exact hends tidy_unparkLink moved_unparkLink h
  | linkForceSilence => exact hends tidy_forceSilence moved_forceSilence h
  | linkRead => exact hread answers_readLink (by decide) h
  | planOpen => exact hjob answers_openPlan (by decide) h
  | planEntry => exact hjob answers_enterPlan (by decide) h
  | planClose => exact hjob answers_closePlan (by decide) h
  | planLaunch => exact hends tidy_launchPlan moved_launchPlan h
  | planAbandon => exact hjob answers_abandonPlan (by decide) h
  | planRead => exact hread answers_readPlan (by decide) h
  | tallyInputConfigure => exact hread answers_configureInputs (by decide) h
  | tallyMapSet => exact hread answers_setMap (by decide) h
  | tallyVirtual => exact hread answers_setVirtual (by decide) h
  | tallyRead => exact hread answers_readTally (by decide) h
  | zoneInterlock => exact hends tidy_setInterlock moved_setInterlock h
  | lampConfigure => exact hread answers_configureLamp (by decide) h
  | lampRead => exact hread answers_readLamp (by decide) h
  | stationDefine => exact howns (fun a u hu => hu.defineStation a) desk_afterRead h
  | groupDefine => exact howns (fun a u hu => hu.defineGroup a) desk_afterRead h
  | keyEvent => exact hs.carries tidy_keyRequest (fun a u hu => hu.keyRequest a) h
  | talkRead => exact hread answers_readTalk (by decide) h
  | start => exact howns (fun _ u hu => hu.startPart) desk_afterJob h
  | stop k => exact howns (fun _ u hu => hu.stopPart k) desk_afterJob h
  | restart => exact howns (fun _ u hu => hu.restartPart) desk_afterJob h
  | status => exact hread answers_readStatus (by decide) h
  | identify => exact hread answers_identifyPart (by decide) h
  | noticeEnable => exact hread answers_enableNotices (by decide) h
  | noticeFetch => exact hread answers_fetchNotices (by decide) h
  | report bs =>
    change execReport bs s = .next t at h
    unfold execReport at h
    split at h
    · cases h
      exact hs
    · cases h
      exact hs.acceptReport _
  | scanData bs =>
    refine hquiet (act := fun u => match readScanData bs with
      | none => u
      | some x => after (takeScanData x u)) (fun u => ?_) h
    split
    · exact .refl _ _
    · exact ((keeps_takeScanData _ u).mono (by decide)).trans ((keeps_after _).mono (by decide))
  | matrixReport bs =>
    refine hs.event (act := fun u => match readMatrixReport bs with
      | none => u
      | some acks => Machine.finish u (takeMatrixReport acks u)) (fun u hu => ?_) h
    split
    · exact hu
    · exact hu.finished (b := true) ((acts_acknowledgeAll _ _ u).trans (acts_matrixEvent _))
  | assignCheckComplete => exact hs.event (fun u hu => hu.completeAssign) h
  | planCheckComplete => exact hquiet (fun u => (keeps_completions u).1) h
  | queryComplete => exact hquiet (fun u => (keeps_completions u).2.1) h
  | sweepComplete => exact hquiet (fun u => (keeps_completions u).2.2.1) h
  | rescuePickComplete => exact hs.event (fun u hu => hu.completePick) h
  | drainComplete => exact hquiet (fun u => (keeps_completions u).2.2.2) h

theorem keeps_pending (q : List Instr) (s : State) : KeepsBut [.pending] s { s with pending := q } := by
  intro p hp
  cases p <;> first | rfl | exact absurd (by decide) hp

theorem talks_step (hs : Talks s) (h : step s = .next t) : Talks t := by
  unfold step at h
  split at h
  · cases h
    exact hs
  · rename_i c rest _
    have hrest : Talks { s with pending := rest } := hs.keeps (keeps_pending rest s) (by decide)
    by_cases hc : ∃ straps, c = .coldReset straps
    · obtain ⟨straps, rfl⟩ := hc
      cases h
      obtain ⟨-, -, -, -, -, -, hroutes, hmay, htalk, -⟩ := resetIsSound straps
      exact (talks_iff.2 ⟨hroutes, hmay, htalk⟩).keeps (keeps_pending _ (State.cold straps)) (by decide)
    · exact exec_talks (fun straps he => hc ⟨straps, he⟩) hrest h

end commands

/-- O12 on routes that may talk and destinations that are settled. -/
theorem step_settles {s t : State} (hroutes : s.routesSound) (hmay : s.routesMayTalk) (hset : s.talkSettled) (h : step s = .next t) :
    t.routesMayTalk ∧ t.talkSettled ∧ t.slotsRight := by
  have ht := talks_step (talks_iff.2 ⟨hroutes, hmay, hset⟩) h
  obtain ⟨-, htmay, htset⟩ := talks_iff.1 ht
  exact ⟨htmay, htset, slotsRight_of_atRest ht.sound ht.rest⟩

end Sys2Proof.Machine

/-! The holders of every route are counted after every step (R171): O12 settled. -/

namespace Sys2Proof.Machine

-- One theorem at a time: all at once, their threads together outgrow the memory limit of the check.
set_option Elab.async false

section silence
variable {s t : State}

/-! ## Tables in which no key talks -/

/-- No route, every key OFF, and no two keys of one number. -/
structure Silent (s : State) : Prop where
  routes : s.tk.routes = []
  off : ∀ x ∈ s.tk.stations, ∀ k ∈ x.keys, k.state = .off
  numbers : ∀ x ∈ s.tk.stations, (x.keys.map Key.number).Nodup

theorem slot_mem_or {α : Type} (d : α) (xs : List α) (n : Nat) : slot d xs n ∈ xs ∨ slot d xs n = d := by
  cases n with
  | zero => exact .inr rfl
  | succ n =>
    show xs.getD n d ∈ xs ∨ xs.getD n d = d
    rw [List.getD_eq_getElem?_getD]
    cases hn : xs[n]? with
    | none => exact .inr rfl
    | some x => exact .inl (List.mem_of_getElem? hn)

theorem talkers_of_off (hoff : ∀ x ∈ s.tk.stations, ∀ k ∈ x.keys, k.state = .off) (a d : Nat) : s.talkers a d = 0 := by
  refine List.countP_eq_zero.2 fun k hk => ?_
  obtain hmem | hund := slot_mem_or Station.undefined s.tk.stations a
  · rw [hoff _ hmem k hk]
    exact Bool.false_ne_true
  · have hkeys : (s.station a).keys = [] := congrArg Station.keys hund
    exact absurd (hkeys ▸ hk) List.not_mem_nil

theorem Silent.holders (h : Silent s) : s.holdersCounted := by
  refine ⟨fun a _ d _ => ?_, fun r hr => absurd (h.routes ▸ hr) List.not_mem_nil, h.numbers, fun _ => h.off⟩
  rw [talkers_of_off h.off, State.holdersOf, h.routes]
  rfl

/-- In STANDBY no key talks, and so no route stands (R184). -/
theorem silent_of_standby (hs : s.tk.sound) (hc : s.holdersCounted) (hm : s.mode = .standby) : Silent s := by
  obtain ⟨hcount, hpairs, hnumbers, hoff⟩ := hc
  refine ⟨List.eq_nil_iff_forall_not_mem.2 fun r hr => ?_, hoff hm, hnumbers⟩
  obtain ⟨-, hnodup, hroutes, -⟩ := hs
  obtain ⟨ha, hd⟩ := hpairs r hr
  have hzero : holdersIn s.tk.routes r.source r.destination = 0 :=
    (hcount _ ha _ hd).trans (talkers_of_off (hoff hm) _ _)
  rw [holdersIn_of_mem hnodup hr] at hzero
  exact absurd ((hroutes r hr).1) (by omega)

theorem silent_silenced (h : s.holdersCounted) : Silent s.silenced := by
  obtain ⟨-, -, hnumbers, -⟩ := h
  refine ⟨rfl, fun x hx k hk => ?_, fun x hx => ?_⟩
  · obtain ⟨y, -, rfl⟩ := List.mem_map.1 hx
    obtain ⟨k', -, rfl⟩ := List.mem_map.1 hk
    rfl
  · obtain ⟨y, hy, rfl⟩ := List.mem_map.1 hx
    have hsame : y.keysOff.keys.map Key.number = y.keys.map Key.number := by
      show (y.keys.map fun k => ({ k with state := .off, pressed := false, tapDeadline := none } : Key)).map _ = _
      rw [List.map_map]
      rfl
    rw [hsame]
    exact hnumbers y hy

/-- A station takes a record that has no talking key. -/
theorem silent_modStation (h : Silent s) {n : Nat} {x : Station} (hoff : ∀ k ∈ x.keys, k.state = .off)
    (hnumbers : (x.keys.map Key.number).Nodup) : Silent (s.modStation n fun _ => x) := by
  refine ⟨h.routes, fun y hy => ?_, fun y hy => ?_⟩
  · obtain hy | ⟨z, -, rfl⟩ := mem_modSlot (show y ∈ modSlot (fun _ => x) s.tk.stations n from hy)
    · exact h.off y hy
    · exact hoff
  · obtain hy | ⟨z, -, rfl⟩ := mem_modSlot (show y ∈ modSlot (fun _ => x) s.tk.stations n from hy)
    · exact h.numbers y hy
    · exact hnumbers

theorem Station.clamped_off {x : Station} (h : ∀ k ∈ x.keys, k.state = .off) : ∀ k ∈ x.clamped.keys, k.state = .off :=
  fun k hk => h k ((sortBy_perm _ _).mem_iff.1 hk)

theorem Station.clamped_numbers {x : Station} (h : (x.keys.map Key.number).Nodup) : (x.clamped.keys.map Key.number).Nodup :=
  ((sortBy_perm _ x.keys).map Key.number).nodup_iff.2 h

/-! ## The commands that move keys, groups or the mode -/

theorem Counted.moves {b : Bool} (hs : Counted s) (h : Moves ⟨b, false⟩ s t) : Counted t :=
  ⟨h.keeps (fun _ _ => routesSound_move) hs.sound, (Held.of_moves h).length.trans hs.stations, holdersCounted_of_held (.of_moves h) hs.holders⟩

/-- A chain of moves that ends with the holders counted. -/
theorem Counted.full (hs : Counted s) (h : Moves .full s t) (hlen : t.tk.stations.length = s.tk.stations.length) (hc : t.holdersCounted) :
    Counted t := ⟨h.keeps (fun _ _ => routesSound_move) hs.sound, hlen.trans hs.stations, hc⟩

theorem firm_counted : Firm Counted := fun s t h hs => by
  have htk : t.tk = s.tk := h .tk (by decide)
  exact ⟨htk ▸ hs.sound, htk ▸ hs.stations, holdersCounted_of_held (.of_tk (h .mode (by decide)) htk) hs.holders⟩

theorem Counted.defineStation (hs : Counted s) {bs : List Byte} {a : Nat × Station} (hread : readStationDefine bs = some a) :
    Counted (defineStation a s).1 := by
  obtain ⟨n, x⟩ := a
  obtain ⟨hzone, -, hoff⟩ := readStationDefine_spec hread
  have hmoved : Moves .full s (Machine.defineStation (n, x) s).1 := moved_defineStation (wide := .full) rfl (n, x) s
  by_cases hright : x.Right n
  · rw [defineStation_of_right hzone hright] at hmoved ⊢
    obtain ⟨-, -, -, -, -, -, -, -, -, hnumbers⟩ := hright
    revert hmoved
    split
    · exact fun _ => hs
    · rename_i hm
      have hsilent := silent_of_standby hs.sound hs.holders (standby_of_not_run hm)
      split
      · exact fun _ => hs
      · refine fun hmoved => hs.full hmoved (modSlot_length _ _ _) (silent_modStation hsilent ?_ ?_).holders
        · split
          · exact Station.clamped_off fun k hk => (hoff k hk).1
          · exact fun _ hk => absurd hk List.not_mem_nil
        · split
          · exact Station.clamped_numbers hnumbers
          · exact List.nodup_nil
  · rw [defineStation_of_not_right hzone hright]
    exact hs

theorem Counted.defineGroup (hs : Counted s) (a : Nat × List Nat) : Counted (defineGroup a s).1 := by
  have hmoved : Moves .full s (Machine.defineGroup a s).1 := moved_defineGroup (wide := .full) rfl a s
  revert hmoved
  simp only [Machine.defineGroup]
  split_ifs with h1 h2 h3
  case neg =>
    intro hmoved
    have hsilent := silent_of_standby hs.sound hs.holders (standby_of_not_run h3)
    exact hs.full hmoved rfl (Silent.holders ⟨hsilent.routes, hsilent.off, hsilent.numbers⟩)
  all_goals exact fun _ => hs

theorem Counted.startPart (hs : Counted s) : Counted (startPart () s).1 := by
  have hmoved : Moves .full s (Machine.startPart () s).1 := moved_startPart (keyed := true) rfl () s
  revert hmoved
  unfold Machine.startPart
  split
  · exact fun _ => hs
  · rename_i hm
    intro hmoved
    have hsilent := silent_of_standby hs.sound hs.holders (standby_of_not_run hm)
    exact hs.full hmoved (held_enterRun s).length
      (holdersCounted_of_held (held_enterRun s) (Silent.holders ⟨hsilent.routes, hsilent.off, hsilent.numbers⟩))

theorem Counted.stopPart (hs : Counted s) (tkFirst : Bool) : Counted (stopPart tkFirst () s).1 := by
  have hmoved : Moves .full s (Machine.stopPart tkFirst () s).1 := moved_stopPart (wide := .full) rfl tkFirst () s
  revert hmoved
  unfold Machine.stopPart
  split
  · exact fun _ => hs
  · split
    · exact fun _ => hs
    · intro hmoved
      have hsilent := silent_silenced hs.holders
      exact hs.full hmoved ((held_enterStandby tkFirst s).length.trans (List.length_map _))
        (holdersCounted_of_held (held_enterStandby tkFirst s) (Silent.holders ⟨hsilent.routes, hsilent.off, hsilent.numbers⟩))

theorem Counted.restartPart (hs : Counted s) : Counted (restartPart () s).1 := by
  have hsilent := silent_silenced hs.holders
  exact hs.full (moved_restartPart (keyed := true) rfl () s) ((held_warmReset s).length.trans (List.length_map _))
    (holdersCounted_of_held (held_warmReset s) (Silent.holders ⟨hsilent.routes, hsilent.off, hsilent.numbers⟩))

theorem Counted.finishKey (hs : Counted s) (asked : Option Nat) (s0 : State) : Counted (finishKey asked s0 s) :=
  hs.moves (b := true) (moves_finishKey asked s0 s)

theorem Counted.keyRequest (hs : Counted s) (a : KeyPress) : Counted (keyRequest a s).1 := by
  unfold Machine.keyRequest
  split_ifs with h1 h2 h3 h4
  iterate 4 exact hs
  exact counted_pressKey _ _ _ hs h2

theorem Counted.reportKey (hs : Counted s) (hm : s.mode ≠ .standby) (u : Nat) (x : KeyReport) : Counted (reportKey u s x) := by
  unfold Machine.reportKey
  split
  · exact hs
  · split
    · exact (counted_pressKey _ _ _ hs hm).finishKey _ _
    · exact hs

theorem Counted.acceptReport (hs : Counted s) (r : Report) : Counted (acceptReport r s) := by
  have hrun {u : State} (hu : Counted u) (hm : u.mode = .run) : Counted (r.keys.foldl (Machine.reportKey r.unit) u) :=
    (Kept.foldl (P := fun u => Counted u ∧ u.mode = .run) _
      (fun v x hv => ⟨hv.1.reportKey (by rw [hv.2]; exact Mode.noConfusion) _ x, (mode_reportKey _ v x).trans hv.2⟩) _ ⟨hu, hm⟩).1
  have hacks (u : State) : Moves ⟨true, false⟩ u (finish u (acknowledgeAll r.unit r.acks u)) :=
    .andThen (acts_acknowledgeAll _ _ u) (moves_finish _ _)
  have htake {u : State} (hu : Counted u) : Counted (Machine.takeReport r u) := by
    unfold Machine.takeReport
    dsimp only
    split
    · rename_i hm
      have hsamples : Moves ⟨true, false⟩ u (r.samples.foldl (Machine.reportSample r.unit) (finish u (acknowledgeAll r.unit r.acks u))) :=
        (hacks u).trans (.foldl _ (moves_reportSample _) _ _)
      exact hrun (hu.moves hsamples) ((Held.of_moves hsamples).mode.trans hm)
    · exact hu.moves (hacks u)
  unfold Machine.acceptReport
  split
  · exact htake (hs.moves (b := true) (moves_takeSome _ s))
  · exact htake hs

/-! ## Every command -/

theorem exec_counted {c : Instr} (hc : ∀ straps, c ≠ .coldReset straps) (hs : Counted s) (h : exec c s = .next t) : Counted t := by
  have howns {α : Type} {code : Nat} {read : List Byte → Option α} {act : α → State → Answered} {rest : State → State → State}
      (hact : ∀ bs a u, read bs = some a → Counted u → Counted (act a u).1) (hrest : ∀ s0 s1, Moves ⟨true, false⟩ s1 (rest s0 s1))
      (h : request code read act rest s = .next t) : Counted t :=
    request_firm firm_counted (hs.moves (moves_settleOwed s)) hact (fun s0 s1 h1 => h1.moves (hrest s0 s1)) h
  by_cases hk : movesKeys c = true
  · cases c with
    | keyEvent => exact howns (fun _ a u _ hu => hu.keyRequest a) moves_finish h
    | stationDefine => exact howns (fun _ a u hread hu => hu.defineStation hread) moves_afterRead h
    | groupDefine => exact howns (fun _ a u _ hu => hu.defineGroup a) moves_afterRead h
    | start => exact howns (fun _ _ u _ hu => hu.startPart) moves_afterJob h
    | stop k => exact howns (fun _ _ u _ hu => hu.stopPart k) moves_afterJob h
    | restart => exact howns (fun _ _ u _ hu => hu.restartPart) moves_afterJob h
    | report bs =>
      change execReport bs s = .next t at h
      unfold execReport at h
      split at h
      · cases h
        exact hs
      · cases h
        exact hs.acceptReport _
    | _ => cases hk
  · exact hs.moves (exec_moves hc (fun h => absurd h hk) h)

theorem counted_step (hs : Counted s) (h : step s = .next t) : t.holdersCounted := by
  unfold step at h
  split at h
  · cases h
    exact hs.holders
  · rename_i c rest _
    by_cases hc : ∃ straps, c = .coldReset straps
    · obtain ⟨straps, rfl⟩ := hc
      cases h
      exact holdersCounted_of_held (.of_tk rfl rfl) (holdersCounted_cold straps)
    · exact (exec_counted (fun straps he => hc ⟨straps, he⟩) (firm_counted _ _ ((keeps_pending rest s).mono (by decide)) hs) h).holders

end silence

/-- Settles O12: the route table at rest is what every event leaves, its slots go to the first of the arbiter's order, and the holders
follow the talking keys command by command. -/
theorem stepKeepsTalkSettled : Obligations.StepKeepsTalkSettled :=
  ⟨fun _ _ hroutes hmay hset h => step_settles hroutes hmay hset h,
    fun _ hs => ⟨slotsRight_of_atRest (sound_resettle hs) (atRest_resettle hs), fun _ _ hr hd hd' => resettled_at hs hr hd hd'⟩,
    fun _ _ hshaped hs hc h => counted_step ⟨hs, hshaped.stations, hc⟩ h⟩

end Sys2Proof.Machine

/-! The settings of inputs, map and zones (O46). -/

namespace Sys2Proof.Machine

-- One theorem at a time: all at once, their threads together outgrow the memory limit of the check.
set_option Elab.async false

/-! ## Settings of the Tally Resolver -/

section settings
variable {α : Type} {code : Nat} {f : HostFrame} {s : State} {read : List Byte → Option α} {act : α → State → Answered} {a : α}
  {body : List Byte} {g : Tr → Tr}

/-- A request that changes the Tally Resolver alone. -/
theorem request_sets (ht : Takes code f s) (hr : read f.payload = some a) (hact : act a (dropHead s) = okWith body ((dropHead s).modTr g)) :
    ∃ t, request code read act afterRead s = .next t ∧ Replies f (u8 0 ++ body) s t ∧ t.tr = g s.tr ∧ KeepsBut (.tr :: sendParts) s t :=
  ⟨_, request_reads ht hr hact, replies_of_kick rfl, keeps_kick _ .tr (by decide), keeps_kick_parts (keeps_modTr (dropHead s) g)⟩

end settings

/-- An item of a table after those that a mask names are changed. -/
theorem slot_overMask {α : Type} (d : α) (mask : Nat) (f : α → α) (xs : List α) {n : Nat} (h : 1 ≤ n) (h' : n ≤ xs.length) :
    slot d (overMask mask f xs) n = if mask.testBit (n - 1) then f (slot d xs n) else slot d xs n := by
  obtain _ | k := n
  · exact absurd h (by decide)
  · show (overMask mask f xs).getD k d = if mask.testBit k then f (xs.getD k d) else xs.getD k d
    simp [overMask, List.getD_eq_getElem?_getD, List.getElem?_eq_getElem (Nat.lt_of_succ_le h')]

theorem slot_setVirtuals (mask values : Nat) (vs : List Bool) {n : Nat} (h : 1 ≤ n) (h' : n ≤ vs.length) :
    slot false (setVirtuals mask values vs) n = if mask.testBit (n - 1) then values.testBit (n - 1) else slot false vs n := by
  obtain _ | k := n
  · exact absurd h (by decide)
  · show (setVirtuals mask values vs).getD k false = if mask.testBit k then values.testBit k else vs.getD k false
    simp [setVirtuals, List.getD_eq_getElem?_getD, List.getElem?_eq_getElem (Nat.lt_of_succ_le h')]

/-- A change of one record of a table. -/
theorem modSlot_eq_set {α : Type} (d : α) (f : α → α) {xs : List α} {n : Nat} (h : 1 ≤ n) (h' : n ≤ xs.length) :
    modSlot f xs n = xs.set (n - 1) (f (slot d xs n)) := by
  obtain _ | k := n
  · exact absurd h (by decide)
  · show xs.modify k f = xs.set k (f (xs.getD k d))
    rw [List.modify_eq_set_getElem?, List.getD_eq_getElem?_getD, List.getElem?_eq_getElem (Nat.lt_of_succ_le h')]
    rfl

/-- A clamp to 1 … 8, written out. -/
theorem clamp_filterK (k : Nat) : max 1 (min 8 k) = if k < 1 then 1 else if 8 < k then 8 else k := by
  split_ifs <;> omega

theorem virtuals_length {s : State} (hs : s.shaped) : s.tr.virtuals.length = 32 := by
  obtain ⟨-, -, -, -, -, -, h, -⟩ := hs
  exact h

theorem lines_length {s : State} (hs : s.shaped) : s.tr.lines.length = 32 := by
  obtain ⟨-, -, -, -, -, h, -⟩ := hs
  exact h

theorem zones_length {s : State} (hs : s.shaped) : s.tr.zones.length = 4 ∧ s.tk.zones.length = 4 := by
  obtain ⟨-, -, -, -, -, -, -, -, -, -, hz, -, -, htz, -⟩ := hs
  exact ⟨hz, htz⟩

/-! ## Map entries (R141) -/

/-- The number of the input that an entry names. -/
def MapEntry.inputNumber (e : MapEntry) : Nat := match e.input with | .line i => i | .virt i => i

/-- The contents that R141 admits. -/
def MapEntry.Fits (e : MapEntry) : Prop := 1 ≤ e.inputNumber ∧ e.inputNumber ≤ 32 ∧ (∀ z, e.zone = some z → z ≤ 4) ∧
  e.links.length ≤ 4 ∧ e.lamps.length ≤ 4 ∧ (∀ l ∈ e.links, 1 ≤ l ∧ l ≤ 48) ∧ (∀ m ∈ e.lamps, 1 ≤ m ∧ m ≤ 16) ∧
  e.links.Nodup ∧ e.lamps.Nodup

theorem targetsValid_iff (n : Nat) (xs : List Nat) : targetsValid n xs = true ↔ xs.length ≤ 4 ∧ (∀ x ∈ xs, 1 ≤ x ∧ x ≤ n) ∧ xs.Nodup := by
  simp only [targetsValid, Bool.and_eq_true, decide_eq_true_eq, List.all_eq_true, oneTo_iff, and_assoc]

/-- The reader never gives zone 0. -/
theorem mapEntry_valid_iff {e : MapEntry} (hz : e.zone ≠ some 0) : e.valid = true ↔ e.Fits := by
  have hvalid : e.valid = (oneTo Config.inputs e.inputNumber && e.zone.all (oneTo Config.zones)
      && targetsValid Config.links e.links && targetsValid Config.lamps e.lamps) := by
    unfold MapEntry.valid MapEntry.inputNumber
    cases e.input <;> rfl
  have hzone : e.zone.all (oneTo Config.zones) = true ↔ ∀ z, e.zone = some z → z ≤ 4 := by
    cases hcase : e.zone with
    | none => simp
    | some z =>
      have hpos : 1 ≤ z := Nat.one_le_iff_ne_zero.2 fun h => hz (by rw [hcase, h])
      rw [Option.all_some, oneTo_iff]
      exact ⟨fun h y hy => Option.some.inj hy ▸ h.2, fun h => ⟨hpos, h z rfl⟩⟩
  rw [hvalid, Bool.and_eq_true, Bool.and_eq_true, Bool.and_eq_true, oneTo_iff, hzone, targetsValid_iff, targetsValid_iff,
    MapEntry.Fits]
  show ((((1 ≤ _ ∧ _ ≤ 32) ∧ _) ∧ _ ≤ 4 ∧ (∀ x ∈ _, 1 ≤ x ∧ x ≤ 48) ∧ _) ∧ _ ≤ 4 ∧ (∀ x ∈ _, 1 ≤ x ∧ x ≤ 16) ∧ _) ↔ _
  tauto

theorem readMapSet_zone {bs : List Byte} {n : Nat} {e : MapEntry} (h : readMapSet bs = some (n, some e)) : e.zone ≠ some 0 := by
  unfold readMapSet at h
  split at h
  · split_ifs at h
    simp at h
  · split_ifs at h
    split at h
    · split at h
      · obtain ⟨-, h⟩ := Prod.mk.inj (Option.some.inj h)
        rw [← Option.some.inj h]
        exact noneIfZero_ne _
      · cases h
    · cases h
  · cases h

/-- The checks of TALLY_MAP_SET (R141). -/
theorem setMap_of_right {s : State} {n : Nat} {x : Option MapEntry} (h1 : 1 ≤ n) (h64 : n ≤ 64) (hx : x.all MapEntry.valid = true) :
    setMap (n, x) s = if s.mode = .run then refuse .wrongMode s
      else okWith (opt MapEntry.bytes x) (s.modTr fun r => { r with map := modSlot (fun _ => x) r.map n }) :=
  (if_neg (oneTo_ne_false h1 h64)).trans (if_neg (by rw [hx]; exact Bool.noConfusion))

theorem setMap_of_not_right {s : State} {n : Nat} {x : Option MapEntry} (h : ¬ (1 ≤ n ∧ n ≤ 64 ∧ x.all MapEntry.valid = true)) :
    setMap (n, x) s = refuse .badArgument s := by
  unfold setMap
  split_ifs with hn hx
  · rfl
  · rfl
  all_goals
    obtain ⟨h1, h64⟩ := (oneTo_iff 64 n).1 (Bool.not_eq_false _ ▸ hn)
    exact absurd ⟨h1, h64, Bool.not_eq_false _ ▸ hx⟩ h

/-! ## Interlocks (R150, R173) -/

section interlock
variable {s : State} {rs rs' : List Route}

/-- No route is LIVE, or would be granted a slot, that has a reason against it. -/
def State.Unbarred (s : State) (rs : List Route) : Prop :=
  ∀ r ∈ rs, r.live = true ∨ (r.onAir = false ∧ r.linkDown = false) → s.mayRun r

theorem unbarred_suspended (s : State) (rs : List Route) : s.Unbarred (rs.map s.suspend) := by
  intro r' hr' h
  obtain ⟨r, -, rfl⟩ := List.mem_map.1 hr'
  have hreasoned : s.Reasoned (s.suspend r) := suspend_suspend
  exact h.elim hreasoned.mayRun_of_live hreasoned.mayRun_iff.2

theorem State.Unbarred.settled {w d : Nat} {v : Option Nat} (h : s.Unbarred rs)
    (hmay : ∀ r ∈ rs, r.joins w d = true ∨ (v.any fun v => r.joins v d) = true → s.mayRun r) :
    s.Unbarred (rs.map (Route.settled w v d)) := by
  intro r' hr' hcase
  obtain ⟨r, hr, rfl⟩ := List.mem_map.1 hr'
  refine (mayRun_congr (r.settled_source w v d) (r.settled_destination w v d)).2 ?_
  unfold Route.settled at hcase
  split_ifs at hcase with hw hv
  · exact hmay r hr (.inl hw)
  · exact hmay r hr (.inr hv)
  · exact h r hr hcase

theorem mayRun_of_joins {w r : Route} {d : Nat} (hw : s.mayRun w) (hd : w.destination = d) (h : r.joins w.source d = true) : s.mayRun r := by
  obtain ⟨hsrc, hdst⟩ := (Bool.and_eq_true _ _).mp h |>.imp of_decide_eq_true of_decide_eq_true
  exact (mayRun_congr hsrc (hdst.trans hd.symm)).2 hw

theorem State.Unbarred.settleStep {pr : Nat → Nat} {d : Nat} (h : s.Unbarred rs) (hstep : settleStep pr d rs = some rs') : s.Unbarred rs' := by
  obtain ⟨w, hw, hcase⟩ := settleStep_cases hstep
  obtain ⟨hwmem, hwd, -, hwopen⟩ := mem_eligibleTo.1 (bestRoute_mem hw)
  have hwmay : s.mayRun w := h w hwmem (.inr hwopen)
  obtain ⟨-, rfl⟩ | ⟨-, v, hv, -, rfl⟩ := hcase
  · refine State.Unbarred.settled h fun r _ hr => hr.elim (mayRun_of_joins hwmay hwd) fun hv => ?_
    cases hv
  · obtain ⟨hvmem, hvd, hvl⟩ := mem_liveTo.1 (victimRoute_mem hv)
    exact State.Unbarred.settled h fun r _ hr => hr.elim (mayRun_of_joins hwmay hwd) (mayRun_of_joins (h v hvmem (.inl hvl)) hvd)

theorem State.Unbarred.settleAll {pr : Nat → Nat} (h : s.Unbarred rs) : s.Unbarred (settleAll pr rs) := by
  have hsettle (d n : Nat) {rs : List Route} (hrs : s.Unbarred rs) : s.Unbarred (settle pr d n rs) := by
    induction n generalizing rs with
    | zero => exact hrs
    | succ n ih =>
      rw [settle]
      split
      · exact hrs
      · exact ih (State.Unbarred.settleStep hrs ‹_›)
  unfold Machine.settleAll
  induction oneUpTo Config.stations generalizing rs with
  | nil => exact h
  | cons d ds ih => exact ih (hsettle d 33 h)

theorem SameReasons.mayRun {t : State} (h : SameReasons s t) {r : Route} : t.mayRun r ↔ s.mayRun r := by
  unfold State.mayRun
  rw [h.cuts, h.down, h.down]

/-- What settling leaves LIVE has no reason against it (R173), whatever the table held, and what follows changes neither. -/
theorem mayRun_of_resettled {u t : State} (hquiet : Quiet s.resettle u) (hafter : KeepsBut afterParts u t) {r : Route}
    (hr : r ∈ t.tk.routes) (hl : r.live = true) : t.mayRun r := by
  have htk : t.tk = u.tk := hafter .tk (by decide)
  have hlinks : t.links.map Link.core = u.links.map Link.core := hafter .links (by decide)
  have hsame₁ : SameReasons s.resettle u := .of_quiet hquiet
  have hsame₂ : SameReasons u t := sameReasons_of_parts htk fun l => (congrArg Link.state (linkCore_of_same hlinks l) :)
  have hmem : r.bare ∈ s.resettle.tk.routes.map Route.bare := by
    rw [← hquiet.routes, ← htk]
    exact List.mem_map_of_mem hr
  obtain ⟨r', hr', heq⟩ := List.mem_map.1 hmem
  obtain ⟨hsrc, hdst, hlive, -⟩ := fields_of_bare heq
  have hunbarred : s.Unbarred s.resettle.tk.routes := by
    rw [resettle_routes]
    exact (unbarred_suspended s _).settleAll
  have hmay : s.mayRun r' := hunbarred r' hr' (.inl (hlive.trans hl))
  exact hsame₂.mayRun.2 (hsame₁.mayRun.2 ((sameReasons_resettle s).mayRun.2 ((mayRun_congr hsrc hdst).1 hmay)))

theorem keeps_endOfEvent (s0 s1 : State) : KeepsBut afterParts (tkAfterFor none s0 s1) (finish s0 s1) := keeps_after _

/-- A speaker's zone that is on air with its interlock cuts the LIVE routes to it at once (R150). -/
theorem uncut_of_mayRun {r : Route} (h : s.mayRun r) {w : Nat} (hk : (s.station r.destination).kind = some .speaker)
    (hw : (s.station r.destination).zone = some w) :
    ¬ ((slot Zone.reset s.tk.zones w).onAir = true ∧ (slot Zone.reset s.tk.zones w).speakerCut = true) := by
  obtain ⟨hcuts, -⟩ := h
  rw [State.zoneCuts, hk, hw] at hcuts
  intro hcut
  simp [hcut.1, hcut.2] at hcuts

/-- No LIVE route goes to a speaker whose zone is on air with its interlock. -/
def State.Uncut (s : State) : Prop := ∀ r ∈ s.tk.routes, r.live = true → ∀ w, (s.station r.destination).kind = some .speaker →
  (s.station r.destination).zone = some w →
  ¬ ((slot Zone.reset s.tk.zones w).onAir = true ∧ (slot Zone.reset s.tk.zones w).speakerCut = true)

theorem uncut_of_resettled {u t : State} (hquiet : Quiet s.resettle u) (hafter : KeepsBut afterParts u t) : t.Uncut :=
  fun _ hr hl _ hk hw => uncut_of_mayRun (mayRun_of_resettled hquiet hafter hr hl) hk hw

theorem zones_of_resettled {u t : State} (hquiet : Quiet s.resettle u) (hafter : KeepsBut afterParts u t) : t.tk.zones = s.tk.zones := by
  have htk : t.tk = u.tk := hafter .tk (by decide)
  rw [htk, hquiet.zones, resettle_zones]

/-- A request that the Talk Router ends, carried out. -/
theorem request_settles {α : Type} {code : Nat} {f : HostFrame} {s1 : State} {read : List Byte → Option α} {act : α → State → Answered}
    {a : α} {body : List Byte} (ht : Takes code f s) (hr : read f.payload = some a) (hact : act a (dropHead s) = okWith body s1)
    (hmp : s1.mp = (dropHead s).mp) {ps : List Part} (hps : KeepsBut ps (dropHead s) s1) :
    ∃ t, request code read act finish s = .next t ∧ Replies f (u8 0 ++ body) s t ∧
      t.tr = s1.tr ∧ t.tk.zones = s1.tk.zones ∧ t.Uncut ∧ KeepsBut (ps ++ tailParts) s t := by
  have hquiet := quiet_tkAfterFor none s (putReply f (u8 0 ++ body) s1)
  have hafter := keeps_endOfEvent s (putReply f (u8 0 ++ body) s1)
  have htr : (finish s (putReply f (u8 0 ++ body) s1)).tr = s1.tr := keeps_finish s (putReply f (u8 0 ++ body) s1) .tr (by decide)
  exact ⟨_, request_finishes ht hr hact, replies_of_finish hmp s, htr,
    (zones_of_resettled hquiet hafter).trans rfl, uncut_of_resettled hquiet hafter, keeps_finish_reply hps s⟩

end interlock

/-! ## The obligation -/

/-- The zones, their interlocks and the LIVE routes after a ZONE_INTERLOCK carried out (R150). -/
theorem interlock_taken {s : State} {f : HostFrame} {z : Nat} {on : Bool} (hs : s.shaped) (ht : Takes 0x34 f s)
    (hr : readInterlock f.payload = some (z, on)) (hz : 1 ≤ z) (hz' : z ≤ 4) : Reaches .zoneInterlock s fun t =>
      Replies f (u8 0 ++ firstIf (slot Zone.reset s.tr.zones z).onAir ++ firstIf on) s t ∧
        t.tr = { s.tr with zones := s.tr.zones.set (z - 1) { slot Zone.reset s.tr.zones z with speakerCut := on } } ∧
        (slot Zone.reset t.tk.zones z).speakerCut = on ∧
        (∀ r ∈ t.tk.routes, r.live = true → ∀ w, (t.station r.destination).kind = some .speaker →
          (t.station r.destination).zone = some w →
          ¬ ((slot Zone.reset t.tk.zones w).onAir = true ∧ (slot Zone.reset t.tk.zones w).speakerCut = true)) ∧
        KeepsBut (.tr :: tailParts) s t := by
  obtain ⟨hlen, hlen'⟩ := zones_length hs
  have hzone : slot Zone.reset (interlock z on (dropHead s)).tr.zones z = { slot Zone.reset s.tr.zones z with speakerCut := on } :=
    slot_modSlot_self _ _ _ hz (hz'.trans_eq hlen.symm)
  have hact : setInterlock (z, on) (dropHead s) =
      okWith (firstIf (slot Zone.reset s.tr.zones z).onAir ++ firstIf on) (interlock z on (dropHead s)) := by
    refine (if_neg (oneTo_ne_false hz hz')).trans ?_
    show okWith (slot Zone.reset (interlock z on (dropHead s)).tr.zones z).bytes _ = _
    rw [hzone]
    rfl
  obtain ⟨t, hstep, hreply, htr, hzones, huncut, hkeeps⟩ := request_settles ht hr hact rfl (keeps_interlock z on (dropHead s))
  refine ⟨t, hstep, by simpa using hreply, ?_, ?_, huncut, hkeeps.mono (by decide)⟩
  · rw [htr, ← modSlot_eq_set Zone.reset (fun x => { x with speakerCut := on }) hz (hz'.trans_eq hlen.symm)]
    rfl
  · rw [hzones]
    exact (congrArg Zone.speakerCut (slot_modSlot_self Zone.reset (fun x => { x with speakerCut := on }) s.tk.zones hz
      (hz'.trans_eq hlen'.symm)) :)

/-- Settles O46. -/
theorem tallySettingsTaken : Obligations.TallySettingsTaken := by
  intro s f hs kept
  refine ⟨?_, ?_, ?_, ?_, ?_⟩
  · intro a ht hr k
    have hk : max 1 (min 8 a.filterK) = k := clamp_filterK _
    refine ⟨fun h => request_refuses ht hr (if_pos h) rfl, fun h => ?_⟩
    obtain ⟨t, hstep, hreply, htr, hkept⟩ := request_sets (act := configureInputs) ht hr (if_neg h)
    rw [hk] at hreply htr
    refine ⟨t, hstep, by simpa using hreply, by rw [htr], fun n hn hn' => ?_, hkept⟩
    rw [State.line, htr]
    exact slot_overMask _ _ _ _ hn (hn'.trans_eq (lines_length hs).symm)
  · intro mask values ht hr
    obtain ⟨t, hstep, hreply, htr, hkept⟩ := request_sets (act := setVirtual) (a := (mask, values)) ht hr rfl
    refine ⟨t, hstep, by rw [htr]; exact hreply, by rw [htr], fun n hn hn' => ?_, hkept⟩
    rw [htr]
    exact slot_setVirtuals _ _ _ hn (hn'.trans_eq (virtuals_length hs).symm)
  · intro n x ht hr input fits right
    have hzone : ∀ e, x = some e → e.zone ≠ some 0 := fun e he => readMapSet_zone (he ▸ hr)
    have hvalid : x.all MapEntry.valid = true ↔ ∀ e, x = some e → fits e := by
      cases x with
      | none => simp
      | some e => exact (mapEntry_valid_iff (hzone e rfl)).trans ⟨fun h e' he => Option.some.inj he ▸ h, fun h => h e rfl⟩
    refine ⟨fun h => request_refuses ht hr (setMap_of_not_right fun h' => h ⟨h'.1, h'.2.1, hvalid.1 h'.2.2⟩) rfl,
      fun ⟨h1, h64, hx⟩ hm => ?_, fun ⟨h1, h64, hx⟩ hm => ?_⟩
    · exact request_refuses ht hr ((setMap_of_right h1 h64 (hvalid.2 hx)).trans (if_pos hm)) rfl
    · have hm' : ¬ s.mode = .run := by rw [hm]; exact Mode.noConfusion
      obtain ⟨t, hstep, hreply, htr, hkept⟩ := request_sets ht hr ((setMap_of_right h1 h64 (hvalid.2 hx)).trans (if_neg hm'))
      exact ⟨t, hstep, hreply, by rw [htr, modSlot_const _ _ h1], hkept⟩
  · intro x mask ht hr outside
    have hout : x.valid = false ↔ outside := by
      cases x with
      | map first => exact oneTo_eq_false_iff 64 first
      | inputs | snapshot => exact iff_of_false Bool.noConfusion id
    refine ⟨fun h => request_refuses ht hr (if_pos (hout.2 h)) rfl, fun h => ?_⟩
    obtain ⟨t, hstep, hreply, htr, hkept⟩ := request_sets (act := readTally) ht hr (if_neg fun h' => h (hout.1 h'))
    refine ⟨t, hstep, hreply, by rw [htr]; rfl, fun n hn hn' => ?_, hkept⟩
    rw [State.line, htr]
    exact slot_overMask LineInput.reset mask (fun x => { x with edge := false }) _ hn (hn'.trans_eq (lines_length hs).symm)
  · intro z on ht hr zone
    exact ⟨fun h => request_refuses ht hr (if_pos ((oneTo_eq_false_iff 4 z).2 h)) rfl, fun hz hz' => interlock_taken hs ht hr hz hz'⟩

end Sys2Proof.Machine

/-! START (O50). -/

namespace Sys2Proof.Machine

-- One theorem at a time: all at once, their threads together outgrow the memory limit of the check.
set_option Elab.async false

section start
variable {s t u : State}

/-- The SCAN_ASSIGN that START issues for a band, where it has one (R28). -/
def State.startOrder (s : State) (b : Nat) : Option ScanOrder :=
  if (s.band b).defined = true then (s.band b).p.scanUnit.map (s.band b).p.scanOrder else none

theorem startScan_eq (s : State) (b : Nat) : startScan s b = ((s.startOrder b).elim s fun x => issueScanAssign b x s) := by
  unfold startScan State.startOrder
  cases (s.band b).defined <;> cases (s.band b).p.scanUnit <;> rfl

/-- The bands' records are the same but for the failed orders that wait for a boundary. -/
def ScansOnly (s t : State) : Prop := ∀ b, ({ t.band b with scanReissue := [] }).core = ({ s.band b with scanReissue := [] }).core

theorem ScanOnly.scansOnly {b : Nat} (h : ScanOnly b s t) : ScansOnly s t := fun n => by
  by_cases hn : n = b
  · exact hn ▸ h.self
  · have hc (k : Band) : ({ k with scanReissue := [] } : Band).core = { k.core with scanReissue := [] } := rfl
    rw [hc, hc, h.alone n hn]

theorem ScansOnly.startOrder (h : ScansOnly s t) (b : Nat) : t.startOrder b = s.startOrder b := by
  have hdef : (t.band b).defined = (s.band b).defined := (congrArg Band.defined (h b) :)
  have hp : (t.band b).p = (s.band b).p := (congrArg Band.p (h b) :)
  rw [State.startOrder, State.startOrder, hdef, hp]

/-- What START leaves of the bands in a list: each order is held, or it waits for the next boundary, its unit's lists full. -/
structure ScansStart (bs : List Nat) (s t : State) : Prop where
  issued : ∀ b ∈ bs, ∀ x, s.startOrder b = some x → 1 ≤ x.unit → x.unit ≤ 24 → Ordered x.unit (x.body b) (.st b) s t ∨
    ((framePlus s.now 1, x) ∈ (t.band b).scanReissue ∧ 32 < (s.unit x.unit).waiting.length + bs.length)
  kept : ∀ b, ∀ y ∈ (s.band b).scanReissue, y ∈ (t.band b).scanReissue
  bands : ScansOnly s t
  issues : Issues (fun _ => True) s t

theorem startScan_does {b : Nat} (hb : 1 ≤ b) (hb' : b ≤ s.bands.length) (hs : s.units.length = 25) :
    ScansStart [b] s (startScan s b) ∧ (startScan s b).now = s.now ∧ (startScan s b).units.length = 25 ∧
      (startScan s b).bands.length = s.bands.length ∧
      ∀ a, ((startScan s b).unit a).waiting.length ≤ (s.unit a).waiting.length + 1 := by
  rw [startScan_eq]
  cases hx : s.startOrder b with
  | none =>
    refine ⟨⟨fun n hn x hx' => ?_, fun _ _ h => h, fun _ => rfl, .refl s⟩, rfl, hs, rfl, fun _ => Nat.le_succ _⟩
    rw [List.mem_singleton.1 hn, hx] at hx'
    cases hx'
  | some x =>
    obtain ⟨hone, hnow, hunits, hwaiting⟩ := issueScanAssign_does hb hb' hs x
    refine ⟨⟨fun n hn y hy => ?_, fun n y hy => ?_, hone.band.scansOnly, hone.issues⟩, hnow, hunits, hone.band.length, hwaiting⟩
    · obtain rfl := List.mem_singleton.1 hn
      obtain rfl := Option.some.inj (hx.symm.trans hy)
      exact hone.issued x List.mem_cons_self
    · by_cases hn : n = b
      · exact hn ▸ hone.kept y (hn ▸ hy)
      · have hcore := (congrArg Band.scanReissue (hone.band.alone n hn) :)
        exact hcore.symm ▸ hy

/-- The orders of START, band by band. -/
theorem startScans_do (bs : List Nat) (hbs : ∀ b ∈ bs, 1 ≤ b ∧ b ≤ s.bands.length) (hs : s.units.length = 25) :
    ScansStart bs s (bs.foldl startScan s) := by
  induction bs generalizing s with
  | nil => exact ⟨fun _ h => absurd h List.not_mem_nil, fun _ _ h => h, fun _ => rfl, .refl s⟩
  | cons b bs ih =>
    obtain ⟨hb, hb'⟩ := hbs b List.mem_cons_self
    obtain ⟨hone, hnow, hunits, hlen, hwaiting⟩ := startScan_does hb hb' hs
    have hrest := ih (s := startScan s b) (fun n hn => (hbs n (List.mem_cons_of_mem _ hn)).imp_right (·.trans_eq hlen.symm)) hunits
    rw [List.foldl_cons]
    refine ⟨fun n hn x hx hu hu' => ?_, fun n y hy => hrest.kept n y (hone.kept n y hy), fun n => (hrest.bands n).trans (hone.bands n),
      hone.issues.trans hrest.issues⟩
    rw [List.length_cons]
    obtain rfl | hn := List.mem_cons.1 hn
    · refine (hone.issued n (List.mem_singleton_self n) x hx hu hu').imp (fun h => h.issues displaceable_scan hrest.issues)
        fun ⟨hmem, hfull⟩ => ⟨hrest.kept n _ hmem, ?_⟩
      rw [List.length_singleton] at hfull
      omega
    · refine (hrest.issued n hn x ((hone.bands.startOrder n).trans hx) hu hu').imp (fun h => h.of_now hnow)
        fun ⟨hmem, hfull⟩ => ⟨hnow ▸ hmem, ?_⟩
      have := hwaiting x.unit
      omega

/-- A link's record at START. -/
theorem link_started (now : FrameNo) (xs : List Link) (l : Nat) :
    slot Link.vacant (xs.map (Link.start now)) l = (slot Link.vacant xs l).start now :=
  slot_map (Link.start now) Link.vacant xs l

theorem Link.start_eq (now : FrameNo) (k : Link) : k.start now = if k.cfg.kind = none then k else
    { k with silenceCounter := k.cfg.silenceLimit, deadline := if k.state = .acquiring
      then some (framePlus now k.cfg.acquireLimit) else k.deadline } := by
  unfold Link.start
  cases k.cfg.kind <;> rfl

/-- The state in which START issues its orders. -/
def State.inRun (s : State) : State := { s with mode := .run, links := s.links.map (Link.start s.now) }

theorem keeps_startScan_narrow (s : State) (b : Nat) : KeepsBut scanParts s (startScan s b) := by
  rw [startScan_eq]
  cases s.startOrder b with
  | none => exact .refl _ _
  | some x => exact keeps_issueScanAssign b x s

theorem startOrder_some {b u : Nat} (hdef : (s.band b).defined = true) (hunit : (s.band b).p.scanUnit = some u) :
    s.startOrder b = some ((s.band b).p.scanOrder u) := by
  rw [State.startOrder, if_pos hdef, hunit]
  rfl

/-- What follows the orders of START leaves them. -/
theorem ScansStart.ends {bs : List Nat} (h : ScansStart bs s t) (hbands : ∀ b, (u.band b).core = (t.band b).core)
    (hunits : u.units = t.units) : ScansStart bs s u := by
  have hre (b : Nat) : (u.band b).scanReissue = (t.band b).scanReissue := (congrArg Band.scanReissue (hbands b) :)
  have hissues : Issues (fun _ => True) t u := .units hunits
  refine ⟨fun b hb x hx h1 h24 => ?_, fun b y hy => (hre b).symm ▸ h.kept b y hy, fun b => ?_, h.issues.trans hissues⟩
  · exact (h.issued b hb x hx h1 h24).imp (fun h => h.issues displaceable_scan hissues) fun h => ⟨(hre b).symm ▸ h.1, h.2⟩
  · have hc (k : Band) : ({ k with scanReissue := [] } : Band).core = { k.core with scanReissue := [] } := rfl
    rw [hc, hbands b, ← hc]
    exact h.bands b

/-- Settles O50. -/
theorem startEntersRun : Obligations.StartEntersRun := by
  intro s f hs ht hpay
  have hr : readNothing f.payload = some () := by rw [hpay]; rfl
  refine ⟨fun hm => request_refuses ht hr (if_pos hm) rfl, fun hm => ?_⟩
  have hnot : ¬ s.mode = .run := by rw [hm]; exact Mode.noConfusion
  obtain ⟨hbands, -, hunits, -⟩ := hs
  have hafter : KeepsBut afterParts (enterRun (dropHead s)) (after (putReply f (u8 0 ++ []) (enterRun (dropHead s)))) :=
    ((keeps_putReply f _ _).mono (by decide)).trans (keeps_after _)
  have hscan : KeepsBut scanParts (dropHead s).inRun (enterRun (dropHead s)) := .foldl _ keeps_startScan_narrow _ _
  have hissued : ScansStart (oneUpTo Config.bands) (dropHead s).inRun (enterRun (dropHead s)) :=
    startScans_do _ (fun b hb => (mem_oneUpTo.1 hb).imp_right (·.trans_eq hbands.symm)) hunits
  have hscans : ScansStart (oneUpTo Config.bands) (dropHead s).inRun (after (putReply f (u8 0 ++ []) (enterRun (dropHead s)))) :=
    hissued.ends (bandCore_of_same (hafter .bands (by decide))) (hafter .units (by decide))
  refine ⟨_, request_oks ht hr (if_neg hnot), replies_of_after (hscan .mp (by decide)), ?_, fun l _ _ => ?_,
    fun b u hb hb' hu hu' hdef hunit => ?_, hscans.bands, (keeps_job_reply (keeps_enterRun (dropHead s))).mono (by decide)⟩
  · exact (hafter .mode (by decide)).trans (hscan .mode (by decide))
  · refine ((linkCore_of_same (hafter .links (by decide)) l).trans (linkCore_of_same (hscan .links (by decide)) l)).trans ?_
    exact congrArg Link.core ((link_started s.now s.links l).trans (Link.start_eq s.now _))
  · have hx := startOrder_some (s := (dropHead s).inRun) hdef hunit
    exact (hscans.issued b (mem_oneUpTo.2 ⟨hb, hb'⟩) _ hx hu hu').imp (fun h => h.of_now rfl) fun ⟨hmem, hfull⟩ =>
      ⟨hmem, Nat.lt_of_add_lt_add_right (n := 4) hfull⟩

end start

end Sys2Proof.Machine

/-! The levels of a SCAN_DATA (O55). -/

namespace Sys2Proof.Machine

-- One theorem at a time: all at once, their threads together outgrow the memory limit of the check.
set_option Elab.async false

/-! ## One level -/

/-- A bin that takes a level (R29, R30). -/
def Band.taken (k : Band) (x : Bin) (v : Nat) : Bin := { level := some (x.follow v), hot := k.hotAfter x (x.follow v) }

/-- The transitions between two rows of bins. -/
def transitions (xs ys : List Bin) : Nat := (xs.zip ys).countP fun (y, z) => decide (y.hot ≠ z.hot)

theorem transitions_self (xs : List Bin) : transitions xs xs = 0 := by
  induction xs with
  | nil => rfl
  | cons x xs ih => rw [transitions, List.zip_cons_cons, List.countP_cons, show (xs.zip xs).countP _ = 0 from ih]; simp

/-- The transition of one bin, and those that remain. -/
theorem transitions_set {xs ys : List Bin} {i : ℕ} {x z : Bin} (hx : xs[i]? = some x) (hz : ys[i]? = some z) :
    transitions xs ys = (if z.hot = x.hot then 0 else 1) + transitions (xs.set i z) ys := by
  have hcons (a b : Bin) (as bs : List Bin) : transitions (a :: as) (b :: bs) = (if b.hot = a.hot then 0 else 1) + transitions as bs := by
    rw [transitions, transitions, List.zip_cons_cons, List.countP_cons, add_comm]
    by_cases h : b.hot = a.hot
    · simp [h]
    · simp [h, Ne.symm h]
  induction xs generalizing ys i with
  | nil => cases hx
  | cons a as ih =>
    cases ys with
    | nil => cases hz
    | cons b bs =>
      cases i with
      | zero =>
        obtain rfl : a = x := Option.some.inj hx
        obtain rfl : b = z := Option.some.inj hz
        rw [List.set_cons_zero, hcons, hcons, if_pos (rfl : b.hot = b.hot), Nat.zero_add]
      | succ i =>
        rw [List.set_cons_succ, hcons, hcons, ih hx hz]
        omega

/-! ### What `n` spectrum changes leave -/

theorem spectrumChanges_p (n : Nat) (k : Band) : (spectrumChanges n k).p = k.p := by unfold spectrumChanges; split <;> rfl

theorem spectrumChanges_fields (n : Nat) (k : Band) : (spectrumChanges n k).bins = k.bins ∧
    (spectrumChanges n k).spectrumGen = k.spectrumGen + BitVec.ofNat 32 n ∧ (spectrumChanges n k).carrierGen = k.carrierGen ∧
      (spectrumChanges n k).spares = k.spares := by
  unfold spectrumChanges
  split
  · rename_i h
    subst h
    exact ⟨rfl, (BitVec.add_zero _).symm, rfl, rfl⟩
  · exact ⟨rfl, rfl, rfl, rfl⟩

theorem spectrumChanges_wants {n : Nat} (h : 0 < n) (k : Band) :
    (spectrumChanges n k).sparesFresh = false ∧ (spectrumChanges n k).sweepWanted = true := by
  rw [spectrumChanges, if_neg (Nat.ne_of_gt h)]
  exact ⟨rfl, rfl⟩

theorem spectrumChanges_again (m n : Nat) (k : Band) (xs ys : List Bin) :
    spectrumChanges n { spectrumChanges m { k with bins := xs } with bins := ys } = spectrumChanges (m + n) { k with bins := ys } := by
  unfold spectrumChanges
  by_cases hm : m = 0
  · subst hm
    simp
  · rw [if_neg hm, if_neg (by omega : ¬ m + n = 0)]
    split
    · rename_i hn
      rw [hn, Nat.add_zero]
    · simp [BitVec.ofNat_add, BitVec.add_assoc]

section one
variable {s : State} {b i v : Nat}

/-- One level, at the band that it is for. -/
theorem applyLevel_band (hb : 1 ≤ b) (hb' : b ≤ s.bands.length) {x : Bin} (hx : (s.band b).bins[i]? = some x) (hm : s.masked b i = false) :
    (applyLevel b i v s).band b = spectrumChanges (if ((s.band b).taken x v).hot = x.hot then 0 else 1)
      { s.band b with bins := (s.band b).bins.set i ((s.band b).taken x v) } := by
  have hmod : (s.modBand b fun k => { k with bins := k.bins.set i ((s.band b).taken x v) }).band b =
      { s.band b with bins := (s.band b).bins.set i ((s.band b).taken x v) } := band_modBand_self hb hb' _
  unfold applyLevel
  rw [hx]
  dsimp only
  rw [if_neg (by rw [hm]; exact Bool.false_ne_true)]
  by_cases hhot : ((s.band b).taken x v).hot = x.hot
  · rw [if_pos (show (s.band b).hotAfter x (x.follow v) = x.hot from hhot), if_pos hhot]
    exact hmod
  · rw [if_neg (show ¬ (s.band b).hotAfter x (x.follow v) = x.hot from hhot), if_neg hhot]
    exact (band_modBand_self hb (hb'.trans_eq (length_modBand s b _).symm) (spectrumChanges 1)).trans (congrArg _ hmod)

theorem applyLevel_waits {x : Bin} (hx : (s.band b).bins[i]? = some x) (hm : s.masked b i = false)
    (h : ((s.band b).taken x v).hot ≠ x.hot) : Waits .bandSpectrum b (applyLevel b i v s) := by
  unfold applyLevel
  rw [hx]
  dsimp only
  rw [if_neg (by rw [hm]; exact Bool.false_ne_true), if_neg (show ¬ (s.band b).hotAfter x (x.follow v) = x.hot from h)]
  exact waits_raise _ _ _

/-- A level for a masked bin, or for none, changes nothing. -/
theorem applyLevel_stays (h : (s.band b).bins[i]? = none ∨ s.masked b i = true) : applyLevel b i v s = s := by
  unfold applyLevel
  split
  · rfl
  · rename_i x hx
    exact if_pos (h.resolve_left fun hn => by rw [hx] at hn; cases hn)

/-- Whatever the level does, it does to its band's record. -/
theorem applyLevel_others (b i v : Nat) (s : State) :
    (∀ n, n ≠ b → (applyLevel b i v s).band n = s.band n) ∧ (applyLevel b i v s).bands.length = s.bands.length := by
  unfold applyLevel
  split
  · exact ⟨fun _ _ => rfl, rfl⟩
  · split
    · exact ⟨fun _ _ => rfl, rfl⟩
    · dsimp only
      split
      · exact ⟨fun n hn => band_modBand_other hn _, length_modBand _ _ _⟩
      · exact ⟨fun n hn => (band_modBand_other hn _).trans (band_modBand_other hn _), (length_modBand _ _ _).trans (length_modBand _ _ _)⟩

end one

/-! ## Every level -/

/-- Bin `n` after the levels `vs` are applied from bin `i` on; `m` tells which are masked. -/
def Band.levelAt (k : Band) (m : Nat → Bool) (i : Nat) (vs : List Nat) (n : Nat) (y : Bin) : Bin :=
  if n < i ∨ m n = true then y else match vs[n - i]? with | none => y | some v => k.taken y v

def Band.levelled (k : Band) (m : Nat → Bool) (i : Nat) (vs : List Nat) (xs : List Bin) : List Bin :=
  xs.zipIdx.map fun (y, n) => k.levelAt m i vs n y

section run
variable {k : Band} {m : Nat → Bool} {i v : ℕ} {vs : List Nat} {xs : List Bin}

theorem levelled_at (n : ℕ) : (k.levelled m i vs xs)[n]? = xs[n]?.map (k.levelAt m i vs n) := by
  rw [Band.levelled, List.getElem?_map, List.getElem?_zipIdx, Option.map_map, Nat.zero_add]
  rfl

theorem levelAt_nil (n : ℕ) (y : Bin) : k.levelAt m i [] n y = y := ite_self y

/-- The levels after the first are for the bins after the first. -/
theorem levelAt_cons {n : ℕ} (hn : n ≠ i) : k.levelAt m i (v :: vs) n = k.levelAt m (i + 1) vs n := by
  funext y
  unfold Band.levelAt
  by_cases hlt : n < i
  · rw [if_pos (.inl hlt), if_pos (.inl (by omega))]
  · obtain ⟨j, rfl⟩ : ∃ j, n = i + 1 + j := ⟨n - (i + 1), by omega⟩
    have h1 : i + 1 + j - i = j + 1 := by omega
    have h2 : i + 1 + j - (i + 1) = j := by omega
    have h3 : ¬ i + 1 + j < i + 1 := by omega
    rw [h1, h2, List.getElem?_cons_succ]
    simp only [hlt, h3, false_or]

theorem levelAt_masked {n : ℕ} (h : m n = true) (y : Bin) : k.levelAt m i vs n y = y := if_pos (.inr h)

theorem levelAt_first (h : m i = false) (y : Bin) : k.levelAt m i (v :: vs) i y = k.taken y v := by
  simp [Band.levelAt, h]

theorem levelAt_before (y : Bin) : k.levelAt m (i + 1) vs i y = y := if_pos (.inl (Nat.lt_succ_self i))

theorem levelled_nil : k.levelled m i [] xs = xs := by
  refine List.ext_getElem? fun n => ?_
  rw [levelled_at, funext (levelAt_nil n)]
  exact congrFun Option.map_id _

/-- The first level, and then the others, where it has no bin to change. -/
theorem levelled_cons_stays (h : xs[i]? = none ∨ m i = true) : k.levelled m i (v :: vs) xs = k.levelled m (i + 1) vs xs := by
  refine List.ext_getElem? fun n => ?_
  rw [levelled_at, levelled_at]
  by_cases hn : n = i
  · subst hn
    obtain h | h := h
    · rw [h]; rfl
    · rw [funext (levelAt_masked h), funext levelAt_before]
  · rw [levelAt_cons hn]

/-- The first level, and then the others. -/
theorem levelled_cons {x : Bin} (hx : xs[i]? = some x) (hm : m i = false) :
    k.levelled m i (v :: vs) xs = k.levelled m (i + 1) vs (xs.set i (k.taken x v)) ∧
      (k.levelled m (i + 1) vs (xs.set i (k.taken x v)))[i]? = some (k.taken x v) := by
  obtain ⟨hlt, -⟩ := List.getElem?_eq_some_iff.1 hx
  refine ⟨List.ext_getElem? fun n => ?_, ?_⟩
  · rw [levelled_at, levelled_at]
    by_cases hn : n = i
    · subst hn
      rw [List.getElem?_set_self hlt, hx, Option.map_some, Option.map_some, levelAt_first hm, levelAt_before]
    · rw [List.getElem?_set_ne (Ne.symm hn), levelAt_cons hn]
  · rw [levelled_at, List.getElem?_set_self hlt, Option.map_some, levelAt_before]

/-- How a bin takes levels depends on the band's parameters alone. -/
theorem levelled_congr {k' : Band} (h : k'.p = k.p) : k'.levelled m i vs xs = k.levelled m i vs xs := by
  have htaken (y : Bin) (v : Nat) : k'.taken y v = k.taken y v := by
    rw [Band.taken, Band.taken, Band.hotAfter, Band.hotAfter, h]
  simp only [Band.levelled, Band.levelAt, htaken]

end run

section levels
variable {s : State} {b : Nat}

theorem masked_of_same {t : State} (hlinks : Part.links.same s t) (hp : (t.band b).p = (s.band b).p) : t.masked b = s.masked b := by
  funext n
  rw [State.masked, State.masked, carrierSet_of_same hlinks, hp]

/-- The bins of a band after the levels `vs` from bin `i` on. -/
def State.scanned (s : State) (b i : Nat) (vs : List Nat) : List Bin := (s.band b).levelled (s.masked b) i vs (s.band b).bins

/-- What the levels of a list leave of the band, from bin `i` on, and the notice of a transition. -/
theorem applyLevels_does (hb : 1 ≤ b) (vs : List Nat) (i : Nat) (hb' : b ≤ s.bands.length) :
    (applyLevels b i vs s).band b = spectrumChanges (transitions (s.band b).bins (s.scanned b i vs)) { s.band b with bins := s.scanned b i vs } ∧
      (0 < transitions (s.band b).bins (s.scanned b i vs) → Waits .bandSpectrum b (applyLevels b i vs s)) ∧
      (∀ n, n ≠ b → (applyLevels b i vs s).band n = s.band n) := by
  unfold State.scanned
  induction vs generalizing i s with
  | nil =>
    rw [levelled_nil, transitions_self]
    exact ⟨rfl, fun h => absurd h (Nat.lt_irrefl 0), fun _ _ => rfl⟩
  | cons v vs ih =>
    obtain ⟨hothers, hlen⟩ := applyLevel_others b i v s
    obtain ⟨hband, hwaits, hrest⟩ := ih (s := applyLevel b i v s) (i + 1) (hb'.trans_eq hlen.symm)
    have hrest' : ∀ n, n ≠ b → (applyLevels b i (v :: vs) s).band n = s.band n := fun n hn => (hrest n hn).trans (hothers n hn)
    by_cases hstays : (s.band b).bins[i]? = none ∨ s.masked b i = true
    · rw [applyLevel_stays hstays] at hband hwaits
      rw [levelled_cons_stays hstays]
      exact ⟨by rw [applyLevels, applyLevel_stays hstays]; exact hband, by rw [applyLevels, applyLevel_stays hstays]; exact hwaits, hrest'⟩
    · obtain ⟨hx, hm⟩ := not_or.1 hstays
      obtain ⟨x, hx⟩ := Option.ne_none_iff_exists'.1 hx
      have hm : s.masked b i = false := Bool.eq_false_iff.2 hm
      have hone := applyLevel_band (v := v) hb hb' hx hm
      have hp : ((applyLevel b i v s).band b).p = (s.band b).p := by rw [hone, spectrumChanges_p]
      have hmask : (applyLevel b i v s).masked b = s.masked b := masked_of_same (keeps_applyLevel b i v s .links (by decide)) hp
      have hbins : ((applyLevel b i v s).band b).bins = (s.band b).bins.set i ((s.band b).taken x v) := by
        rw [hone, spectrumChanges]
        split <;> rfl
      obtain ⟨hcons, hat⟩ := levelled_cons (k := s.band b) (m := s.masked b) (vs := vs) (v := v) hx hm
      rw [hmask, levelled_congr hp, hbins, ← hcons] at hband hwaits
      rw [← hcons] at hat
      have hsplit := transitions_set hx hat
      refine ⟨?_, fun hpos => ?_, hrest'⟩
      · rw [applyLevels, hband, hone, spectrumChanges_again, ← hsplit]
      · by_cases hhot : ((s.band b).taken x v).hot = x.hot
        · rw [if_pos hhot, Nat.zero_add] at hsplit
          exact hwaits (hsplit ▸ hpos)
        · exact (applyLevel_waits hx hm hhot).of_acts (wide := .full) (acts_applyLevels b vs (i + 1) _)

end levels

/-- What a bin makes of a level, written out (R29, R30). -/
theorem taken_eq (k : Band) (y : Bin) (v : Nat) : k.taken y v =
    let level := match y.level with | none => v | some old => max v (old - 4)
    { level := some level, hot := if y.hot then decide (k.p.hotLevel < level + 12) else decide (k.p.hotLevel ≤ level) } := by
  have hlevel : y.follow v = match y.level with | none => v | some old => max v (old - 4) := by
    unfold Bin.follow
    cases y.level <;> rfl
  have hhot (level : Nat) : (!decide (level + 12 ≤ k.p.hotLevel)) = decide (k.p.hotLevel < level + 12) :=
    decide_not.symm.trans (decide_eq_decide.2 Nat.not_le)
  rw [Band.taken, Band.hotAfter, hlevel, hhot]

/-- Levels change bands and raise notices, and no more. -/
theorem keeps_scanLevels (b : Nat) (vs : List Nat) (i : Nat) (s : State) :
    KeepsBut [.bands, .sweepFlags, .notices] s (applyLevels b i vs s) := by
  induction vs generalizing i s with
  | nil => exact .refl _ _
  | cons v vs ih =>
    refine KeepsBut.trans ?_ (ih (i + 1) (applyLevel b i v s))
    have hmod (u : State) (f : Band → Band) : KeepsBut [.bands, .sweepFlags, .notices] u (u.modBand b f) := (keeps_modBand u b f).mono (by decide)
    unfold applyLevel
    split
    · exact .refl _ _
    · exact .ite (.refl _ _) (.ite (hmod _ _) (((hmod _ _).trans (hmod _ _)).trans ((keeps_raise _ _ _).mono (by decide))))

/-! ## The obligation -/

/-- Settles O55: a level at a time, each on the band that the levels before it left. -/
theorem scanLevelsApplied : Obligations.ScanLevelsApplied := by
  constructor
  · intro s bs howed hread
    show execScanData bs s = _
    simp only [execScanData, event, settleOwed_of_nil s howed, hread]
  intro s bs x hs howed hread k
  have hexec : exec (.scanData bs) s = .next (after (takeScanData x s)) := by
    show execScanData bs s = _
    simp only [execScanData, event, settleOwed_of_nil s howed, hread]
  refine ⟨fun hdef => ⟨_, hexec, ?_⟩, fun hdef hb hb' => ⟨_, hexec, ?_⟩⟩
  · rw [takeScanData, if_neg (by rw [hdef]; exact Bool.false_ne_true)]
    exact keeps_after s
  have hlen : x.band ≤ s.bands.length := hb'.trans_eq hs.1.symm
  obtain ⟨hband, hwaits, hothers⟩ := applyLevels_does hb x.levels x.first hlen
  have htake : takeScanData x s = applyLevels x.band x.first x.levels s := if_pos hdef
  have hkeeps := keeps_scanLevels x.band x.levels x.first s
  rw [htake]
  generalize applyLevels x.band x.first x.levels s = u at hband hwaits hothers hkeeps
  have hafter := keeps_after u
  have hcore := bandCore_of_same (hafter .bands (by decide))
  have hbins : s.scanned x.band x.first x.levels = k.bins.zipIdx.map fun (y, i) => if i < x.first ∨ s.masked x.band i then y
        else match x.levels[i - x.first]? with
          | none => y
          | some v =>
            let level := match y.level with | none => v | some old => max v (old - 4)
            { level := some level, hot := if y.hot then decide (k.p.hotLevel < level + 12) else decide (k.p.hotLevel ≤ level) } := by
    refine List.map_congr_left fun ⟨y, i⟩ _ => ?_
    simp only [Band.levelAt, taken_eq]
    rfl
  rw [hbins] at hband hwaits
  have hself := (hcore x.band).trans (congrArg Band.core hband)
  obtain ⟨hb1, hg1, hc1, hs1⟩ := spectrumChanges_fields (transitions k.bins _) { k with bins := _ }
  exact ⟨(congrArg Band.bins hself :).trans hb1, (congrArg Band.spectrumGen hself :).trans hg1,
    fun hpos => ⟨notified_after (hwaits hpos), (congrArg Band.sparesFresh hself :).trans (spectrumChanges_wants hpos _).1,
      (flags_after u).asked x.band (.inl ((congrArg Band.sweepWanted hband :).trans (spectrumChanges_wants hpos _).2))⟩,
    (congrArg Band.carrierGen hself :).trans hc1, (congrArg Band.spares hself :).trans hs1,
    (congrArg Band.p hself :).trans (spectrumChanges_p _ _), fun n hn => (hcore n).trans (congrArg Band.core (hothers n hn)),
    (hkeeps.mono (by decide)).trans (hafter.mono (by decide))⟩

end Sys2Proof.Machine

/-! An event that changes nothing the Talk Router acts on: its end leaves a settled state alone (R173 to R175, R178, R179). -/

namespace Sys2Proof.Machine

-- One theorem at a time: all at once, their threads together outgrow the memory limit of the check.
set_option Elab.async false

section still
variable {s0 s1 : State}

theorem foldl_fixed {α β : Type} {f : β → α → β} {b : β} (h : ∀ a, f b a = b) (xs : List α) : xs.foldl f b = b := by
  induction xs with
  | nil => rfl
  | cons a xs ih => rw [List.foldl_cons, h, ih]

/-- Between two states, no route joins or leaves LIVE, no lamp contents change and no station's link comes into service. -/
structure Still (s0 s1 : State) : Prop where
  sources : ∀ d, liveSources d s1.tk.routes = liveSources d s0.tk.routes
  counts : ∀ d, (liveTo d s1.tk.routes).isEmpty = (liveTo d s0.tk.routes).isEmpty
  lamps : ∀ t, s1.lampContents t = s0.lampContents t
  service : ∀ t, cameIntoService s0 s1 t = false

theorem cameIntoService_self (s : State) (t : Nat) : cameIntoService s s t = false := by
  unfold cameIntoService
  cases (s.station t).link with
  | none => rfl
  | some l => exact Bool.not_and_self _

theorem Still.refl (s : State) : Still s s := ⟨fun _ => rfl, fun _ => rfl, fun _ => rfl, cameIntoService_self s⟩

/-- The Talk Router re-settles at the end of such an event, and has nothing more to do. -/
theorem tkAfter_of_still (h : Still s0 s1.resettle) : tkAfter s0 s1 = s1.resettle := by
  unfold tkAfter tkAfterFor
  generalize s1.resettle = u at h ⊢
  have hcross (d : Nat) : crosspoints s0.tk.routes (u, []) d = (u, []) := by
    have hnone (xs ys : List Nat) (hxy : xs = ys) : xs.filter (fun a => !ys.contains a) = [] :=
      List.filter_eq_nil_iff.2 fun a ha => by simpa using hxy ▸ ha
    unfold crosspoints
    dsimp only
    rw [hnone _ _ (h.sources d).symm, hnone _ _ (h.sources d)]
    rfl
  have hdims (t : Nat) : dims s0.tk.routes (u, []) t = (u, []) := if_neg fun hc => hc.2.2 (h.counts t).symm
  have hlamps (t : Nat) : lamps none s0 (u, []) t = (u, []) := by
    refine if_neg fun ⟨_, hc⟩ => ?_
    obtain hc | hc | hc := hc
    · exact hc (h.lamps t).symm
    · rw [h.service t] at hc
      cases hc
    · cases hc
  rw [foldl_fixed hcross]
  dsimp only
  rw [foldl_fixed hdims, foldl_fixed hlamps]
  rfl

/-- In a settled state it has nothing to do at all. -/
theorem Still.tkAfter (h : Still s0 s1) (hset : s1.talkSettled) : tkAfter s0 s1 = s1 := by
  have hresettle : s1.resettle = s1 := hset
  exact (tkAfter_of_still (hresettle.symm ▸ h)).trans hresettle

theorem finish_of_still (h : Still s0 s1) (hset : s1.talkSettled) : finish s0 s1 = after s1 := by
  rw [finish, h.tkAfter hset]

/-- Settled with the same routes, where the same reasons stand. -/
theorem talkSettled_of_same (h : SameReasons s0 s1) (hr : s1.tk.routes = s0.tk.routes) (hset : s0.talkSettled) : s1.talkSettled := by
  have hroutes : settleAll s0.priority (s0.tk.routes.map s0.suspend) = s0.tk.routes :=
    (resettle_routes s0).symm.trans (congrArg (fun u : State => u.tk.routes) (show s0.resettle = s0 from hset))
  show s1.resettle = s1
  rw [State.resettle, State.modTk]
  have hall : settleAll s1.priority (s1.tk.routes.map s1.suspend) = s1.tk.routes := by
    rw [h.priority, h.suspend, hr, hroutes]
  beta_reduce
  rw [hall]

theorem bestRoute_map {pr : Nat → Nat} {g : Route → Route} (hg : ∀ r, (g r).source = r.source) (rs : List Route) :
    bestRoute pr (rs.map g) = (bestRoute pr rs).map g := by
  cases rs with
  | nil => rfl
  | cons r rs =>
    rw [List.map_cons, bestRoute, bestRoute, Option.map_some, List.foldl_map]
    refine congrArg some ?_
    induction rs generalizing r with
    | nil => rfl
    | cons x rs ih =>
      rw [List.foldl_cons, List.foldl_cons, hg, hg]
      split
      · exact ih x
      · exact ih r

/-- The LIVE routes to a destination without their makes. -/
theorem liveTo_bare (d : Nat) (rs : List Route) : liveTo d (rs.map Route.bare) = (liveTo d rs).map Route.bare := by
  rw [liveTo, List.filter_map]
  rfl

theorem liveTo_of_bare {rs rs' : List Route} (h : rs'.map Route.bare = rs.map Route.bare) (d : Nat) :
    (liveTo d rs').map Route.bare = (liveTo d rs).map Route.bare := by
  rw [← liveTo_bare, h, liveTo_bare]

theorem incoming_of_bare (h : s1.tk.routes.map Route.bare = s0.tk.routes.map Route.bare) (hpr : s1.priority = s0.priority) (t : Nat) :
    s1.incoming t = s0.incoming t := by
  have hbest (pr : Nat → Nat) (rs : List Route) : (bestRoute pr rs).map Route.source = (bestRoute pr (rs.map Route.bare)).map Route.source := by
    rw [bestRoute_map (g := Route.bare) (fun _ => rfl), Option.map_map]
    rfl
  rw [State.incoming, State.incoming, hpr]
  show (bestRoute _ _).map Route.source = (bestRoute _ _).map Route.source
  rw [hbest, liveTo_of_bare h, ← hbest]

/-- Where no more than makes, orders and retries change and no link's service does, the Talk Router has nothing to do. -/
theorem still_of_records (hroutes : s1.tk.routes.map Route.bare = s0.tk.routes.map Route.bare)
    (hstations : ∀ t, (s1.station t).bare = (s0.station t).bare)
    (hservice : ∀ l, (s1.link l).state.inService = (s0.link l).state.inService) : Still s0 s1 := by
  have hpriority : s1.priority = s0.priority := funext fun t => (congrArg Station.priority (hstations t) :)
  refine ⟨liveSources_of_bare hroutes, fun d => ?_, fun t => ?_, fun t => ?_⟩
  · rw [← List.isEmpty_map (f := Route.bare), liveTo_of_bare hroutes, List.isEmpty_map]
  · have hkeys : (s1.station t).keys = (s0.station t).keys := (congrArg Station.keys (hstations t) :)
    have hkey (n : Nat) : (s1.station t).key n = (s0.station t).key n := congrArg (List.find? fun k : Key => decide (k.number = n)) hkeys
    rw [State.lampContents, State.lampContents, incoming_of_bare hroutes hpriority]
    simp only [hkey]
  · have hlink : (s1.station t).link = (s0.station t).link := (congrArg Station.link (hstations t) :)
    have hself := cameIntoService_self s0 t
    unfold cameIntoService at hself ⊢
    rw [hlink]
    simpa only [hservice] using hself

/-- Orders recorded, and no more. -/
theorem Still.of_quiet (h : Quiet s0 s1) : Still s0 s1 :=
  still_of_records h.routes h.station fun l => congrArg LinkState.inService (congrArg Link.state (h.link l) :)

end still

end Sys2Proof.Machine

/-! What a sample does to its link (O54). -/

namespace Sys2Proof.Machine

-- One theorem at a time: all at once, their threads together outgrow the memory limit of the check.
set_option Elab.async false

/-! ## The record of a link that takes a sample -/

/-- The sample is recorded, and the silence watchdog starts afresh (R75). -/
def Link.seen (x : TunedSample) (now : FrameNo) (k : Link) : Link :=
  { k with lastReport := some { level := x.level, quality := x.quality, lock := x.lock, step := x.step, battery := x.battery, frame := now },
           silenceCounter := k.cfg.silenceLimit }

/-- A good sample on a step, taken in time (R87, R101, R106). -/
def Link.hits (x : TunedSample) (now : FrameNo) (target : Option Nat) (k : Link) : Bool :=
  decide (k.classOf x = .good ∧ x.step = target) && k.effective now

/-- The record of a link whose acquisition or move is over. -/
def Link.arrived (k : Link) : Link := { k with effectiveFrame := none, deadline := none }

/-- The record of a link whose retune is confirmed (R101). -/
def Link.retuned (k : Link) : Link :=
  { k with assigned := k.pending, pending := none, origin := none, effectiveFrame := none, deadline := none }

/-- The record of a link in LOST that is sent back to its carrier (R89). -/
def Link.recalled (e : FrameNo) (k : Link) : Link :=
  { k with effectiveFrame := some e, deadline := some (framePlus e k.cfg.confirmWindow), origin := none }

/-- What a classed sample makes of the record, by the link's state (R75). -/
def Link.judged (x : TunedSample) (now e : FrameNo) (k : Link) : Link :=
  let cls := k.classOf x
  let k1 := k.countRun cls
  match k.state with
  | .acquiring => if k.hits x now k.assigned then (Link.enter .locked none k).arrived else k
  | .locked => if cls = .bad ∧ k1.badRun = k.cfg.filterK then Link.enter .fading none k1 else k1
  | .fading => if cls = .good ∧ k1.goodRun = k.cfg.filterK then Link.enter .locked none k1 else k1
  | .retuning => if k.hits x now k.pending then Link.enter .locked none k.retuned else k
  | .reverting => if k.hits x now k.assigned then Link.enter .locked none k.settled else k
  | .lost =>
    if x.step ≠ k.assigned then Link.enter .reverting none (k.recalled e)
    else if cls = .good ∧ k1.goodRun = k.cfg.filterK then Link.enter .locked none k1 else k1
  | .vacant | .idle | .parked => k

theorem hits_iff {x : TunedSample} {now : FrameNo} {target : Option Nat} {k : Link} :
    k.hits x now target = true ↔ k.classOf x = .good ∧ x.step = target ∧ k.effective now = true := by
  rw [Link.hits, Bool.and_eq_true, decide_eq_true_eq, and_assoc]

theorem countRun_fields (c : SampleClass) (k : Link) : (k.countRun c).state = k.state ∧ (k.countRun c).cfg = k.cfg := by
  cases c <;> exact ⟨rfl, rfl⟩

/-! ## What a sample does to the link, its carrier and its band -/

/-- The link has the record `k'`, told where its state has changed, and its band has made `n` carrier changes. -/
structure Sampled (l : Nat) (k' : Link) (n : Nat) (s t : State) : Prop where
  link : LinkBecomes l k' s t
  told : k'.state ≠ (s.link l).state → Waits .linkState l t
  carriers : CarrierChanges (s.link l).cfg.band n s t

namespace Sampled
variable {l n : Nat} {k' : Link} {s t : State}

theorem refl (l : Nat) (s : State) : Sampled l (s.link l) 0 s s := ⟨.refl l s, fun h => absurd rfl h, .refl _ s⟩

/-- An update of the record, before the change of state. -/
theorem modLink (h : Sampled l k' n s t) (hl : 1 ≤ l) (hl' : l ≤ s.links.length) {f : Link → Link} (hst : (f k').state = k'.state)
    (hf : Link.Coreful f := by exact fun _ => rfl) : Sampled l (f k') n s (t.modLink l f) :=
  ⟨h.link.modLink hl hl' hf, fun hne => (h.told (hst ▸ hne)).of_same rfl, h.carriers.keeps (keeps_modLink t l f)⟩

/-- A change of state (R72). -/
theorem enters (h : Sampled l k' n s t) (hl : 1 ≤ l) (hl' : l ≤ s.links.length) {new : LinkState} (hne : k'.state ≠ new) :
    Sampled l (Link.enter new none k') n s (changeState l new none t) :=
  ⟨h.link.changeState hl hl' hne, fun _ => waits_changeState (h.link.state ▸ hne), h.carriers.keeps (keeps_changeState l new none t)⟩

/-- What leaves links and bands, and withdraws no notice. -/
theorem keeps {u : State} {ps : List Part} (h : Sampled l k' n s t) (hk : KeepsBut ps t u) (ha : Acts .full t u)
    (hl : .links ∉ ps := by decide) (hb : .bands ∉ ps := by decide) : Sampled l k' n s u :=
  ⟨h.link.keeps hk hl, fun hne => (h.told hne).of_acts ha, h.carriers.keeps hk hb⟩

end Sampled

section acts
variable {s : State} {l : Nat} {x : TunedSample}

theorem enter_state (new : LinkState) (c : Option LostCause) (k : Link) : (Link.enter new c k).state = new := by
  unfold Link.enter
  dsimp only
  split <;> rfl

/-- A run counted, and the change of state where it is full. -/
theorem sampled_counts (hl : 1 ≤ l) (hl' : l ≤ s.links.length) (c : SampleClass) {p : Prop} [Decidable p] {new : LinkState}
    (hne : (s.link l).state ≠ new) : Sampled l
      (if p then Link.enter new none ((s.link l).countRun c) else (s.link l).countRun c) 0 s
      (if p then changeState l new none (s.modLink l (·.countRun c)) else s.modLink l (·.countRun c)) := by
  have hcoreful : Link.Coreful (·.countRun c) := fun _ => by cases c <;> rfl
  have h : Sampled l ((s.link l).countRun c) 0 s (s.modLink l (·.countRun c)) :=
    (Sampled.refl l s).modLink (f := (·.countRun c)) hl hl' (countRun_fields c _).1 hcoreful
  split
  · exact h.enters hl hl' (by rw [(countRun_fields c _).1]; exact hne)
  · exact h

theorem sampled_ite {p : Prop} [Decidable p] {n m : Nat} {k k' : Link} {t t' : State} (h : p → Sampled l k n s t)
    (h' : ¬ p → Sampled l k' m s t') : Sampled l (if p then k else k') (if p then n else m) s (if p then t else t') := by
  split
  · exact h ‹_›
  · exact h' ‹_›

/-- What a sample does (R75). -/
theorem actOnSample_does (hl : 1 ≤ l) (hl' : l ≤ s.links.length) (hb : 1 ≤ (s.link l).cfg.band)
    (hb' : (s.link l).cfg.band ≤ s.bands.length) :
    Sampled l ((s.link l).judged x s.now s.nextEffective)
      (if (s.link l).state = .retuning ∧ (s.link l).hits x s.now (s.link l).pending = true then 1 else 0) s (actOnSample l x s) := by
  have hrefl := Sampled.refl l s
  have hself (c : SampleClass) : (s.modLink l (·.countRun c)).link l = (s.link l).countRun c := link_modLink_self hl hl' _
  unfold actOnSample Link.judged
  simp only [hself]
  cases hst : (s.link l).state with
  | vacant | idle | parked => exact hrefl
  | locked => exact sampled_counts (new := .fading) hl hl' _ (by rw [hst]; exact LinkState.noConfusion)
  | fading => exact sampled_counts (new := .locked) hl hl' _ (by rw [hst]; exact LinkState.noConfusion)
  | acquiring =>
    have hne : (s.link l).state ≠ .locked := by rw [hst]; exact LinkState.noConfusion
    simp only [hits_iff]
    split
    · exact (hrefl.enters hl hl' hne).modLink (f := Link.arrived) hl hl' rfl
    · exact hrefl
  | retuning =>
    have hne : (s.link l).retuned.state ≠ .locked := by
      show (s.link l).state ≠ _
      rw [hst]
      exact LinkState.noConfusion
    have hreleased : Sampled l (s.link l) 1 s (release (s.link l).cfg.band s) :=
      ⟨(LinkBecomes.refl l s).keeps (keeps_release _ _), fun h => absurd rfl h, (CarrierChanges.refl _ s).change hb hb'⟩
    simp only [hits_iff, true_and]
    split
    · exact ((hreleased.modLink (f := Link.retuned) hl hl' rfl).enters hl hl' hne).keeps (keeps_moveOutcome l _ _ _) (acts_moveOutcome l _ _ _)
    · exact hrefl
  | reverting =>
    have hne : (s.link l).settled.state ≠ .locked := by
      show (s.link l).state ≠ _
      rw [hst]
      exact LinkState.noConfusion
    simp only [hits_iff]
    split
    · exact ((hrefl.modLink (f := Link.settled) hl hl' rfl).enters hl hl' hne).keeps (keeps_moveOutcome l _ _ _) (acts_moveOutcome l _ _ _)
    · exact hrefl
  | lost =>
    have hne : ((s.link l).recalled s.nextEffective).state ≠ .reverting := by
      show (s.link l).state ≠ _
      rw [hst]
      exact LinkState.noConfusion
    dsimp only
    split
    · exact ((hrefl.modLink (f := Link.recalled s.nextEffective) hl hl' rfl).keeps (keeps_issueTune l _ _ _ _) (acts_issueTune l _ _ _ _)).enters hl hl' hne
    · exact sampled_counts (new := .locked) hl hl' _ (by rw [hst]; exact LinkState.noConfusion)

/-- The outcome that a confirmed move of the launched plan gives its entry (R116). -/
theorem decided_confirm {o : EntryOutcome} {u : State} (hu : u.plan = s.plan) (hg : (s.link l).origin = some .plan)
    (happ : s.plan.state = .applying) {y : PlanEntry} (hy : y ∈ s.plan.entries) (hyl : y.link = l) (hyo : y.outcome = none) :
    { y with outcome := some o } ∈ (moveOutcome l (s.link l).origin o u).plan.entries := by
  rw [(decided_moveOutcome (l := l) (o := o) hg hu happ).entries]
  exact List.mem_map.2 ⟨y, hy, if_pos ⟨hyl, hyo⟩⟩

theorem actOnSample_confirms {y : PlanEntry} (hy : y ∈ s.plan.entries) (hyl : y.link = l) (hyo : y.outcome = none)
    (hg : (s.link l).origin = some .plan) (happ : s.plan.state = .applying) :
    ((s.link l).state = .retuning → (s.link l).hits x s.now (s.link l).pending = true →
      { y with outcome := some .moved } ∈ (actOnSample l x s).plan.entries) ∧
    ((s.link l).state = .reverting → (s.link l).hits x s.now (s.link l).assigned = true →
      { y with outcome := some .reverted } ∈ (actOnSample l x s).plan.entries) := by
  refine ⟨fun hst hhit => ?_, fun hst hhit => ?_⟩
  · have hact : actOnSample l x s = confirmRetune l s := by
      unfold actOnSample
      dsimp only
      rw [hst]
      exact if_pos (hits_iff.1 hhit)
    have hrelease : (release (s.link l).cfg.band s).plan = s.plan :=
      carrierChange_plan_of_not_ready _ (by rw [happ]; exact PlanState.noConfusion)
    have hplan : (changeState l .locked none ((release (s.link l).cfg.band s).modLink l Link.retuned)).plan = s.plan :=
      (changeState_plan ..).trans hrelease
    rw [hact]
    exact decided_confirm hplan hg happ hy hyl hyo
  · have hact : actOnSample l x s = confirmRevert l s := by
      unfold actOnSample
      dsimp only
      rw [hst]
      exact if_pos (hits_iff.1 hhit)
    have hplan : (changeState l .locked none (s.modLink l Link.settled)).plan = s.plan := changeState_plan ..
    rw [hact]
    exact decided_confirm hplan hg happ hy hyl hyo

/-- The TUNE that sends a unit back to its link's carrier (R89). -/
theorem actOnSample_recalls (hl : 1 ≤ l) (hl' : l ≤ s.links.length) (hs : s.units.length = 25) (hu : 1 ≤ (s.link l).cfg.unit)
    (hu' : (s.link l).cfg.unit ≤ 24) (hst : (s.link l).state = .lost) (hstep : x.step ≠ (s.link l).assigned) :
    Ordered (s.link l).cfg.unit (.tune (s.link l).cfg.channel
        ((s.band (s.link l).cfg.band).p.baseKhz + 25 * (s.link l).assigned.getD 0) s.nextEffective) (.lsTune l) s (actOnSample l x s) ∨
      s.unitFull (s.link l).cfg.unit := by
  have hact : actOnSample l x s = revertFromLost l s := by
    unfold actOnSample
    dsimp only
    rw [hst]
    exact if_pos hstep
  let s1 := s.modLink l (Link.recalled s.nextEffective)
  have hself : s1.link l = (s.link l).recalled s.nextEffective := link_modLink_self hl hl' _
  have htune : issueTune l ((s.link l).assigned.getD 0) s.nextEffective (.lsTune l) s1 = issue (s.link l).cfg.unit (.tune (s.link l).cfg.channel
      ((s.band (s.link l).cfg.band).p.baseKhz + 25 * (s.link l).assigned.getD 0) s.nextEffective) (.lsTune l) s1 := by
    rw [issueTune, State.khz, hself]
    rfl
  have hcfg : LinkBecomes l ((s.link l).recalled s.nextEffective) s (issueTune l ((s.link l).assigned.getD 0) s.nextEffective (.lsTune l) s1).state :=
    ((LinkBecomes.refl l s).modLink (f := Link.recalled s.nextEffective) hl hl').keeps (keeps_issueTune _ _ _ _ _)
  rw [hact]
  obtain h | ⟨-, h⟩ := ordered_or_full (s := s1) hs (mem_unitAddresses.2 (.inl ⟨hu, hu'⟩)) (.tune (s.link l).cfg.channel
      ((s.band (s.link l).cfg.band).p.baseKhz + 25 * (s.link l).assigned.getD 0) s.nextEffective) (.lsTune l)
  · left
    rw [← htune] at h
    refine (h.of_now (s := s) rfl).issues displaceable_tune (issues_changeState (fun hin => ?_) hl (hcfg.length ▸ hl'))
    have hold : ((issueTune l ((s.link l).assigned.getD 0) s.nextEffective (.lsTune l) s1).state.link l).state = .lost := hcfg.state.trans hst
    rw [hold] at hin
    exact absurd hin Bool.false_ne_true
  · exact .inr (unitFull_of_units (s := s) (t := s1) rfl h)

end acts

/-! ## The record, written out -/

section written
variable {k : Link} {y : TunedSample} {now e : FrameNo}

/-- A bad sample, by lock, level, quality and step (R76). -/
abbrev Link.Bad (y : TunedSample) (k : Link) : Prop := y.lock = false ∨ y.level < k.cfg.fadeLevel ∨ k.cfg.fadeQuality < y.quality ∨
  ((k.state = .locked ∨ k.state = .fading) ∧ y.step ≠ k.assigned)

/-- A good one (R76). -/
abbrev Link.Good (y : TunedSample) (k : Link) : Prop := ¬ k.Bad y ∧ k.cfg.recoverLevel ≤ y.level ∧ y.quality ≤ k.cfg.recoverQuality

theorem inService_iff (st : LinkState) : st.inService = true ↔ st = .locked ∨ st = .fading := by cases st <;> simp [LinkState.inService]

/-- The class of a sample, in the order of R76. -/
theorem classOf_eq : k.classOf y = if k.Bad y then .bad else if k.cfg.recoverLevel ≤ y.level ∧ y.quality ≤ k.cfg.recoverQuality then .good
    else .neutral := by
  have hstep : (k.state.inService && decide (y.step ≠ k.assigned)) = true ↔ (k.state = .locked ∨ k.state = .fading) ∧ y.step ≠ k.assigned := by
    rw [Bool.and_eq_true, inService_iff, decide_eq_true_eq]
  have hpoor : (!y.lock || decide (y.level < k.cfg.fadeLevel) || decide (k.cfg.fadeQuality < y.quality)) = true ↔
      y.lock = false ∨ y.level < k.cfg.fadeLevel ∨ k.cfg.fadeQuality < y.quality := by simp [or_assoc]
  unfold Link.classOf LinkConfig.classOf
  by_cases h1 : (k.state = .locked ∨ k.state = .fading) ∧ y.step ≠ k.assigned
  · rw [if_pos (hstep.2 h1), if_pos (.inr (.inr (.inr h1)))]
  · rw [if_neg fun h => h1 (hstep.1 h)]
    by_cases h2 : y.lock = false ∨ y.level < k.cfg.fadeLevel ∨ k.cfg.fadeQuality < y.quality
    · rw [if_pos (hpoor.2 h2), if_pos (h2.imp_right (Or.imp_right .inl))]
    · have h3 : ¬ k.Bad y := by
        unfold Link.Bad
        tauto
      rw [if_neg fun h => h2 (hpoor.1 h), if_neg h3]

theorem classOf_bad : k.classOf y = .bad ↔ k.Bad y := by
  rw [classOf_eq]
  split_ifs with h1
  · exact iff_of_true rfl h1
  · exact iff_of_false (fun h => by cases h) h1
  · exact iff_of_false (fun h => by cases h) h1

theorem classOf_good : k.classOf y = .good ↔ k.Good y := by
  rw [classOf_eq]
  split_ifs with h1 h2
  · exact iff_of_false (fun h => by cases h) fun h => h.1 h1
  · exact iff_of_true rfl ⟨h1, h2⟩
  · exact iff_of_false (fun h => by cases h) fun h => h2 h.2

/-- A run after a sample (R77). -/
def run (c : Prop) [Decidable c] (n k : Nat) : Nat := if c then min (n + 1) k else 0

/-- The runs counted, written out (R77). -/
theorem countRun_eq (k : Link) (y : TunedSample) : k.countRun (k.classOf y) =
    { k with badRun := run (k.Bad y) k.badRun k.cfg.filterK, goodRun := run (k.Good y) k.goodRun k.cfg.filterK } := by
  have hnot : k.Good y → ¬ k.Bad y := And.left
  unfold run
  cases hc : k.classOf y with
  | bad =>
    have h := classOf_bad.1 hc
    rw [if_pos h, if_neg fun hg => hnot hg h]
    rfl
  | good =>
    have h := classOf_good.1 hc
    rw [if_pos h, if_neg (hnot h)]
    rfl
  | neutral =>
    have h1 : ¬ k.Bad y := fun h => by rw [classOf_bad.2 h] at hc; cases hc
    have h2 : ¬ k.Good y := fun h => by rw [classOf_good.2 h] at hc; cases hc
    rw [if_neg h1, if_neg h2]
    rfl

/-- A run is full where the sample before last had brought it within one (R77). -/
theorem run_full {c : Prop} [Decidable c] (hc : c) (n k : Nat) : run c n k = k ↔ k ≤ n + 1 := by
  rw [run, if_pos hc]
  omega

/-- The sample confirms the retune of a link (R101). -/
def Link.confirms (y : TunedSample) (timely : Bool) (k : Link) : Bool :=
  decide (k.state = .retuning ∧ k.Good y ∧ y.step = k.pending) && timely

theorem confirms_iff {timely : Bool} : k.confirms y timely = true ↔ k.state = .retuning ∧ k.Good y ∧ y.step = k.pending ∧ timely = true := by
  rw [Link.confirms, Bool.and_eq_true, decide_eq_true_eq, and_assoc, and_assoc]

/-- The record that a sample leaves, written out by the link's state (R72, R75 to R79, R87 to R90, R101, R106). -/
def Link.written (y : TunedSample) (now e : FrameNo) (timely : Bool) (k : Link) : Link :=
  let seen := k.seen y now
  let counted : Link := { seen with badRun := run (k.Bad y) k.badRun k.cfg.filterK, goodRun := run (k.Good y) k.goodRun k.cfg.filterK }
  let fresh : Link := { seen with badRun := 0, goodRun := 0, lostCause := none }
  let done : Link := { fresh with state := .locked, effectiveFrame := none, deadline := none }
  match k.state with
  | .acquiring => if k.Good y ∧ y.step = k.assigned ∧ timely = true then done else seen
  | .locked => if k.Bad y ∧ k.cfg.filterK ≤ k.badRun + 1 then { fresh with state := .fading, fadeTimer := 0 } else counted
  | .fading => if k.Good y ∧ k.cfg.filterK ≤ k.goodRun + 1 then { fresh with state := .locked, fadeTimer := 0 } else counted
  | .lost =>
    if y.step ≠ k.assigned then
      { fresh with state := .reverting, effectiveFrame := some e, deadline := some (framePlus e k.cfg.confirmWindow), origin := none }
    else if k.Good y ∧ k.cfg.filterK ≤ k.goodRun + 1 then { fresh with state := .locked } else counted
  | .retuning =>
    if k.confirms y timely then { done with assigned := k.pending, pending := none, origin := none, moveOrder := none }
    else seen
  | .reverting => if k.Good y ∧ y.step = k.assigned ∧ timely = true then { done with origin := none } else seen
  | .vacant | .idle | .parked => seen

/-- Whether a sample is taken in time (R10, R87). -/
theorem effective_eq (k : Link) (now : FrameNo) :
    k.effective now = match k.effectiveFrame with | some e => decide (0 ≤ (now - e).toInt) | none => false := by
  unfold Link.effective
  cases k.effectiveFrame <;> rfl

theorem core_ite {p q : Prop} [Decidable p] [Decidable q] (hpq : p ↔ q) {a b c d : Link} (h1 : q → a.core = c.core) (h2 : ¬ q → b.core = d.core) :
    (if p then a else b).core = (if q then c else d).core := by
  by_cases h : q
  · rw [if_pos h, if_pos (hpq.2 h), h1 h]
  · rw [if_neg h, if_neg fun hp => h (hpq.1 hp), h2 h]

theorem classOf_of_core {K : Link} (h : K.core = k.core) : K.classOf y = k.classOf y := by
  have hst : K.state = k.state := (congrArg Link.state h :)
  have hcfg : K.cfg = k.cfg := (congrArg Link.cfg h :)
  have hassigned : K.assigned = k.assigned := (congrArg Link.assigned h :)
  rw [Link.classOf, Link.classOf, hst, hcfg, hassigned]

theorem hits_of_core {K : Link} (h : K.core = k.core) (target : Option Nat) :
    K.hits y now target = true ↔ k.Good y ∧ y.step = target ∧ k.effective now = true := by
  have heffective : K.effective now = k.effective now := (congrArg (Link.effective · now) h :)
  rw [hits_iff, classOf_of_core h, classOf_good, heffective]

/-- A move ends in LOCKED where its sample confirms it, and not otherwise. -/
theorem written_locked {timely : Bool} (h : (k.written y now e timely).state = .locked) :
    (k.state = .retuning → k.confirms y timely = true) ∧
      (k.state = .reverting → k.Good y ∧ y.step = k.assigned ∧ timely = true) := by
  refine ⟨fun hk => ?_, fun hk => ?_⟩ <;>
  · by_contra hno
    simp only [Link.written, hk, if_neg hno] at h
    have hseen : (k.seen y now).state = k.state := rfl
    rw [hseen, hk] at h
    cases h

/-- What a sample makes of the record, once it is recorded, and whatever its rescue status and tally fields. -/
theorem judged_written {K : Link} (hK : K.core = (k.seen y now).core) :
    (K.judged y now e).core = (k.written y now e (k.effective now)).core := by
  have hst : K.state = k.state := (congrArg Link.state hK :)
  have hcfg : K.cfg = k.cfg := (congrArg Link.cfg hK :)
  have hassigned : K.assigned = k.assigned := (congrArg Link.assigned hK :)
  have hpending : K.pending = k.pending := (congrArg Link.pending hK :)
  have hcls : K.classOf y = k.classOf y := classOf_of_core (k := k.seen y now) hK
  have hhits (target : Option Nat) : K.hits y now target = true ↔ k.Good y ∧ y.step = target ∧ k.effective now = true :=
    hits_of_core (k := k.seen y now) hK target
  have hcount : (K.countRun (K.classOf y)).core = ({ k.seen y now with
      badRun := run (k.Bad y) k.badRun k.cfg.filterK, goodRun := run (k.Good y) k.goodRun k.cfg.filterK } : Link).core := by
    rw [hcls]
    exact (core_congr (f := (·.countRun (k.classOf y))) (fun _ => by cases k.classOf y <;> rfl) hK).trans
      (congrArg Link.core (countRun_eq (k.seen y now) y))
  have hbad : K.classOf y = .bad ∧ (K.countRun (K.classOf y)).badRun = K.cfg.filterK ↔ k.Bad y ∧ k.cfg.filterK ≤ k.badRun + 1 := by
    rw [show (K.countRun (K.classOf y)).badRun = run (k.Bad y) k.badRun k.cfg.filterK from (congrArg Link.badRun hcount :), hcls, classOf_bad, hcfg]
    exact and_congr_right fun h => run_full h _ _
  have hgood : K.classOf y = .good ∧ (K.countRun (K.classOf y)).goodRun = K.cfg.filterK ↔ k.Good y ∧ k.cfg.filterK ≤ k.goodRun + 1 := by
    rw [show (K.countRun (K.classOf y)).goodRun = run (k.Good y) k.goodRun k.cfg.filterK from (congrArg Link.goodRun hcount :), hcls, classOf_good, hcfg]
    exact and_congr_right fun h => run_full h _ _
  cases hk : k.state <;> rw [hk] at hst <;> simp only [Link.judged, Link.written, hst, hk]
  case vacant | idle | parked => exact hK
  case acquiring =>
    refine core_ite (hassigned ▸ hhits _) (fun _ => ?_) fun _ => hK
    exact (core_congr (f := fun k => (Link.enter .locked none k).arrived) (fun _ => rfl) hK).trans
      (by simp [Link.enter, Link.arrived, Link.seen, hk, Link.core])
  case locked =>
    refine core_ite hbad (fun _ => ?_) fun _ => hcount
    exact (core_congr (coreful_enter .fading none) hcount).trans (by simp [Link.enter, Link.seen, hk, Link.core])
  case fading =>
    refine core_ite hgood (fun _ => ?_) fun _ => hcount
    exact (core_congr (coreful_enter .locked none) hcount).trans (by simp [Link.enter, Link.seen, hk, Link.core])
  case retuning =>
    refine core_ite (by rw [hhits, hpending, confirms_iff, and_iff_right hk]) (fun _ => ?_) fun _ => hK
    exact (core_congr (f := fun k => Link.enter .locked none k.retuned) (fun _ => rfl) hK).trans
      (by simp [Link.enter, Link.retuned, Link.seen, hk, Link.core])
  case reverting =>
    refine core_ite (hassigned ▸ hhits _) (fun _ => ?_) fun _ => hK
    exact (core_congr (f := fun k => Link.enter .locked none k.settled) (fun _ => rfl) hK).trans
      (by simp [Link.enter, Link.settled, Link.seen, hk, Link.core])
  case lost =>
    refine core_ite (by rw [hassigned]) (fun _ => ?_) fun _ => core_ite hgood (fun _ => ?_) fun _ => hcount
    · exact (core_congr (f := fun k => Link.enter .reverting none (k.recalled e)) (fun _ => rfl) hK).trans
        (by simp [Link.enter, Link.recalled, Link.seen, hk, Link.core])
    · exact (core_congr (coreful_enter .locked none) hcount).trans (by simp [Link.enter, Link.seen, hk, Link.core])

end written

/-! ## A sample of a REPORT -/

section report
variable {s v : State} {l : Nat} {x : Sample} {y : TunedSample} {r : Report}

/-- A low-battery crossing is told (R95). -/
def State.warned (l : Nat) (y : TunedSample) (s : State) : State :=
  { s with nq := if (s.link l).batteryCrosses y.battery then (raise .linkBattery l s).nq else s.nq }

/-- The state in which a sample is judged (R75). -/
def State.recorded (l : Nat) (y : TunedSample) (s : State) : State := (s.warned l y).modLink l (Link.seen y s.now)

theorem takeSample_eq (l : Nat) (y : TunedSample) (s : State) : takeSample l y s = actOnSample l y (s.recorded l y) := by
  unfold takeSample State.recorded State.warned
  dsimp only
  by_cases h : (s.link l).batteryCrosses y.battery = true
  · rw [if_pos h, if_pos h]
    rfl
  · rw [if_neg h, if_neg h]
    rfl

theorem acts_actOnSample_full (l : Nat) (y : TunedSample) (s : State) : Acts .full s (actOnSample l y s) := acts_actOnSample l y s

theorem takeSample_tells (h : (s.link l).batteryCrosses y.battery = true) : Waits .linkBattery l (takeSample l y s) := by
  rw [takeSample_eq]
  refine Waits.of_acts ?_ (acts_actOnSample_full l y _)
  refine (waits_raise .linkBattery l s).of_same ?_
  show (if (s.link l).batteryCrosses y.battery = true then _ else _) = _
  rw [if_pos h]

theorem link_recorded (hl : 1 ≤ l) (hl' : l ≤ s.links.length) : (s.recorded l y).link l = (s.link l).seen y s.now :=
  link_modLink_self (s := s.warned l y) hl hl' _

/-- What a sample that a REPORT brings does to its link, from the state in which it is taken. -/
theorem takeSample_does (hl : 1 ≤ l) (hl' : l ≤ s.links.length) (hb : 1 ≤ (s.link l).cfg.band)
    (hb' : (s.link l).cfg.band ≤ s.bands.length) :
    Sampled l (((s.link l).seen y s.now).judged y s.now s.nextEffective)
      (if (s.link l).state = .retuning ∧ (s.link l).hits y s.now (s.link l).pending = true then 1 else 0) s (takeSample l y s) := by
  have hself := link_recorded (y := y) hl hl'
  have hlen : l ≤ (s.recorded l y).links.length := hl'.trans_eq (modSlot_length _ _ _).symm
  have hact := actOnSample_does (s := s.recorded l y) (x := y) hl hlen (by rw [hself]; exact hb) (by rw [hself]; exact hb')
  rw [hself] at hact
  have hwarned : LinkBecomes l (s.link l) s (s.warned l y) := ⟨rfl, fun _ _ => rfl, rfl⟩
  have hrecorded : LinkBecomes l ((s.link l).seen y s.now) s (s.recorded l y) := hwarned.modLink (f := Link.seen y s.now) hl hl'
  have hcarriers := hact.carriers
  rw [hself] at hcarriers
  rw [takeSample_eq]
  exact ⟨⟨hact.link.self, fun n hn => (hact.link.alone n hn).trans (hrecorded.alone n hn), hact.link.length.trans hrecorded.length⟩,
    fun hne => hact.told (by rw [hself]; exact hne), hcarriers⟩

/-- The frequency of a sample as a step of the band, and its battery at most 100 (R133). -/
theorem tuned_eq (p : BandParams) (x : Sample) : tuned p x =
    { level := x.level, quality := x.quality, lock := x.lock, battery := if 100 < x.battery then 100 else x.battery,
      step := if x.khz = p.baseKhz + 25 * ((x.khz - p.baseKhz) / 25) ∧ (x.khz - p.baseKhz) / 25 < p.steps
        then some ((x.khz - p.baseKhz) / 25) else none } := by
  have hbattery : min x.battery 100 = if 100 < x.battery then 100 else x.battery := by split_ifs <;> omega
  have hstep : (p.baseKhz ≤ x.khz ∧ (x.khz - p.baseKhz) % 25 = 0 ∧ (x.khz - p.baseKhz) / 25 < p.steps) ↔
      x.khz = p.baseKhz + 25 * ((x.khz - p.baseKhz) / 25) ∧ (x.khz - p.baseKhz) / 25 < p.steps := by omega
  rw [tuned, hbattery, if_congr hstep rfl rfl]

theorem takeOwed_of_not_mem {o : Owed} (h : o ∉ s.owed) : takeOwed o s = s := by
  refine if_neg ?_
  rw [Bool.and_eq_true, List.contains_iff_mem]
  exact fun hc => h hc.1

theorem takeSome_of_not_mem {os : List Owed} (h : ∀ o ∈ os, o ∉ s.owed) : takeSome os s = s := by
  unfold takeSome
  induction os with
  | nil => rfl
  | cons o os ih =>
    rw [List.foldl_cons, takeOwed_of_not_mem (h o List.mem_cons_self)]
    exact ih fun o ho => h o (List.mem_cons_of_mem _ ho)

/-- The link that a sample reaches depends on what links are alone. -/
theorem linkAt_of_same {t : State} (h : Part.links.same s t) (u c : Nat) : t.linkAt u c = s.linkAt u c := by
  have hcfg (l : Nat) : (t.link l).cfg = (s.link l).cfg := (congrArg Link.cfg (linkCore_of_same h l) :)
  simp only [State.linkAt, hcfg]

theorem linkAt_le {u c : Nat} (h : s.linkAt u c = some l) : 1 ≤ l ∧ l ≤ 48 := mem_oneUpTo.1 (List.mem_of_find?_eq_some h)

/-- A REPORT in RUN that brings one sample, whose steps are not owed. -/
theorem report_sample {bs : List Byte} (hset : s.talkSettled) (hm : s.mode = .run) (hread : readReport bs = some r) (hacks : r.acks = [])
    (hkeys : r.keys = []) (hsamples : r.samples = [x]) (howed : ∀ l, s.sampleLink r.unit x = some l → ∀ o ∈ sampleSteps l, o ∉ s.owed) :
    exec (.report bs) s = .next (reportSample r.unit (after s) x) := by
  have hsteps : takeSome (s.reportSteps r) s = s := by
    refine takeSome_of_not_mem fun o ho => ?_
    rw [State.reportSteps, hsamples, hkeys] at ho
    cases hl : s.sampleLink r.unit x with
    | none => rw [List.flatMap_singleton, hl] at ho; simp at ho
    | some l => rw [List.flatMap_singleton, hl] at ho; exact howed l hl o (by simpa using ho)
  show execReport bs s = _
  rw [execReport, hread]
  show Host.Outcome.next (acceptReport r s) = _
  rw [acceptReport, if_pos hm, hsteps, takeReport, hacks, if_pos hm, hsamples, hkeys]
  show Host.Outcome.next (reportSample r.unit (finish s s) x) = _
  rw [finish_of_still (.refl s) hset]

section recorded
variable (hl : 1 ≤ l) (hl' : l ≤ s.links.length)
include hl hl'

theorem takeSample_confirms {z : PlanEntry} (hz : z ∈ s.plan.entries) (hzl : z.link = l) (hzo : z.outcome = none)
    (hg : (s.link l).origin = some .plan) (happ : s.plan.state = .applying) :
    ((s.link l).state = .retuning → (s.link l).hits y s.now (s.link l).pending = true →
      { z with outcome := some .moved } ∈ (takeSample l y s).plan.entries) ∧
    ((s.link l).state = .reverting → (s.link l).hits y s.now (s.link l).assigned = true →
      { z with outcome := some .reverted } ∈ (takeSample l y s).plan.entries) := by
  have h := actOnSample_confirms (s := s.recorded l y) (x := y) hz hzl hzo (by rw [link_recorded hl hl']; exact hg) happ
  rw [link_recorded hl hl'] at h
  rw [takeSample_eq]
  exact h

theorem takeSample_recalls (hs : s.units.length = 25) (hu : 1 ≤ (s.link l).cfg.unit)
    (hu' : (s.link l).cfg.unit ≤ 24) (hst : (s.link l).state = .lost) (hstep : y.step ≠ (s.link l).assigned) :
    Ordered (s.link l).cfg.unit (.tune (s.link l).cfg.channel
        ((s.band (s.link l).cfg.band).p.baseKhz + 25 * (s.link l).assigned.getD 0) s.nextEffective) (.lsTune l) s (takeSample l y s) ∨
      s.unitFull (s.link l).cfg.unit := by
  have hself := link_recorded (y := y) hl hl'
  have hlen : l ≤ (s.recorded l y).links.length := hl'.trans_eq (modSlot_length _ _ _).symm
  have h := actOnSample_recalls (s := s.recorded l y) (x := y) hl hlen hs (by rw [hself]; exact hu) (by rw [hself]; exact hu')
    (by rw [hself]; exact hst) (by rw [hself]; exact hstep)
  rw [hself] at h
  rw [takeSample_eq]
  exact h

end recorded

section after
variable {t : State} {k' : Link} {n : Nat}

theorem LinkBecomes.from_after (h : LinkBecomes l k' (after s) t) : (t.link l).core = k'.core ∧ LinkAlone l s t :=
  ⟨h.self, fun n hn => (h.alone n hn).trans (linkCore_of_same (keeps_after s .links (by decide)) n)⟩

theorem CarrierChanges.from_after {b : Nat} (h : CarrierChanges b n (after s) t) : CarrierChanges b n s t := by
  have hband := bandCore_of_same (keeps_after s .bands (by decide))
  have hsame : ((after s).band b).carrierGen = (s.band b).carrierGen := (congrArg Band.carrierGen (hband b) :)
  exact ⟨h.1.trans (by rw [hsame]), fun m hm => (h.2 m hm).trans (hband m)⟩

end after

end report

/-- Settles O54. -/
theorem samplesMoveLinks : Obligations.SamplesMoveLinks := by
  intro s bs r x hs hset hm hread hacks hkeys hsamples hc hc'
  have hsample (l : Option Nat) (h : s.linkAt r.unit x.channel = l) : s.sampleLink r.unit x = l := (if_pos ⟨hc, hc'⟩).trans h
  have hafter := keeps_after s
  have hlink := linkCore_of_same (hafter .links (by decide))
  have hreach (v : State) : v = after s → ∀ l, s.linkAt r.unit x.channel = l → v.sampleLink r.unit x = l := by
    rintro rfl l hl
    exact (if_pos ⟨hc, hc'⟩).trans ((linkAt_of_same (hafter .links (by decide)) _ _).trans hl)
  refine ⟨fun hnone => ?_, fun l hl howed hb hb' => ?_⟩
  · have hexec := report_sample hset hm hread hacks hkeys hsamples fun l h => by rw [hsample _ hnone] at h; cases h
    refine ⟨_, hexec, ?_⟩
    have hstays : reportSample r.unit (after s) x = after s := by rw [reportSample, hreach _ rfl _ hnone]
    rw [hstays]
    exact hafter
  intro k c p n step battery bad good badRun goodRun timely e seen fresh done confirmed next outcome
  obtain ⟨hl1, hl48⟩ := linkAt_le hl
  let y : TunedSample := { level := x.level, quality := x.quality, lock := x.lock, step := step, battery := battery }
  have hexec := report_sample hset hm hread hacks hkeys hsamples fun l' h => by
    rw [hsample _ hl] at h
    exact Option.some.inj h ▸ howed
  have hcfg : ((after s).link l).cfg = c := (congrArg Link.cfg (hlink l) :)
  have hp : ((after s).band ((after s).link l).cfg.band).p = p := by
    rw [hcfg]
    exact (congrArg Band.p (bandCore_of_same (hafter .bands (by decide)) c.band) :)
  have hy : tuned p x = y := tuned_eq p x
  have hstep : reportSample r.unit (after s) x = finish (after s) (takeSample l y (after s)) := by
    rw [reportSample, hreach _ rfl _ hl]
    show finish (after s) (takeSample l (tuned ((after s).band ((after s).link l).cfg.band).p x) (after s)) = _
    rw [hp, hy]
  rw [hstep] at hexec
  have hlen : l ≤ (after s).links.length := (hl48.trans_eq hs.2.1.symm).trans_eq (length_of_links (hafter .links (by decide))).symm
  have hblen : c.band ≤ (after s).bands.length := (hb'.trans_eq hs.1.symm).trans_eq (length_of_bands (hafter .bands (by decide))).symm
  have hdoes := takeSample_does (y := y) hl1 hlen (by rw [hcfg]; exact hb) (by rw [hcfg]; exact hblen)
  have hnow : (after s).now = s.now := congrArg Ftb.counter (hafter .ftb (by decide))
  have heff : (after s).nextEffective = e := by rw [State.nextEffective, hnow, hafter .ftb (by decide)]
  have htimely : k.effective s.now = timely := effective_eq k s.now
  have hwritten : ((((after s).link l).seen y (after s).now).judged y (after s).now (after s).nextEffective).core = next.core := by
    rw [hnow, heff]
    refine (judged_written (k := k) (core_congr (f := Link.seen y s.now) (fun _ => rfl) (hlink l))).trans ?_
    rw [htimely]
    rfl
  have hst : ((after s).link l).state = k.state := (congrArg Link.state (hlink l) :)
  have hassigned : ((after s).link l).assigned = k.assigned := (congrArg Link.assigned (hlink l) :)
  have hpending : ((after s).link l).pending = k.pending := (congrArg Link.pending (hlink l) :)
  have horigin : ((after s).link l).origin = k.origin := (congrArg Link.origin (hlink l) :)
  have hplan : (after s).plan = s.plan := hafter .plan (by decide)
  have hunits : (after s).units = s.units := hafter .units (by decide)
  have hhits (target : Option Nat) : ((after s).link l).hits y (after s).now target = true ↔ k.Good y ∧ y.step = target ∧ timely = true := by
    rw [hnow, hits_of_core (hlink l), ← htimely]
  obtain ⟨hself, halone⟩ := (hdoes.link.finish (after s)).from_after
  have hcarriers := (hdoes.carriers.finish (after s)).from_after
  refine ⟨_, hexec, hself.trans hwritten, fun hne => notified_finish (hdoes.told ?_) _, fun hlow hlast => notified_finish (takeSample_tells ?_) _,
    fun hlost hoff hu hu' => ?_, fun hmoving hlocked hg happ z hz hzl hzo => ?_, halone, ?_, ?_⟩
  · rw [show (Link.judged y (after s).now (after s).nextEffective (Link.seen y (after s).now ((after s).link l))).state = next.state from
      (congrArg Link.state hwritten :), hst]
    exact hne
  · have hreport : ((after s).link l).lastReport = k.lastReport := (congrArg Link.lastReport (hlink l) :)
    rw [Link.batteryCrosses, hcfg, hreport, Bool.and_eq_true, decide_eq_true_eq, Option.all_eq_true]
    exact ⟨hlow, fun z hz => decide_eq_true (hlast z hz)⟩
  · have h := takeSample_recalls (s := after s) (y := y) hl1 hlen (hunits ▸ hs.2.2.1) (by rw [hcfg]; exact hu) (by rw [hcfg]; exact hu')
      (hst.trans hlost) (by rw [hassigned]; exact hoff)
    rw [hp, hcfg, hassigned, heff] at h
    exact h.imp (fun h => (h.of_now hnow).issues displaceable_tune (issues_finish _ _)) (unitFull_of_units hunits)
  · have h := takeSample_confirms (s := after s) (y := y) hl1 hlen (hplan ▸ hz) hzl hzo (horigin.trans hg) (hplan ▸ happ)
    obtain ⟨hmoved, hreverted⟩ := written_locked (y := y) (now := s.now) (e := e) (timely := timely) (k := k) hlocked
    rw [finish_plan]
    obtain hk | hk := hmoving
    · obtain ⟨-, hgood, hstep, htime⟩ := confirms_iff.1 (hmoved hk)
      rw [show outcome = .moved from if_pos hk]
      exact h.1 (hst.trans hk) ((hhits _).2 ⟨hgood, hstep.trans hpending.symm, htime⟩)
    · obtain ⟨hgood, hstep, htime⟩ := hreverted hk
      rw [show outcome = .reverted from if_neg (by rw [hk]; exact LinkState.noConfusion)]
      exact h.2 (hst.trans hk) ((hhits _).2 ⟨hgood, hstep.trans hassigned.symm, htime⟩)
  · rw [hcfg] at hcarriers
    have hconfirmed : (((after s).link l).state = .retuning ∧ ((after s).link l).hits y (after s).now ((after s).link l).pending = true) ↔
        confirmed = true := by
      rw [hhits, hst, hpending]
      exact confirms_iff.symm
    rw [if_congr hconfirmed rfl rfl] at hcarriers
    exact hcarriers
  · exact ((hafter.mono (by decide)).trans ((keeps_takeSample l y _).mono (by decide))).trans ((keeps_finishTail _ _).mono (by decide))

end Sys2Proof.Machine

/-! The end of an ASSIGN_CHECK (O57), and what the end of any event leaves of the queue and of the results (R57, R59). -/

namespace Sys2Proof.Machine

-- One theorem at a time: all at once, their threads together outgrow the memory limit of the check.
set_option Elab.async false

/-! ## What conversion and choice leave -/

/-- Jobs have joined the tail of the queue, or one has started: every other job, every result and the query number stand. -/
structure WorksOn (s t : State) : Prop where
  kinds : s.jobKinds <+: t.jobKinds
  rest : { t.pe with queue := s.pe.queue, engine := s.pe.engine } = s.pe

namespace WorksOn
variable {s t u : State}

theorem of_pe (h : t.pe = s.pe) : WorksOn s t := ⟨by rw [State.jobKinds, State.jobKinds, h], by rw [h]⟩

theorem trans (h : WorksOn s t) (k : WorksOn t u) : WorksOn s u := by
  refine ⟨h.kinds.trans k.kinds, ?_⟩
  have hrest : { { u.pe with queue := t.pe.queue, engine := t.pe.engine } with queue := s.pe.queue, engine := s.pe.engine } = s.pe := by
    rw [k.rest]
    exact h.rest
  exact hrest

theorem foldl {α : Type} {f : State → α → State} (h : ∀ s x, WorksOn s (f s x)) (xs : List α) (s : State) : WorksOn s (xs.foldl f s) := by
  induction xs generalizing s with
  | nil => exact of_pe rfl
  | cons x xs ih => exact (h s x).trans (ih _)

theorem joins (k : JobKind) (s : State) : WorksOn s (joinQueue k s) := ⟨by rw [jobKinds_joinQueue]; exact List.prefix_append _ _, rfl⟩

theorem starts (j : Job) (s : State) : WorksOn s (startJob j s) := by
  refine ⟨by rw [jobKinds_startJob], ?_⟩
  unfold startJob
  split <;> rfl

theorem converts (s : State) : WorksOn s (convert s) := by
  unfold convert
  split
  · refine (foldl (fun s l => ?_) _ s).trans (foldl (fun s b => ?_) _ _)
    · unfold convertRescue
      split
      · exact (joins _ s).trans (of_pe rfl)
      · exact of_pe rfl
    · unfold convertSweep
      split
      · exact (joins _ s).trans (of_pe rfl)
      · exact of_pe rfl
  · exact of_pe rfl

theorem chooses (s : State) : WorksOn s (choose s) := by
  unfold choose
  split
  · exact starts _ s
  · exact of_pe rfl

theorem keeps {ps : List Part} (h : KeepsBut ps s t) (hp : .pe ∉ ps := by decide) : WorksOn s t := of_pe (h .pe hp)

theorem after (s : State) : WorksOn s (after s) := ((converts s).trans (chooses _)).trans (keeps (keeps_kick _))

theorem finish (s0 s : State) : WorksOn s (finish s0 s) := (keeps (keeps_tkAfter s0 s)).trans (after _)

theorem assign (h : WorksOn s t) (l : Nat) : t.assignResult l = s.assignResult l :=
  congrArg (slot none · l) ((congrArg Pe.assign h.rest :) : t.pe.assign = s.pe.assign)

theorem rescue (h : WorksOn s t) (l : Nat) : t.rescueResult l = s.rescueResult l :=
  congrArg (slot none · l) ((congrArg Pe.rescue h.rest :) : t.pe.rescue = s.pe.rescue)

theorem query (h : WorksOn s t) (b : Nat) : t.queryResult b = s.queryResult b :=
  congrArg (slot none · b) ((congrArg Pe.query h.rest :) : t.pe.query = s.pe.query)

end WorksOn

/-! ## The record of a band whose carrier is held (R23, R31, R33) -/

theorem mask_fields (f hw : Nat) (k : Band) : (k.mask f hw).spares = k.spares ∧ (k.mask f hw).carrierGen = k.carrierGen ∧
    (k.mask f hw).p = k.p ∧
    (k.mask f hw).bins = k.bins.zipIdx.map fun (x, i) => if spanMeets f hw (k.p.binSpan i) then { level := none, hot := false } else x := by
  obtain ⟨hbins, -, hgen, hspares⟩ := spectrumChanges_fields
    (k.bins.zipIdx.countP fun (x, i) => x.hot && spanMeets f hw (k.p.binSpan i))
    { k with bins := k.bins.zipIdx.map fun (x, i) => if spanMeets f hw (k.p.binSpan i) then { level := none, hot := false } else x }
  exact ⟨hspares, hgen, spectrumChanges_p _ _, hbins⟩

theorem not_within (f hw gap step : Nat) :
    (!within f hw gap step) = (decide (step + hw + gap < f) || decide (f + hw + gap < step)) := by
  simp only [within, Bool.not_and, ← decide_not, Nat.not_le]

section held
variable {s : State} {b : Nat} (hb : 1 ≤ b) (hb' : b ≤ s.bands.length) (f hw : Nat)
include hb hb'

theorem hold_band : (hold b f hw s).band b =
    (({ s.band b with carrierGen := (s.band b).carrierGen + 1, sparesFresh := false, sweepWanted := true } : Band).prune f hw).mask f hw := by
  have hlen : b ≤ (carrierChange b s).bands.length := by rw [carrierChange_bands, modSlot_length]; exact hb'
  rw [hold, band_modBand_self hb hlen, carrierChange_band_self hb hb']

theorem hold_carrier : CarrierChanges b 1 s (hold b f hw s) := by
  refine ⟨?_, fun m hm => ?_⟩
  · rw [hold_band hb hb', (mask_fields _ _ _).2.1]
    rfl
  · rw [hold, band_modBand_other hm, carrierChange_band_other hm]

theorem hold_spares : ((hold b f hw s).band b).spares = (s.band b).spares.filter fun x =>
    decide (x.step + hw + (s.band b).p.gapCc < f) || decide (f + hw + (s.band b).p.gapCc < x.step) := by
  rw [hold_band hb hb', (mask_fields _ _ _).1]
  exact congrArg (List.filter · _) (funext fun x => not_within _ _ _ _)

theorem hold_bins : ((hold b f hw s).band b).bins = (s.band b).bins.zipIdx.map fun (x, i) =>
    if spanMeets f hw ((s.band b).p.binSpan i) then { level := none, hot := false } else x := by
  rw [hold_band hb hb', (mask_fields _ _ _).2.2.2]
  rfl

theorem hold_p (n : Nat) : ((hold b f hw s).band n).p = (s.band n).p := by
  by_cases hn : n = b
  · rw [hn, hold_band hb hb', (mask_fields _ _ _).2.2.1]
    rfl
  · exact (congrArg Band.p ((hold_carrier hb hb' f hw).2 n hn) :)

end held

/-! ## The job's end -/

section ends
variable {s s1 : State} {l : Nat}

theorem leaveQueue_kinds : (leaveQueue s).jobKinds = (s.pe.queue.eraseP fun j => j.snap.isSome).map Job.kind := rfl

theorem setAssignResult_self (hl : 1 ≤ l) (hl' : l ≤ s.pe.assign.length) (r : AssignResult) :
    (setAssignResult l r s).assignResult l = some r := slot_modSlot_self none _ _ hl hl'

/-- What the end of the event leaves of the engine's part, once the job has left the queue. -/
theorem finish_leaves (h : s1.pe = { s.pe with assign := s1.pe.assign }) (s0 : State) :
    (s.pe.queue.eraseP fun j => j.snap.isSome).map Job.kind <+: (finish s0 (leaveQueue s1)).pe.queue.map Job.kind ∧
      ∀ l, (finish s0 (leaveQueue s1)).assignResult l = s1.assignResult l := by
  have hend := WorksOn.finish s0 (leaveQueue s1)
  have hqueue : s1.pe.queue = s.pe.queue := (congrArg Pe.queue h :)
  refine ⟨?_, fun l => (hend.assign l).trans rfl⟩
  rw [← hqueue, ← leaveQueue_kinds]
  exact hend.kinds

end ends

/-- Whether an ASSIGN_CHECK has gone stale, as the statement has it. -/
theorem assign_stale_iff {s : State} {l : Nat} {q : Snapshot} : (assignChanged l q s || assignStale q s) = true ↔
    (s.link l).state ≠ .idle ∨ (s.link l).cfg.band ≠ q.linkBand ∨ (s.link l).cfg.hw ≠ q.linkHw ∨
      (s.band (s.link l).cfg.band).frozen = true ∨ (s.band q.one.band).carrierGen ≠ q.one.carrierGen ∨
      ∃ j ∈ s.pe.queue, j.snap.isSome = true ∧ j.moved = true := by
  have hmoved : s.runningMoved = true ↔ ∃ j ∈ s.pe.queue, j.snap.isSome = true ∧ j.moved = true := by
    rw [State.runningMoved, List.any_eq_true]
    simp only [Bool.and_eq_true]
  simp only [assignChanged, assignStale, Bool.or_eq_true, decide_eq_true_eq, hmoved, or_assoc]
  rw [or_comm (a := ∃ j ∈ s.pe.queue, _)]

/-- A link that passes holds its step and enters ACQUIRING: what this leaves of link, band and orders (R23, R61, R86). -/
theorem takeStep_does {s : State} {l : Nat} (hs : s.shaped) (hl : 1 ≤ l) (hl' : l ≤ 48) (hb : 1 ≤ (s.link l).cfg.band)
    (hb' : (s.link l).cfg.band ≤ 4) (hu : 1 ≤ (s.link l).cfg.unit) (hu' : (s.link l).cfg.unit ≤ 24) (hst : (s.link l).state = .idle)
    (step : Nat) (e : FrameNo) :
    let b := (s.link l).cfg.band
    let t := takeStep l step e s
    let k : Link := { s.link l with assigned := some step }
    LinkBecomes l (Link.acquiring e (Link.enter .acquiring none k)) s t ∧ Waits .linkState l t ∧ CarrierChanges b 1 s t ∧
      (Ordered (s.link l).cfg.unit (.tune (s.link l).cfg.channel ((s.band b).p.baseKhz + 25 * step) e) (.lsTune l) s t ∨
        s.unitFull (s.link l).cfg.unit) ∧
      (t.band b).spares = (s.band b).spares.filter (fun x => decide (x.step + (s.link l).cfg.hw + (s.band b).p.gapCc < step) ||
        decide (step + (s.link l).cfg.hw + (s.band b).p.gapCc < x.step)) ∧
      (t.band b).bins = (s.band b).bins.zipIdx.map (fun (x, i) =>
        if spanMeets step (s.link l).cfg.hw ((s.band b).p.binSpan i) then { level := none, hot := false } else x) ∧
      KeepsBut linkParts s t := by
  intro b t k
  obtain ⟨hbands, hlinks, hunits, -⟩ := hs
  have hlen : l ≤ s.links.length := hl'.trans_eq hlinks.symm
  let u := s.modLink l fun k => { k with assigned := some step }
  let v := hold b step (s.link l).cfg.hw u
  have hblen : b ≤ u.bands.length := hb'.trans_eq hbands.symm
  have hmod : LinkBecomes l k s u := (LinkBecomes.refl l s).modLink (f := fun k => { k with assigned := some step }) hl hlen
  have hhold := keeps_hold b step (s.link l).cfg.hw u
  have hlink : LinkBecomes l k s v := hmod.keeps hhold
  have hcarrier : CarrierChanges b 1 s v := (hold_carrier (s := u) hb hblen _ _)
  have hne : k.state ≠ .acquiring := by rw [show k.state = .idle from hst]; exact LinkState.noConfusion
  have hacq := keeps_enterAcquiring_narrow l e v
  obtain ⟨hends, hwaits⟩ := enterAcquiring_link e hlink hl hlen hne
  have hcore := bandCore_of_same (hacq .bands (by decide)) b
  have hvlen : l ≤ v.links.length := hlen.trans_eq hlink.length.symm
  have hvunits : v.units = s.units := hhold .units (by decide)
  have hvnow : v.now = s.now := congrArg Ftb.counter (hhold .ftb (by decide))
  have hvcfg : (v.link l).cfg = (s.link l).cfg := hlink.cfg
  have htunes := enterAcquiring_tunes (s := v) (hvunits ▸ hunits) (by rw [hvcfg]; exact hu) (by rw [hvcfg]; exact hu') hl hvlen e
    (by rw [hlink.state, show k.state = .idle from hst]; rfl) (by rw [hlink.state]; exact hne)
  rw [State.khz, hvcfg, hlink.assigned, hold_p (s := u) hb hblen] at htunes
  have hframe : KeepsBut linkParts s t :=
    (((keeps_modLink s l _).mono (by decide)).trans (hhold.mono (by decide))).trans (hacq.mono (by decide))
  refine ⟨hends, hwaits, hcarrier.keeps hacq, ?_, ?_, ?_, hframe⟩
  · exact htunes.imp (fun h => h.of_now hvnow) (unitFull_of_units hvunits)
  · exact ((congrArg Band.spares hcore :) : (t.band b).spares = _).trans (hold_spares (s := u) hb hblen _ _)
  · exact ((congrArg Band.bins hcore :) : (t.band b).bins = _).trans (hold_bins (s := u) hb hblen _ _)

/-- Settles O57: the job's outcome is the first that applies, and past it the engine only goes on. -/
theorem assignChecksComplete : Obligations.AssignChecksComplete := by
  intro s l step override q hs howed hl hl' hrun k b worst stale result e leaves
  have hexec : exec .assignCheckComplete s = .next (finish s (leaveQueue (assignDone l step override q s))) := by
    show execAssignCheckComplete s = _
    simp only [execAssignCheckComplete, event, settleOwed_of_nil s howed, completeAssign, hrun]
  have hstale : (assignChanged l q s || assignStale q s) = true ↔ stale := assign_stale_iff
  have hassign : l ≤ s.pe.assign.length := by
    obtain ⟨-, -, -, -, -, -, -, -, -, -, -, -, -, -, hlen, -⟩ := hs
    exact hl'.trans_eq hlen.symm
  -- A check that does not pass leaves its result and a notice.
  have htold' (c : Cause) (r : AssignResult) : let t := finish s (leaveQueue (raise c l (setAssignResult l r s)))
      t.assignResult l = some r ∧ Notified c l t ∧ leaves t ∧ KeepsBut tailParts s t := by
    obtain ⟨hleaves, hresult⟩ := finish_leaves (s := s) (s1 := raise c l (setAssignResult l r s)) rfl s
    have hwaits : Waits c l (leaveQueue (raise c l (setAssignResult l r s))) := (waits_raise c l _).of_same rfl
    have hframe : KeepsBut tailParts s (leaveQueue (raise c l (setAssignResult l r s))) :=
      (((keeps_modPe s _).mono (by decide)).trans ((keeps_raise _ c l).mono (by decide))).trans ((keeps_modPe _ _).mono (by decide))
    exact ⟨(hresult l).trans (setAssignResult_self hl hassign r), notified_finish hwaits s, hleaves, hframe.trans (keeps_finishTail _ _)⟩
  refine ⟨fun hst => ⟨_, hexec, ?_⟩, fun hst hw => ⟨_, hexec, ?_⟩, fun hst hw hb hb' hu hu' => ⟨_, hexec, ?_⟩⟩
  · rw [assignDone, if_pos (hstale.2 hst)]
    exact htold' .linkStale _
  · rw [assignDone, if_neg fun h => hst (hstale.1 h), if_neg (Int.not_le.2 hw)]
    exact htold' .linkRefused _
  · rw [assignDone, if_neg fun h => hst (hstale.1 h), if_pos hw]
    have hidle : k.state = .idle := not_not.1 fun h => hst (.inl h)
    let s0 := setAssignResult l ⟨.pass, step, override, some q.one.carrierGen, some worst⟩ s
    have hs0 : s0.shaped := by
      obtain ⟨h1, h2, h3, h4, h5, h6, h7, h8, h9, h10, h11, h12, h13, h14, h15, h16, h17⟩ := hs
      exact ⟨h1, h2, h3, h4, h5, h6, h7, h8, h9, h10, h11, h12, h13, h14, (modSlot_length ..).trans h15, h16, h17⟩
    obtain ⟨hlink, hwaits, hcarrier, htunes, hspares, hbins, hframe⟩ :=
      takeStep_does (s := s0) hs0 hl hl' hb hb' hu hu' hidle step s.nextEffective
    have hresult : (takeStep l step s.nextEffective s0).assignResult l = s0.assignResult l :=
      (WorksOn.keeps hframe).assign l
    have hpe : (takeStep l step s.nextEffective s0).pe = s0.pe := hframe .pe (by decide)
    generalize takeStep l step s.nextEffective s0 = s1 at *
    obtain ⟨hleaves, hassigns⟩ := finish_leaves (s := s) (s1 := s1) (by rw [hpe]; rfl) s
    have hleave : KeepsBut [.pe] s1 (leaveQueue s1) := keeps_modPe _ _
    have hend := (hlink.keeps hleave).finish s
    have hband := bandCore_of_same (keeps_finishTail s (leaveQueue s1) .bands (by decide)) b
    have hframe : KeepsBut (.links :: .bands :: .plan :: tailParts) s (finish s (leaveQueue s1)) := by
      have h0 : KeepsBut [.pe] s s0 := keeps_modPe s _
      exact (((h0.mono (by decide)).trans (hframe.mono (by decide))).trans (hleave.mono (by decide))).trans
        ((keeps_finishTail _ _).mono (by decide))
    have hissues : Issues (fun _ => True) s1 (finish s (leaveQueue s1)) :=
      (Issues.keeps (ok := fun _ => True) hleave).trans ((issues_finish s _).mono fun _ _ => trivial)
    have htold := notified_finish (s1 := leaveQueue s1) (hwaits.of_same rfl) s
    have hgens := (hcarrier.keeps hleave).finish s
    have hassigned : (finish s (leaveQueue s1)).assignResult l = some ⟨.pass, step, override, some q.one.carrierGen, some worst⟩ :=
      (hassigns l).trans (hresult.trans (setAssignResult_self hl hassign _))
    clear hassigns hexec htold'
    generalize finish s (leaveQueue s1) = t at *
    refine ⟨hassigned, htold, hleaves, hend.state, hend.assigned, hend.effectiveFrame, hend.deadline,
      hend.silenceCounter, hend.fadeTimer, htunes.imp (fun h => h.issues displaceable_tune hissues) id,
      ((congrArg Band.spares hband :) : (t.band b).spares = _).trans hspares,
      ((congrArg Band.bins hband :) : (t.band b).bins = _).trans hbins, hend.alone, hgens, hframe⟩

end Sys2Proof.Machine

/-! The ends of a PLAN_CHECK, of a QUERY and of withdrawn work (O58): what each writes, and the job that the idle engine then takes. -/

namespace Sys2Proof.Machine

-- One theorem at a time: all at once, their threads together outgrow the memory limit of the check.
set_option Elab.async false

/-! ## PLAN_CHECK (R60, R62) -/

theorem planStale_iff {s : State} {q : Snapshot} : planStale q s = true ↔
    (∃ g ∈ q.bands, (s.band g.band).carrierGen ≠ g.carrierGen) ∨ ∃ x ∈ q.entries,
      (s.link x.link).cfg.kind.isSome ≠ x.defined ∨ (s.link x.link).cfg.band ≠ x.band ∨ (s.link x.link).cfg.hw ≠ x.hw := by
  simp only [planStale, Bool.or_eq_true, List.any_eq_true, decide_eq_true_eq, or_assoc]

theorem planBroken_iff {gs : List BandSnap} {es : List EntrySnap} : planBroken gs es = true ↔
    ∃ x ∈ es, x.defined = false ∨ ∃ step, x.target = some step ∧ ∀ g ∈ gs, g.band = x.band → g.p.steps ≤ step := by
  simp only [planBroken, List.any_eq_true, Bool.or_eq_true, Bool.not_eq_true', Option.any_eq_true, List.any_eq_false,
    Bool.and_eq_true, decide_eq_true_eq, not_and, Nat.not_lt, Option.mem_def]

/-- What a return of the plan to OPEN gives, from any other state (R112, R119). -/
theorem invalidatePlan_reopens {s : State} (h : s.plan.state ≠ .opened) :
    (invalidatePlan s).plan = { s.plan with state := .opened, checked := none } ∧
      Waits .planState 0 (invalidatePlan s) ∧ Waits .planInvalidated 0 (invalidatePlan s) :=
  ⟨by simp [invalidatePlan], Waits.of_acts (wide := .narrow)
    (waits_setPlanState (s := s.modPlan fun p => { p with checked := none }) h) (acts_raise _ _ _), waits_raise _ _ _⟩

section plan
variable {s : State} {q : Snapshot}

theorem keeps_planDone_narrow (q : Snapshot) (s : State) : KeepsBut [.plan, .notices] s (planDone q s) := by
  have hset (st : PlanState) (f : Plan → Plan) : KeepsBut [.plan, .notices] s (setPlanState st (s.modPlan f)) :=
    ((keeps_modPlan s f).mono (by decide)).trans (keeps_setPlanState st _)
  unfold planDone
  exact .ite (.refl _ _) (.ite (keeps_invalidatePlan s) (.ite (hset _ _) (hset _ _)))

variable (h : s.plan.state = .checking)
include h

/-- R62's table: a stale check. -/
theorem planDone_stale (hst : planStale q s = true) :
    (planDone q s).plan = { s.plan with state := .opened, checked := none } ∧ Waits .planState 0 (planDone q s) ∧
      Waits .planInvalidated 0 (planDone q s) := by
  rw [planDone, if_neg (not_not.2 h), if_pos hst]
  exact invalidatePlan_reopens (by rw [h]; exact PlanState.noConfusion)

/-- R62's table: a plan that names what is not there. -/
theorem planDone_broken (hst : planStale q s = false) (hbr : planBroken q.bands q.entries = true) :
    (planDone q s).plan = { s.plan with state := .rejected, worst := none } ∧ Waits .planState 0 (planDone q s) := by
  rw [planDone, if_neg (not_not.2 h), if_neg (by rw [hst]; exact Bool.false_ne_true), if_pos hbr]
  exact ⟨setPlanState_plan _ _, waits_setPlanState (by rw [State.modPlan_plan, h]; exact PlanState.noConfusion)⟩

/-- R62's table: a verdict by the plan's margin. -/
theorem planDone_judged (hst : planStale q s = false) (hbr : planBroken q.bands q.entries = false) :
    (planDone q s).plan = { s.plan with
      state := if 0 ≤ (planWorst q.bands q.entries).margin then .ready else .rejected, worst := some (planWorst q.bands q.entries),
      checked := some (q.bands.map fun g => (g.band, g.carrierGen)) } ∧ Waits .planState 0 (planDone q s) := by
  rw [planDone, if_neg (not_not.2 h), if_neg (by rw [hst]; exact Bool.false_ne_true), if_neg (by rw [hbr]; exact Bool.false_ne_true)]
  refine ⟨setPlanState_plan _ _, waits_setPlanState ?_⟩
  rw [State.modPlan_plan, h]
  split <;> exact PlanState.noConfusion

end plan

/-! ## The choice of a job that waits (R55, R56, R57) -/

/-- The engine is idle, and no job has started. -/
abbrev State.Waiting (s : State) : Prop := s.pe.engine = .idle ∧ ∀ j ∈ s.pe.queue, j.snap = none

theorem chosenJob_waiting {q : List Job} (h : ∀ j ∈ q, j.snap = none) :
    chosenJob q = (q.find? fun j => j.kind.isPick).or q.head? := by
  have hnone (j : Job) (hj : j ∈ q) : j.snap.isNone = true := by rw [h j hj]; rfl
  have hfind (p : Job → Bool) : q.find? (fun j => j.snap.isNone && p j) = q.find? p := by
    induction q with
    | nil => rfl
    | cons x xs ih =>
      rw [List.find?_cons, List.find?_cons, hnone x List.mem_cons_self, Bool.true_and,
        ih (fun j hj => h j (List.mem_cons_of_mem x hj)) fun j hj => hnone j (List.mem_cons_of_mem x hj)]
  have hhead : q.find? (fun j => j.snap.isNone) = q.head? := by
    cases q with
    | nil => rfl
    | cons x xs => rw [List.find?_cons, hnone x List.mem_cons_self]; rfl
  rw [chosenJob, hhead]
  exact congrArg (Option.or · _) (hfind fun j => j.kind.isPick)

/-- The kind of the job chosen, told from the kinds in the queue. -/
theorem chosenJob_kind {q : List Job} (h : ∀ j ∈ q, j.snap = none) :
    (chosenJob q).map Job.kind = ((q.map Job.kind).find? JobKind.isPick).or (q.map Job.kind).head? := by
  rw [chosenJob_waiting h, List.find?_map, List.head?_map, Option.map_or]
  rfl

namespace State.Waiting
variable {s : State}

theorem joins (h : s.Waiting) (k : JobKind) : (joinQueue k s).Waiting := by
  refine ⟨h.1, fun j hj => ?_⟩
  rcases List.mem_append.1 hj with hj | hj
  · exact h.2 j hj
  · rw [List.mem_singleton.1 hj]

theorem converts (h : s.Waiting) : (convert s).Waiting := by
  have hfold {f : State → Nat → State} (hf : ∀ s n, s.Waiting → (f s n).Waiting) (xs : List Nat) {s : State} (h : s.Waiting) :
      (xs.foldl f s).Waiting := by
    induction xs generalizing s with
    | nil => exact h
    | cons x xs ih => exact ih (hf s x h)
  unfold convert
  split
  · refine hfold (fun s b h => ?_) _ (hfold (fun s l h => ?_) _ h)
    · unfold convertSweep
      split
      · exact h.joins _
      · exact h
    · unfold convertRescue
      split
      · exact h.joins _
      · exact h
  · exact h

end State.Waiting

/-- A snapshot copies what the bands' and links' records and the plan say. -/
theorem snapshot_of_same {s t : State} (hbands : Part.bands.same s t) (hlinks : Part.links.same s t) (hplan : t.plan = s.plan)
    (k : JobKind) : t.snapshot k = s.snapshot k := by
  have hcfg (l : Nat) : (t.link l).cfg = (s.link l).cfg := (congrArg Link.cfg (linkCore_of_same hlinks l) :)
  have hsnap (b : Nat) : t.bandSnap b = s.bandSnap b := by
    have hcore (k : Band) : (k.p, k.exclusions, k.hotRanges, k.bins, k.spares, k.carrierGen, k.spectrumGen) =
        (k.core.p, k.core.exclusions, k.core.hotRanges, k.core.bins, k.core.spares, k.core.carrierGen, k.core.spectrumGen) := rfl
    have hfields := (hcore (t.band b)).trans ((congrArg (fun k : Band => (k.p, k.exclusions, k.hotRanges, k.bins, k.spares,
      k.carrierGen, k.spectrumGen)) (bandCore_of_same hbands b)).trans (hcore (s.band b)).symm)
    simp only [Prod.mk.injEq] at hfields
    obtain ⟨hp, hexcl, hhot, hbins, hspares, hgen, hspec⟩ := hfields
    rw [State.bandSnap, State.bandSnap, carrierSet_of_same hlinks, hp, hexcl, hhot, hbins, hspares, hgen, hspec]
  have hentry : t.entrySnap = s.entrySnap := funext fun e => by rw [State.entrySnap, State.entrySnap, hcfg]
  cases k <;> simp only [State.snapshot, State.oneBand, hsnap, hentry, hplan, hcfg, funext hsnap]

/-- The idle engine takes the job it chooses, on a snapshot of the part as it stands. -/
theorem choose_takes {s : State} {j : Job} (hidle : s.pe.engine = .idle) (hj : chosenJob s.pe.queue = some j) :
    (choose s).pe.engine = .running ∧ { j with snap := some (s.snapshot j.kind) } ∈ (choose s).pe.queue ∧
      (choose s).jobKinds = s.jobKinds := by
  have hchoose : choose s = startJob j s := by rw [choose, hidle, hj]
  rw [hchoose, startJob_queue, jobKinds_startJob]
  refine ⟨?_, mem_replaceFirst (chosenJob_mem hj).1, rfl⟩
  unfold startJob
  split <;> rfl

theorem choose_rests {s : State} (h : chosenJob s.pe.queue = none) : choose s = s := by
  rw [choose, h]
  cases s.pe.engine <;> rfl

/-- What the engine does once idle, where no job has started. -/
theorem after_takes {s : State} (hwait : s.Waiting) :
    ((after s).jobKinds = [] → (after s).pe.engine = .idle) ∧
    ∀ k, ((after s).jobKinds.find? JobKind.isPick).or (after s).jobKinds.head? = some k →
      (after s).pe.engine = .running ∧ ∃ j ∈ (after s).pe.queue, j.kind = k ∧ j.snap = some (s.snapshot k) := by
  have hconv := keeps_convert s
  have hpe : (after s).pe = (choose (convert s)).pe := keeps_kick (choose (convert s)) .pe (by decide)
  have hsnap := snapshot_of_same (hconv .bands (by decide)) (hconv .links (by decide)) (hconv .plan (by decide))
  have hkinds := chosenJob_kind hwait.converts.2
  rw [State.jobKinds, hpe]
  cases hj : chosenJob (convert s).pe.queue with
  | none =>
    rw [choose_rests hj]
    refine ⟨fun _ => hwait.converts.1, fun k hk => ?_⟩
    rw [hj, Option.map_none] at hkinds
    exact absurd (hkinds.trans hk) (by simp)
  | some j =>
    obtain ⟨hrun, hmem, hsame⟩ := choose_takes hwait.converts.1 hj
    rw [hj, Option.map_some] at hkinds
    rw [show (choose (convert s)).pe.queue.map Job.kind = (convert s).jobKinds from hsame, hrun]
    refine ⟨fun h => ?_, fun k hk => ⟨rfl, _, hmem, ?_⟩⟩
    · rw [State.jobKinds] at h
      rw [h] at hkinds
      exact absurd hkinds (by simp)
    · obtain rfl : j.kind = k := Option.some.inj (hkinds.trans hk)
      exact ⟨rfl, congrArg some (hsnap j.kind)⟩

/-- The part once the withdrawn computation has ended (R69). -/
def State.undrained (s : State) : State := s.modPe fun e => { e with engine := .idle }

/-- In STANDBY nothing is converted. -/
theorem undrained_standby {s : State} (h : s.mode = .standby) : (after s.undrained).pe = (choose s.undrained).pe := by
  have hconv : convert s.undrained = s.undrained := if_neg (by rw [show s.undrained.mode = s.mode from rfl, h]; exact Mode.noConfusion)
  have hpump : pump s.undrained = choose s.undrained := by rw [pump, hconv]
  exact (keeps_kick (pump s.undrained) .pe (by decide)).trans (by rw [hpump])

/-- Settles O58. -/
theorem planQueryAndDrainComplete : Obligations.PlanQueryAndDrainComplete := by
  refine ⟨?_, ?_, ?_⟩
  · intro s q hs howed hrun worst stale broken checked
    have hexec : exec .planCheckComplete s = .next (after (leaveQueue (planDone q s))) := by
      show execPlanCheckComplete s = _
      simp only [execPlanCheckComplete, event, settleOwed_of_nil s howed, completePlan, hrun]
    have hplan : (after (leaveQueue (planDone q s))).plan = (planDone q s).plan := keeps_after _ .plan (by decide)
    have hwaits {c : Cause} {o : Nat} (h : Waits c o (planDone q s)) : Notified c o (after (leaveQueue (planDone q s))) :=
      notified_after (h.of_same rfl)
    refine ⟨_, hexec, fun h => ?_, fun h => ?_, ?_⟩
    · rw [hplan, planDone, if_pos h]
    · have hnot {x : Bool} {p : Prop} (hiff : x = true ↔ p) (hp : ¬ p) : x = false := Bool.eq_false_iff.2 fun hx => hp (hiff.1 hx)
      rw [hplan]
      by_cases hst : stale
      · obtain ⟨hopen, hstate, hinvalid⟩ := planDone_stale h (planStale_iff.2 hst)
        exact ⟨hwaits hstate, fun _ => ⟨hopen, hwaits hinvalid⟩, fun hn => absurd hst hn, fun hn => absurd hst hn⟩
      have hfresh := hnot planStale_iff hst
      by_cases hbr : broken
      · obtain ⟨hrejected, hstate⟩ := planDone_broken h hfresh (planBroken_iff.2 hbr)
        exact ⟨hwaits hstate, fun hs => absurd hs hst, fun _ _ => hrejected, fun _ hn => absurd hbr hn⟩
      · obtain ⟨hjudged, hstate⟩ := planDone_judged h hfresh (hnot planBroken_iff hbr)
        exact ⟨hwaits hstate, fun hs => absurd hs hst, fun _ hb => absurd hb hbr, fun _ _ => hjudged⟩
    · exact (((keeps_planDone_narrow q s).mono (by decide)).trans ((keeps_modPe _ _).mono (by decide))).trans ((keeps_after _).mono (by decide))
  · intro s b number step hw l q hs howed hb hb' hrun worst
    have hexec : exec .queryComplete s = .next (after (leaveQueue (queryDone b number step hw l q s))) := by
      show execQueryComplete s = _
      simp only [execQueryComplete, event, settleOwed_of_nil s howed, completeQuery, hrun]
    have hquery : b ≤ s.pe.query.length := by
      obtain ⟨-, -, -, -, -, -, -, -, -, -, -, -, -, -, -, -, hlen⟩ := hs
      exact hb'.trans_eq hlen.symm
    have hend := WorksOn.after (leaveQueue (queryDone b number step hw l q s))
    refine ⟨_, hexec, (hend.query b).trans ?_, fun c hc => (hend.query c).trans ?_, notified_after ?_, ?_⟩
    · refine (slot_modSlot_self none _ _ hb hquery).trans ?_
      simp only [decide_eq_true_eq]
      rfl
    · exact slot_modSlot_other none _ _ hc.symm
    · exact (waits_raise _ _ _).of_same rfl
    · exact (((keeps_modPe s _).mono (by decide)).trans ((keeps_raise _ _ _).mono (by decide))).trans
        (((keeps_modPe _ _).mono (by decide)).trans (keeps_after _))
  · intro s howed
    have hexec : exec .drainComplete s = .next (completeDrain s) := by
      show execDrainComplete s = _
      simp only [execDrainComplete, event, settleOwed_of_nil s howed]
    have hdrain (h : s.pe.engine = .draining) : exec .drainComplete s = .next (after s.undrained) := by rw [hexec, completeDrain, h]; rfl
    have hkeeps : KeepsBut [.pe] s s.undrained := keeps_modPe _ _
    have hframe : KeepsBut afterParts s (after s.undrained) := (hkeeps.mono (by decide)).trans (keeps_after _)
    have hsnap := snapshot_of_same (hkeeps .bands (by decide)) (hkeeps .links (by decide)) (hkeeps .plan (by decide))
    refine ⟨fun h => ?_, fun h hm hwait => ⟨_, hdrain h, fun hnil => ?_, fun j hj => ?_, hframe⟩,
      fun h hm hwait => ⟨_, hdrain h, ?_, ?_, fun k hk => ?_, hframe⟩⟩
    · rw [hexec, completeDrain]
      split
      next hd => exact absurd hd h
      all_goals rfl
    · rw [undrained_standby hm]
      rw [choose_rests (show chosenJob s.undrained.pe.queue = none by rw [show s.undrained.pe.queue = [] from hnil]; rfl)]
      rfl
    · have hchosen : chosenJob s.undrained.pe.queue = some j := (chosenJob_waiting hwait).trans hj
      obtain ⟨hrun, hmem, hkinds⟩ := choose_takes (s := s.undrained) rfl hchosen
      rw [undrained_standby hm]
      rw [hsnap] at hmem
      exact ⟨hrun, hmem, hkinds⟩
    · exact (WorksOn.after s.undrained).kinds
    · exact (after_takes (s := s.undrained) ⟨rfl, hwait⟩).1
    · obtain ⟨hrun, j, hj, hkind, hq⟩ := (after_takes (s := s.undrained) ⟨rfl, hwait⟩).2 k hk
      exact ⟨hrun, j, hj, hkind, hq.trans (congrArg some (hsnap k))⟩

end Sys2Proof.Machine

/-! Tally words made anew, key lamps tested alone, and the two deadlines of keys and pulses (O19). -/

namespace Sys2Proof.Machine

-- One theorem at a time: all at once, their threads together outgrow the memory limit of the check.
set_option Elab.async false

/-! ## What leaves all but the wanted words and the orders -/

/-- A link without its tally order, its retry and its wanted word. -/
def Link.wordless (k : Link) : Link := { k with wanted := TallyWord.dark, tallyOrder := none, retryAt := none }

/-- From `s` to `t` wanted words have been made anew, and orders have been issued or have failed. -/
structure Rewords (s t : State) : Prop where
  mode : t.mode = s.mode
  ftb : t.ftb = s.ftb
  tr : t.tr = s.tr
  zones : t.tk.zones = s.tk.zones
  groups : t.tk.groups = s.tk.groups
  routes : t.tk.routes.map Route.bare = s.tk.routes.map Route.bare
  stations : t.tk.stations.map Station.bare = s.tk.stations.map Station.bare
  links : t.links.map Link.wordless = s.links.map Link.wordless

namespace Rewords
variable {s t u : State}

theorem refl (s : State) : Rewords s s := ⟨rfl, rfl, rfl, rfl, rfl, rfl, rfl, rfl⟩

theorem trans (h : Rewords s t) (k : Rewords t u) : Rewords s u :=
  ⟨k.mode.trans h.mode, k.ftb.trans h.ftb, k.tr.trans h.tr, k.zones.trans h.zones, k.groups.trans h.groups, k.routes.trans h.routes,
    k.stations.trans h.stations, k.links.trans h.links⟩

theorem of_quiet (h : Quiet s t) : Rewords s t := by
  refine ⟨h.mode, h.ftb, h.tr, h.zones, h.groups, h.routes, h.stations, ?_⟩
  have hmap (u : State) : u.links.map Link.wordless = (u.links.map Link.bare).map Link.wordless := by rw [List.map_map]; rfl
  rw [hmap, hmap, h.links]

theorem modLink (l : Nat) (f : Link → Link) (hf : ∀ k, (f k).wordless = k.wordless := by exact fun _ => rfl) :
    Rewords s (s.modLink l f) :=
  ⟨rfl, rfl, rfl, rfl, rfl, rfl, rfl, map_modSlot Link.wordless f s.links l hf⟩

theorem ite {c : Prop} [Decidable c] (h : Rewords s t) (k : Rewords s u) : Rewords s (if c then t else u) := by
  split
  · exact h
  · exact k

theorem foldl {α : Type} {f : State → α → State} (h : ∀ s x, Rewords s (f s x)) (xs : List α) (s : State) : Rewords s (xs.foldl f s) := by
  induction xs generalizing s with
  | nil => exact refl s
  | cons x xs ih => exact (h s x).trans (ih _)

theorem deliveryTest (l : Nat) (s : State) : Rewords s (deliveryTest l s) := by
  unfold Machine.deliveryTest
  dsimp only
  split
  · generalize hr : issue (s.link l).cfg.unit (.tally (s.link l).cfg.channel (s.link l).wanted) (.tr l) s = r
    have hissue : Rewords s r.state := of_quiet (hr ▸ quiet_issue s _ _ _)
    have hrecord : Rewords r.state (r.state.modLink l fun k' =>
        { k' with tallyOrder := some { id := r.id, word := (s.link l).wanted, issueFrame := s.now } }) := modLink l _
    exact hissue.trans (ite (hrecord.trans (of_quiet (quiet_tallyFailed _ l _))) hrecord)
  · exact refl s

theorem rewant (l : Nat) (s : State) : Rewords s (rewant l s) := trans (modLink l _) (deliveryTest l _)

theorem length_links (h : Rewords s t) : t.links.length = s.links.length := by simpa using congrArg List.length h.links

theorem length_stations (h : Rewords s t) : t.tk.stations.length = s.tk.stations.length := by
  simpa using congrArg List.length h.stations

theorem link (h : Rewords s t) (l : Nat) : (t.link l).wordless = (s.link l).wordless := by
  have hslot (u : State) : (u.link l).wordless = slot Link.vacant.wordless (u.links.map Link.wordless) l :=
    (slot_map Link.wordless Link.vacant u.links l).symm
  rw [hslot, hslot, h.links]

theorem station (h : Rewords s t) (d : Nat) : (t.station d).bare = (s.station d).bare := by
  have hslot (u : State) : (u.station d).bare = slot Station.undefined.bare (u.tk.stations.map Station.bare) d :=
    (slot_map Station.bare Station.undefined u.tk.stations d).symm
  rw [hslot, hslot, h.stations]

theorem cfg (h : Rewords s t) (l : Nat) : (t.link l).cfg = (s.link l).cfg := (congrArg Link.cfg (h.link l) :)

theorem pulseEnd (h : Rewords s t) (d : Nat) : (t.station d).pulseEnd = (s.station d).pulseEnd :=
  (congrArg Station.pulseEnd (h.station d) :)

theorem keys (h : Rewords s t) (d : Nat) : (t.station d).keys = (s.station d).keys := (congrArg Station.keys (h.station d) :)

/-- The word that a link is given does not depend on the words given before. -/
theorem wantedWord (h : Rewords s t) (l : Nat) : t.wantedWord l = s.wantedWord l := by
  have hcalled : t.called = s.called := funext fun d => congrArg Option.isSome (h.pulseEnd d)
  rw [State.wantedWord, State.wantedWord, h.tr, h.cfg, hcalled]

end Rewords

/-! ## The words that are made anew -/

section words
variable {s : State}

theorem rewant_word (l n : Nat) (hl : 1 ≤ l) (hl' : l ≤ s.links.length) :
    ((rewant l s).link n).wanted = if n = l then s.wantedWord l else (s.link n).wanted := by
  by_cases hn : n = l
  · rw [if_pos hn, hn]
    exact rewant_wanted hl hl'
  · rw [if_neg hn]
    exact (deliveryTest_words l n _).1.trans (congrArg Link.wanted (slot_modSlot_other _ _ _ (Ne.symm hn)))

/-- The links of some sort that a list names are given their words, and no other. -/
theorem rewants_words (c : LinkConfig → Prop) [DecidablePred c] (xs : List Nat) (hxs : ∀ l ∈ xs, 1 ≤ l ∧ l ≤ s.links.length) :
    let t := xs.foldl (fun s l => if c (s.link l).cfg then rewant l s else s) s
    Rewords s t ∧ ∀ n, (t.link n).wanted = if n ∈ xs ∧ c (s.link n).cfg then s.wantedWord n else (s.link n).wanted := by
  induction xs generalizing s with
  | nil => exact ⟨.refl s, fun n => (if_neg fun h => List.not_mem_nil h.1).symm⟩
  | cons x xs ih =>
    intro t
    obtain ⟨hx, hx'⟩ := hxs x List.mem_cons_self
    let s1 := if c (s.link x).cfg then rewant x s else s
    have hstep : Rewords s s1 := .ite (.rewant x s) (.refl s)
    obtain ⟨hrest, hwords⟩ := ih (s := s1) fun l hl => by
      rw [hstep.length_links]
      exact hxs l (List.mem_cons_of_mem x hl)
    refine ⟨hstep.trans hrest, fun n => (hwords n).trans ?_⟩
    rw [hstep.cfg, hstep.wantedWord]
    by_cases hn : n ∈ xs ∧ c (s.link n).cfg
    · rw [if_pos hn, if_pos ⟨List.mem_cons_of_mem x hn.1, hn.2⟩]
    rw [if_neg hn]
    by_cases hc : c (s.link x).cfg
    · rw [show s1 = rewant x s from if_pos hc, rewant_word x n hx hx']
      by_cases hnx : n = x
      · rw [if_pos hnx, if_pos ⟨hnx ▸ List.mem_cons_self, hnx ▸ hc⟩, hnx]
      · rw [if_neg hnx, if_neg fun h => hn ⟨(List.mem_cons.1 h.1).resolve_left hnx, h.2⟩]
    · rw [show s1 = s from if_neg hc, if_neg fun h => ?_]
      obtain hnx | hmem := List.mem_cons.1 h.1
      · exact hc (hnx ▸ h.2)
      · exact hn ⟨hmem, h.2⟩

/-- The links of a station are given their words (R144). -/
theorem rewantStation_words (hlen : s.links.length = 48) (d : Nat) : Rewords s (rewantStation d s) ∧
    ∀ n, 1 ≤ n → n ≤ 48 → ((rewantStation d s).link n).wanted =
      if (s.link n).cfg.station = some d then s.wantedWord n else (s.link n).wanted := by
  obtain ⟨hframe, hwords⟩ := rewants_words (s := s) (fun c => c.station = some d) (oneUpTo Config.links)
    fun l hl => hlen ▸ mem_oneUpTo.1 hl
  refine ⟨hframe, fun n hn hn' => (hwords n).trans ?_⟩
  exact if_congr (and_iff_right (mem_oneUpTo.2 ⟨hn, hn'⟩)) rfl rfl

end words

/-! ## Key lamps tested, and no more (R179) -/

/-- Among the reports that wait there are none but of key lamps. -/
def LampsAlone (x : Acting) : Prop := ∀ f ∈ x.2, ∃ t, f.1 = .tkLamp t

theorem displaced_tables (o : Order) (s : State) : (displaced o s).tk.routes = s.tk.routes ∧ (displaced o s).tk.breaks = s.tk.breaks := by
  obtain h | ⟨l, e, -, h⟩ | ⟨t, -, h⟩ := displaced_cases o s <;> rw [h] <;> exact ⟨rfl, rfl⟩

/-- The issue of an order leaves routes and breaks. -/
theorem issue_tables (a : Nat) (body : OrderBody) (i : Issuer) (s : State) :
    (issue a body i s).state.tk.routes = s.tk.routes ∧ (issue a body i s).state.tk.breaks = s.tk.breaks := by
  obtain ⟨-, -, hr⟩ | ⟨-, -, -, hr⟩ | ⟨-, -, -, hr⟩ | ⟨-, -, -, v, -, hr⟩ := issue_cases a body i s <;> rw [hr]
  · exact ⟨rfl, rfl⟩
  · exact ⟨rfl, rfl⟩
  · exact ⟨rfl, rfl⟩
  · exact displaced_tables v _

theorem orderLamp_tables (t : Nat) {x : Acting} (hx : LampsAlone x) : LampsAlone (orderLamp t x) ∧
    (orderLamp t x).1.tk.routes = x.1.tk.routes ∧ (orderLamp t x).1.tk.breaks = x.1.tk.breaks := by
  unfold orderLamp
  dsimp only
  split
  · unfold tkIssue
    refine ⟨?_, issue_tables _ _ _ x.1⟩
    dsimp only
    split
    · intro f hf
      rcases List.mem_append.1 hf with hf | hf
      · exact hx f hf
      · exact ⟨t, by rw [List.mem_singleton.1 hf]⟩
    · exact hx
  · exact ⟨hx, rfl, rfl⟩

theorem lampFailed_tables (t id : Nat) (s : State) :
    (lampFailed t id s).tk.routes = s.tk.routes ∧ (lampFailed t id s).tk.breaks = s.tk.breaks := by
  unfold lampFailed
  split
  · split <;> exact ⟨rfl, rfl⟩
  · exact ⟨rfl, rfl⟩

theorem reported_tables {x : Acting} (hx : LampsAlone x) :
    (reported x).tk.routes = x.1.tk.routes ∧ (reported x).tk.breaks = x.1.tk.breaks := by
  obtain ⟨s, fs⟩ := x
  show (fs.foldl _ s).tk.routes = s.tk.routes ∧ (fs.foldl _ s).tk.breaks = s.tk.breaks
  induction fs generalizing s with
  | nil => exact ⟨rfl, rfl⟩
  | cons f fs ih =>
    obtain ⟨t, ht⟩ := hx f List.mem_cons_self
    have hstep : tkFailed f.1 f.2 s = lampFailed t f.2 s := by rw [ht]; rfl
    obtain ⟨hroutes, hbreaks⟩ := ih (lampFailed t f.2 s) fun g hg => hx g (List.mem_cons_of_mem f hg)
    obtain ⟨hroutes', hbreaks'⟩ := lampFailed_tables t f.2 s
    rw [List.foldl_cons, hstep]
    exact ⟨hroutes.trans hroutes', hbreaks.trans hbreaks'⟩

/-- A key-lamp test leaves routes and breaks. -/
theorem lampTest_tables (t : Nat) (s : State) :
    (lampTest t s).tk.routes = s.tk.routes ∧ (lampTest t s).tk.breaks = s.tk.breaks := by
  have hnone : LampsAlone (s, []) := fun f hf => absurd hf List.not_mem_nil
  obtain ⟨hx, hroutes, hbreaks⟩ := orderLamp_tables t hnone
  obtain ⟨hroutes', hbreaks'⟩ := reported_tables hx
  exact ⟨hroutes'.trans hroutes, hbreaks'.trans hbreaks⟩

section lamps
variable {s0 s1 : State}

/-- Where the event moved no route in or out of LIVE, key lamps are all that is left to test. -/
theorem tkAfterFor_lamps (asked : Option Nat) (hsources : ∀ d, liveSources d s1.tk.routes = liveSources d s0.tk.routes)
    (hcounts : ∀ d, (liveTo d s1.tk.routes).isEmpty = (liveTo d s0.tk.routes).isEmpty) (hset : s1.talkSettled) :
    tkAfterFor asked s0 s1 = reported ((oneUpTo Config.stations).foldl (lamps asked s0) (s1, [])) := by
  have hcross (d : Nat) : crosspoints s0.tk.routes (s1, []) d = (s1, []) := by
    have hnone (xs ys : List Nat) (hxy : xs = ys) : xs.filter (fun a => !ys.contains a) = [] :=
      List.filter_eq_nil_iff.2 fun a ha => by simpa using hxy ▸ ha
    unfold crosspoints
    dsimp only
    rw [hnone _ _ (hsources d).symm, hnone _ _ (hsources d)]
    rfl
  have hdims (t : Nat) : dims s0.tk.routes (s1, []) t = (s1, []) := if_neg fun hc => hc.2.2 (hcounts t).symm
  have hresettle : s1.resettle = s1 := hset
  unfold tkAfterFor
  rw [hresettle, foldl_fixed hcross]
  dsimp only
  rw [foldl_fixed hdims]

/-- The end of such an event leaves routes and breaks. -/
theorem tkAfterFor_tables (asked : Option Nat) (hroutes : s1.tk.routes = s0.tk.routes) (hset : s1.talkSettled) :
    (tkAfterFor asked s0 s1).tk.routes = s1.tk.routes ∧ (tkAfterFor asked s0 s1).tk.breaks = s1.tk.breaks := by
  rw [tkAfterFor_lamps asked (fun d => by rw [hroutes]) (fun d => by rw [hroutes]) hset]
  have hfold (ts : List Nat) (x : Acting) (hx : LampsAlone x) : LampsAlone (ts.foldl (lamps asked s0) x) ∧
      (ts.foldl (lamps asked s0) x).1.tk.routes = x.1.tk.routes ∧ (ts.foldl (lamps asked s0) x).1.tk.breaks = x.1.tk.breaks := by
    induction ts generalizing x with
    | nil => exact ⟨hx, rfl, rfl⟩
    | cons t ts ih =>
      have hstep : LampsAlone (lamps asked s0 x t) ∧ (lamps asked s0 x t).1.tk.routes = x.1.tk.routes ∧
          (lamps asked s0 x t).1.tk.breaks = x.1.tk.breaks := by
        unfold lamps
        split
        · exact orderLamp_tables t hx
        · exact ⟨hx, rfl, rfl⟩
      obtain ⟨halone, hr, hb⟩ := ih _ hstep.1
      exact ⟨halone, hr.trans hstep.2.1, hb.trans hstep.2.2⟩
  obtain ⟨halone, hr, hb⟩ := hfold (oneUpTo Config.stations) (s1, []) fun f hf => absurd hf List.not_mem_nil
  obtain ⟨hr', hb'⟩ := reported_tables halone
  exact ⟨hr'.trans hr, hb'.trans hb⟩

end lamps

theorem resettle_station (s : State) (d : Nat) : s.resettle.station d = s.station d := by
  rw [State.station, State.station, State.resettle, State.modTk_tk]

/-- The end of an event moves no wanted word and no call pulse. -/
theorem wanted_finish (s0 s1 : State) (l : Nat) : ((finish s0 s1).link l).wanted = (s1.link l).wanted := (TallyStands.finish s0 s1 l).wanted

theorem routes_finish (s0 s1 : State) : (finish s0 s1).tk.routes = (tkAfterFor none s0 s1).tk.routes :=
  congrArg Tk.routes (keeps_after (tkAfterFor none s0 s1) .tk (by decide))

theorem pulseEnd_finish (s0 s1 : State) (d : Nat) : ((finish s0 s1).station d).pulseEnd = (s1.station d).pulseEnd := by
  have hafter : (finish s0 s1).tk = (tkAfterFor none s0 s1).tk := keeps_after _ .tk (by decide)
  have hquiet : ((tkAfterFor none s0 s1).station d).pulseEnd = (s1.resettle.station d).pulseEnd :=
    (congrArg Station.pulseEnd ((quiet_tkAfterFor none s0 s1).station d) :)
  exact (congrArg (fun k : Tk => (slot Station.undefined k.stations d).pulseEnd) hafter).trans
    (hquiet.trans (by rw [resettle_station]))

/-! ## Keys of a station -/

section keys
variable {s : State} {x n : Nat} {k : Key} {f : Key → Key}

/-- The key of a number, once changed. -/
theorem key_setKey_self (hk : (s.station x).key n = some k) (hf : ∀ k, (f k).number = k.number) :
    ((setKey x n f s).station x).key n = some (f k) := by
  obtain ⟨hx, hx'⟩ := station_in_table (key_mem hk).1
  rw [Station.key, keys_setKey_self n f hx hx']
  rw [Station.key] at hk
  generalize (s.station x).keys = ks at hk ⊢
  induction ks with
  | nil => cases hk
  | cons y ys ih =>
    rw [List.find?_cons] at hk
    rw [List.map_cons, List.find?_cons]
    by_cases hy : y.number = n
    · rw [decide_eq_true hy] at hk
      cases hk
      rw [if_pos hy, hf, decide_eq_true hy]
    · simp only [hy, decide_false] at hk
      simp only [hy, if_false, decide_false]
      exact ih hk

/-- The keys of the other numbers stand. -/
theorem key_setKey_other (hx : 1 ≤ x) (hx' : x ≤ s.tk.stations.length) (hf : ∀ k, (f k).number = k.number) {m : Nat} (hm : m ≠ n) :
    ((setKey x n f s).station x).key m = (s.station x).key m := by
  rw [Station.key, Station.key, keys_setKey_self n f hx hx']
  induction (s.station x).keys with
  | nil => rfl
  | cons y ys ih =>
    rw [List.map_cons, List.find?_cons, List.find?_cons, ih]
    by_cases hy : y.number = n
    · have hym : y.number ≠ m := fun h => hm (h.symm.trans hy)
      rw [if_pos hy, hf, decide_eq_false hym]
    · rw [if_neg hy]

end keys

/-- One key is left as `new`; every other stands. -/
structure KeyBecomes (x n : Nat) (new : Key) (s t : State) : Prop where
  self : (t.station x).key n = some new
  others : ∀ m, m ≠ n → (t.station x).key m = (s.station x).key m
  alone : ∀ y, y ≠ x → (t.station y).keys = (s.station y).keys

namespace KeyBecomes
variable {s t u : State} {x n : Nat} {k new : Key}

theorem refl (h : (s.station x).key n = some k) : KeyBecomes x n k s s := ⟨h, fun _ _ => rfl, fun _ _ => rfl⟩

theorem of_keys (h : KeyBecomes x n new s t) (hk : ∀ y, (u.station y).keys = (t.station y).keys) : KeyBecomes x n new s u := by
  have hkey (m : Nat) : (u.station x).key m = (t.station x).key m := by rw [Station.key, Station.key, hk]
  exact ⟨(hkey n).trans h.self, fun m hm => (hkey m).trans (h.others m hm), fun y hy => (hk y).trans (h.alone y hy)⟩

theorem of_quiet (h : KeyBecomes x n new s t) (k : Quiet t u) : KeyBecomes x n new s u :=
  h.of_keys fun y => (congrArg Station.keys (k.station y) :)

theorem set (h : KeyBecomes x n k s t) (f : Key → Key) (hf : ∀ k, (f k).number = k.number := by exact fun _ => rfl) :
    KeyBecomes x n (f k) s (setKey x n f t) := by
  obtain ⟨hx, hx'⟩ := station_in_table (key_mem h.self).1
  refine ⟨key_setKey_self h.self hf, fun m hm => (key_setKey_other hx hx' hf hm).trans (h.others m hm), fun y hy => ?_⟩
  rw [station_setKey_other n f hy]
  exact h.alone y hy

/-- The end of the event leaves it. -/
theorem finish (h : KeyBecomes x n new s t) (s0 : State) : KeyBecomes x n new s (finish s0 t) := by
  have hsettle : KeyBecomes x n new s t.resettle := h.of_keys fun y => congrArg Station.keys (resettle_station t y)
  have hafter : (Machine.finish s0 t).tk = (tkAfterFor none s0 t).tk := keeps_after _ .tk (by decide)
  exact (hsettle.of_quiet (quiet_tkAfterFor none s0 t)).of_keys fun y =>
    congrArg (fun k : Tk => (slot Station.undefined k.stations y).keys) hafter

end KeyBecomes

/-- A key of a station does not bear on the reasons of routes. -/
theorem sameReasons_setKey (x n : Nat) (f : Key → Key) (s : State) : SameReasons s (setKey x n f s) := by
  have hfield {α : Type} (g : Station → α) (hg : ∀ (y : Station) (ks : List Key), g { y with keys := ks } = g y) (d : Nat) :
      g ((setKey x n f s).station d) = g (s.station d) := slot_modSlot_field g Station.undefined _ _ x d fun y => hg y _
  exact .of (fun d => ⟨hfield Station.kind (fun _ _ => rfl) d, hfield Station.zone (fun _ _ => rfl) d,
    hfield Station.link (fun _ _ => rfl) d, hfield Station.priority (fun _ _ => rfl) d⟩) rfl fun _ => rfl

/-- Settles O19. -/
theorem keyDeadlinesCome : Obligations.KeyDeadlinesCome := by
  constructor
  · intro s x n k hs hset hx hx' hmode hdue hk hst htap
    have hkey := key_mem hk
    have htaps : ((s.without (.tap x n)).tapsAt x).contains n = true := by
      rw [List.contains_iff_mem, State.tapsAt, List.mem_map]
      exact ⟨k, List.mem_filter.2 ⟨hkey.1, decide_eq_true htap⟩, hkey.2⟩
    have hstep : tapStep x n (s.without (.tap x n)) = tapEnds x n (s.without (.tap x n)) := if_pos ⟨hmode, htaps⟩
    let f : Key → Key := fun k => if k.state = .tapping then { k with state := .held, tapDeadline := none } else k
    have hf (k : Key) : (f k).number = k.number := by
      show (if k.state = .tapping then _ else k).number = _
      split <;> rfl
    have hheld : f k = { k with state := .held, tapDeadline := none } := if_pos hst
    have hset0 : (s.without (.tap x n)).talkSettled := talkSettled_of_same (s0 := s) (sameReasons_of_parts rfl fun _ => rfl) rfl hset
    have hset' : (setKey x n f (s.without (.tap x n))).talkSettled := talkSettled_of_same (sameReasons_setKey x n f _) rfl hset0
    have hbecomes := ((KeyBecomes.refl (s := s.without (.tap x n)) hk).set f hf).finish (s.without (.tap x n))
    have hroutes : (finish (s.without (.tap x n)) (setKey x n f (s.without (.tap x n)))).tk.routes = s.tk.routes :=
      (routes_finish _ _).trans (tkAfterFor_tables (s0 := s.without (.tap x n)) (s1 := setKey x n f (s.without (.tap x n))) none rfl hset').1
    have hframe : KeepsBut issueParts (s.without (.tap x n)) (setKey x n f (s.without (.tap x n))) := (keeps_modTk _ _).mono (by decide)
    refine ⟨_, congrArg Host.Outcome.next (takeOwed_of_due hdue), ?_⟩
    rw [show owedStep (.tap x n) (s.without (.tap x n)) = setKey x n f (s.without (.tap x n)) from hstep]
    exact ⟨hbecomes.self.trans (congrArg some hheld), hbecomes.others, hbecomes.alone, hroutes, (keeps_dueStep hframe).mono (by decide)⟩
  · intro s x hs hx hx' hmode hdue hpulse
    let s0 := s.without (.pulse x)
    have hstep : pulseStep x s0 = endPulse x s0 := if_pos ⟨hmode, hpulse⟩
    obtain ⟨-, hlinks, -, -, -, -, -, -, -, -, -, hstations, -⟩ := hs
    let s1 := s0.modStation x fun y => { y with pulseEnd := none }
    obtain ⟨hframe, hwords⟩ := rewantStation_words (s := s1) hlinks x
    have hself : (s1.station x).pulseEnd = none :=
      (congrArg Station.pulseEnd (slot_modSlot_self _ _ _ hx (hx'.trans_eq hstations.symm)) :)
    have hother (y : Nat) (hy : y ≠ x) : (s1.station y).pulseEnd = (s.station y).pulseEnd :=
      (congrArg Station.pulseEnd (slot_modSlot_other _ _ _ hy.symm) :)
    refine ⟨_, congrArg Host.Outcome.next (takeOwed_of_due hdue), ?_⟩
    rw [show owedStep (.pulse x) (s.without (.pulse x)) = rewantStation x s1 from hstep]
    refine ⟨(pulseEnd_finish _ _ x).trans ((hframe.pulseEnd x).trans hself),
      fun y hy => (pulseEnd_finish _ _ y).trans ((hframe.pulseEnd y).trans (hother y hy)), fun l hl hl' => ?_,
      (keeps_dueStep (keeps_endPulse x s0)).mono (by decide)⟩
    rw [wanted_finish, hwords l hl hl']
    refine if_ctx_congr Iff.rfl (fun h => ?_) fun _ => rfl
    rw [State.wantedWord, show (s1.link l).cfg.station = some x from h, Option.any_some, State.called, hself]
    rfl

end Sys2Proof.Machine

/-! KEY_EVENT (O49): what a press or release makes of its key, of the holders of the routes it covers and of call pulses (R166 to R172). -/

namespace Sys2Proof.Machine

-- One theorem at a time: all at once, their threads together outgrow the memory limit of the check.
set_option Elab.async false

/-! ## The call pulses that a key starts (R144, R169) -/

/-- From `s` to `t` call pulses have started or ended, with the words that follow, and orders have been issued. -/
structure Pulses (s t : State) : Prop where
  ftb : t.ftb = s.ftb
  tr : t.tr = s.tr
  routes : t.tk.routes.map Route.bare = s.tk.routes.map Route.bare
  keys : ∀ d, (t.station d).keys = (s.station d).keys
  cfg : ∀ l, (t.link l).cfg = (s.link l).cfg
  links : t.links.length = s.links.length
  stations : t.tk.stations.length = s.tk.stations.length

namespace Pulses
variable {s t u : State}

theorem refl (s : State) : Pulses s s := ⟨rfl, rfl, rfl, fun _ => rfl, fun _ => rfl, rfl, rfl⟩

theorem trans (h : Pulses s t) (k : Pulses t u) : Pulses s u :=
  ⟨k.ftb.trans h.ftb, k.tr.trans h.tr, k.routes.trans h.routes, fun d => (k.keys d).trans (h.keys d), fun l => (k.cfg l).trans (h.cfg l),
    k.links.trans h.links, k.stations.trans h.stations⟩

theorem of_rewords (h : Rewords s t) : Pulses s t :=
  ⟨h.ftb, h.tr, h.routes, h.keys, h.cfg, h.length_links, h.length_stations⟩

theorem modStation (d : Nat) (e : Option FrameNo) (s : State) : Pulses s (s.modStation d fun x => { x with pulseEnd := e }) :=
  ⟨rfl, rfl, rfl, fun y => slot_modSlot_field Station.keys _ _ _ d y fun _ => rfl, fun _ => rfl, rfl, modSlot_length ..⟩

end Pulses

section pulses
variable {s : State} {frames : Nat}

/-- A pulse starts on a station where none runs: its own alone, and the words of its links. -/
theorem startPulse_does {d : Nat} (hlinks : s.links.length = 48) (hstations : s.tk.stations.length = 24) (hd : 1 ≤ d) (hd' : d ≤ 24) :
    let t := startPulse frames d s
    Pulses s t ∧
      (∀ y, (t.station y).pulseEnd = if y = d ∧ (s.station y).pulseEnd = none then some (framePlus s.now frames)
        else (s.station y).pulseEnd) ∧
      (∀ l, 1 ≤ l → l ≤ 48 → (s.link l).cfg.station ≠ some d → (t.link l).wanted = (s.link l).wanted) ∧
      ((s.station d).pulseEnd = none → ∀ l, 1 ≤ l → l ≤ 48 → (s.link l).cfg.station = some d →
        (t.link l).wanted = { tally := slot .off s.tr.linkTally l, call := true }) := by
  intro t
  by_cases hcalled : s.called d = true
  · have hsome : (s.station d).pulseEnd ≠ none := Option.isSome_iff_ne_none.1 hcalled
    rw [show t = s from if_pos hcalled]
    refine ⟨.refl s, fun y => (if_neg fun ⟨hy, hn⟩ => hsome (hy ▸ hn)).symm, fun _ _ _ _ => rfl, fun h => absurd h hsome⟩
  · let s1 := s.modStation d fun x => { x with pulseEnd := some (framePlus s.now frames) }
    have hnone : (s.station d).pulseEnd = none := Option.not_isSome_iff_eq_none.1 hcalled
    have hself : (s1.station d).pulseEnd = some (framePlus s.now frames) :=
      (congrArg Station.pulseEnd (slot_modSlot_self _ _ _ hd (hd'.trans_eq hstations.symm)) :)
    obtain ⟨hframe, hwords⟩ := rewantStation_words (s := s1) hlinks d
    rw [show t = rewantStation d s1 from if_neg hcalled]
    refine ⟨(Pulses.modStation d _ s).trans (.of_rewords hframe), fun y => (hframe.pulseEnd y).trans ?_, fun l hl hl' hne => ?_,
      fun _ l hl hl' hst => ?_⟩
    · by_cases hy : y = d
      · rw [hy, if_pos ⟨rfl, hnone⟩]
        exact hself
      · rw [if_neg fun h => hy h.1]
        exact (congrArg Station.pulseEnd (slot_modSlot_other _ _ _ (Ne.symm hy)) :)
    · exact (hwords l hl hl').trans (if_neg hne)
    · rw [hwords l hl hl', if_pos (show (s1.link l).cfg.station = some d from hst), State.wantedWord, show (s1.link l).cfg.station = some d from hst, Option.any_some,
        State.called, hself]
      rfl

/-- The pulses that one press of a CALL key starts. -/
theorem startPulses_do (ds : List Nat) (hnodup : ds.Nodup) (hds : ∀ d ∈ ds, 1 ≤ d ∧ d ≤ 24) (hlinks : s.links.length = 48)
    (hstations : s.tk.stations.length = 24) :
    let t := ds.foldl (fun s d => startPulse frames d s) s
    Pulses s t ∧
      (∀ y, (t.station y).pulseEnd = if y ∈ ds ∧ (s.station y).pulseEnd = none then some (framePlus s.now frames)
        else (s.station y).pulseEnd) ∧
      (∀ l, 1 ≤ l → l ≤ 48 → (∀ d ∈ ds, (s.link l).cfg.station ≠ some d) → (t.link l).wanted = (s.link l).wanted) ∧
      ∀ d ∈ ds, (s.station d).pulseEnd = none → ∀ l, 1 ≤ l → l ≤ 48 → (s.link l).cfg.station = some d →
        (t.link l).wanted = { tally := slot .off s.tr.linkTally l, call := true } := by
  induction ds generalizing s with
  | nil => exact ⟨.refl s, fun y => (if_neg fun h => List.not_mem_nil h.1).symm, fun _ _ _ _ => rfl, fun d h => absurd h List.not_mem_nil⟩
  | cons d ds ih =>
    intro t
    obtain ⟨hnot, hnodup⟩ := List.nodup_cons.1 hnodup
    obtain ⟨hd, hd'⟩ := hds d List.mem_cons_self
    obtain ⟨hframe, hends, hother, hwords⟩ := startPulse_does (frames := frames) hlinks hstations hd hd'
    obtain ⟨hframe', hends', hother', hwords'⟩ := ih (s := startPulse frames d s) hnodup (fun y hy => hds y (List.mem_cons_of_mem d hy))
      (hframe.links.trans hlinks) (hframe.stations.trans hstations)
    have hnow : (startPulse frames d s).now = s.now := congrArg Ftb.counter hframe.ftb
    rw [hnow] at hends'
    rw [hframe.tr] at hwords'
    simp only [hframe.cfg] at hother' hwords'
    refine ⟨hframe.trans hframe', fun y => (hends' y).trans ?_, fun l hl hl' hne => ?_, fun y hy hnone l hl hl' hst => ?_⟩
    · rw [hends y]
      by_cases hy : y = d ∧ (s.station y).pulseEnd = none
      · rw [if_pos hy, if_neg fun ⟨_, hsome⟩ => Option.some_ne_none _ hsome, if_pos ⟨hy.1 ▸ List.mem_cons_self, hy.2⟩]
      · rw [if_neg hy]
        refine if_congr ?_ rfl rfl
        exact ⟨fun h => ⟨List.mem_cons_of_mem d h.1, h.2⟩,
          fun h => ⟨(List.mem_cons.1 h.1).resolve_left fun he => hy ⟨he, h.2⟩, h.2⟩⟩
    · exact (hother' l hl hl' fun y hy => hne y (List.mem_cons_of_mem d hy)).trans (hother l hl hl' (hne d List.mem_cons_self))
    · by_cases hyd : y = d
      · subst hyd
        have hother (z : Nat) (hz : z ∈ ds) : (s.link l).cfg.station ≠ some z := fun hzs =>
          hnot (Option.some.inj (hst.symm.trans hzs) ▸ hz)
        exact (hother' l hl hl' hother).trans (hwords hnone l hl hl' hst)
      · refine hwords' y ((List.mem_cons.1 hy).resolve_left hyd) ?_ l hl hl' hst
        rw [hends y, if_neg fun h => hyd h.1]
        exact hnone

end pulses

/-! ## What a press or release asks of a key (R167, R168) -/

/-- The state that a key that has been pressed or released goes to, by its mode. -/
def Key.asks (down : Bool) (k : Key) : Option KeyState :=
  match k.mode, down, k.state with
  | .momentary, true, .off => some .held
  | .momentary, false, .held => some .off
  | .latch, true, .off => some .latched
  | .latch, true, .latched => some .off
  | .auto, true, .off => some .tapping
  | .auto, true, .latched => some .off
  | .auto, false, .tapping => some .latched
  | .auto, false, .held => some .off
  | _, _, _ => none

/-- A key that is OFF and moves starts talking. -/
theorem asks_starts {down : Bool} {k : Key} {new : KeyState} (hoff : k.state = .off) (h : k.asks down = some new) : new ≠ .off := by
  unfold Key.asks at h
  rw [hoff] at h
  rintro rfl
  split at h <;> simp_all

/-- A repeat moves no key (R166). -/
def Key.moves (down : Bool) (k : Key) : Option KeyState := if k.pressed = down then none else k.asks down

theorem asks_call {down : Bool} {k : Key} (h : k.mode = .call) : k.asks down = none := by
  unfold Key.asks
  rw [h]

/-- The time that a key's new state lasts. -/
def State.tapTime (s : State) (x : Nat) (new : KeyState) : Option FrameNo :=
  if new = .tapping then some (framePlus s.now (s.station x).tapWindow) else none

/-- A key that moves starts talking, stops, or goes on talking; of the others, a CALL key calls. -/
theorem keyActs_eq (x : Nat) (k : Key) (down : Bool) (s : State) : keyActs x k down s =
    match k.asks down with
    | some new =>
      if k.state = .off then startTalking x k new (s.tapTime x new) s
      else if new = .off then stopTalking x k s
      else setKey x k.number (fun k => { k with state := new, tapDeadline := s.tapTime x new }) s
    | none =>
      if k.mode = .call ∧ down = true then (s.covered x k).foldl (fun s' d => startPulse (s.station x).callFrames d s') s else s := by
  obtain ⟨number, target, mode, state, pressed, tap⟩ := k
  cases mode <;> cases down <;> cases state <;> rfl

section press
variable (s : State) (x : Nat) (k : Key) (down : Bool)

/-- The pairs that a key covers and the table has no route for (R172). -/
def State.fresh : Nat := (s.covered x k).countP fun d => !s.tk.routes.any (Route.joins x d)

/-- A key that would start talking finds no room (R172). -/
abbrev State.bars : Prop := k.state = .off ∧ k.moves down ≠ none ∧ Config.routes < s.tk.routes.length + s.fresh x k

/-- The key as the event leaves it. -/
def State.keyAfter : Key :=
  { k with
    pressed := down
    state := if s.bars x k down then .off else (k.moves down).getD k.state
    tapDeadline := if s.bars x k down ∨ k.moves down = none then k.tapDeadline else (k.moves down).elim none (s.tapTime x) }

/-- The press of a CALL key, but for a repeat. -/
abbrev Key.calls : Prop := k.mode = .call ∧ down = true ∧ k.pressed = false

/-- What the event leaves of keys, holders and pulses. -/
structure KeyTaken (n : Nat) (p : State) : Prop where
  becomes : KeyBecomes x n (s.keyAfter x k down) s p
  told : s.bars x k down → Waits .stationRefused x p ∧ (p.station x).lastRefusal = some (n, s.now)
  holders : ∀ d, holdersIn p.tk.routes x d =
    if (k.state = .off ∧ k.moves down ≠ none) ∧ ¬ s.bars x k down ∧ d ∈ s.covered x k then holdersIn s.tk.routes x d + 1
    else if k.moves down = some .off ∧ d ∈ s.covered x k then holdersIn s.tk.routes x d - 1 else holdersIn s.tk.routes x d
  pulses : ∀ d, (p.station d).pulseEnd = if k.calls down ∧ d ∈ s.covered x k ∧ (s.station d).pulseEnd = none
    then some (framePlus s.now (s.station x).callFrames) else (s.station d).pulseEnd
  words : k.calls down → ∀ d ∈ s.covered x k, (s.station d).pulseEnd = none → ∀ l, 1 ≤ l → l ≤ 48 → (s.link l).cfg.station = some d →
    (p.link l).wanted = { tally := slot .off s.tr.linkTally l, call := true }

end press

section taken
variable {s : State} {x n : Nat} {k : Key} {down : Bool}

theorem covered_setKey (f : Key → Key) : (setKey x n f s).covered x k = s.covered x k :=
  congrArg (List.filter · _) (funext (covers_congr rfl rfl (kind_setKey x n f s)))

theorem station_setKey {α : Type} (g : Station → α) (f : Key → Key) (d : Nat)
    (hg : ∀ (y : Station) (ks : List Key), g { y with keys := ks } = g y := by exact fun _ _ => rfl) :
    g ((setKey x n f s).station d) = g (s.station d) :=
  slot_modSlot_field g Station.undefined _ _ x d fun y => hg y _

/-- A key event that starts no pulse. -/
theorem KeyTaken.silent {p : State} (hb : KeyBecomes x n (s.keyAfter x k down) s p)
    (htold : s.bars x k down → Waits .stationRefused x p ∧ (p.station x).lastRefusal = some (n, s.now))
    (hholders : ∀ d, holdersIn p.tk.routes x d =
      if (k.state = .off ∧ k.moves down ≠ none) ∧ ¬ s.bars x k down ∧ d ∈ s.covered x k then holdersIn s.tk.routes x d + 1
      else if k.moves down = some .off ∧ d ∈ s.covered x k then holdersIn s.tk.routes x d - 1 else holdersIn s.tk.routes x d)
    (hcalls : ¬ k.calls down) (hpulses : ∀ d, (p.station d).pulseEnd = (s.station d).pulseEnd) : KeyTaken s x k down n p :=
  ⟨hb, htold, hholders, fun d => (hpulses d).trans (if_neg fun h => hcalls h.1).symm, fun h => absurd h hcalls⟩

theorem keyAfter_stays (h : k.moves down = none ∨ s.bars x k down) : s.keyAfter x k down = { k with pressed := down } := by
  by_cases hb : s.bars x k down
  · rw [State.keyAfter, if_pos hb, if_pos (.inl hb), hb.1]
  · have hm := h.resolve_right hb
    rw [State.keyAfter, if_neg hb, if_pos (.inr hm), hm]
    rfl

theorem keyAfter_moves {new : KeyState} (hm : k.moves down = some new) (hb : ¬ s.bars x k down) :
    s.keyAfter x k down = { k with pressed := down, state := new, tapDeadline := s.tapTime x new } := by
  rw [State.keyAfter, if_neg hb, if_neg fun h => h.elim hb fun hn => Option.some_ne_none new (hm.symm.trans hn), hm]
  rfl

/-- A key that starts talking where the table has room. -/
theorem startTalking_room {new : KeyState} {tap : Option FrameNo} (h : ¬ Config.routes - s.tk.routes.length < s.fresh x k) :
    startTalking x k new tap s = (setKey x k.number (fun k => { k with state := new, tapDeadline := tap }) s).modTk fun tk =>
      { tk with routes := s.addHolders x (s.covered x k) } := if_neg h

theorem startTalking_full {new : KeyState} {tap : Option FrameNo} (h : Config.routes - s.tk.routes.length < s.fresh x k) :
    startTalking x k new tap s =
      raise .stationRefused x (s.modStation x fun y => { y with lastRefusal := some (k.number, s.now) }) := if_pos h

/-- `s1` is `s` with the press or release of a key recorded, which is no repeat (R166). -/
structure PressSeen (s s1 : State) (x : Nat) (k : Key) (down : Bool) : Prop where
  fresh : ¬ k.pressed = down
  becomes : KeyBecomes x k.number { k with pressed := down } s s1
  covered : s1.covered x k = s.covered x k
  tap : s1.tapTime x = s.tapTime x
  pulses : ∀ d, (s1.station d).pulseEnd = (s.station d).pulseEnd
  frames : (s1.station x).callFrames = (s.station x).callFrames
  rest : s1.tk.routes = s.tk.routes ∧ s1.ftb = s.ftb ∧ s1.tr = s.tr ∧ s1.links = s.links ∧ s1.tk.stations.length = s.tk.stations.length

theorem pressSeen (hk : (s.station x).key k.number = some k) (h : ¬ k.pressed = down) :
    PressSeen s (setKey x k.number (fun k => { k with pressed := down }) s) x k down := by
  refine ⟨h, (KeyBecomes.refl hk).set fun k => { k with pressed := down }, covered_setKey _, funext fun new => ?_,
    station_setKey Station.pulseEnd _, station_setKey Station.callFrames _ x, rfl, rfl, rfl, rfl, modSlot_length ..⟩
  rw [State.tapTime, State.tapTime, station_setKey Station.tapWindow]
  rfl

section seen
variable {s1 : State} {new : KeyState} (h : PressSeen s s1 x k down)
include h

theorem PressSeen.moves : k.moves down = k.asks down := if_neg h.fresh

/-- The key starts talking, or finds no room (R171, R172). -/
theorem PressSeen.starts (hsound : s.routesSound) (hasks : k.asks down = some new) (hoff : k.state = .off) :
    KeyTaken s x k down k.number (startTalking x k new (s1.tapTime x new) s1) := by
  have hcalls : ¬ k.calls down := fun hc => Option.some_ne_none new (hasks.symm.trans (asks_call hc.1))
  have hmoves : k.moves down = some new := h.moves.trans hasks
  have hstop : ¬ k.moves down = some .off := fun hm => asks_starts hoff hasks (Option.some.inj (hmoves.symm.trans hm))
  have hstarts : k.state = .off ∧ k.moves down ≠ none := ⟨hoff, by rw [hmoves]; exact Option.some_ne_none _⟩
  obtain ⟨hroutes, -⟩ := h.rest
  have hroom : s.bars x k down ↔ Config.routes - s1.tk.routes.length < s1.fresh x k := by
    have hfresh : s1.fresh x k = s.fresh x k := by rw [State.fresh, State.fresh, h.covered, hroutes]
    have hlen := hsound.1
    rw [hfresh, hroutes]
    constructor
    · rintro ⟨-, -, hfull⟩
      omega
    · intro hfull
      exact ⟨hoff, hstarts.2, by omega⟩
  by_cases hbars : s.bars x k down
  · rw [startTalking_full (hroom.1 hbars)]
    refine .silent ?_ (fun _ => ⟨waits_raise _ _ _, ?_⟩) (fun d => ?_) hcalls fun d => ?_
    · rw [keyAfter_stays (.inr hbars)]
      exact h.becomes.of_keys fun y => slot_modSlot_field Station.keys _ _ _ x y fun _ => rfl
    · obtain ⟨hx, hx'⟩ := station_in_table (key_mem h.becomes.self).1
      rw [show s.now = s1.now from (congrArg Ftb.counter h.rest.2.1).symm]
      exact congrArg Station.lastRefusal (slot_modSlot_self Station.undefined _ _ hx hx')
    · rw [if_neg fun hc => hc.2.1 hbars, if_neg fun hc => hstop hc.1]
      exact congrArg (holdersIn · x d) hroutes
    · exact (slot_modSlot_field Station.pulseEnd Station.undefined (fun y => { y with lastRefusal := some (k.number, s1.now) }) _ x d
        fun _ => rfl).trans (h.pulses d)
  · rw [startTalking_room (fun hc => hbars (hroom.2 hc))]
    refine .silent ?_ (fun hc => absurd hc hbars) (fun d => ?_) hcalls fun d => ?_
    · rw [keyAfter_moves hmoves hbars, ← h.tap]
      exact (h.becomes.set fun k => { k with state := new, tapDeadline := s1.tapTime x new }).of_keys fun _ => rfl
    · rw [State.modTk_tk, holdersIn_addHolders s1 x (covered_nodup s1 x k), h.covered, hroutes]
      by_cases hd : d ∈ s.covered x k
      · rw [if_pos ⟨rfl, hd⟩, if_pos ⟨hstarts, hbars, hd⟩]
      · rw [if_neg fun hc => hd hc.2, if_neg fun hc => hd hc.2.2, if_neg fun hc => hd hc.2, Nat.add_zero]
    · exact (station_setKey Station.pulseEnd (fun k => { k with state := new, tapDeadline := s1.tapTime x new }) d).trans (h.pulses d)

/-- The key stops talking (R171). -/
theorem PressSeen.stops (hsound : s.routesSound) (hasks : k.asks down = some .off) (hoff : ¬ k.state = .off) :
    KeyTaken s x k down k.number (stopTalking x k s1) := by
  have hcalls : ¬ k.calls down := fun hc => Option.some_ne_none _ (hasks.symm.trans (asks_call hc.1))
  have hmoves : k.moves down = some .off := h.moves.trans hasks
  have hbars : ¬ s.bars x k down := fun hb => hoff hb.1
  obtain ⟨hroutes, -⟩ := h.rest
  refine .silent ?_ (fun hc => absurd hc hbars) (fun d => ?_) hcalls fun d => ?_
  · rw [keyAfter_moves hmoves hbars]
    exact (h.becomes.set fun k => { k with state := .off, tapDeadline := none }).of_keys fun _ => rfl
  · have hdrop : (stopTalking x k s1).tk.routes = dropHolders x (s.covered x k) s.tk.routes := by rw [← h.covered, ← hroutes]; rfl
    rw [if_neg fun hc => hoff hc.1.1, hdrop, holdersIn_dropHolders (k := s.tk) hsound]
    by_cases hd : d ∈ s.covered x k
    · rw [if_pos ⟨rfl, hd⟩, if_pos ⟨hmoves, hd⟩]
    · rw [if_neg fun hc => hd hc.2, if_neg fun hc => hd hc.2, Nat.sub_zero]
  · exact (station_setKey Station.pulseEnd (fun k => { k with state := .off, tapDeadline := none }) d).trans (h.pulses d)

/-- The key goes on talking (R168). -/
theorem PressSeen.goesOn (hasks : k.asks down = some new) (hoff : ¬ k.state = .off) (hnew : ¬ new = .off) :
    KeyTaken s x k down k.number (setKey x k.number (fun k => { k with state := new, tapDeadline := s1.tapTime x new }) s1) := by
  have hcalls : ¬ k.calls down := fun hc => Option.some_ne_none new (hasks.symm.trans (asks_call hc.1))
  have hmoves : k.moves down = some new := h.moves.trans hasks
  have hbars : ¬ s.bars x k down := fun hb => hoff hb.1
  obtain ⟨hroutes, -⟩ := h.rest
  refine .silent ?_ (fun hc => absurd hc hbars) (fun d => ?_) hcalls fun d => ?_
  · rw [keyAfter_moves hmoves hbars, ← h.tap]
    exact h.becomes.set fun k => { k with state := new, tapDeadline := s1.tapTime x new }
  · rw [if_neg fun hc => hoff hc.1.1, if_neg fun hc => hnew (Option.some.inj (hmoves.symm.trans hc.1))]
    exact congrArg (holdersIn · x d) hroutes
  · exact (station_setKey Station.pulseEnd (fun k => { k with state := new, tapDeadline := s1.tapTime x new }) d).trans (h.pulses d)

/-- No pair gains or loses a holder by a key that does not move. -/
theorem PressSeen.holders_stay (hasks : k.asks down = none) {p : State} (hp : p.tk.routes.map Route.bare = s.tk.routes.map Route.bare) (d : Nat) :
    holdersIn p.tk.routes x d =
      if (k.state = .off ∧ k.moves down ≠ none) ∧ ¬ s.bars x k down ∧ d ∈ s.covered x k then holdersIn s.tk.routes x d + 1
      else if k.moves down = some .off ∧ d ∈ s.covered x k then holdersIn s.tk.routes x d - 1 else holdersIn s.tk.routes x d := by
  have hmoves : k.moves down = none := h.moves.trans hasks
  rw [if_neg fun hc => hc.1.2 hmoves, if_neg fun hc => Option.some_ne_none _ (hc.1.symm.trans hmoves)]
  exact holdersIn_of_held (map_of_bare hp fun _ => rfl) x d

/-- A CALL key calls (R169). -/
theorem PressSeen.rings (hs : s.shaped) (hasks : k.asks down = none) (hcalls : k.mode = .call ∧ down = true) :
    KeyTaken s x k down k.number ((s1.covered x k).foldl (fun s' d => startPulse (s1.station x).callFrames d s') s1) := by
  have hmoves : k.moves down = none := h.moves.trans hasks
  have hcalled : k.calls down := ⟨hcalls.1, hcalls.2, by
    cases hp : k.pressed
    · rfl
    · exact absurd (hp.trans hcalls.2.symm) h.fresh⟩
  obtain ⟨-, hlinks, -, -, -, -, -, -, -, -, -, hstations, -⟩ := hs
  obtain ⟨hroutes, hftb, htr, hlink, hlen⟩ := h.rest
  have hrange (d : Nat) (hd : d ∈ s1.covered x k) : 1 ≤ d ∧ d ≤ 24 := mem_oneUpTo.1 (mem_covered.1 hd).1
  obtain ⟨hframe, hends, -, hwords⟩ := startPulses_do (s := s1) (frames := (s1.station x).callFrames) (s1.covered x k)
    (covered_nodup s1 x k) hrange (by rw [hlink]; exact hlinks) (hlen.trans hstations)
  generalize (s1.covered x k).foldl (fun s' d => startPulse (s1.station x).callFrames d s') s1 = p at hframe hends hwords ⊢
  have hnow : s1.now = s.now := congrArg Ftb.counter hftb
  have hcfg (l : Nat) : s1.link l = s.link l := by rw [State.link, hlink]; rfl
  refine ⟨?_, fun hc => absurd hmoves hc.2.1, h.holders_stay hasks (hframe.routes.trans (by rw [hroutes])), fun d => ?_,
    fun _ d hd hnone l hl hl' hst => ?_⟩
  · rw [keyAfter_stays (.inl hmoves)]
    exact h.becomes.of_keys hframe.keys
  · rw [hends d, h.covered, h.frames, h.pulses, hnow]
    exact if_congr (iff_and_self.2 fun _ => hcalled) rfl rfl
  · rw [← htr]
    exact hwords d (h.covered ▸ hd) ((h.pulses d).trans hnone) l hl hl' (by rw [hcfg]; exact hst)

end seen

/-- What a key event does that is taken (R166 to R172). -/
theorem pressKey_does (hs : s.shaped) (hsound : s.routesSound) (hk : (s.station x).key n = some k) :
    KeyTaken s x k down n (pressKey x n down s) := by
  obtain rfl := (key_mem hk).2
  rw [pressKey, hk]
  dsimp only
  by_cases hrepeat : k.pressed = down
  · have hmoves : k.moves down = none := if_pos hrepeat
    rw [if_pos hrepeat]
    refine .silent ?_ (fun h => absurd hmoves h.2.1) (fun d => ?_) (fun h => ?_) fun _ => rfl
    · rw [keyAfter_stays (.inl hmoves), ← hrepeat]
      exact KeyBecomes.refl hk
    · rw [if_neg fun h => h.1.2 hmoves, if_neg fun h => Option.some_ne_none _ (h.1.symm.trans hmoves)]
    · exact Bool.false_ne_true (h.2.2.symm.trans (hrepeat.trans h.2.1))
  · have hseen := pressSeen hk hrepeat
    rw [if_neg hrepeat, keyActs_eq]
    generalize setKey x k.number (fun k => { k with pressed := down }) s = s1 at hseen ⊢
    cases hasks : k.asks down with
    | some new =>
      dsimp only
      split
      · exact hseen.starts hsound hasks ‹_›
      · split
        next hnew => exact hseen.stops hsound (hnew ▸ hasks) ‹_›
        next hnew => exact hseen.goesOn hasks ‹_› hnew
    | none =>
      dsimp only
      split
      · exact hseen.rings hs hasks ‹_›
      · rename_i hcalls
        have hmoves : k.moves down = none := hseen.moves.trans hasks
        obtain ⟨hroutes, -⟩ := hseen.rest
        exact .silent (keyAfter_stays (.inl hmoves) ▸ hseen.becomes) (fun h => absurd hmoves h.2.1)
          (hseen.holders_stay hasks (by rw [hroutes])) (fun h => hcalls ⟨h.1, h.2.1⟩) hseen.pulses

end taken

/-! ## The request -/

section request
variable {s p : State} {f : HostFrame} {x n : Nat} {k : Key} {down : Bool}

theorem keyRequest_refused (h : x = 0 ∨ 24 < x ∨ n = 0 ∨ 8 < n) : keyRequest ⟨x, n, down⟩ s = refuse .badArgument s := by
  refine if_pos ?_
  rw [isStation, oneTo_eq_false_iff, oneTo_eq_false_iff, or_assoc]
  exact h

section named
variable (hx : 1 ≤ x) (hx' : x ≤ 24) (hn : 1 ≤ n) (hn' : n ≤ 8)
include hx hx' hn hn'

theorem key_named : ¬ (isStation x = false ∨ oneTo 8 n = false) := fun h =>
  h.elim (oneTo_ne_false hx hx') (oneTo_ne_false hn hn')

theorem keyRequest_standby (hm : s.mode = .standby) : keyRequest ⟨x, n, down⟩ s = refuse .wrongMode s := by
  rw [keyRequest, if_neg (key_named hx hx' hn hn'), if_pos hm]

theorem keyRequest_no_panel (hm : s.mode = .run) (hk : (s.station x).kind ≠ some .panel ∨ (s.station x).key n = none) :
    keyRequest ⟨x, n, down⟩ s = refuse .wrongState s := by
  rw [keyRequest, if_neg (key_named hx hx' hn hn'), if_neg (by rw [hm]; exact Mode.noConfusion)]
  by_cases hkind : (s.station x).kind ≠ some .panel
  · rw [if_pos hkind]
  · rw [if_neg hkind, if_pos (by rw [hk.resolve_left hkind]; rfl)]

theorem keyRequest_taken (hm : s.mode = .run) (hkind : (s.station x).kind = some .panel) (hk : (s.station x).key n = some k) :
    keyRequest ⟨x, n, down⟩ s = okWith (u8 ((pressKey x n down s).keyState x n).code) (pressKey x n down s) := by
  rw [keyRequest, if_neg (key_named hx hx' hn hn'), if_neg (by rw [hm]; exact Mode.noConfusion), if_neg (not_not.2 hkind),
    if_neg (by rw [hk]; exact Bool.false_ne_true)]

end named

theorem joins_eq (a d : Nat) : (fun r : Route => decide (r.source = a ∧ r.destination = d)) = Route.joins a d :=
  funext fun _ => Bool.decide_and _ _

/-- The pairs without a route are those without a holder. -/
theorem fresh_eq (hsound : s.routesSound) : s.fresh x k =
    (oneUpTo 24).countP fun d => (s.covers x k d && decide (1 ≤ d ∧ d ≤ 24)) && decide (holdersIn s.tk.routes x d = 0) := by
  have hnone (d : Nat) : (!s.tk.routes.any (Route.joins x d)) = decide (holdersIn s.tk.routes x d = 0) := by
    rw [Bool.eq_iff_iff, Bool.not_eq_true', decide_eq_true_eq, ← Bool.not_eq_true, any_joins_iff]
    constructor
    · exact fun h => holdersIn_of_not_mem fun r hr hj => h ⟨r, hr, hj⟩
    · rintro h ⟨r, hr, rfl, rfl⟩
      rw [holdersIn_of_mem hsound.2.1 hr] at h
      exact Nat.ne_of_gt (hsound.2.2.1 r hr).1 h
  rw [State.fresh, State.covered, List.countP_filter]
  refine List.countP_congr fun d hd => ?_
  rw [hnone, decide_eq_true (mem_oneUpTo.1 hd : 1 ≤ d ∧ d ≤ 24), Bool.and_true, Bool.and_comm]

theorem lastRefusal_finish (s0 s1 : State) (d : Nat) : ((finish s0 s1).station d).lastRefusal = (s1.station d).lastRefusal := by
  have hafter : (finish s0 s1).tk = (tkAfterFor none s0 s1).tk := keeps_after _ .tk (by decide)
  have hquiet : ((tkAfterFor none s0 s1).station d).lastRefusal = (s1.resettle.station d).lastRefusal :=
    (congrArg Station.lastRefusal ((quiet_tkAfterFor none s0 s1).station d) :)
  exact (congrArg (fun k : Tk => (slot Station.undefined k.stations d).lastRefusal) hafter).trans
    (hquiet.trans (by rw [resettle_station]))

theorem holders_finish (s0 s1 : State) (a d : Nat) : holdersIn (finish s0 s1).tk.routes a d = holdersIn s1.tk.routes a d :=
  holdersIn_of_held (Held.of_moves (b := true) (moves_finish s0 s1)).tk.routes a d

/-- What a KEY_EVENT that is taken leaves at its end. -/
theorem keyEvent_does (hs : s.shaped) (hsound : s.routesSound) (ht : Takes 0x42 f s) (hr : readKeyPress f.payload = some ⟨x, n, down⟩)
    (hx : 1 ≤ x) (hx' : x ≤ 24) (hn : 1 ≤ n) (hn' : n ≤ 8) (hm : s.mode = .run) (hkind : (s.station x).kind = some .panel)
    (hk : (s.station x).key n = some k) :
    ∃ t, exec .keyEvent s = .next t ∧ Replies f (u8 0 ++ u8 (s.keyAfter x k down).state.code) s t ∧
      KeyBecomes x n (s.keyAfter x k down) s t ∧
      (s.bars x k down → Notified .stationRefused x t ∧ (t.station x).lastRefusal = some (n, s.now)) ∧
      (∀ d, holdersIn t.tk.routes x d =
        if (k.state = .off ∧ k.moves down ≠ none) ∧ ¬ s.bars x k down ∧ d ∈ s.covered x k then holdersIn s.tk.routes x d + 1
        else if k.moves down = some .off ∧ d ∈ s.covered x k then holdersIn s.tk.routes x d - 1 else holdersIn s.tk.routes x d) ∧
      (∀ d, (t.station d).pulseEnd = if k.calls down ∧ d ∈ s.covered x k ∧ (s.station d).pulseEnd = none
        then some (framePlus s.now (s.station x).callFrames) else (s.station d).pulseEnd) ∧
      (k.calls down → ∀ d ∈ s.covered x k, (s.station d).pulseEnd = none → ∀ l, 1 ≤ l → l ≤ 48 → (s.link l).cfg.station = some d →
        (t.link l).wanted = { tally := slot .off s.tr.linkTally l, call := true }) ∧ KeepsBut tailParts s t := by
  have hdoes := pressKey_does (s := dropHead s) (down := down) hs hsound hk
  have hframe := keeps_pressKey x n down (dropHead s)
  have hact := request_finishes ht hr (keyRequest_taken (down := down) (s := dropHead s) hx hx' hn hn' hm hkind hk)
  generalize pressKey x n down (dropHead s) = p at hdoes hframe hact
  obtain ⟨hbecomes, htold, hheld, hpulses, hwords⟩ := hdoes
  have hcode : p.keyState x n = (s.keyAfter x k down).state := by rw [State.keyState, hbecomes.self]; rfl
  rw [hcode] at hact
  have hreply := replies_of_finish (f := f) (p := u8 0 ++ u8 (s.keyAfter x k down).state.code) (hframe .mp (by decide)) s
  have hkeeps : KeepsBut tailParts s (finish s (putReply f (u8 0 ++ u8 (s.keyAfter x k down).state.code) p)) :=
    (keeps_finish_reply hframe s).mono (by decide)
  have hwaits {c : Cause} {o : Nat} (h : Waits c o p) : Waits c o (putReply f (u8 0 ++ u8 (s.keyAfter x k down).state.code) p) := h.of_same rfl
  have hput : KeyBecomes x n (s.keyAfter x k down) s (putReply f (u8 0 ++ u8 (s.keyAfter x k down).state.code) p) :=
    ⟨hbecomes.self, hbecomes.others, hbecomes.alone⟩
  have hsame : (putReply f (u8 0 ++ u8 (s.keyAfter x k down).state.code) p).tk = p.tk ∧
      (putReply f (u8 0 ++ u8 (s.keyAfter x k down).state.code) p).links = p.links := ⟨rfl, rfl⟩
  generalize putReply f (u8 0 ++ u8 (s.keyAfter x k down).state.code) p = u at *
  obtain ⟨htk, hlinks⟩ := hsame
  have hstation (d : Nat) : u.station d = p.station d := by rw [State.station, htk]; rfl
  have hlink (l : Nat) : u.link l = p.link l := by rw [State.link, hlinks]; rfl
  refine ⟨finish s u, hact, hreply, hput.finish s, fun hb => ?_, fun d => ?_, fun d => ?_, fun hc d hd hnone l hl hl' hst => ?_, hkeeps⟩
  · obtain ⟨hw, hlast⟩ := htold hb
    exact ⟨notified_finish (hwaits hw) s, (lastRefusal_finish s u x).trans ((congrArg Station.lastRefusal (hstation x)).trans hlast)⟩
  · rw [holders_finish, htk]
    exact hheld d
  · rw [pulseEnd_finish, hstation]
    exact hpulses d
  · rw [wanted_finish, hlink]
    exact hwords hc d hd hnone l hl hl' hst

end request

/-- Settles O49. -/
theorem keyEventsTaken : Obligations.KeyEventsTaken := by
  intro s f x n down hs hsound ht hr refused holders
  refine ⟨fun h => request_refuses ht hr (keyRequest_refused h) rfl, fun hx hx' hn hn' => ⟨fun hm => ?_, fun hm hk => ?_, fun hm hk hkey => ?_, ?_⟩⟩
  · exact request_refuses ht hr (keyRequest_standby hx hx' hn hn' hm) rfl
  · exact request_refuses ht hr (keyRequest_no_panel hx hx' hn hn' hm (.inl hk)) rfl
  · exact request_refuses ht hr (keyRequest_no_panel hx hx' hn hn' hm (.inr hkey)) rfl
  intro k hm hkind hk covered fresh moves starts barred new calls
  have hmoves : moves = k.moves down := rfl
  have hholders (y : State) (d : Nat) : holders y d = holdersIn y.tk.routes x d := by
    show ((y.tk.routes.find? _).map Route.holders).getD 0 = _
    rw [joins_eq]
    rfl
  have hcovered (d : Nat) : covered d = true ↔ d ∈ s.covered x k := by
    rw [mem_covered, mem_oneUpTo, and_comm]
    show (s.covers x k d && decide (1 ≤ d ∧ d ≤ 24)) = true ↔ _
    rw [Bool.and_eq_true, decide_eq_true_eq]
    rfl
  have hbarred : barred ↔ s.bars x k down := by
    have hfresh : fresh = s.fresh x k := by
      rw [fresh_eq hsound]
      exact congrArg (List.countP · _) (funext fun d => by rw [← hholders])
    show ((k.state = .off ∧ moves ≠ none) ∧ 64 < s.tk.routes.length + fresh) ↔ _
    rw [hfresh, and_assoc]
    rfl
  have hnew : new = s.keyAfter x k down := by
    have hlasts (m : Option KeyState) : (if m = some .tapping then some (framePlus s.now (s.station x).tapWindow) else none) =
        m.elim none (s.tapTime x) := by
      cases m with
      | none => rfl
      | some m => exact if_congr (Option.some_inj) rfl rfl
    have hstate : new.state = (s.keyAfter x k down).state := if_congr hbarred rfl rfl
    have htap : new.tapDeadline = (s.keyAfter x k down).tapDeadline := if_congr (or_congr_left hbarred) rfl (hlasts (k.moves down))
    show ({ k with pressed := down, state := new.state, tapDeadline := new.tapDeadline } : Key) = _
    rw [hstate, htap]
    rfl
  obtain ⟨t, hexec, hreply, hbecomes, htold, hheld, hpulses, hwords, hkeeps⟩ := keyEvent_does (down := down) hs hsound ht hr hx hx' hn hn' hm hkind hk
  rw [← hnew] at hreply hbecomes
  refine ⟨t, hexec, hreply, hbecomes.self, hbecomes.others, hbecomes.alone, fun hb => htold (hbarred.1 hb), fun d => ?_, fun d _ _ => ?_,
    fun l d hl hl' hst hc hcov hnone => hwords hc d ((hcovered d).1 hcov) hnone l hl hl' hst, hkeeps⟩
  · rw [hholders, hholders]
    refine (hheld d).trans (if_congr ?_ rfl (if_congr (and_congr_right fun _ => (hcovered d).symm) rfl rfl))
    exact and_congr_right fun _ => and_congr (not_congr hbarred.symm) (hcovered d).symm
  · refine (hpulses d).trans (if_congr ?_ rfl rfl)
    exact and_congr_right fun _ => and_congr_left fun _ => (hcovered d).symm

end Sys2Proof.Machine

/-! What a delivery test and a key-lamp test send, and the ends of their retries (O18). -/

namespace Sys2Proof.Machine

-- One theorem at a time: all at once, their threads together outgrow the memory limit of the check.
set_option Elab.async false

/-! ## The end of an event that moved no route -/

theorem SameReasons.of_rewords {s t : State} (h : Rewords s t) : SameReasons s t :=
  .of (fun d => ⟨(congrArg Station.kind (h.station d) :), (congrArg Station.zone (h.station d) :), (congrArg Station.link (h.station d) :),
    (congrArg Station.priority (h.station d) :)⟩) h.zones fun l => congrArg LinkState.inService (congrArg Link.state (h.link l) :)

/-- Words made anew and orders recorded give the Talk Router nothing to do. -/
theorem Still.of_rewords {s t : State} (h : Rewords s t) : Still s t := by
  refine ⟨liveSources_of_bare h.routes, fun d => ?_, fun x => ?_, fun x => ?_⟩
  · rw [← List.isEmpty_map (f := Route.bare), liveTo_of_bare h.routes, List.isEmpty_map]
  · have hkey (n : Nat) : (t.station x).key n = (s.station x).key n := congrArg (List.find? fun k : Key => decide (k.number = n)) (h.keys x)
    rw [State.lampContents, State.lampContents, incoming_of_bare h.routes (SameReasons.of_rewords h).priority]
    simp only [hkey]
  · have hlink : (t.station x).link = (s.station x).link := (congrArg Station.link (h.station x) :)
    have hstate (l : Nat) : (t.link l).state = (s.link l).state := (congrArg Link.state (h.link l) :)
    have hself := cameIntoService_self s x
    unfold cameIntoService at hself ⊢
    rw [hlink]
    simpa only [hstate] using hself

theorem Ordered.same_units {s t u : State} {a : Nat} {body : OrderBody} {i : Issuer} (h : Ordered a body i s t) (hu : u.units = t.units) :
    Ordered a body i s u := by
  unfold Ordered at *
  rwa [unit_of_units hu]

/-! ## The delivery test (R145, R146) -/

section delivery
variable {s : State} {l : Nat}

theorem deliveryTest_rests (h : (s.link l).deliverable = false) : deliveryTest l s = s := if_neg (by rw [h]; exact Bool.false_ne_true)

theorem deliverable_iff (k : Link) : k.deliverable = true ↔ k.cfg.kind = some .camera ∧ (k.state = .locked ∨ k.state = .fading) ∧
    k.tallyOrder = none ∧ k.retryAt = none ∧ k.delivered ≠ some k.wanted := by
  simp only [Link.deliverable, Bool.and_eq_true, decide_eq_true_eq, inService_iff, Option.isNone_iff_eq_none, and_assoc]

/-- A TALLY displaces no order (R127), so that its issue touches no record but its unit's. -/
theorem issue_tally_links (a c : Nat) (w : TallyWord) (i : Issuer) (s : State) : (issue a (.tally c w) i s).state.links = s.links ∧
    (issue a (.tally c w) i s).state.tk = s.tk := by
  obtain ⟨-, -, hr⟩ | ⟨-, -, -, hr⟩ | ⟨-, -, -, hr⟩ | ⟨-, hno, -⟩ := issue_cases a (.tally c w) i s
  iterate 3 rw [hr]; exact ⟨rfl, rfl⟩
  cases hno

/-- A delivery test leaves routes, and every link but its own. -/
theorem deliveryTest_alone (l : Nat) (s : State) : (deliveryTest l s).tk = s.tk ∧ ∀ n, n ≠ l → (deliveryTest l s).link n = s.link n := by
  unfold deliveryTest
  dsimp only
  split
  case isFalse => exact ⟨rfl, fun _ _ => rfl⟩
  generalize hr : issue (s.link l).cfg.unit (.tally (s.link l).cfg.channel (s.link l).wanted) (.tr l) s = r
  obtain ⟨hlinks, htk⟩ : r.state.links = s.links ∧ r.state.tk = s.tk := hr ▸ issue_tally_links _ _ _ _ s
  have hmod (u : State) (hu : u.links = s.links) (f : Link → Link) (n : Nat) (hn : n ≠ l) : (u.modLink l f).link n = s.link n :=
    (slot_modSlot_other _ _ _ hn.symm).trans (congrArg (slot Link.vacant · n) hu)
  split
  · unfold tallyFailed
    split
    · split
      · exact ⟨htk, fun n hn => (slot_modSlot_other _ _ _ hn.symm).trans (hmod _ hlinks _ n hn)⟩
      · exact ⟨htk, hmod _ hlinks _⟩
    · exact ⟨htk, hmod _ hlinks _⟩
  · exact ⟨htk, hmod _ hlinks _⟩

/-- The order of a delivery test goes out and is recorded, or overflows and is to be retried. -/
theorem deliveryTest_sends (hl : 1 ≤ l) (hl' : l ≤ s.links.length) (hunits : s.units.length = 25) (hu : 1 ≤ (s.link l).cfg.unit)
    (hu' : (s.link l).cfg.unit ≤ 24) (h : (s.link l).deliverable = true) :
    (((deliveryTest l s).link l).retryAt = none ∧
      ((deliveryTest l s).link l).tallyOrder = some { id := s.nextOrderId, word := (s.link l).wanted, issueFrame := s.now } ∧
      Ordered (s.link l).cfg.unit (.tally (s.link l).cfg.channel (s.link l).wanted) (.tr l) s (deliveryTest l s)) ∨
    (s.unitFull (s.link l).cfg.unit ∧ ((deliveryTest l s).link l).tallyOrder = none ∧
      ((deliveryTest l s).link l).retryAt = some (framePlus s.now 4)) := by
  obtain ⟨-, -, hnone, hretry, -⟩ := (deliverable_iff _).1 h
  have hissue := ordered_or_full hunits (mem_unitAddresses.2 (.inl ⟨hu, hu'⟩)) (.tally (s.link l).cfg.channel (s.link l).wanted) (.tr l)
  have hover (ho : (issue (s.link l).cfg.unit (.tally (s.link l).cfg.channel (s.link l).wanted) (.tr l) s).overflow = true) :=
    unitFull_of_overflow ho
  have hid := issue_id (s.link l).cfg.unit (.tally (s.link l).cfg.channel (s.link l).wanted) (.tr l) s
  unfold deliveryTest
  dsimp only
  rw [if_pos h]
  generalize hr : issue (s.link l).cfg.unit (.tally (s.link l).cfg.channel (s.link l).wanted) (.tr l) s = r at hissue hover hid ⊢
  obtain ⟨hlinks, -⟩ : r.state.links = s.links ∧ r.state.tk = s.tk := hr ▸ issue_tally_links _ _ _ _ s
  have hlen : l ≤ r.state.links.length := by rw [hlinks]; exact hl'
  have hlink : r.state.link l = s.link l := by rw [State.link, hlinks]; rfl
  let u := r.state.modLink l fun k' => { k' with tallyOrder := some { id := r.id, word := (s.link l).wanted, issueFrame := s.now } }
  have hself : u.link l = { s.link l with tallyOrder := some { id := r.id, word := (s.link l).wanted, issueFrame := s.now } } :=
    (link_modLink_self hl hlen _).trans (by rw [hlink])
  by_cases ho : r.overflow = true
  · rw [if_pos ho]
    have hfail : tallyFailed l r.id u = u.modLink l fun k => { k with tallyOrder := none, retryAt := some (framePlus s.now 4) } := by
      rw [tallyFailed, hself]
      exact if_pos rfl
    have hlen' : l ≤ u.links.length := hlen.trans_eq (modSlot_length ..).symm
    have hends : (tallyFailed l r.id u).link l = { u.link l with tallyOrder := none, retryAt := some (framePlus s.now 4) } := by
      rw [hfail]
      exact link_modLink_self hl hlen' _
    exact .inr ⟨hover ho, congrArg Link.tallyOrder hends, congrArg Link.retryAt hends⟩
  · rw [if_neg ho]
    refine .inl ⟨(congrArg Link.retryAt hself).trans hretry, (congrArg Link.tallyOrder hself).trans (by rw [hid]), ?_⟩
    exact (hissue.resolve_right fun hf => ho hf.1).same_units rfl

end delivery

/-! ## The key-lamp test (R179, R180) -/

section lamp
variable {s : State} {x : Nat}

theorem lampDue_iff : s.lampDue x = true ↔ (s.station x).kind = some .linked ∧
    (∃ l, (s.station x).link = some l ∧ ((s.link l).state = .locked ∨ (s.link l).state = .fading)) ∧ (s.station x).lampOrder = none ∧
      (s.station x).lampRetry = none ∧ (s.station x).lampAcked ≠ some (s.lampContents x) := by
  simp only [State.lampDue, Bool.and_eq_true, decide_eq_true_eq, Option.any_eq_true, inService_iff, Option.isNone_iff_eq_none, and_assoc]

theorem lampTest_rests (h : s.lampDue x = false) : lampTest x s = s := by
  have hnone : orderLamp x (s, []) = (s, []) := if_neg (by rw [h]; exact Bool.false_ne_true)
  rw [lampTest, hnone]
  rfl

/-- A station without a lamp order keeps none, and its retry, while orders are displaced. -/
theorem displaced_lamp (v : Order) (h : (s.station x).lampOrder = none) : ((displaced v s).station x).lampOrder = none ∧
    ((displaced v s).station x).lampRetry = (s.station x).lampRetry := by
  unfold displaced
  split
  · rename_i l _
    have htk : (tallyFailed l v.id s).tk = s.tk := keeps_tallyFailed l v.id s .tk (by decide)
    rw [State.station, htk]
    exact ⟨h, rfl⟩
  · rename_i t _
    unfold lampFailed
    split
    next n lit hlit =>
      have hxt : x ≠ t := by
        rintro rfl
        rw [h] at hlit
        cases hlit
      split
      · have hother : (s.modStation t fun k => { k with lampOrder := none, lampRetry := some (framePlus s.now 1) }).station x = s.station x :=
          slot_modSlot_other _ _ _ hxt.symm
        rw [hother]
        exact ⟨h, rfl⟩
      · exact ⟨h, rfl⟩
    next => exact ⟨h, rfl⟩
  · exact ⟨h, rfl⟩

theorem issue_lamp (a : Nat) (body : OrderBody) (i : Issuer) (h : (s.station x).lampOrder = none) :
    (((issue a body i s).state.station x).lampOrder = none) ∧
      ((issue a body i s).state.station x).lampRetry = (s.station x).lampRetry := by
  obtain ⟨-, -, hr⟩ | ⟨-, -, -, hr⟩ | ⟨-, -, -, hr⟩ | ⟨-, -, -, v, -, hr⟩ := issue_cases a body i s <;> rw [hr]
  iterate 3 exact ⟨h, rfl⟩
  exact displaced_lamp v h

/-- The order of a key-lamp test goes out and is recorded, or overflows and is to be retried. -/
theorem lampTest_sends {l : Nat} (hx : 1 ≤ x) (hx' : x ≤ s.tk.stations.length) (hunits : s.units.length = 25)
    (hlink : (s.station x).link = some l) (hu : 1 ≤ (s.link l).cfg.unit) (hu' : (s.link l).cfg.unit ≤ 24) (h : s.lampDue x = true) :
    (((lampTest x s).station x).lampRetry = none ∧ ((lampTest x s).station x).lampOrder = some (s.nextOrderId, s.lampContents x) ∧
      Ordered (s.link l).cfg.unit (.talkLamp (s.link l).cfg.channel (s.lampContents x)) (.tkLamp x) s (lampTest x s)) ∨
    (s.unitFull (s.link l).cfg.unit ∧ ((lampTest x s).station x).lampOrder = none ∧
      ((lampTest x s).station x).lampRetry = some (framePlus s.now 1)) := by
  obtain ⟨-, -, hnone, hretry, -⟩ := lampDue_iff.1 h
  have hissue := ordered_or_full hunits (mem_unitAddresses.2 (.inl ⟨hu, hu'⟩)) (.talkLamp (s.link l).cfg.channel (s.lampContents x)) (.tkLamp x)
  have hover (ho : (issue (s.link l).cfg.unit (.talkLamp (s.link l).cfg.channel (s.lampContents x)) (.tkLamp x) s).overflow = true) :=
    unitFull_of_overflow ho
  have hid := issue_id (s.link l).cfg.unit (.talkLamp (s.link l).cfg.channel (s.lampContents x)) (.tkLamp x) s
  have hlamp := issue_lamp (s.link l).cfg.unit (.talkLamp (s.link l).cfg.channel (s.lampContents x)) (.tkLamp x) hnone
  have hquiet := quiet_issue s (s.link l).cfg.unit (.talkLamp (s.link l).cfg.channel (s.lampContents x)) (.tkLamp x)
  have horder : orderLamp x (s, []) = tkIssue (s.link l).cfg.unit (.talkLamp (s.link l).cfg.channel (s.lampContents x)) (.tkLamp x)
      (fun id s' => s'.modStation x fun y => { y with lampOrder := some (id, s.lampContents x) }) (s, []) := by
    rw [orderLamp, if_pos h]
    simp only [hlink, Option.getD_some]
  rw [lampTest, horder, tkIssue]
  dsimp only
  generalize issue (s.link l).cfg.unit (.talkLamp (s.link l).cfg.channel (s.lampContents x)) (.tkLamp x) s = r at *
  have hlen : x ≤ r.state.tk.stations.length := hx'.trans_eq hquiet.length_stations.symm
  let u := r.state.modStation x fun y => { y with lampOrder := some (r.id, s.lampContents x) }
  have hself : u.station x = { r.state.station x with lampOrder := some (r.id, s.lampContents x) } := slot_modSlot_self _ _ _ hx hlen
  by_cases ho : r.overflow = true
  · rw [if_pos ho]
    have hfail : reported (u, [(.tkLamp x, r.id)]) = u.modStation x fun k => { k with lampOrder := none, lampRetry := some (framePlus u.now 1) } := by
      show lampFailed x r.id u = _
      rw [lampFailed, hself]
      exact if_pos rfl
    have hnow : u.now = s.now := congrArg Ftb.counter hquiet.ftb
    have hends : (reported (u, [(.tkLamp x, r.id)])).station x = { u.station x with lampOrder := none, lampRetry := some (framePlus s.now 1) } := by
      rw [hfail, hnow]
      exact slot_modSlot_self _ _ _ hx (hlen.trans_eq (modSlot_length ..).symm)
    exact .inr ⟨hover ho, congrArg Station.lampOrder hends, congrArg Station.lampRetry hends⟩
  · rw [if_neg ho]
    refine .inl ⟨(congrArg Station.lampRetry hself).trans (hlamp.2.trans hretry), (congrArg Station.lampOrder hself).trans (by rw [hid]), ?_⟩
    exact (hissue.resolve_right fun hf => ho hf.1).same_units rfl

end lamp

theorem tallyFields_of_same {s t : State} (h : Part.tallies.same s t) (l : Nat) : (t.link l).tallyFields = (s.link l).tallyFields := by
  have hslot (u : State) : (u.link l).tallyFields = slot Link.vacant.tallyFields (u.links.map Link.tallyFields) l :=
    (slot_map Link.tallyFields Link.vacant u.links l).symm
  rw [hslot, hslot, h]

theorem tallyFields_eq {k k' : Link} (h : k'.tallyFields = k.tallyFields) : k'.wanted = k.wanted ∧ k'.delivered = k.delivered ∧
    k'.tallyOrder = k.tallyOrder ∧ k'.retryAt = k.retryAt := by
  simpa only [Link.tallyFields, Prod.mk.injEq] using h

/-- Settles O18: past the test the Talk Router has nothing to do, so that the event ends as the test left it. -/
theorem retryHoldsEnd : Obligations.RetryHoldsEnd := by
  constructor
  · intro s l hs hset hl hl' hu hu' hdue hretry k wants
    obtain ⟨-, hlinks, hunits, -⟩ := hs
    let s0 := s.without (.tallyRetry l)
    let s1 := s0.modLink l fun k => { k with retryAt := none }
    have hstep : tallyRetryStep l s0 = deliveryTest l s1 := if_pos hretry
    have hself : s1.link l = { k with retryAt := none } := link_modLink_self (s := s0) hl (hl'.trans_eq hlinks.symm) _
    have hwords : Rewords s0 (deliveryTest l s1) := (Rewords.modLink l _).trans (.deliveryTest l s1)
    obtain ⟨htk, halone⟩ := deliveryTest_alone l s1
    have hset0 : s0.talkSettled := talkSettled_of_same (s0 := s) (sameReasons_of_parts rfl fun _ => rfl) rfl hset
    have hset1 : (deliveryTest l s1).talkSettled := talkSettled_of_same (SameReasons.of_rewords hwords) (congrArg Tk.routes htk) hset0
    have hframe : KeepsBut (.owed :: tailParts) s (finish s0 (deliveryTest l s1)) :=
      (keeps_dueStep (((keeps_modLink_tally s0 l (fun k => { k with retryAt := none }) (fun _ => rfl) fun _ => rfl).mono (by decide)).trans
        (keeps_deliveryTest l s1))).mono (by decide)
    have hwants : (s1.link l).deliverable = true ↔ wants := by
      rw [deliverable_iff, hself]
      simp only [true_and]
      rfl
    have hwordsOf := deliveryTest_words l l s1
    refine ⟨_, congrArg Host.Outcome.next (takeOwed_of_due hdue), ?_⟩
    rw [show owedStep (.tallyRetry l) (s.without (.tallyRetry l)) = deliveryTest l s1 from hstep]
    rw [show s.without (.tallyRetry l) = s0 from rfl]
    rw [finish_of_still (Still.of_rewords hwords) hset1] at hframe ⊢
    have hfields (n : Nat) : ((after (deliveryTest l s1)).link n).tallyFields = ((deliveryTest l s1).link n).tallyFields :=
      tallyFields_of_same (keeps_after _ .tallies (by decide)) n
    have hunitsAfter : (after (deliveryTest l s1)).units = (deliveryTest l s1).units := keeps_after _ .units (by decide)
    generalize after (deliveryTest l s1) = t at *
    obtain ⟨hword, hdelivered, horder, hretries⟩ := tallyFields_eq (hfields l)
    refine ⟨fun hno => ?_, fun hw => ?_, hdelivered.trans (hwordsOf.2.trans (by rw [hself])),
      hword.trans (hwordsOf.1.trans (by rw [hself])), fun n hn => (hfields n).trans ?_, hframe⟩
    · have hrests := deliveryTest_rests (Bool.eq_false_iff.2 fun h => hno (hwants.1 h))
      rw [hrests] at horder hretries hunitsAfter
      exact ⟨hretries.trans (by rw [hself]), horder.trans (by rw [hself]), hunitsAfter⟩
    · have hsends := deliveryTest_sends (s := s1) hl (hl'.trans_eq (hlinks.symm.trans (modSlot_length ..).symm)) hunits
        (by rw [hself]; exact hu) (by rw [hself]; exact hu') (hwants.2 hw)
      rw [hself] at hsends
      refine hsends.imp (fun ⟨hr, ho, hord⟩ => ⟨hretries.trans hr, horder.trans ho, ?_⟩) fun ⟨hfull, ho, hr⟩ =>
        ⟨hfull, horder.trans ho, hretries.trans hr⟩
      exact (hord.same_units hunitsAfter).of_now rfl
    · rw [halone n hn]
      exact congrArg Link.tallyFields (slot_modSlot_other _ _ _ hn.symm)
  · intro s x hs hset hx hx' hdue hretry k wants
    obtain ⟨-, hlinks, hunits, -, -, -, -, -, -, -, -, hstations, -⟩ := hs
    let s0 := s.without (.lampRetry x)
    let s1 := s0.modStation x fun y => { y with lampRetry := none }
    have hstep : lampRetryStep x s0 = lampTest x s1 := if_pos hretry
    have hlen : x ≤ s.tk.stations.length := hx'.trans_eq hstations.symm
    have hself : s1.station x = { k with lampRetry := none } := slot_modSlot_self _ _ _ hx hlen
    have hquiet0 : Quiet s0 s1 := quiet_modStation s0 x _
    have hquiet : Quiet s0 (lampTest x s1) := hquiet0.trans (quiet_lampTest x s1)
    obtain ⟨hroutes, -⟩ := lampTest_tables x s1
    have hset0 : s0.talkSettled := talkSettled_of_same (s0 := s) (sameReasons_of_parts rfl fun _ => rfl) rfl hset
    have hset1 : (lampTest x s1).talkSettled := talkSettled_of_same (SameReasons.of_quiet hquiet) hroutes hset0
    have hframe : KeepsBut (.owed :: tailParts) s (finish s0 (lampTest x s1)) :=
      (keeps_dueStep (((keeps_modStation s0 x fun y => { y with lampRetry := none }).mono (by decide)).trans (keeps_lampTest x s1))).mono (by decide)
    have hcontents : s1.lampContents x = s.lampContents x := (Still.of_quiet hquiet0).lamps x
    have hwants : s1.lampDue x = true ↔ wants := by
      rw [lampDue_iff, hself, hcontents]
      simp only [true_and]
      rfl
    have hacked : ((lampTest x s1).station x).lampAcked = k.lampAcked := (congrArg Station.lampAcked (hquiet.station x) :)
    refine ⟨_, congrArg Host.Outcome.next (takeOwed_of_due hdue), ?_⟩
    rw [show owedStep (.lampRetry x) (s.without (.lampRetry x)) = lampTest x s1 from hstep]
    rw [show s.without (.lampRetry x) = s0 from rfl]
    rw [finish_of_still (Still.of_quiet hquiet) hset1] at hframe ⊢
    have htk : (after (lampTest x s1)).tk = (lampTest x s1).tk := keeps_after _ .tk (by decide)
    have hunitsAfter : (after (lampTest x s1)).units = (lampTest x s1).units := keeps_after _ .units (by decide)
    generalize after (lampTest x s1) = t at *
    have hst : t.station x = (lampTest x s1).station x := by rw [State.station, htk]; rfl
    rw [hst]
    refine ⟨fun hno => ?_, fun l hw hlink hu hu' => ?_, hacked, (congrArg Tk.routes htk).trans hroutes, hframe⟩
    · have hrests := lampTest_rests (Bool.eq_false_iff.2 fun h => hno (hwants.1 h))
      rw [hrests] at hunitsAfter ⊢
      exact ⟨by rw [hself], by rw [hself], hunitsAfter⟩
    · have hsends := lampTest_sends (s := s1) (l := l) hx (hlen.trans_eq (modSlot_length ..).symm) hunits (by rw [hself]; exact hlink) hu hu'
        (hwants.2 hw)
      rw [hcontents] at hsends
      exact hsends.imp (fun ⟨hr, ho, hord⟩ => ⟨hr, ho, (hord.same_units hunitsAfter).of_now rfl⟩) id

end Sys2Proof.Machine

/-! Freed places: which waiting orders are granted them, in what order and under what numbers (R126, R128); and orders that have gone. -/

namespace Sys2Proof.Machine

-- One theorem at a time: all at once, their threads together outgrow the memory limit of the check.
set_option Elab.async false

/-! ## The order in which a unit's waiting orders are granted places (R128) -/

/-- The waiting orders in the order of their grants: the oldest that is no TALLY first. -/
def UnitRec.queue (u : UnitRec) : List Order := u.waiting.filter (fun o => !o.isTally) ++ u.waiting.filter Order.isTally

theorem nextWaiting_eq (u : UnitRec) : u.nextWaiting = u.queue.head? := by
  rw [UnitRec.nextWaiting, UnitRec.queue, List.head?_append, ← List.head?_filter]
  cases hnone : u.waiting.filter fun o => !o.isTally with
  | cons o os => rfl
  | nil =>
    have hall : u.waiting.filter Order.isTally = u.waiting := List.filter_eq_self.2 fun o ho => by
      by_contra hno
      have hmem : o ∈ u.waiting.filter fun o => !o.isTally := List.mem_filter.2 ⟨ho, by simpa using hno⟩
      rw [hnone] at hmem
      exact List.not_mem_nil hmem
    rw [hall]

theorem mem_queue {u : UnitRec} {o : Order} : o ∈ u.queue ↔ o ∈ u.waiting := by
  rw [UnitRec.queue, List.mem_append, List.mem_filter, List.mem_filter, ← and_or_left]
  exact and_iff_left (by cases o.isTally <;> simp)

theorem queue_perm (u : UnitRec) : u.queue.Perm u.waiting :=
  List.perm_append_comm.trans (List.filter_append_perm Order.isTally u.waiting)

/-- One freed place, within the unit's record. -/
def UnitRec.grantNext (u : UnitRec) : UnitRec :=
  match u.nextWaiting with
  | none => u
  | some o => ({ u with waiting := u.waiting.eraseP fun w => decide (w.id = o.id) } : UnitRec).send o

/-- The places freed, each in turn. -/
def UnitRec.grants : Nat → UnitRec → UnitRec
  | 0, u => u
  | n + 1, u => grants n u.grantNext

/-- An order as it goes out under a number. -/
def Order.under (o : Order) (n : Byte) : Order := { o with number := some n }

theorem eraseP_id {ws : List Order} {o : Order} (hnodup : (ws.map Order.id).Nodup) (ho : o ∈ ws) :
    ws.eraseP (fun w => decide (w.id = o.id)) = ws.filter fun w => decide (w ≠ o) := by
  induction ws with
  | nil => rfl
  | cons w ws ih =>
    rw [List.map_cons, List.nodup_cons] at hnodup
    obtain ⟨hw, hws⟩ := hnodup
    by_cases hwo : w = o
    · subst hwo
      have hrest : ws.filter (fun x => decide (x ≠ w)) = ws := List.filter_eq_self.2 fun x hx =>
        decide_eq_true fun he => hw (he ▸ List.mem_map_of_mem hx)
      rw [List.eraseP_cons_of_pos (by simp), List.filter_cons_of_neg (by simp), hrest]
    · have hmem : o ∈ ws := (List.mem_cons.1 ho).resolve_left (Ne.symm hwo)
      have hid : w.id ≠ o.id := fun he => hw (he ▸ List.mem_map_of_mem hmem)
      rw [List.eraseP_cons_of_neg (by simpa using hid), List.filter_cons_of_pos (by simpa using hwo), ih hws hmem]

/-- The queue that is left once its first order has gone. -/
theorem queue_tail {u : UnitRec} {o : Order} {rest : List Order} (hnodup : u.waiting.Nodup) (h : u.queue = o :: rest) (v : UnitRec)
    (hv : v.waiting = u.waiting.filter fun w => decide (w ≠ o)) : v.queue = rest := by
  have hcomm (p : Order → Bool) : (u.waiting.filter fun w => decide (w ≠ o)).filter p = (u.waiting.filter p).filter fun w => decide (w ≠ o) := by
    rw [List.filter_filter, List.filter_filter]
    exact congrArg (List.filter · _) (funext fun w => Bool.and_comm _ _)
  have hfilter : v.queue = u.queue.filter fun w => decide (w ≠ o) := by
    rw [UnitRec.queue, UnitRec.queue, hv, List.filter_append, hcomm, hcomm]
  have hq : (o :: rest).Nodup := h ▸ (queue_perm u).nodup_iff.2 hnodup
  obtain ⟨hno, -⟩ := List.nodup_cons.1 hq
  rw [hfilter, h, List.filter_cons_of_neg (by simp)]
  exact List.filter_eq_self.2 fun w hw => decide_eq_true fun he => hno (he ▸ hw)

/-- The orders that are granted places go out in turn, the first under the unit's next number; the others wait. -/
theorem grants_eq (n : Nat) {u : UnitRec} (hnodup : (u.waiting.map Order.id).Nodup) :
    (u.grants n).waiting = u.waiting.filter (fun w => decide (w ∉ u.queue.take n)) ∧
    ∃ ns : List Byte, ns.length = (u.queue.take n).length ∧ ns.head? = (u.queue.take n).head?.map (fun _ => u.nextNumber) ∧
      (u.grants n).outstanding = u.outstanding ++ List.zipWith Order.under (u.queue.take n) ns := by
  induction n generalizing u with
  | zero =>
    refine ⟨(List.filter_eq_self.2 fun w _ => by simp).symm, [], rfl, rfl, ?_⟩
    simp [UnitRec.grants]
  | succ n ih =>
    rw [UnitRec.grants]
    cases hq : u.queue with
    | nil =>
      have hnext : u.grantNext = u := by rw [UnitRec.grantNext, nextWaiting_eq, hq]; rfl
      obtain ⟨hw, ns, hlen, hhead, hout⟩ := ih (u := u) hnodup
      rw [hq, List.take_nil] at hw hlen hhead hout
      rw [hnext, List.take_nil]
      exact ⟨hw, ns, hlen, hhead, hout⟩
    | cons o rest =>
      have hmem : o ∈ u.waiting := mem_queue.1 (hq ▸ List.mem_cons_self)
      have herase := eraseP_id hnodup hmem
      have hnext : u.grantNext = ({ u with waiting := u.waiting.filter fun w => decide (w ≠ o) } : UnitRec).send o := by
        rw [UnitRec.grantNext, nextWaiting_eq, hq, List.head?_cons]
        dsimp only
        rw [herase]
      let v := ({ u with waiting := u.waiting.filter fun w => decide (w ≠ o) } : UnitRec).send o
      have hqueue : v.queue = rest := queue_tail hnodup.of_map hq v rfl
      have hnodup' : (v.waiting.map Order.id).Nodup := hnodup.sublist (List.filter_sublist.map _)
      obtain ⟨hw, ns, hlen, -, hout⟩ := ih (u := v) hnodup'
      rw [hqueue] at hw hlen hout
      rw [hnext, List.take_succ_cons]
      refine ⟨hw.trans ?_, u.nextNumber :: ns, by rw [List.length_cons, List.length_cons, hlen], rfl, hout.trans ?_⟩
      · show (u.waiting.filter fun w => decide (w ≠ o)).filter _ = _
        rw [List.filter_filter]
        refine congrArg (List.filter · _) (funext fun w => ?_)
        rw [← Bool.decide_and]
        exact decide_eq_decide.2 (by rw [List.mem_cons, not_or, and_comm])
      · show (u.outstanding ++ [o.under u.nextNumber]) ++ _ = _
        rw [List.append_assoc]
        rfl

section state
variable {s : State} {a : Nat}

theorem grantOne_unit (hp : 1 ≤ unitPlace a ∧ unitPlace a ≤ s.units.length) (haddr : ∀ o ∈ (s.unit a).waiting, o.address = a) :
    (grantOne a s).unit a = (s.unit a).grantNext ∧ ∀ b, unitPlace b ≠ unitPlace a → (grantOne a s).unit b = s.unit b := by
  unfold grantOne UnitRec.grantNext
  cases hn : (s.unit a).nextWaiting with
  | none => exact ⟨rfl, fun _ _ => rfl⟩
  | some o =>
    have ho : o.address = a := haddr o (nextWaiting_mem hn)
    let t := s.modUnit a fun u => { u with waiting := u.waiting.eraseP fun w => decide (w.id = o.id) }
    have ht : t.unit a = { s.unit a with waiting := (s.unit a).waiting.eraseP fun w => decide (w.id = o.id) } := unit_modUnit_self hp.1 hp.2 _
    have hp' : unitPlace a ≤ t.units.length := hp.2.trans_eq (modSlot_length ..).symm
    refine ⟨?_, fun b hb => ?_⟩
    · show (t.modUnit o.address (UnitRec.send o)).unit a = _
      rw [ho, unit_modUnit_self hp.1 hp', ht]
    · show (t.modUnit o.address (UnitRec.send o)).unit b = _
      rw [ho, unit_modUnit_other hb.symm]
      exact unit_modUnit_other hb.symm _

theorem length_grantOne (a : Nat) (s : State) : (grantOne a s).units.length = s.units.length := by
  unfold grantOne
  split
  · rfl
  · exact (modSlot_length ..).trans (modSlot_length ..)

theorem grantNext_waiting (u : UnitRec) : u.grantNext.waiting.Sublist u.waiting := by
  unfold UnitRec.grantNext
  split
  · exact .refl _
  · exact List.eraseP_sublist

/-- The places of a unit that are freed concern its record alone. -/
theorem grant_unit (n : Nat) (hp : 1 ≤ unitPlace a ∧ unitPlace a ≤ s.units.length) (haddr : ∀ o ∈ (s.unit a).waiting, o.address = a) :
    (grant a n s).unit a = (s.unit a).grants n ∧ ∀ b, unitPlace b ≠ unitPlace a → (grant a n s).unit b = s.unit b := by
  induction n generalizing s with
  | zero => exact ⟨rfl, fun _ _ => rfl⟩
  | succ n ih =>
    obtain ⟨hself, hother⟩ := grantOne_unit hp haddr
    have hlen := length_grantOne a s
    obtain ⟨hself', hother'⟩ := ih (s := grantOne a s) (by rw [hlen]; exact hp) fun o ho => by
      rw [hself] at ho
      exact haddr o ((grantNext_waiting _).subset ho)
    exact ⟨hself'.trans (by rw [hself]; rfl), fun b hb => (hother' b hb).trans (hother b hb)⟩

end state

/-! ## Orders that have gone -/

/-- An id that has been taken, and that no order has any more. -/
def Gone (id : Nat) (s : State) : Prop := id < s.nextOrderId ∧ ∀ u ∈ s.units, ∀ o ∈ u.orders, o.id ≠ id

section gone
variable {s t : State} {id : Nat}

theorem Gone.not_mem (h : Gone id s) {a : Nat} {o : Order} (ho : o ∈ (s.unit a).orders) : o.id ≠ id :=
  h.2 _ (unit_mem (unitPlace_of_mem ho)) o ho

theorem Gone.modUnit (h : Gone id s) (a : Nat) {f : UnitRec → UnitRec} (hf : ∀ u, (∀ o ∈ u.orders, o.id ≠ id) → ∀ o ∈ (f u).orders, o.id ≠ id) :
    Gone id (s.modUnit a f) := by
  refine ⟨h.1, fun u hu => ?_⟩
  obtain hu | ⟨v, hv, rfl⟩ := mem_modSlot hu
  · exact h.2 u hu
  · exact hf v (h.2 v hv)

theorem Gone.send (h : Gone id s) {o : Order} (ho : o.id ≠ id) : Gone id (send o s) :=
  h.modUnit o.address fun u hu x hx => by
    simp only [UnitRec.orders, UnitRec.send, List.mem_append, List.mem_singleton] at hx
    obtain (hx | rfl) | hx := hx
    · exact hu x (List.mem_append_left _ hx)
    · exact ho
    · exact hu x (List.mem_append_right _ hx)

theorem Gone.drops (h : Gone id s) (a : Nat) {f : UnitRec → UnitRec} (hd : ∀ u : UnitRec, u.Drops (f u)) : Gone id (s.modUnit a f) :=
  h.modUnit a fun u hu x hx => hu x ((hd u).orders.subset hx)

theorem Gone.grant (h : Gone id s) (a n : Nat) : Gone id (grant a n s) := by
  induction n generalizing s with
  | zero => exact h
  | succ n ih =>
    refine ih ?_
    unfold grantOne
    split
    · exact h
    · rename_i o ho
      have hid : o.id ≠ id := h.not_mem (List.mem_append_right _ (nextWaiting_mem ho))
      exact Gone.send (h.drops a (f := fun u => { u with waiting := u.waiting.eraseP fun w => decide (w.id = o.id) })
        fun u => ⟨rfl, .refl _, List.eraseP_sublist⟩) hid

theorem Gone.same (h : Gone id s) (hu : t.units = s.units) (hn : t.nextOrderId = s.nextOrderId) : Gone id t :=
  ⟨hn ▸ h.1, hu ▸ h.2⟩

theorem Gone.issue (h : Gone id s) (a : Nat) (body : OrderBody) (i : Issuer) : Gone id (issue a body i s).state := by
  have htook : Gone id s.tookId := ⟨Nat.lt_succ_of_lt h.1, h.2⟩
  have hnew : (s.newOrder a body i).id ≠ id := Nat.ne_of_gt h.1
  obtain ⟨-, -, hr⟩ | ⟨-, -, -, hr⟩ | ⟨-, -, -, hr⟩ | ⟨-, -, -, v, -, hr⟩ := issue_cases a body i s <;> rw [hr]
  · exact htook.send hnew
  · refine htook.modUnit a fun u hu x hx => ?_
    simp only [UnitRec.orders, List.mem_append, List.mem_singleton] at hx
    obtain hx | hx | rfl := hx
    · exact hu x (List.mem_append_left _ hx)
    · exact hu x (List.mem_append_right _ hx)
    · exact hnew
  · exact htook
  · refine Gone.send ?_ hnew
    have hdrop := htook.drops a (f := fun u => { u with outstanding := u.outstanding.eraseP Order.displaceable })
      fun u => ⟨rfl, List.eraseP_sublist, .refl _⟩
    have hkeeps : (displaced v (s.tookId.modUnit a fun u => { u with outstanding := u.outstanding.eraseP Order.displaceable })).nextOrderId =
        (s.tookId.modUnit a fun u => { u with outstanding := u.outstanding.eraseP Order.displaceable }).nextOrderId := by
      obtain hd | ⟨l, e, -, hd⟩ | ⟨t, -, hd⟩ := displaced_cases v
        (s.tookId.modUnit a fun u => { u with outstanding := u.outstanding.eraseP Order.displaceable }) <;> rw [hd] <;> rfl
    exact hdrop.same (displaced_units v _) hkeeps

theorem gone_change {wide : Reach} (hc : Change wide s t) (h : Gone id s) : Gone id t := by
  cases hc with
  | issue a body i => exact h.issue a body i
  | free a n f hd _ => exact (h.drops a hd).grant a n
  | drop a f hd => exact h.drops a hd
  | _ => exact h

/-- An order that has gone does not come back. -/
theorem Gone.moves {wide : Reach} (h : Gone id s) (hm : Moves wide s t) : Gone id t := by
  induction hm with
  | refl => exact h
  | tail _ hm ih =>
    cases hm with
    | change hc => exact gone_change hc ih
    | mp | dequeue => exact ih
    | warm =>
      refine ⟨ih.1, fun u hu o ho => ?_⟩
      obtain ⟨_, _, rfl⟩ := List.mem_map.1 hu
      exact absurd ho List.not_mem_nil

end gone

end Sys2Proof.Machine

/-! One acknowledged order (R129 to R131): it leaves its unit, the place it frees is granted, and its issuer is told. -/

namespace Sys2Proof.Machine

-- One theorem at a time: all at once, their threads together outgrow the memory limit of the check.
set_option Elab.async false

/-! ## An order under another number -/

theorem displaceable_under (o : Order) (n : Byte) : (o.under n).displaceable = o.displaceable := rfl

/-- Among orders of different numbers the one that carries a number is found. -/
theorem find_carries {os : List Order} {o : Order} {n : Byte} (hnodup : (os.map Order.number).Nodup) (ho : o ∈ os) (hn : o.number = some n) :
    os.find? (Order.carries n) = some o := by
  have hcarries : Order.carries n o = true := decide_eq_true hn
  cases hf : os.find? (Order.carries n) with
  | none => exact absurd hcarries (List.find?_eq_none.1 hf o ho)
  | some x =>
    have hx : x.number = some n := of_decide_eq_true (show Order.carries n x = true from List.find?_some hf)
    rw [List.inj_on_of_nodup_map hnodup (List.mem_of_find?_eq_some hf) ho (hx.trans hn.symm)]

/-! ## What leaves the list of a unit -/

section acked
variable {s : State} {a : Nat} {o : Order} {n : Byte}

/-- A unit's record once the order that carries a number has left. -/
def UnitRec.acked (n : Byte) (u : UnitRec) : UnitRec := { u with outstanding := u.outstanding.eraseP (Order.carries n) }

theorem drops_acked (n : Byte) (u : UnitRec) : u.Drops (u.acked n) := ⟨rfl, List.eraseP_sublist, .refl _⟩

/-- The state once the place has been granted, in which the issuer is told. -/
def State.freed (s : State) (a : Nat) (n : Byte) : State := grant a 1 (s.modUnit a (UnitRec.acked n))

theorem acknowledge_eq (h : (s.unit a).outstanding.find? (Order.carries n) = some o) :
    acknowledge a s n = orderAcked o (s.freed a n) := by
  rw [acknowledge, h]
  rfl

theorem acknowledge_unknown (h : (s.unit a).outstanding.find? (Order.carries n) = none) : acknowledge a s n = s := by
  rw [acknowledge, h]

theorem keeps_freed (s : State) (a : Nat) (n : Byte) : KeepsBut [.units, .bus] s (s.freed a n) :=
  ((keeps_modUnit s a _).mono (by decide)).trans (keeps_grant a 1 _)

/-- What leaves the list with the order that carries a number is that order alone. -/
theorem acked_split {u : UnitRec} (hnodup : (u.outstanding.map Order.number).Nodup) (ho : o ∈ u.outstanding) (hn : o.number = some n) :
    ∃ l r, u.outstanding = l ++ o :: r ∧ (u.acked n).outstanding = l ++ r := by
  have hcarries : Order.carries n o = true := decide_eq_true hn
  obtain ⟨x, l, r, -, hx, hsplit, herase⟩ := List.exists_of_eraseP (p := Order.carries n) ho hcarries
  have hmem : x ∈ u.outstanding := by rw [hsplit]; simp
  obtain rfl := List.inj_on_of_nodup_map hnodup hmem ho ((of_decide_eq_true hx : x.number = some n).trans hn.symm)
  exact ⟨l, r, hsplit, herase⟩

variable (hsound : s.unitsSound) (ho : o ∈ (s.unit a).outstanding) (hn : o.number = some n)
include hsound ho hn

omit hn in
theorem acked_numbers : ((s.unit a).outstanding.map Order.number).Nodup :=
  (hsound.1 _ (unit_mem (unitPlace_of_mem (List.mem_append_left _ ho)))).2.2.1

/-- The order has gone. -/
theorem gone_acked : Gone o.id (s.modUnit a (UnitRec.acked n)) := by
  obtain ⟨l, r, hsplit, herase⟩ := acked_split (acked_numbers hsound ho) ho hn
  have hp := unitPlace_of_mem (List.mem_append_left (s.unit a).waiting ho)
  have hperm : (((s.unit a).acked n).ids ++ [o.id]).Perm ((s.unit a).ids ++ []) := by
    rw [UnitRec.ids, UnitRec.ids, UnitRec.orders, UnitRec.orders, herase, hsplit, List.append_nil]
    simp only [List.map_append, List.map_cons]
    rw [List.perm_iff_count]
    intro i
    simp only [UnitRec.acked, List.count_append, List.count_cons, List.count_nil]
    omega
  have hholds : (s.modUnit a (UnitRec.acked n)).holdsWith [o.id] := by
    refine holdsWith_modUnit ((unitsSound_iff s).1 hsound) (drops_acked n _).sound (fun x hx => .inr ⟨x, ?_, rfl⟩) hperm.subperm
      fun hno => absurd hp hno
    exact (drops_acked n _).orders.subset hx
  obtain ⟨-, -, hnodup, hlt, -⟩ := hholds
  refine ⟨hlt _ (by simp), fun u hu x hx he => ?_⟩
  have hmem : o.id ∈ (s.modUnit a (UnitRec.acked n)).orderIds :=
    List.mem_flatMap.2 ⟨u, hu, List.mem_map.2 ⟨x, hx, he⟩⟩
  exact (List.nodup_append.1 hnodup).2.2 _ hmem _ (List.mem_singleton_self _) rfl

omit hn in
/-- The unit's record once the place has been granted. -/
theorem freed_unit : ∃ ns : List Byte, ns.length = ((s.unit a).queue.take 1).length ∧
    ns.head? = ((s.unit a).queue.take 1).head?.map (fun _ => (s.unit a).nextNumber) ∧
    ((s.freed a n).unit a).waiting = (s.unit a).waiting.filter (fun w => decide (w ∉ (s.unit a).queue.take 1)) ∧
    ((s.freed a n).unit a).outstanding =
      ((s.unit a).acked n).outstanding ++ List.zipWith Order.under ((s.unit a).queue.take 1) ns := by
  have hp := unitPlace_of_mem (List.mem_append_left (s.unit a).waiting ho)
  have hself : (s.modUnit a (UnitRec.acked n)).unit a = (s.unit a).acked n := unit_modUnit_self hp.1 hp.2 _
  have haddr : ∀ x ∈ ((s.modUnit a (UnitRec.acked n)).unit a).waiting, x.address = a := fun x hx => by
    rw [hself] at hx
    exact hsound.2.1 a (unit_address hp.1) x (List.mem_append_right _ hx)
  have hids : (((s.unit a).acked n).waiting.map Order.id).Nodup := by
    obtain ⟨-, -, hnodup, -⟩ := (unitsSound_iff s).1 hsound
    rw [List.append_nil, State.orderIds] at hnodup
    have hunit := (List.nodup_flatMap.1 hnodup).1 _ (unit_mem hp)
    exact hunit.sublist ((List.sublist_append_right (s.unit a).outstanding (s.unit a).waiting).map _)
  have hgrant := (grant_unit (s := s.modUnit a (UnitRec.acked n)) (a := a) 1
    ⟨hp.1, hp.2.trans_eq (modSlot_length ..).symm⟩ haddr).1
  obtain ⟨hw, ns, hlen, hhead, hout⟩ := grants_eq 1 hids
  rw [State.freed, hgrant, hself]
  exact ⟨ns, hlen, hhead, hw, hout⟩

/-- Every other order of the unit is held on. -/
theorem freed_keeps {x : Order} (hx : x ∈ (s.unit a).orders) (hne : x.id ≠ o.id) :
    x ∈ ((s.freed a n).unit a).outstanding ∨ x ∈ ((s.freed a n).unit a).waiting ∨ ∃ m, x.under m ∈ ((s.freed a n).unit a).outstanding := by
  obtain ⟨ns, hlen, -, hw, hout⟩ := freed_unit (n := n) hsound ho
  obtain ⟨l, r, hsplit, herase⟩ := acked_split (acked_numbers hsound ho) ho hn
  rw [hw, hout]
  rcases List.mem_append.1 hx with hx | hx
  · refine .inl (List.mem_append_left _ ?_)
    rw [herase]
    rw [hsplit] at hx
    rcases List.mem_append.1 hx with h | h
    · exact List.mem_append_left _ h
    · exact List.mem_append_right _ ((List.mem_cons.1 h).resolve_left fun he => hne (congrArg Order.id he))
  · by_cases hq : x ∈ (s.unit a).queue.take 1
    · obtain ⟨i, hi, rfl⟩ := List.mem_iff_getElem.1 hq
      have hi' : i < ns.length := hlen.symm ▸ hi
      refine .inr (.inr ⟨ns[i], List.mem_append_right _ (List.mem_iff_getElem.2 ⟨i, by rw [List.length_zipWith]; exact lt_min hi hi', ?_⟩)⟩)
      exact List.getElem_zipWith
    · exact .inr (.inl (List.mem_filter.2 ⟨hx, decide_eq_true hq⟩))

omit hn in
/-- The place goes to the oldest waiting order that is no TALLY. -/
theorem freed_grants {w : Order} (hw : (s.unit a).waiting.find? (fun x => !x.isTally) = some w) :
    w.under (s.unit a).nextNumber ∈ ((s.freed a n).unit a).outstanding := by
  obtain ⟨ns, hlen, hhead, -, hout⟩ := freed_unit (n := n) hsound ho
  have hqueue : (s.unit a).queue.take 1 = [w] := by
    have h : (s.unit a).queue.head? = some w := by
      rw [← nextWaiting_eq, UnitRec.nextWaiting, hw]
      rfl
    rw [List.take_one, h]
    rfl
  rw [hqueue] at hlen hhead hout
  obtain ⟨m, rfl⟩ := List.length_eq_one_iff.1 hlen
  obtain rfl : m = (s.unit a).nextNumber := Option.some.inj hhead
  rw [hout]
  exact List.mem_append_right _ (List.mem_singleton_self _)

end acked

/-! ## What the issuer does (R131) -/

section told
variable {s : State}

/-- The orders that deliver something: TALLY and TALK_LAMP. -/
def Issuer.ofDelivery : Issuer → Prop
  | .tr _ | .tkLamp _ => True
  | _ => False

theorem issues_orderAcked (o : Order) (s : State) : Issues Issuer.ofDelivery s (orderAcked o s) := by
  have htest (l : Nat) (s : State) : Issues Issuer.ofDelivery s (deliveryTest l s) := (issues_deliveryTest l s).mono fun i hi => by cases i <;> trivial
  have hlamp (t : Nat) (s : State) : Issues Issuer.ofDelivery s (lampTest t s) := by
    have hlamp : Issues Issuer.ofDelivery s (orderLamp t (s, [])).1 := by
      unfold orderLamp
      dsimp only
      split
      · unfold tkIssue
        exact (Issues.issue s _ _ (.tkLamp t) trivial).trans (.units rfl)
      · exact .refl s
    exact hlamp.trans (.foldl _ (fun _ _ => .units (tkFailed_units _ _ _)) _ _)
  have htally (l id : Nat) : Issues Issuer.ofDelivery s (tallyAcked l id s) := by
    unfold tallyAcked
    split
    · rename_i x _
      have hmod : Issues Issuer.ofDelivery s (s.modLink l fun k => { k with delivered := some x.word, tallyOrder := none }) := .units rfl
      exact .ite (hmod.trans (htest _ _)) (.refl s)
    · exact .refl s
  have htalk (i : Issuer) (id : Nat) : Issues Issuer.ofDelivery s (tkAcked i id s) := by
    unfold tkAcked
    split
    · exact issues_modTk s _
    · exact issues_modTk s _
    · rename_i t
      split
      · rename_i m c _
        have hmod : Issues Issuer.ofDelivery s (s.modStation t fun k => { k with lampAcked := some c, lampOrder := none }) := issues_modTk s _
        exact .ite (hmod.trans (hlamp _ _)) (.refl s)
      · exact .refl s
    · exact .refl s
  unfold orderAcked
  cases hi : o.issuer with
  | tr l => exact htally l o.id
  | tkMake a d => exact htalk (.tkMake a d) o.id
  | tkBreak a d => exact htalk (.tkBreak a d) o.id
  | tkDim t => exact htalk (.tkDim t) o.id
  | tkLamp t => exact htalk (.tkLamp t) o.id
  | _ => exact .refl s

/-- The order that a delivery test sends is new. -/
theorem deliveryTest_order {l : Nat} (hl : 1 ≤ l) (hl' : l ≤ s.links.length) (h : (s.link l).tallyOrder = none) :
    ((deliveryTest l s).link l).tallyOrder = none ∨ ∃ y, ((deliveryTest l s).link l).tallyOrder = some y ∧ y.id = s.nextOrderId := by
  have hid := issue_id (s.link l).cfg.unit (.tally (s.link l).cfg.channel (s.link l).wanted) (.tr l) s
  obtain ⟨hlinks, -⟩ := issue_tally_links (s.link l).cfg.unit (s.link l).cfg.channel (s.link l).wanted (.tr l) s
  unfold deliveryTest
  dsimp only
  split
  case isFalse => exact .inl h
  generalize issue (s.link l).cfg.unit (.tally (s.link l).cfg.channel (s.link l).wanted) (.tr l) s = r at hid hlinks ⊢
  let u := r.state.modLink l fun k' => { k' with tallyOrder := some { id := r.id, word := (s.link l).wanted, issueFrame := s.now } }
  have hlen : l ≤ r.state.links.length := by rw [hlinks]; exact hl'
  have hself : (u.link l).tallyOrder = some { id := r.id, word := (s.link l).wanted, issueFrame := s.now } :=
    congrArg Link.tallyOrder (link_modLink_self hl hlen _)
  split
  · left
    have hfail : tallyFailed l r.id u = u.modLink l fun k => { k with tallyOrder := none, retryAt := some (framePlus s.now 4) } := by
      rw [tallyFailed, hself]
      exact if_pos rfl
    show ((tallyFailed l r.id u).link l).tallyOrder = none
    rw [hfail, link_modLink_self hl (hlen.trans_eq (modSlot_length ..).symm)]
  · exact .inr ⟨_, hself, hid⟩

/-- The delivered word is the word of the order, and the order that the test may send is another (R146). -/
theorem tallyAcked_delivers {l : Nat} {x : TallyOrder} (hl : 1 ≤ l) (hl' : l ≤ s.links.length) (hx : (s.link l).tallyOrder = some x) :
    ((tallyAcked l x.id s).link l).delivered = some x.word ∧
      (((tallyAcked l x.id s).link l).tallyOrder = none ∨ ∃ y, ((tallyAcked l x.id s).link l).tallyOrder = some y ∧ y.id = s.nextOrderId) := by
  let u := s.modLink l fun k => { k with delivered := some x.word, tallyOrder := none }
  have hstep : tallyAcked l x.id s = deliveryTest l u := by
    rw [tallyAcked, hx]
    exact if_pos rfl
  have hself : u.link l = { s.link l with delivered := some x.word, tallyOrder := none } := link_modLink_self hl hl' _
  rw [hstep]
  exact ⟨(deliveryTest_words l l u).2.trans (congrArg Link.delivered hself),
    deliveryTest_order hl (hl'.trans_eq (modSlot_length ..).symm) (congrArg Link.tallyOrder hself)⟩

/-- The contents of the order are then acknowledged (R180). -/
theorem lampAcked_takes {y id : Nat} {lit : LampContents} (hy : 1 ≤ y) (hy' : y ≤ s.tk.stations.length)
    (hlamp : (s.station y).lampOrder = some (id, lit)) : ((tkAcked (.tkLamp y) id s).station y).lampAcked = some lit := by
  let u := s.modStation y fun k => { k with lampAcked := some lit, lampOrder := none }
  have hstep : tkAcked (.tkLamp y) id s = lampTest y u := by
    simp only [tkAcked, hlamp]
    exact if_pos trivial
  have hself : u.station y = { s.station y with lampAcked := some lit, lampOrder := none } := slot_modSlot_self _ _ _ hy hy'
  rw [hstep]
  exact ((congrArg Station.lampAcked ((quiet_lampTest y u).station y) :) : ((lampTest y u).station y).lampAcked = _).trans
    (congrArg Station.lampAcked hself)

end told

/-! ## The reports of deliveries give the Talk Router nothing to do -/

/-- Where its own records stand and no link moves, the Talk Router has nothing to do. -/
theorem still_of_tables {s v : State} (htk : v.tk = s.tk) (hstate : ∀ n, (v.link n).state = (s.link n).state) :
    Still s v ∧ SameReasons s v := by
  have hstation (t : Nat) : v.station t = s.station t := by rw [State.station, htk]; rfl
  exact ⟨still_of_records (by rw [htk]) (fun t => by rw [hstation]) fun l => by rw [hstate], sameReasons_of_parts htk hstate⟩

/-- An acknowledged TALLY moves no route, no key and no link. -/
theorem tallyAcked_tables (l id : Nat) (s : State) :
    (tallyAcked l id s).tk = s.tk ∧ ∀ n, ((tallyAcked l id s).link n).state = (s.link n).state := by
  unfold tallyAcked
  split
  case h_2 => exact ⟨rfl, fun _ => rfl⟩
  rename_i x _
  split
  case isFalse => exact ⟨rfl, fun _ => rfl⟩
  let u := s.modLink l fun k => { k with delivered := some x.word, tallyOrder := none }
  have hwords : Rewords u (deliveryTest l u) := .deliveryTest l u
  have htk : (deliveryTest l u).tk = s.tk := (deliveryTest_alone l u).1
  have hstate (n : Nat) : ((deliveryTest l u).link n).state = (s.link n).state :=
    (congrArg Link.state (hwords.link n) :).trans (slot_modSlot_field Link.state _ _ _ l n fun _ => rfl)
  exact ⟨htk, hstate⟩

end Sys2Proof.Machine

/-! A REPORT (O53): its acknowledgements, its key events, and the steps its links and keys are owed. -/

namespace Sys2Proof.Machine

-- One theorem at a time: all at once, their threads together outgrow the memory limit of the check.
set_option Elab.async false

/-! ## The lamp order of one station past other events (R179, R180) -/

/-- The station has no lamp order and is not to be sent one again. -/
def LampIdle (y : Nat) (s : State) : Prop := (s.station y).lampOrder = none ∧ (s.station y).lampRetry = none

/-- The station has been told its contents, is being told them, or is to be told at the next boundary. -/
def LampTold (y : Nat) (c : LampContents) (e : FrameNo) (s : State) : Prop :=
  (s.station y).lampAcked = some c ∨ (∃ id, (s.station y).lampOrder = some (id, c)) ∨
    ((s.station y).lampOrder = none ∧ (s.station y).lampRetry = some e)

/-- What a station's lamp shows stands, but for an order that fails. -/
structure LampHeld (y : Nat) (s t : State) : Prop where
  now : t.now = s.now
  kind : (t.station y).kind = (s.station y).kind
  link : (t.station y).link = (s.station y).link
  acked : (t.station y).lampAcked = (s.station y).lampAcked
  order : ((t.station y).lampOrder = (s.station y).lampOrder ∧ (t.station y).lampRetry = (s.station y).lampRetry) ∨
    ((s.station y).lampOrder ≠ none ∧ (t.station y).lampOrder = none ∧ (t.station y).lampRetry = some (framePlus s.now 1))

/-- A number outside the table names no station. -/
theorem station_beyond {s : State} {y : Nat} (h : ¬ (1 ≤ y ∧ y ≤ s.tk.stations.length)) : s.station y = Station.undefined := by
  cases y with
  | zero => rfl
  | succ n => exact List.getD_eq_default _ _ (by omega)

namespace LampHeld
variable {s t u : State} {y : Nat}

theorem refl (y : Nat) (s : State) : LampHeld y s s := ⟨rfl, rfl, rfl, rfl, .inl ⟨rfl, rfl⟩⟩

theorem same (hn : t.now = s.now) (h : t.station y = s.station y) : LampHeld y s t := 
  ⟨hn, by rw [h], by rw [h], by rw [h], .inl (by rw [h]; exact ⟨rfl, rfl⟩)⟩

theorem trans (h : LampHeld y s t) (k : LampHeld y t u) : LampHeld y s u := by
  refine ⟨k.now.trans h.now, k.kind.trans h.kind, k.link.trans h.link, k.acked.trans h.acked, ?_⟩
  rcases h.order with ⟨ho, hr⟩ | ⟨hne, ho, hr⟩
  · rcases k.order with ⟨ho', hr'⟩ | ⟨hne', ho', hr'⟩
    · exact .inl ⟨ho'.trans ho, hr'.trans hr⟩
    · exact .inr ⟨ho ▸ hne', ho', h.now ▸ hr'⟩
  · rcases k.order with ⟨ho', hr'⟩ | ⟨hne', -, -⟩
    · exact .inr ⟨hne, ho'.trans ho, hr'.trans hr⟩
    · exact absurd ho hne'

theorem idle (h : LampHeld y s t) (hi : LampIdle y s) : LampIdle y t := by
  rcases h.order with ⟨ho, hr⟩ | ⟨hne, -⟩
  · exact ⟨ho.trans hi.1, hr.trans hi.2⟩
  · exact absurd hi.1 hne

theorem told (h : LampHeld y s t) {c : LampContents} {e : FrameNo} (he : e = framePlus s.now 1) (ht : LampTold y c e s) : LampTold y c e t := by
  rcases ht with ha | ⟨id, ho⟩ | ⟨ho, hr⟩
  · exact .inl (h.acked.trans ha)
  · rcases h.order with ⟨ho', -⟩ | ⟨-, ho', hr'⟩
    · exact .inr (.inl ⟨id, ho'.trans ho⟩)
    · exact .inr (.inr ⟨ho', he ▸ hr'⟩)
  · rcases h.order with ⟨ho', hr'⟩ | ⟨hne, -⟩
    · exact .inr (.inr ⟨ho'.trans ho, hr'.trans hr⟩)
    · exact absurd ho hne

theorem lampFailed (t id : Nat) (s : State) : LampHeld y s (lampFailed t id s) := by
  unfold Machine.lampFailed
  split
  next n lit hlit =>
    split
    · by_cases hty : t = y
      · subst hty
        by_cases hr : 1 ≤ t ∧ t ≤ s.tk.stations.length
        · have hself : (s.modStation t fun k => { k with lampOrder := none, lampRetry := some (framePlus s.now 1) }).station t =
              { s.station t with lampOrder := none, lampRetry := some (framePlus s.now 1) } := slot_modSlot_self _ _ _ hr.1 hr.2
          exact ⟨rfl, (congrArg Station.kind hself :), (congrArg Station.link hself :), (congrArg Station.lampAcked hself :), .inr ⟨by rw [hlit]; exact Option.some_ne_none _,
            (congrArg Station.lampOrder hself :), (congrArg Station.lampRetry hself :)⟩⟩
        · have hnone : s.station t = Station.undefined := station_beyond hr
          rw [hnone] at hlit
          cases hlit
      · exact same rfl (slot_modSlot_other _ _ _ hty)
    · exact refl y s
  next => exact refl y s

theorem displaced (v : Order) (s : State) : LampHeld y s (displaced v s) := by
  unfold Machine.displaced
  split
  · rename_i l _
    have htk : (tallyFailed l v.id s).tk = s.tk := keeps_tallyFailed l v.id s .tk (by decide)
    have hnow : (tallyFailed l v.id s).now = s.now := congrArg Ftb.counter (keeps_tallyFailed l v.id s .ftb (by decide))
    exact same hnow (by rw [State.station, htk]; rfl)
  · exact lampFailed _ _ s
  · exact refl y s

theorem issue (a : Nat) (body : OrderBody) (i : Issuer) (s : State) : LampHeld y s (issue a body i s).state := by
  obtain ⟨-, -, hr⟩ | ⟨-, -, -, hr⟩ | ⟨-, -, -, hr⟩ | ⟨-, -, -, v, -, hr⟩ := issue_cases a body i s <;> rw [hr]
  iterate 3 exact same rfl rfl
  have hunit : LampHeld y s (s.tookId.modUnit a fun u => { u with outstanding := u.outstanding.eraseP Order.displaceable }) := same rfl rfl
  exact (hunit.trans (displaced v _)).trans (same rfl rfl)

/-- A change of another record, or of other fields of this one. -/
theorem modStation (t : Nat) (f : Station → Station) (s : State)
    (hf : t = y → ∀ x : Station, ((f x).kind = x.kind ∧ (f x).link = x.link) ∧ (f x).lampAcked = x.lampAcked ∧
      (f x).lampOrder = x.lampOrder ∧ (f x).lampRetry = x.lampRetry) :
    LampHeld y s (s.modStation t f) := by
  by_cases hty : t = y
  · have hfields (x : Station) := hf hty x
    exact ⟨rfl, slot_modSlot_field Station.kind _ f _ t y fun x => (hfields x).1.1, slot_modSlot_field Station.link _ f _ t y fun x => (hfields x).1.2,
      slot_modSlot_field Station.lampAcked _ f _ t y fun x => (hfields x).2.1, .inl
        ⟨slot_modSlot_field Station.lampOrder _ f _ t y fun x => (hfields x).2.2.1,
          slot_modSlot_field Station.lampRetry _ f _ t y fun x => (hfields x).2.2.2⟩⟩
  · exact same rfl (slot_modSlot_other _ _ _ hty)

theorem tkFailed (i : Issuer) (id : Nat) (s : State) : LampHeld y s (tkFailed i id s) := by
  unfold Machine.tkFailed
  split
  · split
    · exact same rfl rfl
    · exact refl y s
  · exact same rfl rfl
  · split
    · exact modStation _ _ s fun _ _ => ⟨⟨rfl, rfl⟩, rfl, rfl, rfl⟩
    · exact refl y s
  · exact lampFailed _ _ s
  · exact refl y s

theorem reported (x : Acting) : LampHeld y x.1 (reported x) := by
  obtain ⟨s, fs⟩ := x
  show LampHeld y s (fs.foldl _ s)
  induction fs generalizing s with
  | nil => exact refl y s
  | cons f fs ih => exact (tkFailed f.1 f.2 s).trans (ih _)

theorem tkIssue (a : Nat) (body : OrderBody) (i : Issuer) {record : Nat → State → State} (hr : ∀ id s, LampHeld y s (record id s)) (x : Acting) :
    LampHeld y x.1 (tkIssue a body i record x).1 := (issue a body i x.1).trans (hr _ _)

theorem orderBreak (a d : Nat) (x : Acting) : LampHeld y x.1 (orderBreak a d x).1 := by
  refine tkIssue _ _ _ (fun id s => ?_) x
  unfold joinBreak
  dsimp only
  split
  · exact same rfl rfl
  · split
    · split
      · exact same rfl rfl
      · exact same rfl rfl
    · exact same rfl rfl

theorem orderMake (a d : Nat) (x : Acting) : LampHeld y x.1 (orderMake a d x).1 :=
  (issue _ _ _ x.1).trans (same rfl rfl)

theorem orderDim (t depth : Nat) (x : Acting) : LampHeld y x.1 (orderDim t depth x).1 :=
  tkIssue _ _ _ (fun id s => modStation t (fun k => { k with dimOrder := some id, dimRetry := false }) s fun _ _ => ⟨⟨rfl, rfl⟩, rfl, rfl, rfl⟩) x

theorem foldAct {α : Type} {f : Acting → α → Acting} (h : ∀ x a, LampHeld y x.1 (f x a).1) (as : List α) (x : Acting) :
    LampHeld y x.1 (as.foldl f x).1 := by
  induction as generalizing x with
  | nil => exact refl y x.1
  | cons a as ih => exact (h x a).trans (ih _)

theorem crosspoints (before : List Route) (x : Acting) (d : Nat) : LampHeld y x.1 (crosspoints before x d).1 :=
  (foldAct (fun x a => orderBreak a d x) _ x).trans (foldAct (fun x a => orderMake a d x) _ _)

theorem dims (before : List Route) (x : Acting) (t : Nat) : LampHeld y x.1 (dims before x t).1 := by
  unfold Machine.dims
  dsimp only
  split
  · exact orderDim _ _ x
  · exact refl y x.1

/-- Another station's key-lamp test. -/
theorem orderLamp {t : Nat} (h : t ≠ y) (x : Acting) : LampHeld y x.1 (orderLamp t x).1 := by
  unfold Machine.orderLamp
  dsimp only
  split
  · exact tkIssue _ _ _ (fun _ s => modStation t _ s fun hty => absurd hty h) x
  · exact refl y x.1

theorem lamps {t : Nat} (h : t ≠ y) (asked : Option Nat) (s0 : State) (x : Acting) : LampHeld y x.1 (lamps asked s0 x t).1 := by
  unfold Machine.lamps
  split
  · exact orderLamp h x
  · exact refl y x.1

/-! ### A key event, before the Talk Router ends it -/

theorem setKey (t n : Nat) (f : Key → Key) (s : State) : LampHeld y s (setKey t n f s) :=
  modStation t _ s fun _ _ => ⟨⟨rfl, rfl⟩, rfl, rfl, rfl⟩

theorem tallyFailed (l id : Nat) (s : State) : LampHeld y s (tallyFailed l id s) := by
  have htk : (Machine.tallyFailed l id s).tk = s.tk := keeps_tallyFailed l id s .tk (by decide)
  have hnow : (Machine.tallyFailed l id s).now = s.now := congrArg Ftb.counter (keeps_tallyFailed l id s .ftb (by decide))
  exact same hnow (by rw [State.station, htk]; rfl)

theorem deliveryTest (l : Nat) (s : State) : LampHeld y s (deliveryTest l s) := by
  unfold Machine.deliveryTest
  dsimp only
  split
  · generalize hr : Machine.issue (s.link l).cfg.unit (.tally (s.link l).cfg.channel (s.link l).wanted) (.tr l) s = r
    have hissue : LampHeld y s r.state := hr ▸ issue _ _ _ s
    have hmod : LampHeld y r.state (r.state.modLink l fun k' =>
        { k' with tallyOrder := some { id := r.id, word := (s.link l).wanted, issueFrame := s.now } }) := same rfl rfl
    split
    · exact (hissue.trans hmod).trans (tallyFailed l r.id _)
    · exact hissue.trans hmod
  · exact refl y s

theorem rewant (l : Nat) (s : State) : LampHeld y s (rewant l s) :=
  (same rfl rfl : LampHeld y s (s.modLink l fun k => { k with wanted := s.wantedWord l })).trans (deliveryTest l _)

theorem foldl {α : Type} {f : State → α → State} (h : ∀ s a, LampHeld y s (f s a)) (as : List α) (s : State) : LampHeld y s (as.foldl f s) := by
  induction as generalizing s with
  | nil => exact refl y s
  | cons a as ih => exact (h s a).trans (ih _)

theorem rewantStation (d : Nat) (s : State) : LampHeld y s (rewantStation d s) := by
  refine foldl (fun s l => ?_) _ s
  split
  · exact rewant l s
  · exact refl y s

theorem startPulse (frames d : Nat) (s : State) : LampHeld y s (startPulse frames d s) := by
  unfold Machine.startPulse
  split
  · exact refl y s
  · exact (modStation d (fun x => { x with pulseEnd := some (framePlus s.now frames) }) s fun _ _ => ⟨⟨rfl, rfl⟩, rfl, rfl, rfl⟩).trans
      (rewantStation d _)

theorem startTalking (x : Nat) (k : Key) (new : KeyState) (tap : Option FrameNo) (s : State) : LampHeld y s (startTalking x k new tap s) := by
  unfold Machine.startTalking
  dsimp only
  split
  · exact (modStation x (fun z => { z with lastRefusal := some (k.number, s.now) }) s fun _ _ => ⟨⟨rfl, rfl⟩, rfl, rfl, rfl⟩).trans (same rfl rfl)
  · exact (setKey x _ _ s).trans (same rfl rfl)

theorem stopTalking (x : Nat) (k : Key) (s : State) : LampHeld y s (stopTalking x k s) := (setKey x _ _ s).trans (same rfl rfl)

theorem keyActs (x : Nat) (k : Key) (down : Bool) (s : State) : LampHeld y s (keyActs x k down s) := by
  rw [keyActs_eq]
  split
  · split
    · exact startTalking x k _ _ s
    · split
      · exact stopTalking x k s
      · exact setKey x _ _ s
  · split
    · exact foldl (fun s d => startPulse _ d s) _ s
    · exact refl y s

theorem pressKey (x n : Nat) (down : Bool) (s : State) : LampHeld y s (pressKey x n down s) := by
  unfold Machine.pressKey
  split
  · exact refl y s
  · split
    · exact refl y s
    · exact (setKey x n _ s).trans (keyActs x _ down _)

end LampHeld

end Sys2Proof.Machine

/-! A key event of a REPORT (R134, R166, R179): the key is pressed or released, and its station's lamps are tested. -/

namespace Sys2Proof.Machine

-- One theorem at a time: all at once, their threads together outgrow the memory limit of the check.
set_option Elab.async false

/-! ## The key-lamp test that a key event asks for (R166, R179) -/

section asked
variable {y : Nat} {s0 : State}

/-- A station without an order or a retry shows its contents at its test, or is sent them. -/
theorem lampTold_orderLamp {x : Acting} (hy : 1 ≤ y ∧ y ≤ x.1.tk.stations.length) (hidle : LampIdle y x.1)
    (hkind : (x.1.station y).kind = some .linked)
    (hlink : ∃ m, (x.1.station y).link = some m ∧ ((x.1.link m).state = .locked ∨ (x.1.link m).state = .fading)) (e : FrameNo) :
    LampTold y (x.1.lampContents y) e (orderLamp y x).1 := by
  by_cases hdue : x.1.lampDue y = true
  · unfold orderLamp
    dsimp only
    rw [if_pos hdue]
    unfold tkIssue
    dsimp only
    generalize hr : issue (x.1.link ((x.1.station y).link.getD 0)).cfg.unit
      (.talkLamp (x.1.link ((x.1.station y).link.getD 0)).cfg.channel (x.1.lampContents y)) (.tkLamp y) x.1 = r
    have hlen : y ≤ r.state.tk.stations.length := hy.2.trans_eq (hr ▸ quiet_issue x.1 _ _ _).length_stations.symm
    have hself : (r.state.modStation y fun z => { z with lampOrder := some (r.id, x.1.lampContents y) }).station y =
        { r.state.station y with lampOrder := some (r.id, x.1.lampContents y) } := slot_modSlot_self _ _ _ hy.1 hlen
    exact .inr (.inl ⟨r.id, congrArg Station.lampOrder hself⟩)
  · have hacked : (x.1.station y).lampAcked = some (x.1.lampContents y) :=
      not_not.1 fun h => hdue (lampDue_iff.2 ⟨hkind, hlink, hidle.1, hidle.2, h⟩)
    rw [orderLamp, if_neg hdue]
    exact .inl hacked

/-- The event's own test is among the tests of every station; the others leave what this one shows or is told. -/
theorem lampTold_tests {x : Acting} (hlen : x.1.tk.stations.length = 24) (hy : 1 ≤ y) (hy' : y ≤ 24) (hidle : LampIdle y x.1)
    (hkind : (x.1.station y).kind = some .linked)
    (hlink : ∃ m, (x.1.station y).link = some m ∧ ((x.1.link m).state = .locked ∨ (x.1.link m).state = .fading)) :
    LampTold y (x.1.lampContents y) (framePlus x.1.now 1) (reported ((oneUpTo Config.stations).foldl (lamps (some y) s0) x)) := by
  obtain ⟨l1, l2, hsplit⟩ := List.append_of_mem (mem_oneUpTo.2 ⟨hy, hy'⟩ : y ∈ oneUpTo Config.stations)
  have hnodup : (l1 ++ y :: l2).Nodup := hsplit ▸ (by decide : (oneUpTo Config.stations).Nodup)
  obtain ⟨-, htail, hdisj⟩ := List.nodup_append.1 hnodup
  rw [hsplit, List.foldl_append, List.foldl_cons]
  have hothers (ts : List Nat) (hts : ∀ t ∈ ts, t ≠ y) (x : Acting) : LampHeld y x.1 (ts.foldl (lamps (some y) s0) x).1 := by
    induction ts generalizing x with
    | nil => exact .refl y x.1
    | cons t ts ih => exact (LampHeld.lamps (hts t List.mem_cons_self) _ _ x).trans (ih (fun u hu => hts u (List.mem_cons_of_mem t hu)) _)
  have hheld : LampHeld y x.1 (l1.foldl (lamps (some y) s0) x).1 := hothers l1 (fun t ht hty => hdisj t ht y List.mem_cons_self hty) x
  have hquiet : Quiet x.1 (l1.foldl (lamps (some y) s0) x).1 := Quiet.foldAct _ (quiet_lamps _ s0) l1 x
  generalize l1.foldl (lamps (some y) s0) x = x1 at hheld hquiet ⊢
  have hkind1 : (x1.1.station y).kind = some .linked := hheld.kind.trans hkind
  have htold : LampTold y (x.1.lampContents y) (framePlus x.1.now 1) (lamps (some y) s0 x1 y).1 := by
    rw [lamps, if_pos ⟨hkind1, .inr (.inr rfl)⟩, ← (Still.of_quiet hquiet).lamps y]
    obtain ⟨m, hm, hstate⟩ := hlink
    have hstate1 : (x1.1.link m).state = (x.1.link m).state := (congrArg Link.state (hquiet.link m) :)
    exact lampTold_orderLamp ⟨hy, hy'.trans_eq (hlen.symm.trans hquiet.length_stations.symm)⟩ (hheld.idle hidle) hkind1
      ⟨m, hheld.link.trans hm, by rw [hstate1]; exact hstate⟩ _
  have hnow : (lamps (some y) s0 x1 y).1.now = x.1.now := congrArg Ftb.counter ((hquiet.trans (quiet_lamps _ s0 x1 y)).ftb)
  generalize lamps (some y) s0 x1 y = x2 at htold hnow ⊢
  have hheld2 := (hothers l2 (fun t ht hty => (List.nodup_cons.1 htail).1 (hty ▸ ht)) x2).trans (LampHeld.reported _)
  exact hheld2.told (by rw [hnow]) htold

/-- What the Talk Router does before the tests of the lamps. -/
theorem held_before_tests (before : List Route) (ds ts : List Nat) (x : Acting) :
    LampHeld y x.1 (ts.foldl (dims before) (ds.foldl (crosspoints before) x)).1 ∧
      Quiet x.1 (ts.foldl (dims before) (ds.foldl (crosspoints before) x)).1 := by
  have hheld : LampHeld y x.1 (ds.foldl (crosspoints before) x).1 := .foldAct (LampHeld.crosspoints before) ds x
  have hquiet : Quiet x.1 (ds.foldl (crosspoints before) x).1 := .foldAct _ (quiet_crosspoints before) ds x
  exact ⟨hheld.trans (.foldAct (LampHeld.dims before) ts _), hquiet.trans (.foldAct _ (quiet_dims before) ts _)⟩

theorem lampTold_tkAfter {p : State} (hlen : p.tk.stations.length = 24) (hy : 1 ≤ y) (hy' : y ≤ 24) (hidle : LampIdle y p)
    (hkind : (p.station y).kind = some .linked)
    (hlink : ∃ m, (p.station y).link = some m ∧ ((p.link m).state = .locked ∨ (p.link m).state = .fading)) :
    LampTold y ((tkAfterFor (some y) s0 p).lampContents y) (framePlus p.now 1) (tkAfterFor (some y) s0 p) := by
  have hkeeps : KeepsBut [.tk] p p.resettle := keeps_modTk p _
  have hresettle : LampHeld y p p.resettle := .same (congrArg Ftb.counter (hkeeps .ftb (by decide))) (resettle_station p y)
  have hlinks (m : Nat) : (p.resettle.link m).state = (p.link m).state :=
    (congrArg Link.state (linkCore_of_same (hkeeps .links (by decide)) m) :)
  have hlength : p.resettle.tk.stations.length = p.tk.stations.length := by rw [State.resettle, State.modTk_tk]
  have hlamps := (Still.of_quiet (quiet_tkAfterFor (some y) s0 p)).lamps y
  rw [hlamps]
  unfold tkAfterFor
  clear hlamps hkeeps
  generalize p.resettle = q at *
  obtain ⟨hbefore, hquiet⟩ := held_before_tests (y := y) s0.tk.routes (oneUpTo Config.stations) (oneUpTo Config.stations) (q, [])
  rw [← (Still.of_quiet hquiet).lamps y]
  dsimp only
  generalize (oneUpTo Config.stations).foldl (dims s0.tk.routes) ((oneUpTo Config.stations).foldl (crosspoints s0.tk.routes) (q, [])) = x at *
  have hheld := hresettle.trans hbefore
  have hstate (m : Nat) : (x.1.link m).state = (p.link m).state := (congrArg Link.state (hquiet.link m) :).trans (hlinks m)
  obtain ⟨m, hm, hservice⟩ := hlink
  have htold := lampTold_tests (s0 := s0) (x := x) (hquiet.length_stations.trans (hlength.trans hlen)) hy hy' (hheld.idle hidle)
    (hheld.kind.trans hkind) ⟨m, hheld.link.trans hm, by rw [hstate]; exact hservice⟩
  rwa [← hheld.now]

end asked

/-! ## The key as pressed or released (R166) -/

section pressed
variable {s : State} {x n : Nat} {down : Bool}

/-- No change of a key's state changes whether it is pressed. -/
theorem pressed_setKey (m : Nat) (f : Key → Key) (s : State) (hn : ∀ k, (f k).number = k.number := by exact fun _ => rfl)
    (hp : ∀ k, (f k).pressed = k.pressed := by exact fun _ => rfl) :
    (((setKey x m f s).station x).key n).map Key.pressed = ((s.station x).key n).map Key.pressed := by
  by_cases hx : 1 ≤ x ∧ x ≤ s.tk.stations.length
  · by_cases hm : n = m
    · subst hm
      cases hk : (s.station x).key n with
      | some k => exact congrArg (Option.map Key.pressed) (key_setKey_self hk hn) |>.trans (congrArg some (hp k))
      | none =>
        rw [Station.key, keys_setKey_self n f hx.1 hx.2]
        have hno := List.find?_eq_none.1 hk
        have hnone : ((s.station x).keys.map fun k => if k.number = n then f k else k).find? (fun k => decide (k.number = n)) = none := by
          refine List.find?_eq_none.2 fun k' hk' => ?_
          obtain ⟨k, hkm, rfl⟩ := List.mem_map.1 hk'
          have hne := hno k hkm
          rw [decide_eq_true_eq] at hne ⊢
          rwa [if_neg hne]
        rw [hnone]
    · rw [key_setKey_other hx.1 hx.2 hn hm]
  · have hu : (setKey x m f s).station x = s.station x := by
      rw [station_beyond hx]
      exact station_beyond fun h => hx ⟨h.1, h.2.trans_eq (modSlot_length ..)⟩
    rw [hu]

theorem pressed_of_keys {s t : State} (h : (t.station x).keys = (s.station x).keys) :
    ((t.station x).key n).map Key.pressed = ((s.station x).key n).map Key.pressed := by
  rw [Station.key, Station.key, h]

theorem pressed_keyActs (k : Key) (s : State) :
    (((keyActs x k down s).station x).key n).map Key.pressed = ((s.station x).key n).map Key.pressed := by
  have hpulses (ds : List Nat) (frames : Nat) (s : State) : Pulses s (ds.foldl (fun s d => startPulse frames d s) s) := by
    induction ds generalizing s with
    | nil => exact .refl s
    | cons d ds ih =>
      have hwords (u : State) : Rewords u (rewantStation d u) :=
        .foldl (fun u l => .ite (.rewant l u) (.refl u)) _ u
      have hstart : Pulses s (startPulse frames d s) := by
        unfold startPulse
        split
        · exact .refl s
        · exact (Pulses.modStation d _ s).trans (.of_rewords (hwords _))
      exact hstart.trans (ih _)
  rw [keyActs_eq]
  split
  · split
    · unfold startTalking
      dsimp only
      split
      · exact pressed_of_keys (slot_modSlot_field Station.keys _ _ _ x x fun _ => rfl)
      · exact pressed_setKey k.number _ s
    · split
      · exact pressed_setKey k.number _ s
      · exact pressed_setKey k.number _ s
  · split
    · exact pressed_of_keys ((hpulses _ _ s).keys x)
    · rfl

/-- A key is as the event tells it, a repeat or not. -/
theorem pressed_pressKey {k : Key} (hk : (s.station x).key n = some k) :
    (((pressKey x n down s).station x).key n).map Key.pressed = some down := by
  simp only [pressKey, hk]
  split
  case isTrue hp => rw [hk]; exact congrArg some hp
  rw [pressed_keyActs, key_setKey_self hk (by exact fun _ => rfl)]
  rfl

/-- The end of the event leaves it. -/
theorem pressed_finishKey (asked : Option Nat) (s0 p : State) :
    (((finishKey asked s0 p).station x).key n).map Key.pressed = ((p.station x).key n).map Key.pressed := by
  have hafter : (finishKey asked s0 p).tk = (tkAfterFor asked s0 p).tk := keeps_after _ .tk (by decide)
  have hquiet : ((tkAfterFor asked s0 p).station x).keys = (p.resettle.station x).keys :=
    (congrArg Station.keys ((quiet_tkAfterFor asked s0 p).station x) :)
  refine pressed_of_keys ?_
  rw [State.station, hafter]
  exact hquiet.trans (by rw [resettle_station])

end pressed

end Sys2Proof.Machine

/-! The steps of the boundary that come before a REPORT (R82, R88, R104, R106, R168): they are taken once, and do not move the links and
stations that the report is for. -/

namespace Sys2Proof.Machine

-- One theorem at a time: all at once, their threads together outgrow the memory limit of the check.
set_option Elab.async false

/-! ## The configurations of links, by which a report finds its links and stations -/

/-- No link is configured anew. -/
def SameConfigs (s t : State) : Prop := t.links.map Link.cfg = s.links.map Link.cfg

namespace SameConfigs
variable {s t u : State}

theorem refl (s : State) : SameConfigs s s := rfl

theorem trans (h : SameConfigs s t) (k : SameConfigs t u) : SameConfigs s u := Eq.trans k h

theorem of_keeps {ps : List Part} (h : KeepsBut ps s t) (hp : Part.links ∉ ps := by decide) : SameConfigs s t := by
  have hmap (u : State) : u.links.map Link.cfg = (u.links.map Link.core).map Link.cfg := by rw [List.map_map]; rfl
  show t.links.map Link.cfg = s.links.map Link.cfg
  rw [hmap, hmap, h .links hp]

theorem modLink (l : Nat) (f : Link → Link) (hf : ∀ k, (f k).cfg = k.cfg := by exact fun _ => rfl) : SameConfigs s (s.modLink l f) :=
  map_modSlot Link.cfg f s.links l hf

theorem ite {c : Prop} [Decidable c] (h : SameConfigs s t) (k : SameConfigs s u) : SameConfigs s (if c then t else u) := by
  split
  · exact h
  · exact k

theorem cfg (h : SameConfigs s t) (l : Nat) : (t.link l).cfg = (s.link l).cfg := by
  have hslot (u : State) : (u.link l).cfg = slot Link.vacant.cfg (u.links.map Link.cfg) l := (slot_map Link.cfg Link.vacant u.links l).symm
  rw [hslot, hslot, h]

theorem linkAt (h : SameConfigs s t) (u c : Nat) : t.linkAt u c = s.linkAt u c := by
  simp only [State.linkAt, h.cfg]

theorem sampleLink (h : SameConfigs s t) (u : Nat) (x : Sample) : t.sampleLink u x = s.sampleLink u x := by
  rw [State.sampleLink, State.sampleLink, h.linkAt]

theorem keyStation (h : SameConfigs s t) (u : Nat) (x : KeyReport) : t.keyStation u x = s.keyStation u x := by
  simp only [State.keyStation, h.linkAt, h.cfg]

/-- So the steps that come before a report are the same. -/
theorem reportSteps (h : SameConfigs s t) (r : Report) : t.reportSteps r = s.reportSteps r := by
  simp only [State.reportSteps, h.sampleLink, h.keyStation]

/-! ### The steps of links -/

theorem changeState (l : Nat) (new : LinkState) (c : Option LostCause) (s : State) : SameConfigs s (changeState l new c s) := by
  refine ite (refl s) ?_
  have henter (k : Link) : (k.enter new c).cfg = k.cfg := by
    unfold Link.enter
    dsimp only
    split <;> rfl
  exact ((modLink l _ henter).trans (of_keeps (keeps_raise _ _ _))).trans (of_keeps (keeps_tallySees l _ _))

theorem abandonMove (l : Nat) (s : State) : SameConfigs s (abandonMove l s) := by
  have hmod : SameConfigs s (s.modLink l fun k => { k with pending := none, origin := none, effectiveFrame := none, deadline := none }) :=
    modLink l _
  have hrelease := ite (c := (s.link l).state = .retuning) (hmod.trans (of_keeps (keeps_release (s.link l).cfg.band _))) hmod
  exact (hrelease.trans (changeState l .lost (some .silent) _)).trans (of_keeps (keeps_moveOutcome l _ .lost _))

theorem goSilent (l : Nat) (s : State) : SameConfigs s (goSilent l s) := by
  have hmod : SameConfigs s (s.modLink l fun k => { k with silenceCounter := 0 }) := modLink l _
  unfold Machine.goSilent
  dsimp only
  split
  iterate 2 exact hmod.trans (abandonMove l _)
  iterate 3 exact hmod.trans (changeState l _ _ _)
  exact refl s

theorem startRevert (l : Nat) (s : State) : SameConfigs s (startRevert l s) := by
  have hmod : SameConfigs s (s.modLink l fun k => { k with pending := none }) := modLink l _
  have hrelease := hmod.trans (of_keeps (keeps_release (s.link l).cfg.band _))
  have htune := hrelease.trans (of_keeps (keeps_issueTune l ((s.link l).assigned.getD 0) s.nextEffective (.rcRevert l) _))
  exact (htune.trans (modLink l _)).trans (changeState l .reverting none _)

theorem revertFails (l : Nat) (s : State) : SameConfigs s (revertFails l s) := by
  have hmod : SameConfigs s (s.modLink l fun k => { k with origin := none, effectiveFrame := none, deadline := none }) := modLink l _
  exact (hmod.trans (changeState l .lost (some .revertFailed) _)).trans (of_keeps (keeps_moveOutcome l _ .lost _))

theorem fadeTest (l : Nat) (s : State) : SameConfigs s (fadeTest l s) := ite (modLink l _) (refl s)

end SameConfigs

/-- The steps that may come before a report. -/
def Owed.ofReport : Owed → Bool
  | .silence _ | .acquire _ | .retune _ | .revert _ | .fade _ | .tap _ _ | .pulse _ => true
  | _ => false

section steps
variable {s : State}

theorem sameConfigs_owedStep {o : Owed} (h : o.ofReport = true) (s : State) : SameConfigs s (owedStep o s) := by
  cases o with
  | silence l => exact .ite (.goSilent l s) (.refl s)
  | acquire l => exact .ite (.changeState l .lost (some .noLock) s) (.refl s)
  | retune l => exact .ite (.startRevert l s) (.refl s)
  | revert l => exact .ite (.revertFails l s) (.refl s)
  | fade l => exact .ite (.fadeTest l s) (.refl s)
  | tap t n => exact .ite (.of_keeps (keeps_setKey t n _ s)) (.refl s)
  | pulse t => exact .ite (.of_keeps (keeps_endPulse t s)) (.refl s)
  | _ => cases h

theorem sameConfigs_takeOwed {o : Owed} (h : o.ofReport = true) (s : State) : SameConfigs s (takeOwed o s) := by
  unfold takeOwed
  refine .ite ?_ (.refl s)
  have howed : SameConfigs s (s.without o) := .of_keeps (keeps_owed _ s)
  exact (howed.trans (sameConfigs_owedStep h _)).trans (.of_keeps (keeps_finishTail _ _))

theorem sameConfigs_takeSome {os : List Owed} (h : ∀ o ∈ os, o.ofReport = true) (s : State) : SameConfigs s (takeSome os s) := by
  induction os generalizing s with
  | nil => exact .refl s
  | cons o os ih =>
    exact (sameConfigs_takeOwed (h o List.mem_cons_self) s).trans (ih (fun x hx => h x (List.mem_cons_of_mem o hx)) _)

theorem reportSteps_ofReport (s : State) (r : Report) : ∀ o ∈ s.reportSteps r, o.ofReport = true := by
  intro o ho
  rcases List.mem_append.1 ho with ho | ho
  · obtain ⟨x, -, ho⟩ := List.mem_flatMap.1 ho
    cases hl : s.sampleLink r.unit x with
    | none => rw [hl] at ho; cases ho
    | some l =>
      rw [hl] at ho
      rcases ho with _ | ⟨_, _ | ⟨_, _ | ⟨_, _ | ⟨_, _ | ⟨_, ⟨⟩⟩⟩⟩⟩⟩ <;> rfl
  · obtain ⟨x, -, ho⟩ := List.mem_flatMap.1 ho
    cases ht : s.keyStation r.unit x with
    | none => rw [ht] at ho; cases ho
    | some t =>
      rw [ht] at ho
      rcases List.mem_cons.1 ho with rfl | ho
      · rfl
      · obtain ⟨y, -, rfl⟩ := List.mem_map.1 ho
        rfl

/-! ## None of them is then owed -/

/-- What is owed after a step. -/
theorem owed_takeOwed (o : Owed) (s : State) :
    (takeOwed o s).owed = if s.owed.contains o && !o.behindSilence s.owed then s.owed.filter (fun x => decide (x ≠ o)) else s.owed := by
  unfold takeOwed
  split
  · have hstep : (owedStep o (s.without o)).owed = (s.without o).owed := keeps_owedStep o _ .owed (by decide)
    exact (keeps_finish (s.without o) (owedStep o (s.without o)) .owed (by decide)).trans hstep
  · rfl

theorem owed_takeOwed_subset (o : Owed) (s : State) : (takeOwed o s).owed ⊆ s.owed := by
  rw [owed_takeOwed]
  split
  · exact List.filter_subset_self _
  · exact List.Subset.refl _

theorem owed_takeSome_subset (os : List Owed) (s : State) : (takeSome os s).owed ⊆ s.owed := by
  induction os generalizing s with
  | nil => exact List.Subset.refl _
  | cons o os ih => exact List.Subset.trans (ih _) (owed_takeOwed_subset o s)

/-- A step that gives way to no silence is owed no more once it is taken. -/
theorem not_owed_takeOwed {o : Owed} (h : o.behindSilence s.owed = false) : o ∉ (takeOwed o s).owed := by
  rw [owed_takeOwed]
  intro ho
  split at ho
  · exact of_decide_eq_true (List.mem_filter.1 ho).2 rfl
  next hno =>
    refine hno ?_
    rw [h, Bool.not_false, Bool.and_true]
    exact List.contains_iff_mem.2 ho

/-- Taking these steps in turn leaves none of them owed. -/
def Clears (os : List Owed) : Prop := ∀ s : State, ∀ o ∈ os, o ∉ (takeSome os s).owed

theorem not_owed_takeSome {os : List Owed} (h : ∀ o ∈ os, ∀ todo ⊆ s.owed, o.behindSilence todo = false) :
    ∀ o ∈ os, o ∉ (takeSome os s).owed := by
  induction os generalizing s with
  | nil => intro o ho; cases ho
  | cons x os ih =>
    intro o ho
    rcases List.mem_cons.1 ho with rfl | ho
    · exact fun hmem => not_owed_takeOwed (h o List.mem_cons_self _ (List.Subset.refl _)) (owed_takeSome_subset os _ hmem)
    · exact ih (fun y hy todo htodo => h y (List.mem_cons_of_mem x hy) todo (List.Subset.trans htodo (owed_takeOwed_subset x s))) o ho

theorem Clears.append {os ps : List Owed} (h : Clears os) (k : Clears ps) : Clears (os ++ ps) := by
  intro s o ho
  have htake : takeSome (os ++ ps) s = takeSome ps (takeSome os s) := List.foldl_append ..
  rw [htake]
  rcases List.mem_append.1 ho with ho | ho
  · exact fun hmem => h s o ho (owed_takeSome_subset ps _ hmem)
  · exact k _ o ho

theorem Clears.nil : Clears [] := fun _ _ h => absurd h List.not_mem_nil

theorem Clears.flatMap {α : Type} {f : α → List Owed} (h : ∀ x, Clears (f x)) (xs : List α) : Clears (xs.flatMap f) := by
  induction xs with
  | nil => exact .nil
  | cons x xs ih => rw [List.flatMap_cons]; exact (h x).append ih

/-- A link's silence comes first, so that nothing gives way to it. -/
theorem clears_sampleSteps (l : Nat) : Clears (sampleSteps l) := by
  intro s o ho
  have hsilence : Owed.silence l ∉ (takeOwed (.silence l) s).owed := not_owed_takeOwed rfl
  show o ∉ (takeSome [.acquire l, .retune l, .revert l, .fade l] (takeOwed (.silence l) s)).owed
  rcases List.mem_cons.1 ho with rfl | ho
  · exact fun hmem => hsilence (owed_takeSome_subset _ _ hmem)
  · refine not_owed_takeSome (fun x hx todo htodo => ?_) o ho
    have hno : todo.contains (Owed.silence l) = false := Bool.eq_false_iff.2 fun h => hsilence (htodo (List.contains_iff_mem.1 h))
    rcases hx with _ | ⟨_, _ | ⟨_, _ | ⟨_, _ | ⟨_, ⟨⟩⟩⟩⟩⟩ <;> exact hno

theorem clears_keySteps (t n : Nat) : Clears (keySteps t n) := by
  intro s
  refine not_owed_takeSome fun x hx _ _ => ?_
  rcases List.mem_cons.1 hx with rfl | hx
  · rfl
  · obtain ⟨y, -, rfl⟩ := List.mem_map.1 hx
    rfl

theorem clears_reportSteps (s : State) (r : Report) : Clears (s.reportSteps r) := by
  refine Clears.append (.flatMap (fun x => ?_) _) (.flatMap (fun x => ?_) _)
  · cases s.sampleLink r.unit x with
    | none => exact .nil
    | some l => exact clears_sampleSteps l
  · cases s.keyStation r.unit x with
    | none => exact .nil
    | some t => exact clears_keySteps t x.key

/-! ## The report as a whole (R132) -/

variable {bs : List Byte} {r : Report}

theorem exec_report (hread : readReport bs = some r) : exec (.report bs) s = .next (acceptReport r s) := by
  show execReport bs s = _
  rw [execReport, hread]

theorem acceptReport_run (hm : s.mode = .run) (howed : ∀ o ∈ s.reportSteps r, o ∉ s.owed) : acceptReport r s =
    r.keys.foldl (reportKey r.unit) (r.samples.foldl (reportSample r.unit) (finish s (acknowledgeAll r.unit r.acks s))) := by
  rw [acceptReport, if_pos hm, takeSome_of_not_mem howed, takeReport, if_pos hm]

/-- The steps that come before it are taken first, and once. -/
theorem report_takes_steps_first (hread : readReport bs = some r) (hm : s.mode = .run) :
    exec (.report bs) s = exec (.report bs) (takeSome (s.reportSteps r) s) := by
  have hclear := clears_reportSteps s r s
  have hsteps := (sameConfigs_takeSome (reportSteps_ofReport s r) s).reportSteps r
  have hmode : (takeSome (s.reportSteps r) s).mode = .run := (keeps_takeSome (s.reportSteps r) s .mode (by decide)).trans hm
  rw [exec_report hread, exec_report hread, acceptReport, if_pos hm, acceptReport]
  generalize takeSome (s.reportSteps r) s = s1 at *
  rw [if_pos hmode, hsteps, takeSome_of_not_mem hclear]

/-- The acknowledgements alone, and the rest of the report on what they leave. -/
theorem report_in_parts {only : List Byte} (hread : readReport bs = some r) (hm : s.mode = .run)
    (howed : ∀ o ∈ s.reportSteps r, o ∉ s.owed) (honly : readReport only = some { r with samples := [], keys := [] }) :
    Reaches (.report only) s fun a =>
      exec (.report bs) s = .next (r.keys.foldl (reportKey r.unit) (r.samples.foldl (reportSample r.unit) a)) := by
  have hnone : s.reportSteps { r with samples := [], keys := [] } = [] := by rw [State.reportSteps]; rfl
  have hacks : acceptReport { r with samples := [], keys := [] } s = finish s (acknowledgeAll r.unit r.acks s) := by
    rw [acceptReport_run hm fun o ho => by rw [hnone] at ho; cases ho]
    dsimp only [List.foldl_nil]
  exact ⟨_, (exec_report honly).trans (congrArg Host.Outcome.next hacks),
    (exec_report hread).trans (congrArg Host.Outcome.next (acceptReport_run hm howed))⟩

end steps

end Sys2Proof.Machine

/-! REPORT (O53). -/

namespace Sys2Proof.Machine

-- One theorem at a time: all at once, their threads together outgrow the memory limit of the check.
set_option Elab.async false

/-! ## One acknowledgement (R129 to R132) -/

section acked
variable {s : State} {a : Nat} {n : Byte}

/-- A REPORT of one acknowledgement alone, in either mode. -/
theorem report_acknowledges {bs : List Byte} {r : Report} (hread : readReport bs = some r) (hacks : r.acks = [n]) (hsamples : r.samples = [])
    (hkeys : r.keys = []) : exec (.report bs) s = .next (finish s (acknowledge r.unit s n)) := by
  have hsteps : s.reportSteps r = [] := by rw [State.reportSteps, hsamples, hkeys]; rfl
  have htake : takeSome [] s = s := rfl
  have hall : acknowledgeAll r.unit [n] s = acknowledge r.unit s n := rfl
  rw [exec_report hread, acceptReport, hsteps, htake, ite_self, takeReport, hacks, hsamples, hkeys, hall]
  dsimp only [List.foldl_nil]
  rw [ite_self]

variable {o : Order} (hsound : s.unitsSound) (ho : o ∈ (s.unit a).outstanding) (hn : o.number = some n)
include hsound ho

theorem acknowledge_known (hn : o.number = some n) : acknowledge a s n = orderAcked o (s.freed a n) :=
  acknowledge_eq (find_carries (acked_numbers hsound ho) ho hn)

omit hsound ho in
/-- What the issuer does, and the end of the event, issue orders of the Talk Router and of tallies alone. -/
theorem issues_past_ack : Issues (fun _ => True) (s.freed a n) (finish s (orderAcked o (s.freed a n))) :=
  ((issues_orderAcked o (s.freed a n)).mono fun _ _ => trivial).trans ((issues_finish s _).mono fun _ _ => trivial)

include hn

theorem gone_past_ack : Gone o.id (finish s (orderAcked o (s.freed a n))) := by
  have hacts : Acts .full (s.freed a n) (orderAcked o (s.freed a n)) := acts_orderAcked o _
  have hmoves : Moves .full (orderAcked o (s.freed a n)) (finish s (orderAcked o (s.freed a n))) := moves_finish _ _
  exact ((gone_acked hsound ho hn).grant a 1).moves (hacts.moves.trans hmoves)

/-- Every other order that nothing displaces stays. -/
theorem holds_past_ack {x : Order} (hx : x ∈ (s.unit a).orders) (hne : x.id ≠ o.id) (hd : x.displaceable = false) :
    Holds x (finish s (orderAcked o (s.freed a n))) := by
  have hissues : Issues (fun _ => True) (s.freed a n) (finish s (orderAcked o (s.freed a n))) := issues_past_ack
  have haddr : x.address = a := hsound.2.1 a (unit_address (unitPlace_of_mem hx).1) x hx
  unfold Holds
  rw [haddr]
  obtain h | h | ⟨m, h⟩ := freed_keeps hsound ho hn hx hne
  · exact ⟨x, List.mem_append_left _ (hissues.outstanding hd h), rfl, rfl, rfl, rfl⟩
  · exact ⟨x, List.mem_append_right _ (hissues.waiting h), rfl, rfl, rfl, rfl⟩
  · exact ⟨x.under m, List.mem_append_left _ (hissues.outstanding ((displaceable_under x m).trans hd) h), rfl, rfl, rfl, rfl⟩

omit hn in
/-- The place goes to the oldest waiting order that is no TALLY. -/
theorem grants_past_ack {w : Order} (hw : (s.unit a).waiting.find? (fun x => !x.isTally) = some w) (hd : w.displaceable = false) :
    ∃ x ∈ ((finish s (orderAcked o (s.freed a n))).unit a).outstanding,
      x.id = w.id ∧ x.body = w.body ∧ x.number = some (s.unit a).nextNumber :=
  ⟨w.under (s.unit a).nextNumber, issues_past_ack.outstanding ((displaceable_under w _).trans hd) (freed_grants hsound ho hw),
    rfl, rfl, rfl⟩

omit hn in
/-- An acknowledged word is delivered, and its order has gone. -/
theorem delivers_past_ack (hs : s.shaped) (hset : s.talkSettled) {l : Nat} {x : TallyOrder} (hi : o.issuer = .tr l) (hl : 1 ≤ l) (hl' : l ≤ 48)
    (hx : (s.link l).tallyOrder = some x) (hid : x.id = o.id) :
    ((finish s (orderAcked o (s.freed a n))).link l).delivered = some x.word ∧
      ((finish s (orderAcked o (s.freed a n))).link l).tallyOrder ≠ some x := by
  obtain ⟨-, hlinks, -⟩ := hs
  have hkeeps := keeps_freed s a n
  have hsame : (s.freed a n).links = s.links := by rw [State.freed, grant_links]; rfl
  have htk : (s.freed a n).tk = s.tk := hkeeps .tk (by decide)
  have hnext : (s.freed a n).nextOrderId = s.nextOrderId := hkeeps .orderIds (by decide)
  have hlt : x.id < s.nextOrderId := by
    obtain ⟨-, -, -, hlt, -⟩ := (unitsSound_iff s).1 hsound
    have hmem := unit_mem (unitPlace_of_mem (List.mem_append_left (s.unit a).waiting ho))
    exact hid ▸ hlt _ (List.mem_append_left _ (List.mem_flatMap.2 ⟨_, hmem, List.mem_map.2 ⟨o, List.mem_append_left _ ho, rfl⟩⟩))
  have hstep : orderAcked o (s.freed a n) = tallyAcked l x.id (s.freed a n) := by rw [orderAcked, hi, hid]
  rw [hstep]
  have hlink (m : Nat) : (s.freed a n).link m = s.link m := by rw [State.link, hsame]; rfl
  generalize s.freed a n = u at *
  obtain ⟨htk', hstate⟩ := tallyAcked_tables l x.id u
  obtain ⟨hdelivered, horder⟩ := tallyAcked_delivers (s := u) hl (by rw [hsame, hlinks]; exact hl') ((congrArg Link.tallyOrder (hlink l)).trans hx)
  generalize tallyAcked l x.id u = v at *
  obtain ⟨hstill, hreasons⟩ := still_of_tables (s := s) (v := v) (htk'.trans htk) fun m => (hstate m).trans (congrArg Link.state (hlink m))
  rw [finish_of_still hstill (talkSettled_of_same hreasons (congrArg Tk.routes (htk'.trans htk)) hset)]
  obtain ⟨-, hd, ht, -⟩ := tallyFields_eq (tallyFields_of_same (keeps_after v .tallies (by decide)) l)
  refine ⟨hd.trans hdelivered, fun hsome => ?_⟩
  rw [ht] at hsome
  obtain hnone | ⟨y, hy, hynew⟩ := horder
  · exact Option.some_ne_none x (hsome.symm.trans hnone)
  · obtain rfl := Option.some.inj (hsome.symm.trans hy)
    omega

omit hn hsound ho in
/-- The end of an event leaves the contents acknowledged. -/
theorem lampAcked_finish (s0 s1 : State) (y : Nat) : ((finish s0 s1).station y).lampAcked = (s1.station y).lampAcked := by
  have hafter : (finish s0 s1).tk = (tkAfterFor none s0 s1).tk := keeps_after _ .tk (by decide)
  have hquiet : ((tkAfterFor none s0 s1).station y).lampAcked = (s1.resettle.station y).lampAcked :=
    (congrArg Station.lampAcked ((quiet_tkAfterFor none s0 s1).station y) :)
  exact (congrArg (fun k : Tk => (slot Station.undefined k.stations y).lampAcked) hafter).trans (hquiet.trans (by rw [resettle_station]))

omit hn hsound ho in
/-- Acknowledged contents are the station's. -/
theorem shows_past_ack (hs : s.shaped) {y : Nat} {lit : LampContents} (hi : o.issuer = .tkLamp y) (hy : 1 ≤ y) (hy' : y ≤ 24)
    (hlamp : (s.station y).lampOrder = some (o.id, lit)) :
    ((finish s (orderAcked o (s.freed a n))).station y).lampAcked = some lit := by
  obtain ⟨-, -, -, -, -, -, -, -, -, -, -, hstations, -⟩ := hs
  have htk : (s.freed a n).tk = s.tk := keeps_freed s a n .tk (by decide)
  have hstep : orderAcked o (s.freed a n) = tkAcked (.tkLamp y) o.id (s.freed a n) := by rw [orderAcked, hi]
  have hstation : (s.freed a n).station y = s.station y := by rw [State.station, htk]; rfl
  rw [lampAcked_finish, hstep]
  exact lampAcked_takes hy (by rw [htk, hstations]; exact hy') (hstation ▸ hlamp)

end acked

/-! ## One key event (R134) -/

/-- A REPORT of one key event alone, of a station whose steps are taken. -/
theorem report_keys {s : State} {bs : List Byte} {r : Report} {x : KeyReport} {l y : Nat} (hset : s.talkSettled) (hm : s.mode = .run)
    (hread : readReport bs = some r) (hacks : r.acks = []) (hsamples : r.samples = []) (hkeys : r.keys = [x])
    (hl : s.linkAt r.unit x.channel = some l) (hst : (s.link l).cfg.station = some y) (hx : 1 ≤ x.key) (hx' : x.key ≤ 8)
    (howed : ∀ o ∈ keySteps y x.key, o ∉ s.owed) :
    exec (.report bs) s = .next (if ((after s).station y).kind = some .linked then
      finishKey ((after s).keyAsks y x.key x.down) (after s) (pressKey y x.key x.down (after s)) else after s) := by
  have hstation (t : State) (h : Part.links.same s t) : t.keyStation r.unit x = some y := by
    have hcfg : (t.link l).cfg = (s.link l).cfg := (congrArg Link.cfg (linkCore_of_same h l) :)
    rw [State.keyStation, if_pos ⟨hx, hx'⟩, linkAt_of_same h, hl, Option.bind_some, hcfg, hst]
  have hsteps : ∀ o ∈ s.reportSteps r, o ∉ s.owed := by
    intro o ho
    rw [State.reportSteps, hsamples, hkeys, List.flatMap_singleton, hstation s rfl] at ho
    exact howed o ho
  have hnone : acknowledgeAll r.unit [] s = s := rfl
  rw [exec_report hread, acceptReport_run hm hsteps, hacks, hsamples, hkeys, hnone, List.foldl_nil, List.foldl_cons, List.foldl_nil,
    finish_of_still (.refl s) hset, reportKey, hstation _ (keeps_after s .links (by decide))]

/-- The table of stations keeps its size. -/
theorem length_stations_of_change {wide : Reach} {s t : State} (hc : Change wide s t) : t.tk.stations.length = s.tk.stations.length := by
  cases hc with
  | issue a body i => exact (quiet_issue s a body i).length_stations
  | free a n f _ _ => exact congrArg (fun k : Tk => k.stations.length) (keeps_grant a n _ .tk (by decide))
  | tk k h _ _ => exact h.stations
  | _ => rfl

theorem length_stations_of_acts {wide : Reach} {s t : State} (h : Acts wide s t) : t.tk.stations.length = s.tk.stations.length := by
  induction h with
  | refl => rfl
  | tail _ hc ih => exact (length_stations_of_change hc).trans ih

/-- A REPORT of one key event alone, of a LINKED station. -/
theorem key_event_does {s : State} {y n : Nat} {down : Bool} {k : Key} (hstations : s.tk.stations.length = 24) (hy : 1 ≤ y) (hy' : y ≤ 24)
    (hkind : (s.station y).kind = some .linked) (hk : (s.station y).key n = some k) :
    let t := finishKey (s.keyAsks y n down) s (pressKey y n down s)
    ((t.station y).key n).map Key.pressed = some down ∧
    (k.pressed ≠ down → LampIdle y s →
      (∃ m, (s.station y).link = some m ∧ ((s.link m).state = .locked ∨ (s.link m).state = .fading)) →
      LampTold y (t.lampContents y) (framePlus s.now 1) t) ∧ KeepsBut tailParts s t := by
  intro t
  have hpress : KeepsBut issueParts s (pressKey y n down s) := keeps_pressKey y n down s
  have hpressed := (pressed_finishKey (x := y) (n := n) (s.keyAsks y n down) s (pressKey y n down s)).trans (pressed_pressKey hk)
  have hframe : KeepsBut tailParts s t :=
    (hpress.mono (by decide)).trans ((keeps_tkAfterFor _ s _).andThen (keeps_after _) (by decide) (by decide))
  refine ⟨hpressed, fun hnew hidle hlink => ?_, hframe⟩
  have hasks : s.keyAsks y n down = some y := by
    rw [State.keyAsks, hk]
    exact if_neg hnew
  have hheld : LampHeld y s (pressKey y n down s) := .pressKey y n down s
  have hlen : (pressKey y n down s).tk.stations.length = 24 :=
    (length_stations_of_acts (acts_pressKey (wide := .full) rfl y n down s)).trans hstations
  have htold : LampTold y ((tkAfterFor (some y) s (pressKey y n down s)).lampContents y) (framePlus (pressKey y n down s).now 1)
      (tkAfterFor (some y) s (pressKey y n down s)) := by
    obtain ⟨m, hm, hservice⟩ := hlink
    have hstate : ((pressKey y n down s).link m).state = (s.link m).state :=
      (congrArg Link.state (linkCore_of_same (hpress .links (by decide)) m) :)
    exact lampTold_tkAfter hlen hy hy' (hheld.idle hidle) (hheld.kind.trans hkind) ⟨m, hheld.link.trans hm, by rw [hstate]; exact hservice⟩
  rw [hheld.now] at htold
  have htk : t.tk = (tkAfterFor (some y) s (pressKey y n down s)).tk := by
    show (finishKey _ s _).tk = _
    rw [hasks]
    exact keeps_after _ .tk (by decide)
  have hlinks : Part.links.same (tkAfterFor (some y) s (pressKey y n down s)) t := by
    show Part.links.same _ (finishKey _ s _)
    rw [hasks]
    exact keeps_after _ .links (by decide)
  generalize tkAfterFor (some y) s (pressKey y n down s) = u at htold htk hlinks
  have hstation : t.station y = u.station y := by rw [State.station, htk]; rfl
  have hstill := (still_of_tables (s := u) (v := t) htk fun m => (congrArg Link.state (linkCore_of_same hlinks m) :)).1
  rw [hstill.lamps y]
  unfold LampTold
  rwa [hstation]

/-- Settles O53. -/
theorem reportsTaken : Obligations.ReportsTaken := by
  refine ⟨fun s bs hnone => ?_, fun s bs r hread hm => ?_, fun s bs r n hs hsound hset hread hacks hsamples hkeys => ?_,
    fun s bs r x l y k hs hset hm hread hacks hsamples hkeys hl hst hy hy' hx hx' hk howed => ?_,
    fun s bs r hread hm => report_takes_steps_first hread hm, fun s bs only r hread hm howed honly => report_in_parts hread hm howed honly,
    fun s bs u hm hrest => ⟨fun x hread howed => ?_, fun x hread howed => ?_⟩⟩
  · show execReport bs s = _
    rw [execReport, hnone]
  · have hstandby : ¬ s.mode = .run := by rw [hm]; exact Mode.noConfusion
    rw [exec_report hread, acceptReport, if_neg hstandby, takeReport, if_neg hstandby]
  · intro u
    have hframe : KeepsBut tailParts s (finish s (acknowledge r.unit s n)) :=
      ((keeps_acknowledge r.unit s n).mono (by decide)).trans (keeps_finishTail _ _)
    refine ⟨_, report_acknowledges hread hacks hsamples hkeys, fun o ho hn => ?_, fun hno => ?_, hframe⟩
    · rw [acknowledge_known hsound ho hn]
      exact ⟨fun x hx => (gone_past_ack hsound ho hn).not_mem hx, fun x hx hne hd => holds_past_ack hsound ho hn hx hne hd,
        fun w hw hd => grants_past_ack hsound ho hw hd, fun l x hi hl hl' hx hid => delivers_past_ack hsound ho hs hset hi hl hl' hx hid,
        fun y lit hi hy hy' hlamp => shows_past_ack hs hi hy hy' hlamp⟩
    · rw [acknowledge_unknown (List.find?_eq_none.2 fun o ho h => hno o ho (of_decide_eq_true h)), finish_of_still (.refl s) hset]
      exact keeps_after s
  · have hafter := keeps_after s
    have htk : (after s).tk = s.tk := hafter .tk (by decide)
    have hstation : (after s).station y = s.station y := by rw [State.station, htk]; rfl
    obtain ⟨-, -, -, -, -, -, -, -, -, -, -, hstations, -⟩ := hs
    have hlen : (after s).tk.stations.length = 24 := by rw [htk, hstations]; rfl
    have hstate (m : Nat) : ((after s).link m).state = (s.link m).state :=
      (congrArg Link.state (linkCore_of_same (hafter .links (by decide)) m) :)
    have hnow : (after s).now = s.now := congrArg Ftb.counter (hafter .ftb (by decide))
    refine ⟨_, report_keys hset hm hread hacks hsamples hkeys hl hst hx hx' howed, ?_⟩
    rw [hstation]
    by_cases hkind : (s.station y).kind = some .linked
    · rw [if_pos hkind]
      obtain ⟨hpressed, htold, hframe⟩ := key_event_does (down := x.down) hlen hy hy' (hstation ▸ hkind) (hstation ▸ hk)
      rw [LampIdle, hstation] at htold
      rw [hnow] at htold
      refine ⟨fun _ => hpressed, fun _ hnew ho hr hlink => htold hnew ⟨ho, hr⟩ ?_, fun h => absurd hkind h,
        (hafter.mono (by decide)).trans hframe⟩
      obtain ⟨m, hm, hservice⟩ := hlink
      exact ⟨m, hm, by rw [hstate]; exact hservice⟩
    · rw [if_neg hkind]
      exact ⟨fun h => absurd h hkind, fun h => absurd h hkind, fun _ => hafter, hafter.mono (by decide)⟩
  · have hall : acknowledgeAll u [] s = s := rfl
    rw [exec_report hread, acceptReport_run hm howed]
    dsimp only [List.foldl_cons, List.foldl_nil]
    rw [hall, hrest]
  · have hall : acknowledgeAll u [] s = s := rfl
    rw [exec_report hread, acceptReport_run hm howed]
    dsimp only [List.foldl_cons, List.foldl_nil]
    rw [hall, hrest]

end Sys2Proof.Machine

/-! What stands along an action of the Talk Router: the actions issue orders one by one, and tell the overflows at their end (R127). -/

namespace Sys2Proof.Machine

-- One theorem at a time: all at once, their threads together outgrow the memory limit of the check.
set_option Elab.async false

/-! ## Properties that stand along an action -/

/-- A property holds along an action, and the orders that wait to be reported are of a sort. -/
structure Along (I : State → Prop) (ok : Issuer → Prop) (x : Acting) : Prop where
  now : I x.1
  told : ∀ f ∈ x.2, ok f.1

/-- No order is due in the frame of its issue (R126). -/
theorem framePlus_ne (n : FrameNo) {k : Nat} (hk : 1 ≤ k) (hk' : k ≤ 50) : framePlus n k ≠ n := by
  intro h
  have hnat := congrArg BitVec.toNat h
  simp only [framePlus, BitVec.toNat_add, BitVec.toNat_ofNat] at hnat
  omega

/-- Neither the issue of an order nor the failure of an order of the sort breaks the property. -/
structure Lets (I : State → Prop) (ok : Issuer → Prop) : Prop where
  issue : ∀ (a : Nat) (body : OrderBody) (i : Issuer) (s : State), body.deadline s.now ≠ s.now → I s → I (issue a body i s).state
  failed : ∀ (i : Issuer) (id : Nat) (s : State), ok i → I s → I (tkFailed i id s)

namespace Along
variable {I : State → Prop} {ok : Issuer → Prop} {x : Acting}

theorem start {s : State} (h : I s) : Along I ok (s, []) := ⟨h, fun _ hf => absurd hf List.not_mem_nil⟩

theorem tkIssue (h : Along I ok x) (k : Lets I ok) {a : Nat} {body : OrderBody} {i : Issuer} {record : Nat → State → State} (hi : ok i)
    (hrecord : I (issue a body i x.1).state → I (record x.1.nextOrderId (issue a body i x.1).state))
    (hb : body.deadline x.1.now ≠ x.1.now := by exact framePlus_ne _ (by decide) (by decide)) :
    Along I ok (tkIssue a body i record x) := by
  have hkept : I (record (issue a body i x.1).id (issue a body i x.1).state) := by
    rw [issue_id]
    exact hrecord (k.issue a body i x.1 hb h.now)
  unfold Machine.tkIssue
  refine ⟨hkept, fun f hf => ?_⟩
  dsimp only at hf
  split at hf
  · rcases List.mem_append.1 hf with hf | hf
    · exact h.told f hf
    · rw [List.mem_singleton.1 hf]
      exact hi
  · exact h.told f hf

theorem foldl {α : Type} {f : Acting → α → Acting} (as : List α) (hf : ∀ x, ∀ a ∈ as, Along I ok x → Along I ok (f x a))
    (h : Along I ok x) : Along I ok (as.foldl f x) := by
  induction as generalizing x with
  | nil => exact h
  | cons a as ih => exact ih (fun x b hb => hf x b (List.mem_cons_of_mem a hb)) (hf x a List.mem_cons_self h)

theorem reported (h : Along I ok x) (k : Lets I ok) : I (reported x) := by
  obtain ⟨s, fs⟩ := x
  obtain ⟨hs, hfs⟩ := h
  show I (fs.foldl _ s)
  induction fs generalizing s with
  | nil => exact hs
  | cons f fs ih =>
    exact ih _ (k.failed f.1 f.2 s (hfs f List.mem_cons_self) hs) fun g hg => hfs g (List.mem_cons_of_mem f hg)

end Along

/-- A property that no order of the Talk Router and no settling breaks. -/
structure Rides (I : State → Prop) : Prop where
  lets : Lets I fun _ => True
  orderBreak : ∀ (a d : Nat) (x : Acting), Along I (fun _ => True) x → Along I (fun _ => True) (orderBreak a d x)
  orderMake : ∀ (a d : Nat) (x : Acting), Along I (fun _ => True) x → Along I (fun _ => True) (orderMake a d x)
  orderDim : ∀ (t depth : Nat) (x : Acting), Along I (fun _ => True) x → Along I (fun _ => True) (orderDim t depth x)
  orderLamp : ∀ (t : Nat) (x : Acting), Along I (fun _ => True) x → Along I (fun _ => True) (orderLamp t x)
  settled : ∀ s, I s → I s.resettle

namespace Rides
variable {I : State → Prop} (k : Rides I) {x : Acting}
include k

theorem crosspoints (h : Along I (fun _ => True) x) (before : List Route) (d : Nat) :
    Along I (fun _ => True) (crosspoints before x d) :=
  (h.foldl _ fun y a _ hy => k.orderBreak a d y hy).foldl _ fun y a _ hy => k.orderMake a d y hy

theorem dims (h : Along I (fun _ => True) x) (before : List Route) (t : Nat) : Along I (fun _ => True) (dims before x t) := by
  unfold Machine.dims
  dsimp only
  split
  · exact k.orderDim t _ x h
  · exact h

theorem lamps (h : Along I (fun _ => True) x) (asked : Option Nat) (s0 : State) (t : Nat) : Along I (fun _ => True) (lamps asked s0 x t) := by
  unfold Machine.lamps
  split
  · exact k.orderLamp t x h
  · exact h

theorem redim (h : Along I (fun _ => True) x) (t : Nat) : Along I (fun _ => True) (redim x t) := by
  unfold Machine.redim
  dsimp only
  split
  · exact k.orderDim t _ x h
  · exact h

/-- So it stands at the end of the event. -/
theorem tkAfterFor {s : State} (asked : Option Nat) (s0 : State) (h : I s) : I (tkAfterFor asked s0 s) := by
  have hsettled := k.settled s h
  unfold Machine.tkAfterFor
  generalize s.resettle = u at hsettled ⊢
  have hcross : Along I (fun _ => True) ((oneUpTo Config.stations).foldl (Machine.crosspoints s0.tk.routes) (u, [])) :=
    .foldl _ (fun x d _ hx => k.crosspoints hx s0.tk.routes d) (.start hsettled)
  have hdims := hcross.foldl (f := Machine.dims s0.tk.routes) (oneUpTo Config.stations) fun x t _ hx => k.dims hx s0.tk.routes t
  have hlamps := hdims.foldl (f := Machine.lamps asked s0) (oneUpTo Config.stations) fun x t _ hx => k.lamps hx asked s0 t
  exact hlamps.reported k.lets

end Rides

/-! ## The pairs of the break list (R177) -/

/-- Every pair of the break list is of a sort, under orders that come after one. -/
def Breaks (P : Break → Prop) (id : Nat) (s : State) : Prop := id < s.nextOrderId ∧ ∀ b ∈ s.tk.breaks, P b

section breaks
variable {P : Break → Prop} {id : Nat} {s : State}

theorem Breaks.same {t : State} (h : Breaks P id s) (hn : t.nextOrderId = s.nextOrderId) (hb : t.tk.breaks = s.tk.breaks) : Breaks P id t := by
  rw [Breaks, hn, hb]
  exact h

/-- A break may be ordered anew for a pair. -/
def MayBreak (P : Break → Prop) (id a d : Nat) : Prop := ∀ i, id < i → ∀ b : Break, b.source = a → b.destination = d → P { b with order := some i }

theorem breaks_joinBreak {a d i : Nat} (h : Breaks P id s) (hnew : MayBreak P id a d) (hi : id < i) : Breaks P id (joinBreak a d i s) := by
  obtain ⟨hid, hall⟩ := h
  have hpair : P { source := a, destination := d, order := some i } := hnew i hi { source := a, destination := d, order := some i } rfl rfl
  unfold joinBreak
  dsimp only
  split
  · refine ⟨hid, fun b hb => ?_⟩
    obtain ⟨c, hc, rfl⟩ := List.mem_map.1 hb
    split
    next hsame =>
      simp only [Bool.and_eq_true, decide_eq_true_eq] at hsame
      exact hnew i hi c hsame.1 hsame.2
    next => exact hall c hc
  · split
    next b rest hbreaks =>
      split
      · refine ⟨hid, fun c hc => ?_⟩
        rcases List.mem_append.1 hc with hc | hc
        · exact hall c hc
        · rw [List.mem_singleton.1 hc]; exact hpair
      · refine ⟨hid, fun c hc => ?_⟩
        rcases List.mem_append.1 hc with hc | hc
        · exact hall c (hbreaks ▸ List.mem_cons_of_mem b hc)
        · rw [List.mem_singleton.1 hc]; exact hpair
    · exact ⟨hid, fun c hc => by rw [List.mem_singleton.1 hc]; exact hpair⟩

theorem lets_breaks (hnone : ∀ b : Break, P b → P { b with order := none }) : Lets (Breaks P id) fun _ => True where
  issue a body i s _ h := ⟨by rw [issue_nextOrderId]; exact Nat.lt_succ_of_lt h.1, by rw [(issue_tables a body i s).2]; exact h.2⟩
  failed i id' s _ h := by
    unfold tkFailed
    split
    · split
      · exact h
      · exact h
    · refine ⟨h.1, fun b hb => ?_⟩
      obtain ⟨c, hc, rfl⟩ := List.mem_map.1 hb
      split
      · exact hnone c (h.2 c hc)
      · exact h.2 c hc
    · split
      · exact h
      · exact h
    · exact h.same (keeps_lampFailed _ _ s .orderIds (by decide)) (lampFailed_tables _ _ s).2
    · exact h

variable (hnone : ∀ b : Break, P b → P { b with order := none }) {x : Acting} (h : Along (Breaks P id) (fun _ => True) x)
include hnone h

theorem breaks_orderBreak {a d : Nat} (hnew : MayBreak P id a d) : Along (Breaks P id) (fun _ => True) (orderBreak a d x) :=
  h.tkIssue (lets_breaks hnone) trivial fun hs => breaks_joinBreak hs hnew h.now.1

theorem breaks_orderMake (a d : Nat) : Along (Breaks P id) (fun _ => True) (orderMake a d x) :=
  h.tkIssue (lets_breaks hnone) trivial fun hs => ⟨hs.1, fun b hb => hs.2 b (List.mem_filter.1 hb).1⟩

theorem breaks_orderDim (t depth : Nat) : Along (Breaks P id) (fun _ => True) (orderDim t depth x) :=
  h.tkIssue (lets_breaks hnone) trivial fun hs => hs

theorem breaks_orderLamp (t : Nat) : Along (Breaks P id) (fun _ => True) (orderLamp t x) := by
  unfold orderLamp
  dsimp only
  split
  · exact h.tkIssue (lets_breaks hnone) trivial fun hs => hs
  · exact h

theorem breaks_redim (t : Nat) : Along (Breaks P id) (fun _ => True) (redim x t) := by
  unfold redim
  dsimp only
  split
  · exact breaks_orderDim hnone h t _
  · exact h

omit h

/-- The event of a matrix report breaks again pairs of the list alone. -/
theorem breaks_matrixEvent (h : Breaks P id s) (hnew : ∀ b ∈ s.tk.breaks, b.order = none → MayBreak P id b.source b.destination) :
    Breaks P id (matrixEvent s) := by
  have hmakes : Along (Breaks P id) (fun _ => True) ((failedMakes s.tk.routes).foldl (fun x p => orderMake p.1 p.2 x) (s, [])) :=
    .foldl _ (fun x p _ hx => breaks_orderMake hnone hx p.1 p.2) (.start h)
  have hbreaks := hmakes.foldl (f := fun x b => orderBreak b.source b.destination x) (s.tk.breaks.filter fun b => b.order.isNone)
    fun x b hb hx => breaks_orderBreak hnone hx (hnew b (List.mem_filter.1 hb).1 (Option.isNone_iff_eq_none.1 (List.mem_filter.1 hb).2))
  have hdims := hbreaks.foldl (f := redim) (oneUpTo Config.stations) fun x t _ hx => breaks_redim hnone hx t
  exact hdims.reported (lets_breaks hnone)

theorem rides_breaks (hnew : ∀ a d, MayBreak P id a d) : Rides (Breaks P id) where
  lets := lets_breaks hnone
  orderBreak a d _ h := breaks_orderBreak hnone h (hnew a d)
  orderMake a d _ h := breaks_orderMake hnone h a d
  orderDim t depth _ h := breaks_orderDim hnone h t depth
  orderLamp t _ h := breaks_orderLamp hnone h t
  settled s h := by
    rw [State.resettle]
    exact h.same (State.modTk_nextOrderId ..) (by rw [State.modTk_tk])

end breaks

/-! ## A route whose make stands (R176) -/

section route
variable {r : Route} {x : Acting}

def HasRoute (r : Route) (s : State) : Prop := r ∈ s.tk.routes

/-- An issuer that makes no other order of the route. -/
def Issuer.spares (r : Route) (i : Issuer) : Prop := i ≠ .tkMake r.source r.destination

theorem lets_route (r : Route) : Lets (HasRoute r) (Issuer.spares r) where
  issue a body i s _ h := by rw [HasRoute, (issue_tables a body i s).1]; exact h
  failed i id s hi h := by
    unfold tkFailed
    split
    next a d =>
      split
      · refine List.mem_map.2 ⟨r, h, if_neg fun hj => hi ?_⟩
        simp only [Route.joins, Bool.and_eq_true, decide_eq_true_eq] at hj
        rw [hj.1, hj.2]
      · exact h
    next => exact h
    next =>
      split
      · exact h
      · exact h
    next => rw [HasRoute, (lampFailed_tables _ _ s).1]; exact h
    next => exact h

theorem joinBreak_routes (a d i : Nat) (s : State) : (joinBreak a d i s).tk.routes = s.tk.routes := by
  unfold joinBreak
  dsimp only
  split
  · rfl
  · split
    · split <;> rfl
    · rfl

/-- The makes of other pairs, and breaks and DIMs, leave it. -/
theorem route_matrixEvent {s : State} (h : HasRoute r s) (hmakes : (r.source, r.destination) ∉ failedMakes s.tk.routes) :
    HasRoute r (matrixEvent s) := by
  have hstart : Along (HasRoute r) (Issuer.spares r) (s, []) := .start h
  have hmade := hstart.foldl (f := fun x p => orderMake p.1 p.2 x) (failedMakes s.tk.routes) fun x p hp hx => by
    refine hx.tkIssue (lets_route r) (fun hi => ?_) fun hs => ?_
    · obtain ⟨hs, hd⟩ := Issuer.tkMake.inj hi
      exact hmakes (by rw [← hs, ← hd]; exact hp)
    · refine List.mem_map.2 ⟨r, hs, if_neg fun hj => hmakes ?_⟩
      simp only [Route.joins, Bool.and_eq_true, decide_eq_true_eq] at hj
      rw [hj.1, hj.2]
      exact hp
  have hbroken := hmade.foldl (f := fun x b => orderBreak b.source b.destination x) (s.tk.breaks.filter fun b => b.order.isNone)
    fun x b _ hx => hx.tkIssue (lets_route r) Issuer.noConfusion fun hs => by
      rw [HasRoute, joinBreak_routes]
      exact hs
  have hdims := hbroken.foldl (f := redim) (oneUpTo Config.stations) fun x t _ hx => by
    unfold redim
    dsimp only
    split
    · have hdim : Issuer.spares r (.tkDim t) := fun h => by cases h
      exact hx.tkIssue (lets_route r) hdim fun hs => hs
    · exact hx
  exact hdims.reported (lets_route r)

end route

end Sys2Proof.Machine

/-! MATRIX_REPORT: an acknowledged make or break (R129, R135, R176, R177), and the event that ends where the Talk Router stands settled. -/

namespace Sys2Proof.Machine

-- One theorem at a time: all at once, their threads together outgrow the memory limit of the check.
set_option Elab.async false

/-! ## The makes that go out again (R176) -/

theorem mem_failedMakes {a d : Nat} {rs : List Route} : (a, d) ∈ failedMakes rs ↔
    (1 ≤ d ∧ d ≤ 24) ∧ (1 ≤ a ∧ a ≤ 24) ∧ rs.any (fun r => r.joins a d && r.live && decide (r.make = some .failed)) = true := by
  rw [failedMakes, List.mem_flatMap]
  constructor
  · rintro ⟨d', hd', h⟩
    obtain ⟨a', ha', heq⟩ := List.mem_filterMap.1 h
    split at heq
    next hany =>
      obtain ⟨rfl, rfl⟩ := Prod.mk.inj (Option.some.inj heq)
      exact ⟨mem_oneUpTo.1 hd', mem_oneUpTo.1 ha', hany⟩
    next => cases heq
  · rintro ⟨hd, ha, hany⟩
    exact ⟨d, mem_oneUpTo.2 hd, List.mem_filterMap.2 ⟨a, mem_oneUpTo.2 ha, if_pos hany⟩⟩

theorem livePair_of_failedMakes {s : State} (hs : s.PairsOnce) {p : Nat × Nat} (hp : p ∈ failedMakes s.tk.routes) : s.LivePair p.1 p.2 := by
  obtain ⟨-, -, hany⟩ := mem_failedMakes.1 hp
  obtain ⟨r, hr, hok⟩ := List.any_eq_true.1 hany
  exact livePair_of_any hs (List.any_eq_true.2 ⟨r, hr, ((Bool.and_eq_true _ _).mp hok).1⟩)

theorem calm_orderMakes (ps : List (Nat × Nat)) (x : Acting) (hps : ∀ p ∈ ps, x.1.LivePair p.1 p.2) :
    Calm x.1 (ps.foldl (fun x p => orderMake p.1 p.2 x) x).1 := by
  induction ps generalizing x with
  | nil => exact .refl x.1
  | cons p ps ih =>
    have hstep : Calm x.1 (orderMake p.1 p.2 x).1 := calm_orderMake p.1 p.2 x (hps p List.mem_cons_self)
    exact hstep.trans (ih _ fun q hq => hstep.toQuiet.livePair (hps q (List.mem_cons_of_mem p hq)))

theorem calm_redim (x : Acting) (t : Nat) : Calm x.1 (redim x t).1 := by
  unfold redim
  dsimp only
  split
  · exact calm_orderDim t _ x
  · exact .refl _

theorem calm_orderBreaks (bs : List Break) (x : Acting) :
    Calm x.1 (bs.foldl (fun x b => orderBreak b.source b.destination x) x).1 := by
  induction bs generalizing x with
  | nil => exact .refl x.1
  | cons b bs ih => exact (calm_orderBreak b.source b.destination x).trans (ih _)

theorem calm_redims (ts : List Nat) (x : Acting) : Calm x.1 (ts.foldl redim x).1 := .foldActs redim calm_redim ts x

theorem calm_matrixOrders (ps : List (Nat × Nat)) (bs : List Break) (ts : List Nat) (x : Acting) (hps : ∀ p ∈ ps, x.1.LivePair p.1 p.2) :
    Calm x.1 (ts.foldl redim (bs.foldl (fun x b => orderBreak b.source b.destination x) (ps.foldl (fun x p => orderMake p.1 p.2 x) x))).1 := by
  have h1 := calm_orderMakes ps x hps
  have h2 := calm_orderBreaks bs (ps.foldl (fun x p => orderMake p.1 p.2 x) x)
  have h3 := calm_redims ts (bs.foldl (fun x b => orderBreak b.source b.destination x) (ps.foldl (fun x p => orderMake p.1 p.2 x) x))
  exact (h1.trans h2).trans h3

/-- The event of a matrix report moves no WAITING route. -/
theorem calm_matrixEvent {s : State} (hs : s.PairsOnce) : Calm s (matrixEvent s) := by
  have hlive : ∀ p ∈ failedMakes s.tk.routes, s.LivePair p.1 p.2 := fun p hp => livePair_of_failedMakes hs hp
  have horders := calm_matrixOrders (failedMakes s.tk.routes) (s.tk.breaks.filter fun b => b.order.isNone) (oneUpTo Config.stations) (s, []) hlive
  exact horders.trans (calm_reported _)

/-- Where orders alone have been issued or have failed, the Talk Router has nothing to do at the end of the event. -/
theorem finish_of_calm {s v : State} (h : Calm s v) (hset : s.talkSettled) (hsound : s.routesSound) : finish s v = after v :=
  finish_of_still (.of_quiet h.toQuiet) ((atRest_of_talkSettled hsound hset).calm hsound h).talkSettled

/-! ## One acknowledgement of the matrix -/

section acked
variable {s : State} {n : Byte} {o : Order}

theorem exec_matrixReport {bs acks : List Byte} (howed : s.owed = []) (hread : readMatrixReport bs = some acks) :
    exec (.matrixReport bs) s = .next (finish s (matrixEvent (acknowledgeAll 31 acks s))) := by
  show execMatrixReport bs s = _
  simp only [execMatrixReport, event, settleOwed_of_nil s howed, hread]
  rfl

theorem quiet_freed (s : State) (a : Nat) (n : Byte) : Quiet s (s.freed a n) := by
  have hk := keeps_freed s a n
  exact .others (hk .mode (by decide)) (hk .ftb (by decide)) (hk .tr (by decide)) (hk .tk (by decide)) (by rw [State.freed, grant_links]; rfl)

/-- A break that is acknowledged leaves the list with its order (R177). -/
theorem orderAcked_break {a d : Nat} (hi : o.issuer = .tkBreak a d) (s : State) : orderAcked o s = s.modTk fun k =>
    { k with breaks := k.breaks.filter fun b => !(decide (b.source = a) && decide (b.destination = d) && decide (b.order = some o.id)) } := by
  rw [orderAcked, hi]
  rfl

/-- A make that is acknowledged stands CONFIRMED at its route (R176). -/
theorem orderAcked_make {a d : Nat} (hi : o.issuer = .tkMake a d) (s : State) : orderAcked o s = s.modTk fun k =>
    { k with routes := k.routes.map fun r =>
      if r.joins a d && r.live && decide (r.makeOrder = some o.id) then { r with make := some .confirmed } else r } := by
  rw [orderAcked, hi]
  rfl

theorem calm_acked_break {a d : Nat} (hi : o.issuer = .tkBreak a d) : Calm s (orderAcked o (s.freed 31 n)) := by
  have hfreed : Calm s (s.freed 31 n) := .of_routes (quiet_freed s 31 n) (congrArg Tk.routes (keeps_freed s 31 n .tk (by decide)))
  rw [orderAcked_break hi]
  exact hfreed.trans (.of_routes (quiet_modTk _ _ (hr := rfl) (hs := rfl)) rfl)

theorem calm_acked_make {a d : Nat} (hi : o.issuer = .tkMake a d) : Calm s (orderAcked o (s.freed 31 n)) := by
  have hfreed : Calm s (s.freed 31 n) := .of_routes (quiet_freed s 31 n) (congrArg Tk.routes (keeps_freed s 31 n .tk (by decide)))
  rw [orderAcked_make hi]
  refine hfreed.trans (calm_mapRoutes rfl rfl rfl rfl (fun r => by split <;> rfl) fun _ r _ hl => ?_)
  rw [hl, Bool.and_false, Bool.false_and]
  rfl

variable (hsound : s.unitsSound) (ho : o ∈ (s.unit 31).outstanding)
include hsound ho

theorem id_lt_of_outstanding : o.id < s.nextOrderId := by
  obtain ⟨-, -, -, hlt, -⟩ := (unitsSound_iff s).1 hsound
  have hmem := unit_mem (unitPlace_of_mem (List.mem_append_left (s.unit 31).waiting ho))
  exact hlt _ (List.mem_append_left _ (List.mem_flatMap.2 ⟨_, hmem, List.mem_map.2 ⟨o, List.mem_append_left _ ho, rfl⟩⟩))

/-- The pairs that the list keeps when a break is acknowledged. -/
theorem breaks_acked {a d : Nat} {P : Break → Prop} (hi : o.issuer = .tkBreak a d)
    (h : ∀ b ∈ s.tk.breaks, ¬ (b.source = a ∧ b.destination = d ∧ b.order = some o.id) → P b) :
    Breaks P o.id (orderAcked o (s.freed 31 n)) := by
  have hkeeps := keeps_freed s 31 n
  rw [orderAcked_break hi]
  refine ⟨?_, fun b hb => ?_⟩
  · rw [State.modTk_nextOrderId, show (s.freed 31 n).nextOrderId = s.nextOrderId from hkeeps .orderIds (by decide)]
    exact id_lt_of_outstanding hsound ho
  · rw [State.modTk_tk, show (s.freed 31 n).tk = s.tk from hkeeps .tk (by decide)] at hb
    obtain ⟨hmem, hno⟩ := List.mem_filter.1 hb
    refine h b hmem fun ⟨hs, hd, hord⟩ => ?_
    simp [hs, hd, hord] at hno

/-- No break of the acknowledged pair goes on under that order. -/
theorem break_order_gone {a d : Nat} (hi : o.issuer = .tkBreak a d) :
    ∀ b ∈ (finish s (matrixEvent (orderAcked o (s.freed 31 n)))).tk.breaks, b.source = a → b.destination = d → b.order ≠ some o.id := by
  let P (b : Break) : Prop := b.source = a → b.destination = d → b.order ≠ some o.id
  have hnone (b : Break) (_ : P b) : P { b with order := none } := fun _ _ h => by cases h
  have hnew (a' d' : Nat) : MayBreak P o.id a' d' := fun i hlt b _ _ _ _ h => Nat.ne_of_gt hlt (Option.some.inj h)
  have hacked : Breaks P o.id (orderAcked o (s.freed 31 n)) := breaks_acked hsound ho hi fun b _ h hs hd hord => h ⟨hs, hd, hord⟩
  have hevent := breaks_matrixEvent hnone hacked fun b _ _ => hnew _ _
  have hends := (rides_breaks hnone hnew).tkAfterFor none s hevent
  have htk : (finish s (matrixEvent (orderAcked o (s.freed 31 n)))).tk = (tkAfterFor none s (matrixEvent (orderAcked o (s.freed 31 n)))).tk :=
    keeps_after _ .tk (by decide)
  rw [htk]
  exact hends.2

/-- A pair whose break alone was ordered leaves the list. -/
theorem break_pair_gone {a d : Nat} (hi : o.issuer = .tkBreak a d) (hset : s.talkSettled) (hroutes : s.routesSound)
    (hall : ∀ b ∈ s.tk.breaks, b.source = a → b.destination = d → b.order = some o.id) :
    ∀ b ∈ (finish s (matrixEvent (orderAcked o (s.freed 31 n)))).tk.breaks, ¬ (b.source = a ∧ b.destination = d) := by
  let P (b : Break) : Prop := ¬ (b.source = a ∧ b.destination = d)
  have hacked : Breaks P o.id (orderAcked o (s.freed 31 n)) :=
    breaks_acked hsound ho hi fun b hb h hp => h ⟨hp.1, hp.2, hall b hb hp.1 hp.2⟩
  have hevent := breaks_matrixEvent (P := P) (fun _ h => h) hacked fun b hb _ i _ c hs hd hp => hacked.2 b hb ⟨hs.symm.trans hp.1, hd.symm.trans hp.2⟩
  have hcalm : Calm s (orderAcked o (s.freed 31 n)) := calm_acked_break hi
  have hevents := hcalm.trans (calm_matrixEvent (hcalm.toQuiet.pairsOnce hroutes.2.1))
  rw [finish_of_calm hevents hset hroutes, show (after _).tk = _ from keeps_after _ .tk (by decide)]
  exact hevent.2

omit hsound ho in
/-- A route whose make is acknowledged stands CONFIRMED. -/
theorem make_confirmed {a d : Nat} (hi : o.issuer = .tkMake a d) (hset : s.talkSettled) (hroutes : s.routesSound) {r : Route}
    (hr : r ∈ s.tk.routes) (hs : r.source = a) (hd : r.destination = d) (hl : r.live = true) (hm : r.makeOrder = some o.id) :
    { r with make := some .confirmed } ∈ (finish s (matrixEvent (orderAcked o (s.freed 31 n)))).tk.routes := by
  have hcalm : Calm s (orderAcked o (s.freed 31 n)) := calm_acked_make hi
  have honce := hcalm.toQuiet.pairsOnce hroutes.2.1
  have hevents := hcalm.trans (calm_matrixEvent honce)
  have hmem : ({ r with make := some .confirmed } : Route) ∈ (orderAcked o (s.freed 31 n)).tk.routes := by
    rw [orderAcked_make hi, State.modTk_tk, show (s.freed 31 n).tk = s.tk from keeps_freed s 31 n .tk (by decide)]
    refine List.mem_map.2 ⟨r, hr, if_pos ?_⟩
    simp [Route.joins, hs, hd, hl, hm]
  rw [finish_of_calm hevents hset hroutes, show (after _).tk = _ from keeps_after _ .tk (by decide)]
  refine route_matrixEvent (r := { r with make := some .confirmed }) hmem fun hfail => ?_
  obtain ⟨-, -, hany⟩ := mem_failedMakes.1 hfail
  obtain ⟨v, hv, hok⟩ := List.any_eq_true.1 hany
  simp only [Bool.and_eq_true, decide_eq_true_eq] at hok
  obtain ⟨⟨hj, -⟩, hfailed⟩ := hok
  have hsame : { r with make := some .confirmed } = v := Route.eq_of_joins honce hmem hv (by
    simp only [Route.joins, Bool.and_eq_true, decide_eq_true_eq] at hj ⊢
    exact ⟨hj.1.symm, hj.2.symm⟩)
  rw [← hsame] at hfailed
  cases hfailed

end acked

end Sys2Proof.Machine

/-! MATRIX_REPORT (O56): what its acknowledgements leave, and what goes out again (R176 to R178). -/

namespace Sys2Proof.Machine

-- One theorem at a time: all at once, their threads together outgrow the memory limit of the check.
set_option Elab.async false

/-! ## The orders that a unit may hold -/

/-- Every order of a unit is of a sort. -/
def AllOrders (Q : Order → Prop) (a : Nat) (s : State) : Prop := ∀ o ∈ (s.unit a).orders, Q o

namespace AllOrders
variable {Q : Order → Prop} {a : Nat} {s t : State}

theorem issues {ok : Issuer → Prop} (h : AllOrders Q a s) (k : Issues ok s t) (hok : ∀ o : Order, ok o.issuer → Q o) : AllOrders Q a t := by
  refine k.lasts (P := fun u => ∀ o ∈ u.orders, Q o) ⟨fun o u hi hu x hx => ?_, fun o u hi hu x hx => ?_, fun u hu x hx => ?_⟩ a h
  · simp only [UnitRec.orders, UnitRec.send, List.mem_append, List.mem_singleton] at hx
    obtain (hx | rfl) | hx := hx
    · exact hu x (List.mem_append_left _ hx)
    · exact hok _ hi
    · exact hu x (List.mem_append_right _ hx)
  · simp only [UnitRec.orders, List.mem_append, List.mem_singleton] at hx
    obtain hx | hx | rfl := hx
    · exact hu x (List.mem_append_left _ hx)
    · exact hu x (List.mem_append_right _ hx)
    · exact hok _ hi
  · refine hu x ?_
    rcases List.mem_append.1 hx with hx | hx
    · exact List.mem_append_left _ (List.eraseP_subset hx)
    · exact List.mem_append_right _ hx

theorem modUnit (h : AllOrders Q a s) (b : Nat) {f : UnitRec → UnitRec} (hf : ∀ u, (∀ o ∈ u.orders, Q o) → ∀ o ∈ (f u).orders, Q o) :
    AllOrders Q a (s.modUnit b f) := by
  unfold AllOrders
  obtain he | he := unit_modUnit_cases s b a f <;> rw [he]
  · exact h
  · exact hf _ h

/-- A granted place sends an order of the unit under a number. -/
theorem grant (hnum : ∀ (o : Order) (n : Option Byte), Q o → Q { o with number := n }) (n : Nat) (h : AllOrders Q a s) :
    AllOrders Q a (grant a n s) := by
  induction n generalizing s with
  | zero => exact h
  | succ n ih =>
    refine ih ?_
    unfold grantOne
    split
    · exact h
    · rename_i o ho
      have hQ : Q o := h o (List.mem_append_right _ (nextWaiting_mem ho))
      have herase := h.modUnit a (f := fun u => { u with waiting := u.waiting.eraseP fun w => decide (w.id = o.id) }) fun u hu x hx => by
        rcases List.mem_append.1 hx with hx | hx
        · exact hu x (List.mem_append_left _ hx)
        · exact hu x (List.mem_append_right _ (List.eraseP_subset hx))
      refine herase.modUnit o.address fun u hu x hx => ?_
      simp only [UnitRec.orders, UnitRec.send, List.mem_append, List.mem_singleton] at hx
      obtain (hx | rfl) | hx := hx
      · exact hu x (List.mem_append_left _ hx)
      · exact hnum o _ hQ
      · exact hu x (List.mem_append_right _ hx)

theorem freed (hnum : ∀ (o : Order) (n : Option Byte), Q o → Q { o with number := n }) (h : AllOrders Q a s) (n : Byte) :
    AllOrders Q a (s.freed a n) :=
  (h.modUnit a fun _ hu x hx => hu x ((drops_acked n _).orders.subset hx)).grant hnum 1

end AllOrders

/-! ## What acknowledgements leave -/

/-- No pair without a break has left the list, no route has joined or left LIVE, and no DIM's retry has changed. -/
structure AcksAlone (s t : State) : Prop where
  ftb : t.ftb = s.ftb
  units : t.units.length = s.units.length
  breaks : ∀ b ∈ s.tk.breaks, b.order = none → b ∈ t.tk.breaks
  routes : t.tk.routes.map Route.bare = s.tk.routes.map Route.bare
  dims : ∀ y, (t.station y).kind = (s.station y).kind ∧ (t.station y).dimDepth = (s.station y).dimDepth ∧
    (t.station y).dimRetry = (s.station y).dimRetry

/-- No DIM of the station is sent or fails. -/
def DimHeld (y : Nat) (v : Bool) (s : State) : Prop := (s.station y).dimRetry = v

theorem DimHeld.modStation {y : Nat} {v : Bool} {s : State} (h : DimHeld y v s) (t : Nat) (f : Station → Station)
    (hf : ∀ x, (f x).dimRetry = x.dimRetry := by exact fun _ => rfl) : DimHeld y v (s.modStation t f) :=
  (slot_modSlot_field Station.dimRetry _ f _ t y hf).trans h

theorem lets_dim (y : Nat) (v : Bool) : Lets (DimHeld y v) (· ≠ .tkDim y) := by
  have hlamp (t id : Nat) (s : State) (h : DimHeld y v s) : DimHeld y v (lampFailed t id s) := by
    unfold lampFailed
    split
    · split
      · exact h.modStation t _
      · exact h
    · exact h
  refine ⟨fun a body i s _ h => ?_, fun i id s hi h => ?_⟩
  · have hdisplaced (v' : Order) (s : State) (h : DimHeld y v s) : DimHeld y v (displaced v' s) := by
      unfold displaced
      split
      · rename_i l _
        have htk : (tallyFailed l v'.id s).tk = s.tk := keeps_tallyFailed l v'.id s .tk (by decide)
        rw [DimHeld, State.station, htk]
        exact h
      · exact hlamp _ _ s h
      · exact h
    obtain ⟨-, -, hr⟩ | ⟨-, -, -, hr⟩ | ⟨-, -, -, hr⟩ | ⟨-, -, -, v', -, hr⟩ := issue_cases a body i s <;> rw [hr]
    iterate 3 exact h
    exact hdisplaced v' _ h
  · unfold tkFailed
    split
    · split
      · exact h
      · exact h
    · exact h
    · rename_i t
      split
      · have hne : t ≠ y := fun he => hi (he ▸ rfl)
        exact (congrArg Station.dimRetry (slot_modSlot_other _ _ _ hne) :).trans h
      · exact h
    · exact hlamp _ _ s h
    · exact h

theorem dimRetry_lampTest (t y : Nat) (s : State) : ((lampTest t s).station y).dimRetry = (s.station y).dimRetry := by
  have hstart : Along (DimHeld y (s.station y).dimRetry) (· ≠ .tkDim y) (s, []) := .start rfl
  have hlamp : Along (DimHeld y (s.station y).dimRetry) (· ≠ .tkDim y) (orderLamp t (s, [])) := by
    unfold orderLamp
    dsimp only
    split
    · have hissuer : Issuer.tkLamp t ≠ .tkDim y := fun h => by cases h
      exact hstart.tkIssue (lets_dim y _) hissuer fun hs => hs.modStation t _
    · exact hstart
  exact hlamp.reported (lets_dim y _)

theorem Issues.length_units {ok : Issuer → Prop} {s t : State} (h : Issues ok s t) : t.units.length = s.units.length := by
  have hissue (a : Nat) (body : OrderBody) (i : Issuer) (s : State) : (Machine.issue a body i s).state.units.length = s.units.length := by
    obtain ⟨-, -, hr⟩ | ⟨-, -, -, hr⟩ | ⟨-, -, -, hr⟩ | ⟨-, -, -, v, -, hr⟩ := issue_cases a body i s <;> rw [hr]
    iterate 2 exact modSlot_length ..
    · rfl
    · refine (modSlot_length ..).trans ?_
      rw [displaced_units]
      exact modSlot_length ..
  induction h with
  | refl => rfl
  | tail _ hc ih =>
    cases hc with
    | units hu => rw [hu]; exact ih
    | issue a body i hi => exact (hissue a body i _).trans ih

namespace AcksAlone
variable {s t u : State}

theorem refl (s : State) : AcksAlone s s := ⟨rfl, rfl, fun _ h _ => h, rfl, fun _ => ⟨rfl, rfl, rfl⟩⟩

theorem trans (h : AcksAlone s t) (k : AcksAlone t u) : AcksAlone s u := by
  refine ⟨k.ftb.trans h.ftb, k.units.trans h.units, fun b hb ho => k.breaks b (h.breaks b hb ho) ho, k.routes.trans h.routes, fun y => ?_⟩
  obtain ⟨h1, h2, h3⟩ := h.dims y
  obtain ⟨k1, k2, k3⟩ := k.dims y
  exact ⟨k1.trans h1, k2.trans h2, k3.trans h3⟩

/-- Where the Talk Router's records stand. -/
theorem of_tk (hf : t.ftb = s.ftb) (hu : t.units.length = s.units.length) (htk : t.tk = s.tk) : AcksAlone s t := by
  have hstation (y : Nat) : t.station y = s.station y := by rw [State.station, htk]; rfl
  exact ⟨hf, hu, fun b hb _ => htk ▸ hb, by rw [htk], fun y => by rw [hstation]; exact ⟨rfl, rfl, rfl⟩⟩

theorem lampTest (y : Nat) (s : State) : AcksAlone s (lampTest y s) := by
  have hq := quiet_lampTest y s
  obtain ⟨-, hbreaks⟩ := lampTest_tables y s
  exact ⟨hq.ftb, (issues_lampTest y s).length_units, fun b hb _ => by rw [hbreaks]; exact hb, hq.routes, fun x =>
    ⟨(congrArg Station.kind (hq.station x) :), (congrArg Station.dimDepth (hq.station x) :), dimRetry_lampTest y x s⟩⟩

theorem orderAcked (o : Order) (s : State) : AcksAlone s (orderAcked o s) := by
  have hunits : (Machine.orderAcked o s).units.length = s.units.length := (issues_orderAcked o s).length_units
  have hftb : (Machine.orderAcked o s).ftb = s.ftb := keeps_orderAcked o s .ftb (by decide)
  cases hi : o.issuer with
  | tr l =>
    have hstep : Machine.orderAcked o s = tallyAcked l o.id s := by rw [Machine.orderAcked, hi]
    exact .of_tk hftb hunits (by rw [hstep]; exact (tallyAcked_tables l o.id s).1)
  | tkMake a d =>
    rw [orderAcked_make hi]
    refine ⟨rfl, rfl, fun b hb _ => hb, bare_mapRoutes (fun r => ?_) _, fun _ => ⟨rfl, rfl, rfl⟩⟩
    split <;> rfl
  | tkBreak a d =>
    rw [orderAcked_break hi]
    refine ⟨rfl, rfl, fun b hb ho => List.mem_filter.2 ⟨hb, ?_⟩, rfl, fun _ => ⟨rfl, rfl, rfl⟩⟩
    simp [ho]
  | tkLamp y =>
    have hstep : Machine.orderAcked o s = tkAcked (.tkLamp y) o.id s := by rw [Machine.orderAcked, hi]
    rw [hstep]
    simp only [tkAcked]
    split
    · rename_i m c _
      split
      · have hmod : AcksAlone s (s.modStation y fun k => { k with lampAcked := some c, lampOrder := none }) :=
          ⟨rfl, rfl, fun b hb _ => hb, rfl, fun x => ⟨slot_modSlot_field Station.kind _ _ _ y x fun _ => rfl,
            slot_modSlot_field Station.dimDepth _ _ _ y x fun _ => rfl, slot_modSlot_field Station.dimRetry _ _ _ y x fun _ => rfl⟩⟩
        exact hmod.trans (lampTest y _)
      · exact refl s
    · exact refl s
  | tkDim y => exact .of_tk hftb hunits (by rw [Machine.orderAcked, hi]; rfl)
  | _ => exact .of_tk hftb hunits (by rw [Machine.orderAcked, hi])

theorem freed (s : State) (a : Nat) (n : Byte) : AcksAlone s (s.freed a n) := by
  have hk := keeps_freed s a n
  have hgrant (m : Nat) (s : State) : (grant a m s).units.length = s.units.length := by
    induction m generalizing s with
    | zero => rfl
    | succ m ih => exact (ih _).trans (length_grantOne a s)
  exact .of_tk (hk .ftb (by decide)) ((hgrant 1 _).trans (modSlot_length ..)) (hk .tk (by decide))

theorem acknowledge (a : Nat) (s : State) (n : Byte) : AcksAlone s (acknowledge a s n) := by
  cases hf : (s.unit a).outstanding.find? (Order.carries n) with
  | none => rw [acknowledge_unknown hf]; exact refl s
  | some o => rw [acknowledge_eq hf]; exact (freed s a n).trans (orderAcked o _)

theorem acknowledgeAll (a : Nat) (ns : List Byte) (s : State) : AcksAlone s (acknowledgeAll a ns s) := by
  induction ns generalizing s with
  | nil => exact refl s
  | cons n ns ih => exact (acknowledge a s n).trans (ih _)

end AcksAlone

/-! ## A FAILED make that no acknowledgement meets (R176) -/

section unmet
variable {r : Route} {s : State}

/-- An order that does not make the route. -/
def Order.misses (r : Route) (o : Order) : Prop := o.issuer = .tkMake r.source r.destination → r.makeOrder ≠ some o.id

theorem route_orderAcked {o : Order} (h : HasRoute r s) (ho : o.misses r) : HasRoute r (orderAcked o s) := by
  cases hi : o.issuer with
  | tr l =>
    have hstep : orderAcked o s = tallyAcked l o.id s := by rw [orderAcked, hi]
    rw [HasRoute, hstep, (tallyAcked_tables l o.id s).1]
    exact h
  | tkMake a d =>
    rw [orderAcked_make hi]
    refine List.mem_map.2 ⟨r, h, if_neg fun hc => ?_⟩
    simp only [Route.joins, Bool.and_eq_true, decide_eq_true_eq] at hc
    obtain ⟨⟨⟨hs, hd⟩, -⟩, hm⟩ := hc
    exact ho (by rw [hi, hs, hd]) hm
  | tkBreak a d => rw [orderAcked_break hi]; exact h
  | tkLamp y =>
    have hstep : orderAcked o s = tkAcked (.tkLamp y) o.id s := by rw [orderAcked, hi]
    rw [hstep]
    simp only [tkAcked]
    split
    · split
      · rw [HasRoute, (lampTest_tables _ _).1]; exact h
      · exact h
    · exact h
  | _ => rw [orderAcked, hi]; exact h

/-- No acknowledgement changes such a route. -/
theorem route_acknowledgeAll (ns : List Byte) (h : HasRoute r s) (hall : AllOrders (Order.misses r) 31 s) :
    HasRoute r (acknowledgeAll 31 ns s) := by
  induction ns generalizing s with
  | nil => exact h
  | cons n ns ih =>
    show HasRoute r (acknowledgeAll 31 ns (acknowledge 31 s n))
    cases hf : (s.unit 31).outstanding.find? (Order.carries n) with
    | none =>
      rw [acknowledge_unknown hf]
      exact ih h hall
    | some o =>
      have hmiss : o.misses r := hall o (List.mem_append_left _ (List.mem_of_find?_eq_some hf))
      have hfreed : HasRoute r (s.freed 31 n) := by
        rw [HasRoute, show (s.freed 31 n).tk = s.tk from keeps_freed s 31 n .tk (by decide)]
        exact h
      rw [acknowledge_eq hf]
      refine ih (route_orderAcked hfreed hmiss) ((hall.freed (fun _ _ h => h) n).issues (issues_orderAcked o _) fun x hx hi => ?_)
      rw [hi] at hx
      exact absurd hx id

end unmet

end Sys2Proof.Machine

/-! MATRIX_REPORT (O56): every failed order of the matrix goes out again, or its unit is full. -/

namespace Sys2Proof.Machine

-- One theorem at a time: all at once, their threads together outgrow the memory limit of the check.
set_option Elab.async false

/-! ## An order sent or lost to a full unit -/

/-- The order is held, or the waiting list of its unit is full. -/
def Sent (a : Nat) (body : OrderBody) (i : Issuer) (s t : State) : Prop := Ordered a body i s t ∨ 32 ≤ (t.unit a).waiting.length

namespace Sent
variable {a : Nat} {body : OrderBody} {i : Issuer} {s s' t u : State}

theorem issues {ok : Issuer → Prop} (h : Sent a body i s t) (hd : ∀ o : Order, o.body = body → o.displaceable = false)
    (k : Issues ok t u) : Sent a body i s u :=
  h.imp (fun h => h.issues hd k) fun h => k.lasts (P := fun v => 32 ≤ v.waiting.length)
    ⟨fun _ _ _ h => h, fun _ _ _ h => (Nat.le_add_right_of_le h).trans_eq (List.length_append ..).symm, fun _ h => h⟩ a h

theorem of_now (h : Sent a body i s' t) (hn : s'.now = s.now) : Sent a body i s t := h.imp (fun h => h.of_now hn) id

/-- The issue of an order sends it, or finds the unit full. -/
theorem issue (hs : s.units.length = 25) (ha : a ∈ unitAddresses) (body : OrderBody) (i : Issuer) :
    Sent a body i s (issue a body i s).state := by
  refine (ordered_or_full hs ha body i).imp id fun ⟨hover, _⟩ => ?_
  obtain ⟨-, ho, -⟩ | ⟨-, -, ho, -⟩ | ⟨-, hw, -, hr⟩ | ⟨-, -, ho, -⟩ := issue_cases a body i s
  · exact absurd (ho.symm.trans hover) Bool.false_ne_true
  · exact absurd (ho.symm.trans hover) Bool.false_ne_true
  · rw [hr]
    exact hw
  · exact absurd (ho.symm.trans hover) Bool.false_ne_true

end Sent

/-- An order that one step of an action sends is held at the action's end. -/
theorem sent_in_fold {α : Type} {f : Acting → α → Acting} {I : State → Prop} {a : Nat} {body : OrderBody} {i : Issuer} {as : List α} {c : α}
    (hd : ∀ o : Order, o.body = body → o.displaceable = false) (hissues : ∀ x a, Issues Issuer.ofTalk x.1 (f x a).1)
    (hquiet : ∀ x a, Quiet x.1 (f x a).1) (hI : ∀ x, ∀ b ∈ as, b ≠ c → I x.1 → I (f x b).1) (hc : c ∈ as)
    (hsend : ∀ x, I x.1 → x.1.units.length = 25 → Sent a body i x.1 (f x c).1) {x : Acting} (h : I x.1) (hlen : x.1.units.length = 25) :
    Sent a body i x.1 (as.foldl f x).1 := by
  induction as generalizing x with
  | nil => cases hc
  | cons b as ih =>
    by_cases hb : b = c
    · subst hb
      exact (hsend x h hlen).issues hd (Issues.foldAct f hissues as (f x b))
    · refine (ih (fun y e he => hI y e (List.mem_cons_of_mem b he)) ((List.mem_cons.1 hc).resolve_left fun he => hb he.symm)
        (hI x b List.mem_cons_self hb h) ((hissues x b).length_units.trans hlen)).of_now ?_
      exact congrArg Ftb.counter (hquiet x b).ftb

theorem sent_tkIssue {a : Nat} {body : OrderBody} {i : Issuer} {record : Nat → State → State} (ha : a ∈ unitAddresses)
    (hd : ∀ o : Order, o.body = body → o.displaceable = false) (hrecord : ∀ id s, Issues Issuer.ofTalk s (record id s)) {x : Acting}
    (hlen : x.1.units.length = 25) : Sent a body i x.1 (tkIssue a body i record x).1 :=
  (Sent.issue hlen ha body i).issues hd (hrecord _ _)

theorem matrix_address : Config.matrixAddress ∈ unitAddresses := mem_unitAddresses.2 (.inr rfl)

theorem displaceable_crosspoint {c : Bool} {x y : Nat} (o : Order) (h : o.body = .crosspoint c x y) : o.displaceable = false := by
  rw [Order.displaceable, h]

theorem displaceable_dim {x y : Nat} (o : Order) (h : o.body = .dim x y) : o.displaceable = false := by
  rw [Order.displaceable, h]

theorem issues_redim (x : Acting) (t : Nat) : Issues Issuer.ofTalk x.1 (redim x t).1 := by
  unfold redim
  dsimp only
  split
  · exact issues_orderDim _ _ x
  · exact .refl _

/-! ## The event -/

section event
variable {s : State}

/-- The three kinds of order of the event, over any lists. -/
def matrixOrders (ps : List (Nat × Nat)) (bs : List Break) (ts : List Nat) (x : Acting) : Acting :=
  ts.foldl redim (bs.foldl (fun x b => orderBreak b.source b.destination x) (ps.foldl (fun x p => orderMake p.1 p.2 x) x))

theorem matrixEvent_eq (s : State) : matrixEvent s =
    reported (matrixOrders (failedMakes s.tk.routes) (s.tk.breaks.filter fun b => b.order.isNone) (oneUpTo Config.stations) (s, [])) := rfl

variable {ps : List (Nat × Nat)} {bs : List Break} {ts : List Nat} {x : Acting}

theorem issues_makes (ps : List (Nat × Nat)) (x : Acting) : Issues Issuer.ofTalk x.1 (ps.foldl (fun x p => orderMake p.1 p.2 x) x).1 := by
  induction ps generalizing x with
  | nil => exact .refl _
  | cons p ps ih => exact (issues_orderMake p.1 p.2 x).trans (ih _)

theorem issues_breaks (bs : List Break) (x : Acting) :
    Issues Issuer.ofTalk x.1 (bs.foldl (fun x b => orderBreak b.source b.destination x) x).1 := by
  induction bs generalizing x with
  | nil => exact .refl _
  | cons b bs ih => exact (issues_orderBreak b.source b.destination x).trans (ih _)

theorem quiet_makes (ps : List (Nat × Nat)) (x : Acting) : Quiet x.1 (ps.foldl (fun x p => orderMake p.1 p.2 x) x).1 := by
  induction ps generalizing x with
  | nil => exact .refl _
  | cons p ps ih => exact (quiet_orderMake p.1 p.2 x).trans (ih _)

theorem quiet_breaks (bs : List Break) (x : Acting) : Quiet x.1 (bs.foldl (fun x b => orderBreak b.source b.destination x) x).1 := by
  induction bs generalizing x with
  | nil => exact .refl _
  | cons b bs ih => exact (quiet_orderBreak b.source b.destination x).trans (ih _)

theorem issues_redims (ts : List Nat) (x : Acting) : Issues Issuer.ofTalk x.1 (ts.foldl redim x).1 := .foldAct redim issues_redim ts x

/-- A FAILED make goes out again. -/
theorem matrix_makes {a d : Nat} (hp : (a, d) ∈ ps) (hlen : x.1.units.length = 25) :
    Sent 31 (.crosspoint true a d) (.tkMake a d) x.1 (matrixOrders ps bs ts x).1 := by
  have hmake : Sent 31 (.crosspoint true a d) (.tkMake a d) x.1 (ps.foldl (fun x p => orderMake p.1 p.2 x) x).1 :=
    sent_in_fold (I := fun _ => True) (c := (a, d)) displaceable_crosspoint (fun x p => issues_orderMake p.1 p.2 x)
      (fun x p => quiet_orderMake p.1 p.2 x) (fun _ _ _ _ _ => trivial) hp
      (fun x _ hlen => sent_tkIssue matrix_address displaceable_crosspoint (fun _ s => issues_modTk s _) hlen) trivial hlen
  exact (hmake.issues displaceable_crosspoint (issues_breaks bs _)).issues displaceable_crosspoint (issues_redims ts _)

/-- A pair without a break is broken again. -/
theorem matrix_breaks {b : Break} (hb : b ∈ bs) (hlen : x.1.units.length = 25) :
    Sent 31 (.crosspoint false b.source b.destination) (.tkBreak b.source b.destination) x.1 (matrixOrders ps bs ts x).1 := by
  have hlen' := (issues_makes ps x).length_units.trans hlen
  have hnow : (ps.foldl (fun x p => orderMake p.1 p.2 x) x).1.now = x.1.now := congrArg Ftb.counter (quiet_makes ps x).ftb
  unfold matrixOrders
  generalize ps.foldl (fun x p => orderMake p.1 p.2 x) x = y at hlen' hnow ⊢
  have hbreak : Sent 31 (.crosspoint false b.source b.destination) (.tkBreak b.source b.destination) y.1
      (bs.foldl (fun x b => orderBreak b.source b.destination x) y).1 :=
    sent_in_fold (I := fun _ => True) (c := b) displaceable_crosspoint (fun x b => issues_orderBreak b.source b.destination x)
      (fun x b => quiet_orderBreak b.source b.destination x) (fun _ _ _ _ _ => trivial) hb
      (fun x _ hlen => sent_tkIssue matrix_address displaceable_crosspoint (fun _ _ => .units (joinBreak_units _ _ _ _)) hlen) trivial hlen'
  exact (hbreak.issues displaceable_crosspoint (issues_redims ts _)).of_now hnow

/-- What bears on the DIM of a station. -/
structure DimWanted (y depth : Nat) (silent : Bool) (s : State) : Prop where
  kind : (s.station y).kind = some .ifb
  retry : DimHeld y true s
  depth : (s.station y).dimDepth = depth
  silent : (liveTo y s.tk.routes).isEmpty = silent

theorem DimWanted.quiet {y depth : Nat} {silent : Bool} {t : State} (h : DimWanted y depth silent s) (hq : Quiet s t)
    (hr : DimHeld y true t) : DimWanted y depth silent t :=
  ⟨(congrArg Station.kind (hq.station y) :).trans h.kind, hr, (congrArg Station.dimDepth (hq.station y) :).trans h.depth,
    ((Still.of_quiet hq).counts y).trans h.silent⟩

theorem dimHeld_makes (ps : List (Nat × Nat)) {y : Nat} (h : DimHeld y true x.1) :
    DimHeld y true (ps.foldl (fun x p => orderMake p.1 p.2 x) x).1 := by
  induction ps generalizing x with
  | nil => exact h
  | cons p ps ih => exact ih ((lets_dim y true).issue _ (.crosspoint true p.1 p.2) _ x.1 (framePlus_ne _ (by decide) (by decide)) h)

theorem joinBreak_stations (a d i : Nat) (s : State) : (joinBreak a d i s).tk.stations = s.tk.stations := by
  unfold joinBreak
  dsimp only
  split
  · rfl
  · split
    · split <;> rfl
    · rfl

theorem dimHeld_breaks (bs : List Break) {y : Nat} (h : DimHeld y true x.1) :
    DimHeld y true (bs.foldl (fun x b => orderBreak b.source b.destination x) x).1 := by
  induction bs generalizing x with
  | nil => exact h
  | cons b bs ih =>
    refine ih (x := orderBreak b.source b.destination x) ?_
    have hissue := (lets_dim y true).issue Config.matrixAddress (.crosspoint false b.source b.destination) (.tkBreak b.source b.destination) x.1
      (framePlus_ne _ (by decide) (by decide)) h
    unfold orderBreak tkIssue
    rw [DimHeld, State.station]
    dsimp only
    rw [joinBreak_stations]
    exact hissue

theorem dimHeld_redim {y t : Nat} (hne : t ≠ y) (h : DimHeld y true x.1) : DimHeld y true (redim x t).1 := by
  unfold redim
  dsimp only
  split
  · have hissue (depth : Nat) : DimHeld y true (issue Config.matrixAddress (.dim t depth) (.tkDim t) x.1).state :=
      (lets_dim y true).issue _ (.dim t depth) _ x.1 (framePlus_ne _ (by decide) (by decide)) h
    exact (congrArg Station.dimRetry (slot_modSlot_other _ _ _ hne) :).trans (hissue _)
  · exact h

/-- A failed DIM goes out with the depth now wanted. -/
theorem matrix_dims {y depth : Nat} {silent : Bool} (hy : y ∈ ts) (hw : DimWanted y depth silent x.1) (hdepth : 0 < depth)
    (hlen : x.1.units.length = 25) :
    Sent 31 (.dim y (if silent then 0 else depth)) (.tkDim y) x.1 (matrixOrders ps bs ts x).1 := by
  have hlen1 := (issues_makes ps x).length_units.trans hlen
  have hnow1 : (ps.foldl (fun x p => orderMake p.1 p.2 x) x).1.now = x.1.now := congrArg Ftb.counter (quiet_makes ps x).ftb
  have hw1 := hw.quiet (quiet_makes ps x) (dimHeld_makes ps hw.retry)
  unfold matrixOrders
  generalize ps.foldl (fun x p => orderMake p.1 p.2 x) x = x1 at hlen1 hnow1 hw1 ⊢
  have hlen2 := (issues_breaks bs x1).length_units.trans hlen1
  have hnow2 : (bs.foldl (fun x b => orderBreak b.source b.destination x) x1).1.now = x1.1.now := congrArg Ftb.counter (quiet_breaks bs x1).ftb
  have hw2 := hw1.quiet (quiet_breaks bs x1) (dimHeld_breaks bs hw1.retry)
  generalize bs.foldl (fun x b => orderBreak b.source b.destination x) x1 = x2 at hlen2 hnow2 hw2 ⊢
  refine Sent.of_now ?_ (hnow2.trans hnow1)
  refine sent_in_fold (I := DimWanted y depth silent) displaceable_dim issues_redim quiet_redim
    (fun z t _ hne hz => hz.quiet (quiet_redim z t) (dimHeld_redim hne hz.retry)) hy (fun z hz hlen => ?_) hw2 hlen2
  have hcond : (z.1.station y).kind = some .ifb ∧ (z.1.station y).dimRetry = true ∧ 0 < (z.1.station y).dimDepth :=
    ⟨hz.kind, hz.retry, hz.depth ▸ hdepth⟩
  unfold redim
  dsimp only
  rw [if_pos hcond, hz.silent, hz.depth]
  exact sent_tkIssue matrix_address displaceable_dim (fun _ s => issues_modTk s _) hlen

end event

/-- Settles O56. -/
theorem matrixReportsTaken : Obligations.MatrixReportsTaken := by
  refine ⟨fun s bs howed hnone => ?_, fun s bs n o hs howed hsound hread ho hn => ?_, fun s bs acks hs howed hread => ?_⟩
  · show execMatrixReport bs s = _
    simp only [execMatrixReport, event, settleOwed_of_nil s howed, hnone]
  · have hall : acknowledgeAll 31 [n] s = orderAcked o (s.freed 31 n) := acknowledge_known hsound ho hn
    have hframe : KeepsBut tailParts s (finish s (matrixEvent (acknowledgeAll 31 [n] s))) :=
      (((keeps_acknowledgeAll 31 [n] s).trans (keeps_matrixEvent _)).mono (by decide)).trans (keeps_finishTail _ _)
    refine ⟨_, exec_matrixReport howed hread, ?_⟩
    rw [hall] at hframe ⊢
    have hmoves : Moves .full (s.freed 31 n) (finish s (matrixEvent (orderAcked o (s.freed 31 n)))) :=
      ((acts_orderAcked o _).trans (acts_matrixEvent _)).moves.trans (moves_finish _ _)
    have hgone := ((gone_acked hsound ho hn).grant 31 1).moves hmoves
    exact ⟨fun x hx => hgone.not_mem hx, fun a d hi b hb hs hd => break_order_gone hsound ho hi b hb hs hd,
      fun a d hi hset hroutes hord => break_pair_gone hsound ho hi hset hroutes hord,
      fun a d hi hset hroutes r hr hs hd hl hm => make_confirmed hi hset hroutes hr hs hd hl hm, hframe⟩
  · have hacks := AcksAlone.acknowledgeAll 31 acks s
    obtain ⟨-, -, hunits, -⟩ := hs
    have hframe : KeepsBut tailParts s (finish s (matrixEvent (acknowledgeAll 31 acks s))) :=
      (((keeps_acknowledgeAll 31 acks s).trans (keeps_matrixEvent _)).mono (by decide)).trans (keeps_finishTail _ _)
    refine ⟨_, exec_matrixReport howed hread, ?_⟩
    have hroute (r : Route) (hr : r ∈ s.tk.routes) (hmet : acks = [] ∨ ∀ o ∈ (s.unit 31).orders, r.makeOrder ≠ some o.id) :
        r ∈ (acknowledgeAll 31 acks s).tk.routes := by
      rcases hmet with rfl | hmet
      · exact hr
      · exact route_acknowledgeAll acks hr fun o ho _ => hmet o ho
    generalize acknowledgeAll 31 acks s = u at hacks hframe hroute ⊢
    have hlen : u.units.length = 25 := hacks.units.trans hunits
    have hnow : u.now = s.now := congrArg Ftb.counter hacks.ftb
    have hsent {body : OrderBody} {i : Issuer} (hd : ∀ o : Order, o.body = body → o.displaceable = false)
        (h : Sent 31 body i u (matrixOrders (failedMakes u.tk.routes) (u.tk.breaks.filter fun b => b.order.isNone) (oneUpTo Config.stations) (u, [])).1) :
        Sent 31 body i s (finish s (matrixEvent u)) := by
      have hends : Sent 31 body i u (finish s (matrixEvent u)) := by
        rw [matrixEvent_eq]
        exact (h.issues hd (issues_reported _)).issues hd (issues_finish s _)
      exact hends.of_now hnow
    have hmakes (a d : Nat) (hp : (a, d) ∈ failedMakes u.tk.routes) := hsent displaceable_crosspoint
      (matrix_makes (bs := u.tk.breaks.filter fun b => b.order.isNone) (ts := oneUpTo Config.stations) (x := (u, [])) hp hlen)
    have hbreaks (b : Break) (hb : b ∈ u.tk.breaks.filter fun b => b.order.isNone) := hsent displaceable_crosspoint
      (matrix_breaks (ps := failedMakes u.tk.routes) (ts := oneUpTo Config.stations) (x := (u, [])) hb hlen)
    refine ⟨fun r hr hl hm hsrc hsrc' hdst hdst' hmet => ?_, fun b hb ho => ?_, fun y hy hy' hk hre hdep => ?_, hframe⟩
    · refine hmakes _ _ (mem_failedMakes.2 ⟨⟨hdst, hdst'⟩, ⟨hsrc, hsrc'⟩, ?_⟩)
      exact List.any_eq_true.2 ⟨r, hroute r hr hmet, by simp [Route.joins, hl, hm]⟩
    · exact hbreaks b (List.mem_filter.2 ⟨hacks.breaks b hb ho, by rw [ho]; rfl⟩)
    · obtain ⟨hkind, hdepth, hretry⟩ := hacks.dims y
      have hcounts : (liveTo y u.tk.routes).isEmpty = (liveTo y s.tk.routes).isEmpty := by
        rw [← List.isEmpty_map (f := Route.bare), liveTo_of_bare hacks.routes, List.isEmpty_map]
      have hw : DimWanted y (s.station y).dimDepth (liveTo y s.tk.routes).isEmpty u :=
        ⟨hkind.trans hk, hretry.trans hre, hdepth, hcounts⟩
      exact hsent displaceable_dim (matrix_dims (ps := failedMakes u.tk.routes) (bs := u.tk.breaks.filter fun b => b.order.isNone) (x := (u, []))
        (mem_oneUpTo.2 ⟨hy, hy'⟩) hw hdep hlen)

end Sys2Proof.Machine

/-! Settling does not look at makes: routes that differ in their makes alone settle alike (R173, R174). -/

namespace Sys2Proof.Machine

-- One theorem at a time: all at once, their threads together outgrow the memory limit of the check.
set_option Elab.async false

theorem victimRoute_map {g : Route → Route} (hg : ∀ r, (g r).source = r.source) {pr : Nat → Nat} (rs : List Route) :
    victimRoute pr (rs.map g) = (victimRoute pr rs).map g := by
  cases rs with
  | nil => rfl
  | cons r rs =>
    show some _ = some _
    refine congrArg some ?_
    induction rs generalizing r with
    | nil => rfl
    | cons x rs ih =>
      rw [List.map_cons, List.foldl_cons, List.foldl_cons, hg, hg]
      split
      · exact ih x
      · exact ih r

theorem eligibleTo_bare (d : Nat) (rs : List Route) : eligibleTo d (rs.map Route.bare) = (eligibleTo d rs).map Route.bare := by
  rw [eligibleTo, List.filter_map]
  rfl

/-- A step of settling, of routes without their makes. -/
theorem settleStep_bare (pr : Nat → Nat) (d : Nat) (rs : List Route) :
    (settleStep pr d (rs.map Route.bare)).map (List.map Route.bare) = (settleStep pr d rs).map (List.map Route.bare) := by
  have hmaps (f : Route → Route) (hf : ∀ r, (f r.bare).bare = (f r).bare) : ((rs.map Route.bare).map f).map Route.bare = (rs.map f).map Route.bare := by
    rw [List.map_map, List.map_map, List.map_map]
    exact List.map_congr_left fun r _ => hf r
  have hjoins (a : Nat) (r : Route) : r.bare.joins a d = r.joins a d := rfl
  unfold settleStep
  rw [eligibleTo_bare, bestRoute_map (g := Route.bare) (fun _ => rfl), liveTo_bare, victimRoute_map (g := Route.bare) (fun _ => rfl), List.length_map]
  cases bestRoute pr (eligibleTo d rs) with
  | none => rfl
  | some w =>
    dsimp only [Option.map_some]
    split
    · refine congrArg some (hmaps (fun r => if r.joins w.source d then r.goLive else r) fun r => ?_)
      rw [hjoins]
      split <;> rfl
    · cases victimRoute pr (liveTo d rs) with
      | none => rfl
      | some v =>
        dsimp only [Option.map_some]
        show Option.map _ (if pr v.source < pr w.source then _ else none) = _
        split
        · refine congrArg some (hmaps (fun r => if r.joins w.source d then r.goLive else if r.joins v.source d then r.preempted else r) fun r => ?_)
          rw [hjoins, hjoins]
          split
          · rfl
          · split <;> rfl
        · rfl

theorem settle_bare (pr : Nat → Nat) (d n : Nat) {rs rs' : List Route} (h : rs'.map Route.bare = rs.map Route.bare) :
    (settle pr d n rs').map Route.bare = (settle pr d n rs).map Route.bare := by
  induction n generalizing rs rs' with
  | zero => exact h
  | succ n ih =>
    have hstep : (settleStep pr d rs').map (List.map Route.bare) = (settleStep pr d rs).map (List.map Route.bare) := by
      rw [← settleStep_bare, h, settleStep_bare]
    rw [settle, settle]
    cases hs : settleStep pr d rs with
    | none =>
      rw [hs, Option.map_none, Option.map_eq_none_iff] at hstep
      rw [hstep]
      exact h
    | some us =>
      rw [hs] at hstep
      obtain ⟨us', hs', hus⟩ := Option.map_eq_some_iff.1 hstep
      rw [hs']
      exact ih hus

theorem settleAll_bare (pr : Nat → Nat) {rs rs' : List Route} (h : rs'.map Route.bare = rs.map Route.bare) :
    (settleAll pr rs').map Route.bare = (settleAll pr rs).map Route.bare := by
  unfold settleAll
  generalize oneUpTo Config.stations = ds
  induction ds generalizing rs rs' with
  | nil => exact h
  | cons d ds ih => exact ih (settle_bare pr d 33 h)

theorem suspend_bare (s : State) {rs rs' : List Route} (h : rs'.map Route.bare = rs.map Route.bare) :
    (rs'.map s.suspend).map Route.bare = (rs.map s.suspend).map Route.bare := by
  have hroute (r : Route) : (s.suspend r).bare = (s.suspend r.bare).bare := by
    show Route.bare (if s.zoneCuts r.destination || (s.linkDown r.source || s.linkDown r.destination) then _ else _) =
      Route.bare (if s.zoneCuts r.destination || (s.linkDown r.source || s.linkDown r.destination) then _ else _)
    split <;> rfl
  have hmap (us : List Route) : (us.map s.suspend).map Route.bare = (us.map Route.bare).map fun r => (s.suspend r).bare := by
    rw [List.map_map, List.map_map]
    exact List.map_congr_left fun r _ => hroute r
  rw [hmap, hmap, h]

/-- Where makes alone have changed since a settled state, settling moves no route in or out of LIVE, and the Talk Router sends
nothing. -/
theorem finish_of_bare {s v : State} (hstill : Still s v) (hsame : SameReasons s v) (hset : s.talkSettled)
    (h : v.tk.routes.map Route.bare = s.tk.routes.map Route.bare) : finish s v = after v.resettle := by
  have hroutes : v.resettle.tk.routes.map Route.bare = v.tk.routes.map Route.bare := by
    have hs : settleAll s.priority (s.tk.routes.map s.suspend) = s.tk.routes :=
      (resettle_routes s).symm.trans (congrArg (fun u : State => u.tk.routes) (show s.resettle = s from hset))
    rw [resettle_routes, hsame.priority, hsame.suspend, settleAll_bare _ (suspend_bare s h), hs, h]
  have hstation (y : Nat) : v.resettle.station y = v.station y := resettle_station v y
  have hpriority : v.resettle.priority = v.priority := funext fun y => congrArg Station.priority (hstation y)
  have hlinks : v.resettle.links = v.links := State.modTk_links ..
  have hresettled : Still s v.resettle := by
    refine ⟨fun d => (liveSources_of_bare hroutes d).trans (hstill.sources d), fun d => ?_, fun y => ?_, fun y => ?_⟩
    · rw [← hstill.counts, ← List.isEmpty_map (f := Route.bare), liveTo_of_bare hroutes, List.isEmpty_map]
    · rw [← hstill.lamps, State.lampContents, State.lampContents, incoming_of_bare hroutes hpriority, hstation]
    · have hservice := hstill.service y
      unfold cameIntoService at hservice ⊢
      rw [hstation]
      simpa only [State.link, hlinks] using hservice
  exact congrArg after (tkAfter_of_still hresettled)

end Sys2Proof.Machine

/-! Failed orders (R28, R94, R103, R115, R130, R131, R147, R176 to R178, R180): what the report of one leaves as it is. -/

namespace Sys2Proof.Machine

-- One theorem at a time: all at once, their threads together outgrow the memory limit of the check.
set_option Elab.async false

/-! ## A revert at a failed TUNE (R103, R105) -/

theorem link_in_table {s : State} {l : Nat} (h : (s.link l).state ≠ .vacant) : 1 ≤ l ∧ l ≤ s.links.length := by
  by_contra hno
  refine h ?_
  cases l with
  | zero => rfl
  | succ n => exact congrArg Link.state (List.getD_eq_default _ _ (by omega))

section revert
variable {s : State} {l : Nat}

/-- The state in which a link is sent back. -/
def revertSends (l : Nat) (s : State) : State := (revertTunes l s).state.modLink l (Link.sentBack s.nextEffective)

/-- The Tally Resolver has nothing to do at a revert: the link is in service neither before nor after. -/
theorem startRevert_steps (hst : (s.link l).state = .retuning) :
    startRevert l s = raise .linkState l ((revertSends l s).modLink l (Link.enter .reverting none)) := by
  obtain ⟨hl, hl'⟩ := link_in_table (s := s) (l := l) (by rw [hst]; exact LinkState.noConfusion)
  have hback := linkBecomes_sentBack (l := l) hl hl'
  have hold : ((revertSends l s).link l).state = .retuning := hback.state.trans hst
  have hnew : ((raise .linkState l ((revertSends l s).modLink l (Link.enter .reverting none))).link l).state = .reverting := by
    have hself : (raise .linkState l ((revertSends l s).modLink l (Link.enter .reverting none))).link l =
        Link.enter .reverting none ((revertSends l s).link l) := link_modLink_self hl (hl'.trans_eq hback.length.symm) _
    rw [hself]
    rfl
  have hsees (u : State) (hu : (u.link l).state = .reverting) : tallySees l .retuning u = u := by
    unfold tallySees
    dsimp only
    rw [hu]
    split
    · rfl
    · rfl
  rw [startRevert_eq]
  show changeState l .reverting none (revertSends l s) = _
  unfold changeState
  dsimp only
  rw [hold, if_neg (by exact LinkState.noConfusion), hsees _ hnew]

end revert

/-! ## A property that failed orders leave -/

/-- No issue of an order and no report of a failure breaks the property. -/
structure Watch (I : State → Prop) : Prop where
  lets : Lets I fun _ => True
  keep : ∀ s t : State, t.tk = s.tk → t.units = s.units → t.ftb = s.ftb → Part.tallies.same s t → I s → I t
  tallied : ∀ (l id : Nat) (s : State), I s → I (tallyFailed l id s)

namespace Watch
variable {I : State → Prop} (k : Watch I) {s t : State}
include k

theorem keeps {ps : List Part} (h : KeepsBut ps s t) (hs : I s) (h1 : .tk ∉ ps := by decide) (h2 : .units ∉ ps := by decide)
    (h3 : .ftb ∉ ps := by decide) (h4 : .tallies ∉ ps := by decide) : I t :=
  k.keep s t (h .tk h1) (h .units h2) (h .ftb h3) (h .tallies h4) hs

theorem modLink (l : Nat) (f : Link → Link) (hs : I s) (hf : ∀ x, (f x).tallyFields = x.tallyFields := by exact fun _ => rfl) :
    I (s.modLink l f) := k.keep s _ rfl rfl rfl (map_modSlot Link.tallyFields f s.links l hf) hs

theorem startRevert {l : Nat} (hlead : 1 ≤ s.ftb.lead) (hlead' : s.ftb.lead ≤ 50) (hst : (s.link l).state = .retuning) (hs : I s) :
    I (startRevert l s) := by
  have hreleases := keeps_revertReleases l s
  have hnow : (revertReleases l s).now = s.now := congrArg Ftb.counter (hreleases .ftb (by decide))
  have hreleased : I (revertReleases l s) := k.keeps hreleases hs
  have htuned : I (revertTunes l s).state := by
    refine k.lets.issue _ _ _ _ ?_ hreleased
    rw [hnow]
    exact framePlus_ne _ hlead hlead'
  have hsent : I (revertSends l s) := k.modLink l _ htuned
  have hentered : I ((revertSends l s).modLink l (Link.enter .reverting none)) := k.modLink l _ hsent
  rw [startRevert_steps hst]
  exact k.keeps (keeps_raise _ _ _) hentered

theorem orderFailed (hlead : 1 ≤ s.ftb.lead) (hlead' : s.ftb.lead ≤ 50) (o : Order) (hs : I s) : I (orderFailed o s) := by
  unfold Machine.orderFailed
  split
  · exact hs
  · exact hs
  · rename_i l _
    unfold retuneFailed
    split
    next h => exact k.startRevert hlead hlead' h.1 hs
    next => exact hs
  · rename_i l _
    have htold : I (raise .linkMuteFailed l s) := k.keeps (keeps_raise _ _ _) hs
    unfold parkMuteFailed
    dsimp only
    split
    · exact k.modLink l _ htold
    · exact htold
  · exact k.keeps (keeps_raise _ _ _) hs
  · exact k.keeps (keeps_raise _ _ _) hs
  · exact k.tallied _ _ s hs
  · unfold scanAssignFailed
    split
    · exact k.keeps (keeps_scanFailed _ _ _) hs
    · exact hs
  all_goals exact k.lets.failed _ _ s trivial hs

theorem orderFailed_fold (os : List Order) (hlead : 1 ≤ s.ftb.lead) (hlead' : s.ftb.lead ≤ 50) (hs : I s) :
    I (os.foldl (fun s o => Machine.orderFailed o s) s) := by
  induction os generalizing s with
  | nil => exact hs
  | cons o os ih =>
    have hftb : (Machine.orderFailed o s).ftb = s.ftb := keeps_orderFailed o s .ftb (by decide)
    exact ih (by rw [hftb]; exact hlead) (by rw [hftb]; exact hlead') (k.orderFailed hlead hlead' o hs)

/-- What the report of one order of the list brings about stands past the others. -/
theorem fold_tells {J : State → Prop} (k' : Watch J) {os : List Order} {o : Order} (ho : o ∈ os) (hstep : ∀ s, I s → J (Machine.orderFailed o s))
    (hlead : 1 ≤ s.ftb.lead) (hlead' : s.ftb.lead ≤ 50) (hs : I s) : J (os.foldl (fun s o => Machine.orderFailed o s) s) := by
  induction os generalizing s with
  | nil => cases ho
  | cons x os ih =>
    have hftb : (Machine.orderFailed x s).ftb = s.ftb := keeps_orderFailed x s .ftb (by decide)
    have h1 : 1 ≤ (Machine.orderFailed x s).ftb.lead := by rw [hftb]; exact hlead
    have h2 : (Machine.orderFailed x s).ftb.lead ≤ 50 := by rw [hftb]; exact hlead'
    by_cases hx : o = x
    · subst hx
      exact k'.orderFailed_fold os h1 h2 (hstep s hs)
    · exact ih ((List.mem_cons.1 ho).resolve_left hx) h1 h2 (k.orderFailed hlead hlead' x hs)

end Watch

theorem joinBreak_rest (a d i : Nat) (s : State) :
    (joinBreak a d i s).units = s.units ∧ (joinBreak a d i s).ftb = s.ftb ∧ (joinBreak a d i s).links = s.links ∧
      (joinBreak a d i s).bus = s.bus := by
  unfold joinBreak
  dsimp only
  split
  · exact ⟨rfl, rfl, rfl, rfl⟩
  · split
    · split <;> exact ⟨rfl, rfl, rfl, rfl⟩
    · exact ⟨rfl, rfl, rfl, rfl⟩

/-- A property of units, packets, frames and links alone: the Talk Router's own records do not bear on it. -/
theorem Lets.rides {I : State → Prop} (k : Lets I fun _ => True)
    (hkeep : ∀ s t : State, I s → t.units = s.units → t.ftb = s.ftb → t.links = s.links → t.bus = s.bus → I t) : Rides I where
  lets := k
  orderBreak a d x h := h.tkIssue k trivial fun hs => by
    obtain ⟨hu, hf, hl, hb⟩ := joinBreak_rest a d x.1.nextOrderId (Machine.issue Config.matrixAddress (.crosspoint false a d) (.tkBreak a d) x.1).state
    exact hkeep _ _ hs hu hf hl hb
  orderMake a d x h := h.tkIssue k trivial fun hs => hkeep _ _ hs rfl rfl rfl rfl
  orderDim t depth x h := h.tkIssue k trivial fun hs => hkeep _ _ hs rfl rfl rfl rfl
  orderLamp t x h := by
    unfold orderLamp
    dsimp only
    split
    · exact h.tkIssue k trivial fun hs => hkeep _ _ hs rfl rfl rfl rfl
    · exact h
  settled s hs := by
    rw [State.resettle]
    exact hkeep _ _ hs (State.modTk_units ..) (State.modTk_ftb ..) (State.modTk_links ..) (State.modTk_bus ..)

/-! ## The orders that fall due (R126, R130) -/

/-- The frame is `n`, and no order of the unit is due in it. -/
def Undue (n : FrameNo) (a : Nat) (s : State) : Prop := s.now = n ∧ ∀ o ∈ (s.unit a).orders, o.deadline ≠ n

/-- An order that an issue brings to a unit is the new one. -/
theorem orders_issue {a b : Nat} {body : OrderBody} {i : Issuer} {s : State} {x : Order} (hx : x ∈ ((issue a body i s).state.unit b).orders) :
    x ∈ (s.unit b).orders ∨ x.deadline = body.deadline s.now := by
  have hsend (t : State) (hx : x ∈ ((send (s.newOrder a body i) t).unit b).orders) : x ∈ (t.unit b).orders ∨ x.deadline = body.deadline s.now := by
    unfold send at hx
    obtain he | he := unit_modUnit_cases t (s.newOrder a body i).address b (fun u => u.send (s.newOrder a body i))
    · exact .inl (by rw [← he]; exact hx)
    · have hx' : x ∈ ((t.unit b).send (s.newOrder a body i)).orders := by rw [← he]; exact hx
      simp only [UnitRec.orders, UnitRec.send, List.mem_append, List.mem_singleton] at hx'
      obtain (hx' | rfl) | hx' := hx'
      · exact .inl (List.mem_append_left _ hx')
      · exact .inr rfl
      · exact .inl (List.mem_append_right _ hx')
  obtain ⟨-, -, hr⟩ | ⟨-, -, -, hr⟩ | ⟨-, -, -, hr⟩ | ⟨-, -, -, v, -, hr⟩ := issue_cases a body i s <;> rw [hr] at hx
  · exact hsend s.tookId hx
  · obtain he | he := unit_modUnit_cases s.tookId a b (fun u => { u with waiting := u.waiting ++ [s.newOrder a body i] }) <;> rw [he] at hx
    · exact .inl hx
    · simp only [UnitRec.orders, List.mem_append, List.mem_singleton] at hx
      obtain hx | hx | rfl := hx
      · exact .inl (List.mem_append_left _ hx)
      · exact .inl (List.mem_append_right _ hx)
      · exact .inr rfl
  · exact .inl hx
  · refine (hsend _ hx).imp_left fun hx => ?_
    rw [unit_of_units (displaced_units v _)] at hx
    obtain he | he := unit_modUnit_cases s.tookId a b (fun u => { u with outstanding := u.outstanding.eraseP Order.displaceable }) <;> rw [he] at hx
    · exact hx
    · rcases List.mem_append.1 hx with hx | hx
      · exact List.mem_append_left _ (List.eraseP_subset hx)
      · exact List.mem_append_right _ hx

section undue
variable {n : FrameNo} {a : Nat}

theorem Undue.same {s t : State} (h : Undue n a s) (hu : t.units = s.units) (hf : t.ftb = s.ftb) : Undue n a t := by
  refine ⟨(congrArg Ftb.counter hf).trans h.1, ?_⟩
  rw [unit_of_units hu]
  exact h.2

theorem lets_undue (n : FrameNo) (a : Nat) : Lets (Undue n a) fun _ => True where
  issue b body i s hlate h := by
    have hnow : (issue b body i s).state.now = n := (congrArg Ftb.counter (quiet_issue s b body i).ftb).trans h.1
    refine ⟨hnow, fun x hx => ?_⟩
    obtain hx | hx := orders_issue hx
    · exact h.2 x hx
    · rw [hx, ← h.1]
      exact hlate
  failed i id s _ h := h.same (tkFailed_units i id s) (quiet_tkFailed i id s).ftb

theorem watch_undue (n : FrameNo) (a : Nat) : Watch (Undue n a) where
  lets := lets_undue n a
  keep _ _ _ hu hf _ h := h.same hu hf
  tallied l id s h := h.same (keeps_tallyFailed l id s .units (by decide)) (keeps_tallyFailed l id s .ftb (by decide))

theorem rides_undue (n : FrameNo) (a : Nat) : Rides (Undue n a) := (lets_undue n a).rides fun _ _ h hu hf _ _ => h.same hu hf

end undue

/-! ## A TALLY that fails (R147) -/

theorem tkFailed_links (i : Issuer) (id : Nat) (s : State) : (tkFailed i id s).links = s.links := by
  unfold tkFailed
  split
  · split <;> rfl
  · rfl
  · split <;> rfl
  · unfold lampFailed
    split
    · split <;> rfl
    · rfl
  · rfl

/-- The link's order has failed; or it goes on, where it may. -/
def TallyWatch (may : Bool) (l : Nat) (x : TallyOrder) (s : State) : Prop :=
  may = true ∧ (s.link l).tallyOrder = some x ∨ ((s.link l).tallyOrder = none ∧ (s.link l).retryAt = some (framePlus x.issueFrame 4))

section tally
variable {may : Bool} {l : Nat} {x : TallyOrder}

theorem TallyWatch.same {s t : State} (h : TallyWatch may l x s) (ht : Part.tallies.same s t) : TallyWatch may l x t := by
  obtain ⟨-, -, ho, hr⟩ := tallyFields_eq (tallyFields_of_same ht l)
  rw [TallyWatch, ho, hr]
  exact h

theorem tally_in_table {s : State} (h : (s.link l).tallyOrder ≠ none) : 1 ≤ l ∧ l ≤ s.links.length := by
  by_contra hno
  refine h ?_
  cases l with
  | zero => rfl
  | succ n => exact congrArg Link.tallyOrder (List.getD_eq_default _ _ (by omega))

theorem TallyWatch.tallyFailed {s : State} (h : TallyWatch may l x s) (m id : Nat) : TallyWatch may l x (tallyFailed m id s) := by
  unfold Machine.tallyFailed
  split
  next y hy =>
    split
    next =>
      by_cases hm : m = l
      · subst hm
        obtain ⟨hl, hl'⟩ := tally_in_table (s := s) (l := m) (by rw [hy]; exact Option.some_ne_none _)
        obtain ⟨-, hx⟩ | ⟨hno, -⟩ := h
        · obtain rfl : y = x := Option.some.inj (hy.symm.trans hx)
          have hself := link_modLink_self (s := s) hl hl' fun k => { k with tallyOrder := none, retryAt := some (framePlus y.issueFrame 4) }
          rw [TallyWatch, hself]
          exact .inr ⟨rfl, rfl⟩
        · rw [hno] at hy
          cases hy
      · have hother : (s.modLink m fun k => { k with tallyOrder := none, retryAt := some (framePlus y.issueFrame 4) }).link l = s.link l :=
          slot_modSlot_other _ _ _ hm
        rw [TallyWatch, hother]
        exact h
    next => exact h
  next => exact h

theorem lets_tally (may : Bool) (l : Nat) (x : TallyOrder) : Lets (TallyWatch may l x) fun _ => True where
  issue a body i s _ h := by
    have hdisplaced (v : Order) (s : State) (h : TallyWatch may l x s) : TallyWatch may l x (displaced v s) := by
      unfold displaced
      split
      · exact h.tallyFailed _ _
      · exact h.same (keeps_lampFailed _ _ s .tallies (by decide))
      · exact h
    obtain ⟨-, -, hr⟩ | ⟨-, -, -, hr⟩ | ⟨-, -, -, hr⟩ | ⟨-, -, -, v, -, hr⟩ := issue_cases a body i s <;> rw [hr]
    iterate 3 exact h
    exact hdisplaced v _ h
  failed i id s _ h := h.same (congrArg (List.map Link.tallyFields) (tkFailed_links i id s))

theorem watch_tally (may : Bool) (l : Nat) (x : TallyOrder) : Watch (TallyWatch may l x) where
  lets := lets_tally may l x
  keep _ _ _ _ _ ht h := h.same ht
  tallied m id _ h := h.tallyFailed m id

theorem rides_tally (may : Bool) (l : Nat) (x : TallyOrder) : Rides (TallyWatch may l x) :=
  (lets_tally may l x).rides fun _ _ h _ _ hl _ => h.same (congrArg (List.map Link.tallyFields) hl)

theorem TallyWatch.fails {s : State} (h : TallyWatch may l x s) : TallyWatch false l x (Machine.tallyFailed l x.id s) := by
  obtain ⟨-, hx⟩ | hlost := h
  · obtain ⟨hl, hl'⟩ := tally_in_table (s := s) (l := l) (by rw [hx]; exact Option.some_ne_none _)
    have hstep : Machine.tallyFailed l x.id s = s.modLink l fun k => { k with tallyOrder := none, retryAt := some (framePlus x.issueFrame 4) } := by
      rw [Machine.tallyFailed, hx]
      exact if_pos rfl
    have hself := link_modLink_self (s := s) hl hl' fun k => { k with tallyOrder := none, retryAt := some (framePlus x.issueFrame 4) }
    rw [TallyWatch, hstep, hself]
    exact .inr ⟨rfl, rfl⟩
  · have hstep : Machine.tallyFailed l x.id s = s := by rw [Machine.tallyFailed, hlost.1]
    rw [hstep]
    exact .inr hlost

end tally

/-! ## A TALK_LAMP that fails (R180) -/

/-- The station's lamp order has failed; or it goes on, where it may. -/
def LampWatch (may : Bool) (y id : Nat) (lit : LampContents) (n : FrameNo) (s : State) : Prop :=
  s.now = n ∧ (may = true ∧ (s.station y).lampOrder = some (id, lit) ∨
    ((s.station y).lampOrder = none ∧ (s.station y).lampRetry = some (framePlus n 1)))

section lamp
variable {may : Bool} {y id : Nat} {lit : LampContents} {n : FrameNo}

theorem LampWatch.held {s t : State} (h : LampWatch may y id lit n s) (k : LampHeld y s t) : LampWatch may y id lit n t := by
  obtain ⟨rfl, h⟩ := h
  refine ⟨k.now, ?_⟩
  obtain ⟨ho, hr⟩ | ⟨-, ho, hr⟩ := k.order
  · rw [ho, hr]
    exact h
  · exact .inr ⟨ho, hr⟩

theorem lets_lamp (may : Bool) (y id : Nat) (lit : LampContents) (n : FrameNo) : Lets (LampWatch may y id lit n) fun _ => True where
  issue a body i s _ h := h.held (.issue a body i s)
  failed i id s _ h := h.held (.tkFailed i id s)

theorem watch_lamp (may : Bool) (y id : Nat) (lit : LampContents) (n : FrameNo) : Watch (LampWatch may y id lit n) where
  lets := lets_lamp may y id lit n
  keep s t htk _ hf _ h := h.held (.same (congrArg Ftb.counter hf) (by rw [State.station, htk]; rfl))
  tallied l id s h := h.held (.tallyFailed l id s)

/-- The station's own test waits for its retry. -/
theorem rides_lamp (may : Bool) (y id : Nat) (lit : LampContents) (n : FrameNo) : Rides (LampWatch may y id lit n) where
  lets := lets_lamp may y id lit n
  orderBreak a d x h := ⟨h.now.held (.orderBreak a d x), fun _ _ => trivial⟩
  orderMake a d x h := ⟨h.now.held (.orderMake a d x), fun _ _ => trivial⟩
  orderDim t depth x h := ⟨h.now.held (.orderDim t depth x), fun _ _ => trivial⟩
  orderLamp t x h := by
    by_cases ht : t = y
    · subst ht
      have hdue : ¬ x.1.lampDue t = true := fun hdue => by
        obtain ⟨-, -, ho, hr, -⟩ := lampDue_iff.1 hdue
        obtain ⟨-, ⟨-, hsome⟩ | ⟨-, hsome⟩⟩ := h.now
        · exact Option.some_ne_none _ (hsome.symm.trans ho)
        · exact Option.some_ne_none _ (hsome.symm.trans hr)
      rw [orderLamp, if_neg hdue]
      exact h
    · exact ⟨h.now.held (.orderLamp ht x), fun _ _ => trivial⟩
  settled s h := by
    have hftb : s.resettle.ftb = s.ftb := State.modTk_ftb ..
    exact h.held (.same (congrArg Ftb.counter hftb) (resettle_station s y))

theorem LampWatch.fails {s : State} (h : LampWatch may y id lit n s) : LampWatch false y id lit n (lampFailed y id s) := by
  obtain ⟨hn, ⟨-, ho⟩ | hlost⟩ := h
  · have hin : 1 ≤ y ∧ y ≤ s.tk.stations.length := by
      by_contra hno
      rw [station_beyond hno] at ho
      cases ho
    have hstep : lampFailed y id s = s.modStation y fun k => { k with lampOrder := none, lampRetry := some (framePlus s.now 1) } := by
      simp only [lampFailed, ho]
      exact if_pos trivial
    have hself : (s.modStation y fun k => { k with lampOrder := none, lampRetry := some (framePlus s.now 1) }).station y =
        { s.station y with lampOrder := none, lampRetry := some (framePlus s.now 1) } := slot_modSlot_self _ _ _ hin.1 hin.2
    rw [LampWatch, hstep, hself]
    exact ⟨hn, .inr ⟨rfl, congrArg (fun m => some (framePlus m 1)) hn⟩⟩
  · have hstep : lampFailed y id s = s := by rw [lampFailed, hlost.1]
    rw [hstep]
    exact ⟨hn, .inr hlost⟩

end lamp

end Sys2Proof.Machine

/-! Failed orders (R28, R94, R103, R130, R131): what each does to links, bands and units, and what of it the Talk Router sees. -/

namespace Sys2Proof.Machine

-- One theorem at a time: all at once, their threads together outgrow the memory limit of the check.
set_option Elab.async false

/-! ## What the Talk Router sees of failed orders (R173 to R175) -/

/-- No more than makes, orders and retries have changed of what the Talk Router acts on. -/
structure Recorded (s t : State) : Prop where
  routes : t.tk.routes.map Route.bare = s.tk.routes.map Route.bare
  waiting : s.PairsOnce → (t.tk.routes.filter fun r => !r.live) = s.tk.routes.filter fun r => !r.live
  stations : ∀ y, (t.station y).bare = (s.station y).bare
  zones : t.tk.zones = s.tk.zones
  service : ∀ l, (t.link l).state.inService = (s.link l).state.inService

namespace Recorded
variable {s t u : State}

theorem of_calm (h : Calm s t) : Recorded s t :=
  ⟨h.routes, h.waiting, h.station, h.zones, fun l => congrArg LinkState.inService (congrArg Link.state (h.link l) :)⟩

theorem of_tk (htk : t.tk = s.tk) (hl : ∀ l, (t.link l).state.inService = (s.link l).state.inService) : Recorded s t := by
  have hst (y : Nat) : t.station y = s.station y := by rw [State.station, htk]; rfl
  exact ⟨by rw [htk], fun _ => by rw [htk], fun y => by rw [hst], by rw [htk], hl⟩

theorem of_keeps {ps : List Part} (h : KeepsBut ps s t) (htk : .tk ∉ ps := by decide) (hl : .links ∉ ps := by decide) : Recorded s t :=
  of_tk (h .tk htk) fun l => congrArg LinkState.inService (congrArg Link.state (linkCore_of_same (h .links hl) l) :)

theorem refl (s : State) : Recorded s s := of_tk rfl fun _ => rfl

theorem trans (h : Recorded s t) (k : Recorded t u) : Recorded s u := by
  refine ⟨k.routes.trans h.routes, fun hs => ?_, fun y => (k.stations y).trans (h.stations y), k.zones.trans h.zones,
    fun l => (k.service l).trans (h.service l)⟩
  have honce : t.PairsOnce := by
    have hpairs : (t.tk.routes.map fun r => (r.source, r.destination)) = s.tk.routes.map fun r => (r.source, r.destination) :=
      map_of_bare h.routes fun _ => rfl
    rw [State.PairsOnce, hpairs]
    exact hs
  exact (k.waiting honce).trans (h.waiting hs)

theorem still (h : Recorded s t) : Still s t := still_of_records h.routes h.stations h.service

theorem same (h : Recorded s t) : SameReasons s t :=
  .of (fun y => ⟨(congrArg Station.kind (h.stations y) :), (congrArg Station.zone (h.stations y) :), (congrArg Station.link (h.stations y) :),
    (congrArg Station.priority (h.stations y) :)⟩) h.zones h.service

/-- Where routes stand once for each pair, such an event leaves a settled table alone. -/
theorem finishes (h : Recorded s t) (hset : s.talkSettled) (hsound : s.routesSound) : finish s t = after t :=
  finish_of_still h.still ((atRest_of_talkSettled hsound hset).made hsound h.same h.routes (h.waiting hsound.2.1)).talkSettled

theorem finishes_resettled (h : Recorded s t) (hset : s.talkSettled) : finish s t = after t.resettle :=
  finish_of_bare h.still h.same hset h.routes

end Recorded

/-! ## What the failure of one order does -/

section failed
variable {s : State}

theorem linkBecomes_startRevert {l : Nat} (hst : (s.link l).state = .retuning) :
    LinkBecomes l ((s.link l).reverting s.nextEffective) s (startRevert l s) := by
  obtain ⟨hl, hl'⟩ := link_in_table (s := s) (l := l) (by rw [hst]; exact LinkState.noConfusion)
  rw [startRevert_eq]
  refine (linkBecomes_sentBack hl hl').changeState hl hl' ?_
  show (s.link l).state ≠ .reverting
  rw [hst]
  exact LinkState.noConfusion

theorem LinkBecomes.service {l : Nat} {k : Link} {t : State} (h : LinkBecomes l k s t)
    (hk : k.state.inService = (s.link l).state.inService) (m : Nat) : (t.link m).state.inService = (s.link m).state.inService := by
  by_cases hm : m = l
  · subst hm
    exact (congrArg LinkState.inService h.state).trans hk
  · exact congrArg LinkState.inService (congrArg Link.state (h.alone m hm) :)

theorem startRevert_tk {l : Nat} (hst : (s.link l).state = .retuning) : (startRevert l s).tk = (revertTunes l s).state.tk := by
  rw [startRevert_steps hst]
  rfl

theorem recorded_startRevert {l : Nat} (hst : (s.link l).state = .retuning) : Recorded s (startRevert l s) := by
  have hservice := (linkBecomes_startRevert hst).service (by rw [hst]; rfl)
  have htk : (revertReleases l s).tk = s.tk := keeps_revertReleases l s .tk (by decide)
  obtain ⟨hl, hl'⟩ := link_in_table (s := s) (l := l) (by rw [hst]; exact LinkState.noConfusion)
  have hreleased : Recorded s (revertReleases l s) := .of_tk htk ((linkBecomes_revertReleases hl hl').service rfl)
  have htuned : Recorded s (revertTunes l s).state := hreleased.trans (.of_calm (calm_issue (revertReleases l s) _ _ _))
  refine htuned.trans (.of_tk (startRevert_tk hst) fun m => ?_)
  exact (hservice m).trans (htuned.service m).symm

theorem issues_startRevert {l : Nat} (hst : (s.link l).state = .retuning) : Issues (fun _ => True) s (startRevert l s) := by
  rw [startRevert_steps hst]
  exact ((Issues.keeps (keeps_revertReleases l s)).trans (.issue _ _ _ _ trivial)).trans (.units rfl)

/-- What a failed order of another sort than a retune's TUNE does is no matter of the units. -/
theorem orderFailed_units {o : Order} (ho : ∀ l, o.issuer ≠ .rcRetune l) : (orderFailed o s).units = s.units := by
  unfold orderFailed
  split
  · rfl
  · rfl
  · rename_i hi
    exact absurd hi (ho _)
  · unfold parkMuteFailed
    dsimp only
    split <;> rfl
  · rfl
  · rfl
  · exact keeps_tallyFailed _ _ s .units (by decide)
  · unfold scanAssignFailed
    split <;> rfl
  all_goals exact tkFailed_units _ _ s

theorem issues_orderFailed (o : Order) : Issues (fun _ => True) s (orderFailed o s) := by
  cases hi : o.issuer with
  | rcRetune l =>
    rw [orderFailed, hi]
    show Issues _ s (retuneFailed l o.id s)
    unfold retuneFailed
    split
    next h => exact issues_startRevert h.1
    next => exact .refl s
  | _ => exact .units (orderFailed_units fun l => by rw [hi]; exact Issuer.noConfusion)

theorem parkMuteFailed_state (l m : Nat) : ((parkMuteFailed l s).link m).state = (s.link m).state := by
  unfold parkMuteFailed
  dsimp only
  split
  · exact slot_modSlot_field Link.state _ _ _ l m fun _ => rfl
  · rfl

theorem recorded_orderFailed (o : Order) : Recorded s (orderFailed o s) := by
  unfold orderFailed
  split
  · exact .refl s
  · exact .refl s
  · unfold retuneFailed
    split
    next h => exact recorded_startRevert h.1
    next => exact .refl s
  · rename_i l _
    refine .of_tk ?_ fun m => congrArg LinkState.inService (parkMuteFailed_state l m)
    unfold parkMuteFailed
    dsimp only
    split <;> rfl
  · exact .of_keeps (keeps_raise _ _ _)
  · exact .of_keeps (keeps_raise _ _ _)
  · exact .of_keeps (keeps_tallyFailed _ _ s)
  · unfold scanAssignFailed
    split
    · exact .of_keeps (keeps_scanFailed _ _ _)
    · exact .refl s
  all_goals exact .of_calm (calm_tkFailed _ _ s)

/-- A failed order concerns a link that it was issued for alone. -/
theorem orderFailed_link {o : Order} {l : Nat} (hpark : o.issuer ≠ .lsPark l) (hretune : o.issuer ≠ .rcRetune l) :
    ((orderFailed o s).link l).core = (s.link l).core := by
  have hkeeps {ps : List Part} {t : State} (h : KeepsBut ps s t) (hp : .links ∉ ps) : (t.link l).core = (s.link l).core :=
    linkCore_of_same (h .links hp) l
  unfold orderFailed
  split
  · rfl
  · rfl
  · rename_i m hi
    unfold retuneFailed
    split
    next h => exact (linkBecomes_startRevert h.1).alone l fun hm => hretune (by rw [hi, hm])
    next => rfl
  · rename_i m hi
    have hm : m ≠ l := fun hm => hpark (by rw [hi, hm])
    unfold parkMuteFailed
    dsimp only
    split
    · exact congrArg Link.core (slot_modSlot_other _ _ _ hm)
    · rfl
  · rfl
  · rfl
  · exact hkeeps (keeps_tallyFailed _ _ s) (by decide)
  · unfold scanAssignFailed
    split
    · rfl
    · rfl
  all_goals exact congrArg Link.core (congrArg (fun ls => slot Link.vacant ls l) (tkFailed_links _ _ s))

end failed

theorem failures_keep {I : State → Prop} (hI : ∀ o s, I s → I (orderFailed o s)) (os : List Order) {s : State} (h : I s) :
    I (os.foldl (fun s o => orderFailed o s) s) := by
  induction os generalizing s with
  | nil => exact h
  | cons x os ih => exact ih (hI x s h)

/-- What the report of one order of a list brings about stands past the others. -/
theorem failures_tell {I J : State → Prop} (hI : ∀ o s, I s → I (orderFailed o s)) (hJ : ∀ o s, J s → J (orderFailed o s)) {os : List Order}
    {o : Order} (ho : o ∈ os) (hstep : ∀ s, I s → J (orderFailed o s)) {s : State} (h : I s) : J (os.foldl (fun s o => orderFailed o s) s) := by
  induction os generalizing s with
  | nil => cases ho
  | cons x os ih =>
    by_cases hx : o = x
    · subst hx
      exact failures_keep hJ os (hstep s h)
    · exact ih ((List.mem_cons.1 ho).resolve_left hx) (hI x s h)

/-! ## MUTEs that fail for a PARKED link (R94) -/

/-- The link is PARKED, with MUTEs to be issued again. -/
def Parked (l : Nat) (es : List FrameNo) (s : State) : Prop := (s.link l).state = .parked ∧ (s.link l).muteReissue = es

section parked
variable {l : Nat} {es : List FrameNo} {s : State}

theorem Parked.same {t : State} (h : Parked l es s) (hc : (t.link l).core = (s.link l).core) : Parked l es t :=
  ⟨(congrArg Link.state hc :).trans h.1, (congrArg Link.muteReissue hc :).trans h.2⟩

theorem Parked.orderFailed (h : Parked l es s) (o : Order) :
    Parked l (es ++ if o.issuer = .lsPark l then [framePlus s.now 1] else []) (orderFailed o s) := by
  obtain ⟨hstate, hmutes⟩ := h
  by_cases hpark : o.issuer = .lsPark l
  · obtain ⟨hl, hl'⟩ := link_in_table (s := s) (l := l) (by rw [hstate]; exact LinkState.noConfusion)
    have hstep : Machine.orderFailed o s = parkMuteFailed l s := by rw [Machine.orderFailed, hpark]
    have hself : (parkMuteFailed l s).link l = { s.link l with muteReissue := (s.link l).muteReissue ++ [framePlus s.now 1] } := by
      unfold parkMuteFailed
      rw [if_pos hstate]
      exact link_modLink_self (s := raise .linkMuteFailed l s) hl hl' _
    rw [if_pos hpark, hstep, Parked, hself]
    exact ⟨hstate, by rw [← hmutes]⟩
  · rw [if_neg hpark, List.append_nil]
    by_cases hretune : o.issuer = .rcRetune l
    · have hstep : Machine.orderFailed o s = s := by
        rw [Machine.orderFailed, hretune]
        exact if_neg fun hc => by rw [hstate] at hc; exact absurd hc.1 LinkState.noConfusion
      rw [hstep]
      exact ⟨hstate, hmutes⟩
    · exact Parked.same ⟨hstate, hmutes⟩ (orderFailed_link hpark hretune)

theorem Parked.failures (h : Parked l es s) (os : List Order) :
    Parked l (es ++ List.replicate (os.countP fun o => decide (o.issuer = .lsPark l)) (framePlus s.now 1))
      (os.foldl (fun s o => Machine.orderFailed o s) s) := by
  induction os generalizing es s with
  | nil => simpa using h
  | cons o os ih =>
    have hnow : (Machine.orderFailed o s).now = s.now := congrArg Ftb.counter (keeps_orderFailed o s .ftb (by decide))
    have hrest := ih (h.orderFailed o)
    rw [hnow, List.append_assoc] at hrest
    rw [List.foldl_cons, List.countP_cons]
    by_cases hpark : o.issuer = .lsPark l
    · rw [if_pos hpark, List.singleton_append, ← List.replicate_succ] at hrest
      rw [if_pos (decide_eq_true hpark)]
      exact hrest
    · rw [if_neg hpark, List.nil_append] at hrest
      rw [if_neg (by simpa using hpark)]
      exact hrest

end parked

/-! ## A retune whose TUNE fails (R103) -/

/-- The retune that issued the order reverts; or it is in flight still, where it may be. -/
def RetuneWatch (may : Bool) (l id : Nat) (s : State) : Prop :=
  may = true ∧ (s.link l).state = .retuning ∧ (s.link l).moveOrder = some id ∨ (s.link l).state = .reverting

section retune
variable {may : Bool} {l id : Nat} {s : State}

theorem RetuneWatch.same {t : State} (h : RetuneWatch may l id s) (hc : (t.link l).core = (s.link l).core) : RetuneWatch may l id t :=
  h.imp (fun ⟨hm, hs, ho⟩ => ⟨hm, (congrArg Link.state hc :).trans hs, (congrArg Link.moveOrder hc :).trans ho⟩)
    fun hs => (congrArg Link.state hc :).trans hs

theorem reverting_state (k : Link) (e : FrameNo) : (k.reverting e).state = .reverting := rfl

theorem RetuneWatch.orderFailed (h : RetuneWatch may l id s) (o : Order) : RetuneWatch may l id (Machine.orderFailed o s) := by
  by_cases hpark : o.issuer = .lsPark l
  · have hstep : Machine.orderFailed o s = raise .linkMuteFailed l s := by
      rw [Machine.orderFailed, hpark]
      refine if_neg fun hc => ?_
      obtain ⟨-, hs, -⟩ | hs := h <;> rw [hc] at hs <;> exact absurd hs LinkState.noConfusion
    rw [hstep]
    exact h
  · by_cases hretune : o.issuer = .rcRetune l
    · rw [Machine.orderFailed, hretune]
      show RetuneWatch may l id (retuneFailed l o.id s)
      unfold retuneFailed
      split
      next hc => exact .inr ((linkBecomes_startRevert hc.1).state.trans (reverting_state _ _))
      next => exact h
    · exact h.same (orderFailed_link hpark hretune)

/-- Once the TUNE is reported, the link reverts. -/
theorem RetuneWatch.fails {o : Order} (h : RetuneWatch may l o.id s) (hi : o.issuer = .rcRetune l) :
    RetuneWatch false l o.id (Machine.orderFailed o s) := by
  rw [Machine.orderFailed, hi]
  show RetuneWatch false l o.id (retuneFailed l o.id s)
  unfold retuneFailed
  obtain ⟨-, hs, ho⟩ | hs := h
  · rw [if_pos ⟨hs, ho⟩]
    exact .inr ((linkBecomes_startRevert hs).state.trans (reverting_state _ _))
  · rw [if_neg fun hc => by rw [hs] at hc; exact absurd hc.1 LinkState.noConfusion]
    exact .inr hs

theorem RetuneWatch.fold_fails {os : List Order} {o : Order} (ho : o ∈ os) (hi : o.issuer = .rcRetune l)
    (h : RetuneWatch may l o.id s) : RetuneWatch false l o.id (os.foldl (fun s o => Machine.orderFailed o s) s) :=
  failures_tell (fun o _ h => h.orderFailed o) (fun o _ h => h.orderFailed o) ho (fun _ h => h.fails hi) h

end retune

end Sys2Proof.Machine

/-! Failed makes, breaks, DIMs and SCAN_ASSIGNs (R28, R176 to R178), and what the expiry of a unit's orders leaves held (R126, R128, R130). -/

namespace Sys2Proof.Machine

-- One theorem at a time: all at once, their threads together outgrow the memory limit of the check.
set_option Elab.async false

/-! ## Failed orders of the matrix (R176 to R178) -/

/-- The route's make has failed; or its order stands, where it may. -/
def MakeWatch (may : Bool) (r : Route) (s : State) : Prop := may = true ∧ r ∈ s.tk.routes ∨ { r with make := some .failed } ∈ s.tk.routes

/-- The pair has lost its order; or it has it still, where it may. -/
def BreakWatch (may : Bool) (b : Break) (s : State) : Prop := may = true ∧ b ∈ s.tk.breaks ∨ { b with order := none } ∈ s.tk.breaks

/-- The DIM is to be retried; or its order stands, where it may. -/
def DimWatch (may : Bool) (y id : Nat) (s : State) : Prop := may = true ∧ (s.station y).dimOrder = some id ∨ (s.station y).dimRetry = true

section matrix
variable {may : Bool} {r : Route} {b : Break} {y id : Nat} {s : State}

theorem MakeWatch.tkFailed (h : MakeWatch may r s) (i : Issuer) (id : Nat) : MakeWatch may r (tkFailed i id s) := by
  unfold Machine.tkFailed
  split
  · rename_i a d
    split
    · have hmap {x : Route} (hx : x ∈ s.tk.routes) : x ∈ s.tk.routes.map (fun r => if r.joins a d then { r with make := some .failed } else r) ∨
          { x with make := some .failed } ∈ s.tk.routes.map (fun r => if r.joins a d then { r with make := some .failed } else r) := by
        by_cases hj : x.joins a d = true
        · exact .inr (List.mem_map.2 ⟨x, hx, if_pos hj⟩)
        · exact .inl (List.mem_map.2 ⟨x, hx, if_neg hj⟩)
      obtain ⟨hm, hr⟩ | hr := h
      · exact (hmap hr).imp_left fun hr => ⟨hm, hr⟩
      · exact .inr ((hmap hr).elim (fun h => h) fun h => h)
    · exact h
  · exact h
  · split
    · exact h
    · exact h
  · rw [MakeWatch, (lampFailed_tables _ _ s).1]; exact h
  · exact h

theorem watch_make (may : Bool) (r : Route) : Watch (MakeWatch may r) where
  lets := ⟨fun a body i s _ h => by rw [MakeWatch, (issue_tables a body i s).1]; exact h, fun i id _ _ h => h.tkFailed i id⟩
  keep _ _ htk _ _ _ h := by rw [MakeWatch, htk]; exact h
  tallied l id s h := by rw [MakeWatch, show (tallyFailed l id s).tk = s.tk from keeps_tallyFailed l id s .tk (by decide)]; exact h

/-- A failed make of a LIVE route is told to its destination. -/
theorem MakeWatch.fails {o : Order} (h : MakeWatch may r s) (hi : o.issuer = .tkMake r.source r.destination) (hl : r.live = true)
    (hm : r.makeOrder = some o.id) :
    MakeWatch false r (Machine.orderFailed o s) ∧ Waits .stationMatrixFailed r.destination (Machine.orderFailed o s) := by
  have hok (x : Route) (hx : x ∈ s.tk.routes) (hs : x = r ∨ x = { r with make := some .failed }) :
      s.tk.routes.any (fun x => x.joins r.source r.destination && x.live && decide (x.makeOrder = some o.id)) = true := by
    refine List.any_eq_true.2 ⟨x, hx, ?_⟩
    obtain rfl | rfl := hs <;> simp [Route.joins, hl, hm]
  have hany : s.tk.routes.any (fun x => x.joins r.source r.destination && x.live && decide (x.makeOrder = some o.id)) = true := by
    obtain ⟨-, hr⟩ | hr := h
    · exact hok r hr (.inl rfl)
    · exact hok _ hr (.inr rfl)
  have hstep : Machine.orderFailed o s = raise .stationMatrixFailed r.destination (s.modTk fun k =>
      { k with routes := k.routes.map fun x => if x.joins r.source r.destination then { x with make := some .failed } else x }) := by
    rw [Machine.orderFailed, hi]
    show Machine.tkFailed (.tkMake r.source r.destination) o.id s = _
    exact if_pos hany
  rw [hstep]
  refine ⟨.inr (List.mem_map.2 ?_), waits_raise _ _ _⟩
  obtain ⟨-, hr⟩ | hr := h
  · exact ⟨r, hr, if_pos (by simp [Route.joins])⟩
  · exact ⟨_, hr, if_pos (by simp [Route.joins])⟩

theorem BreakWatch.tkFailed (h : BreakWatch may b s) (i : Issuer) (id : Nat) : BreakWatch may b (tkFailed i id s) := by
  unfold Machine.tkFailed
  split
  · split
    · exact h
    · exact h
  · rename_i a d
    obtain ⟨hm, hb⟩ | hb := h
    · by_cases hc : b.source = a ∧ b.destination = d ∧ b.order = some id
      · exact .inr (List.mem_map.2 ⟨b, hb, if_pos hc⟩)
      · exact .inl ⟨hm, List.mem_map.2 ⟨b, hb, if_neg hc⟩⟩
    · exact .inr (List.mem_map.2 ⟨_, hb, ite_self _⟩)
  · split
    · exact h
    · exact h
  · rw [BreakWatch, (lampFailed_tables _ _ s).2]; exact h
  · exact h

theorem watch_break (may : Bool) (b : Break) : Watch (BreakWatch may b) where
  lets := ⟨fun a body i s _ h => by rw [BreakWatch, (issue_tables a body i s).2]; exact h, fun i id _ _ h => h.tkFailed i id⟩
  keep _ _ htk _ _ _ h := by rw [BreakWatch, htk]; exact h
  tallied l id s h := by rw [BreakWatch, show (tallyFailed l id s).tk = s.tk from keeps_tallyFailed l id s .tk (by decide)]; exact h

theorem BreakWatch.fails {o : Order} (h : BreakWatch may b s) (hi : o.issuer = .tkBreak b.source b.destination) (ho : b.order = some o.id) :
    BreakWatch false b (Machine.orderFailed o s) := by
  rw [Machine.orderFailed, hi]
  obtain ⟨-, hb⟩ | hb := h
  · exact .inr (List.mem_map.2 ⟨b, hb, if_pos ⟨rfl, rfl, ho⟩⟩)
  · exact .inr (List.mem_map.2 ⟨_, hb, ite_self _⟩)

theorem DimWatch.modStation (h : DimWatch may y id s) (t : Nat) (f : Station → Station)
    (ho : ∀ x, (f x).dimOrder = x.dimOrder := by exact fun _ => rfl) (hr : ∀ x, (f x).dimRetry = x.dimRetry := by exact fun _ => rfl) :
    DimWatch may y id (s.modStation t f) := by
  have h1 : ((s.modStation t f).station y).dimOrder = (s.station y).dimOrder := slot_modSlot_field Station.dimOrder _ f _ t y ho
  have h2 : ((s.modStation t f).station y).dimRetry = (s.station y).dimRetry := slot_modSlot_field Station.dimRetry _ f _ t y hr
  rw [DimWatch, h1, h2]
  exact h

theorem DimWatch.lampFailed (h : DimWatch may y id s) (t n : Nat) : DimWatch may y id (lampFailed t n s) := by
  unfold Machine.lampFailed
  split
  · split
    · exact h.modStation t _
    · exact h
  · exact h

/-- A DIM that fails is retried. -/
theorem dimRetry_modStation (h : DimWatch may y id s) (t : Nat) : DimWatch may y id (s.modStation t fun k => { k with dimRetry := true }) := by
  obtain ⟨hm, ho⟩ | hr := h
  · exact .inl ⟨hm, (slot_modSlot_field Station.dimOrder Station.undefined (fun k => { k with dimRetry := true }) s.tk.stations t y fun _ => rfl).trans ho⟩
  · by_cases hy : 1 ≤ y ∧ y ≤ s.tk.stations.length
    · refine .inr ?_
      by_cases ht : t = y
      · subst ht
        exact congrArg Station.dimRetry (slot_modSlot_self _ _ _ hy.1 hy.2)
      · exact (congrArg Station.dimRetry (slot_modSlot_other _ _ _ ht) :).trans hr
    · rw [station_beyond hy] at hr
      cases hr

theorem DimWatch.tkFailed (h : DimWatch may y id s) (i : Issuer) (n : Nat) : DimWatch may y id (tkFailed i n s) := by
  unfold Machine.tkFailed
  split
  · split
    · exact h
    · exact h
  · exact h
  · split
    · exact dimRetry_modStation h _
    · exact h
  · exact h.lampFailed _ _
  · exact h

theorem watch_dim (may : Bool) (y id : Nat) : Watch (DimWatch may y id) where
  lets := by
    refine ⟨fun a body i s _ h => ?_, fun i n _ _ h => h.tkFailed i n⟩
    have hdisplaced (v : Order) {s : State} (h : DimWatch may y id s) : DimWatch may y id (displaced v s) := by
      unfold displaced
      split
      · rename_i l _
        have htk : (tallyFailed l v.id s).tk = s.tk := keeps_tallyFailed l v.id s .tk (by decide)
        rw [DimWatch, State.station, htk]
        exact h
      · exact h.lampFailed _ _
      · exact h
    obtain ⟨-, -, hr⟩ | ⟨-, -, -, hr⟩ | ⟨-, -, -, hr⟩ | ⟨-, -, -, v, -, hr⟩ := issue_cases a body i s <;> rw [hr]
    iterate 3 exact h
    exact hdisplaced v (s := s.tookId.modUnit a fun u => { u with outstanding := u.outstanding.eraseP Order.displaceable }) h
  keep _ _ htk _ _ _ h := by rw [DimWatch, State.station, htk]; exact h
  tallied l n s h := by rw [DimWatch, State.station, show (tallyFailed l n s).tk = s.tk from keeps_tallyFailed l n s .tk (by decide)]; exact h

theorem DimWatch.fails {o : Order} (h : DimWatch may y o.id s) (hi : o.issuer = .tkDim y) : DimWatch false y o.id (Machine.orderFailed o s) := by
  rw [Machine.orderFailed, hi]
  show DimWatch false y o.id (Machine.tkFailed (.tkDim y) o.id s)
  obtain ⟨-, ho⟩ | hr := h
  · have hy : 1 ≤ y ∧ y ≤ s.tk.stations.length := by
      by_contra hno
      rw [station_beyond hno] at ho
      cases ho
    have hstep : Machine.tkFailed (.tkDim y) o.id s = s.modStation y fun k => { k with dimRetry := true } := if_pos ho
    rw [hstep]
    exact .inr (congrArg Station.dimRetry (slot_modSlot_self _ _ _ hy.1 hy.2))
  · exact DimWatch.tkFailed (may := false) (.inr hr) _ _

end matrix

/-! ## A SCAN_ASSIGN that fails (R28) -/

section scan
variable {s : State} {b : Nat}

theorem scanReissue_startRevert {l : Nat} (hst : (s.link l).state = .retuning) :
    ((startRevert l s).band b).scanReissue = (s.band b).scanReissue := by
  have hbands : (startRevert l s).bands = (revertTunes l s).state.bands := by rw [startRevert_steps hst]; rfl
  have htuned : ((revertTunes l s).state.band b).core = ((revertReleases l s).band b).core :=
    bandCore_of_same (keeps_issueTune l _ _ _ (revertReleases l s) .bands (by decide)) b
  have hreleased : ((revertReleases l s).band b).scanReissue = (s.band b).scanReissue := by
    rw [State.band, show (revertReleases l s).bands = _ from carrierChange_bands _ _]
    exact slot_modSlot_field Band.scanReissue Band.reset _ s.bands _ b fun _ => rfl
  rw [State.band, hbands]
  exact (congrArg Band.scanReissue htuned :).trans hreleased

/-- The record of a number after one record of the table has changed: it is that record, or it stands. -/
theorem slot_modSlot_cases {α : Type} (d : α) (f : α → α) (xs : List α) (n m : Nat) :
    slot d (modSlot f xs n) m = slot d xs m ∨ slot d (modSlot f xs n) m = f (slot d xs m) := by
  by_cases hnm : n = m
  · subst hnm
    by_cases hn : 1 ≤ n ∧ n ≤ xs.length
    · exact .inr (slot_modSlot_self d f xs hn.1 hn.2)
    · refine .inl (congrArg (slot d · n) ?_)
      cases n with
      | zero => rfl
      | succ k => exact List.modify_eq_self (by omega)
  · exact .inl (slot_modSlot_other d f xs hnm)

theorem scanFailed_appends (m : Nat) (x : ScanOrder) (s : State) : (s.band b).scanReissue <+: ((scanFailed m x s).band b).scanReissue := by
  obtain h | h := slot_modSlot_cases Band.reset (fun k => { k with scanReissue := k.scanReissue ++ [(framePlus s.now 1, x)] }) s.bands m b <;>
    rw [scanFailed, State.band, State.band, State.modBand_bands, h]
  exact List.prefix_append _ _

/-- The orders that are to be issued again stay so. -/
theorem orderFailed_scanReissue (o : Order) : (s.band b).scanReissue <+: ((orderFailed o s).band b).scanReissue := by
  have hkeeps {ps : List Part} {t : State} (h : KeepsBut ps s t) (hp : .bands ∉ ps) : (s.band b).scanReissue <+: (t.band b).scanReissue :=
    (congrArg Band.scanReissue (bandCore_of_same (h .bands hp) b) :) ▸ List.prefix_rfl
  unfold orderFailed
  split
  · exact List.prefix_rfl
  · exact List.prefix_rfl
  · unfold retuneFailed
    split
    next h => rw [scanReissue_startRevert h.1]
    next => exact List.prefix_rfl
  · unfold parkMuteFailed
    dsimp only
    split <;> exact List.prefix_rfl
  · exact List.prefix_rfl
  · exact List.prefix_rfl
  · exact hkeeps (keeps_tallyFailed _ _ s) (by decide)
  · unfold scanAssignFailed
    split
    · exact scanFailed_appends _ _ s
    · exact List.prefix_rfl
  all_goals exact hkeeps (keeps_tkFailed _ _ s) (by decide)

end scan

/-! ## Orders that are not due stay held (R126, R128) -/

/-- The order is with its unit, under whatever number. -/
def HoldsAt (o : Order) (s : State) : Prop := ∃ m : Option Byte, { o with number := m } ∈ (s.unit o.address).orders

section holds
variable {o : Order} {s t : State}

theorem HoldsAt.holds (h : HoldsAt o s) : Holds o s :=
  let ⟨m, hm⟩ := h
  ⟨{ o with number := m }, hm, rfl, rfl, rfl, rfl⟩

theorem HoldsAt.issues {ok : Issuer → Prop} (h : HoldsAt o s) (hd : o.displaceable = false) (k : Issues ok s t) : HoldsAt o t := by
  refine k.lasts (P := fun u => ∃ m : Option Byte, { o with number := m } ∈ u.orders) ⟨fun x u _ ⟨m, hm⟩ => ⟨m, ?_⟩, fun x u _ ⟨m, hm⟩ => ⟨m, ?_⟩,
    fun u ⟨m, hm⟩ => ⟨m, ?_⟩⟩ o.address h
  all_goals rcases List.mem_append.1 hm with hm | hm
  · exact List.mem_append_left _ (List.mem_append_left _ hm)
  · exact List.mem_append_right _ hm
  · exact List.mem_append_left _ hm
  · exact List.mem_append_right _ (List.mem_append_left _ hm)
  · exact List.mem_append_left _ (mem_eraseP_of_not hm hd)
  · exact List.mem_append_right _ hm

/-- Of the waiting orders, a grant takes out none that is no TALLY but the one that it sends. -/
theorem mem_erased_or_granted {ws : List Order} {w x : Order} (hw : (ws.find? fun o => !o.isTally).or ws.head? = some w) (hx : x ∈ ws)
    (ht : x.isTally = false) : x ∈ ws.eraseP (fun v => decide (v.id = w.id)) ∨ x = w := by
  obtain hsame | ⟨v, as, bs, has, hv, heq, herase⟩ := List.exists_or_eq_self_of_eraseP (fun v => decide (v.id = w.id)) ws
  · exact .inl (hsame.symm ▸ hx)
  · rw [herase]
    rw [heq, List.mem_append, List.mem_cons] at hx
    obtain hx | rfl | hx := hx
    · exact .inl (List.mem_append_left _ hx)
    · right
      have hnone : as.find? (fun o => !o.isTally) = none ∨ w ∈ as := by
        cases hf : as.find? (fun o => !o.isTally) with
        | none => exact .inl rfl
        | some z =>
          refine .inr ?_
          rw [heq, List.find?_append, hf] at hw
          exact Option.some.inj hw ▸ List.mem_of_find?_eq_some hf
      obtain hnone | hmem := hnone
      · rw [heq, List.find?_append, hnone, Option.none_or, List.find?_cons_of_pos (by simp [ht])] at hw
        exact Option.some.inj hw
      · exact absurd (decide_eq_true rfl) (has w hmem)
    · exact .inl (List.mem_append_right _ hx)

theorem isTally_of_not_displaceable (h : o.displaceable = false) : o.isTally = false := by
  unfold Order.displaceable at h
  unfold Order.isTally
  split
  · rename_i hb
    rw [hb] at h
    exact h
  · rfl

theorem unit_address_of_mem {a : Nat} (h : o ∈ (s.unit a).orders) : a ∈ unitAddresses := unit_address (unitPlace_of_mem h).1

/-- Places that are granted leave it: it goes on waiting, or it is sent. -/
theorem HoldsAt.grantOne (h : HoldsAt o s) (hd : o.displaceable = false) {a : Nat} (ha : a ∈ unitAddresses) : HoldsAt o (grantOne a s) := by
  unfold Machine.grantOne
  split
  · exact h
  · rename_i w hw
    obtain ⟨m, hm⟩ := h
    have hb : o.address ∈ unitAddresses := unit_address_of_mem hm
    have hsend (t : State) (ht : HoldsAt o t) : HoldsAt o (send w t) := by
      obtain ⟨m, hm⟩ := ht
      refine ⟨m, ?_⟩
      show _ ∈ ((t.modUnit w.address fun u => u.send w).unit o.address).orders
      obtain he | he := unit_modUnit_cases t w.address o.address (fun u => u.send w) <;> rw [he]
      · exact hm
      · rcases List.mem_append.1 hm with hm | hm
        · exact List.mem_append_left _ (List.mem_append_left _ hm)
        · exact List.mem_append_right _ hm
    obtain he | he := unit_modUnit_cases s a o.address (fun u => { u with waiting := u.waiting.eraseP fun x => decide (x.id = w.id) })
    · exact hsend _ ⟨m, by rw [he]; exact hm⟩
    · by_cases hplace : unitPlace a = unitPlace o.address
      · obtain rfl : a = o.address := unitPlace_inj ha hb hplace
        rcases List.mem_append.1 hm with hm | hm
        · exact hsend _ ⟨m, by rw [he]; exact List.mem_append_left _ hm⟩
        · obtain hx | rfl := mem_erased_or_granted (x := { o with number := m }) hw hm (isTally_of_not_displaceable hd)
          · exact hsend _ ⟨m, by rw [he]; exact List.mem_append_right _ hx⟩
          · have hp := unitPlace_of_mem (s := s) (a := o.address) (List.mem_append_right _ hm)
            let u := s.modUnit o.address fun u => { u with waiting := u.waiting.eraseP fun x => decide (x.id = o.id) }
            have hself := unit_send_self (s := u) (o := { o with number := m }) ⟨hp.1, hp.2.trans_eq (modSlot_length ..).symm⟩
            refine ⟨some (u.unit o.address).nextNumber, List.mem_append_left _ ?_⟩
            have hout := congrArg UnitRec.outstanding hself
            refine (congrArg (_ ∈ ·) hout).mpr ?_
            exact List.mem_append_right _ (List.mem_singleton_self _)
      · exact hsend _ ⟨m, by rw [unit_modUnit_other hplace]; exact hm⟩

theorem HoldsAt.grant (h : HoldsAt o s) (hd : o.displaceable = false) {a : Nat} (ha : a ∈ unitAddresses) (n : Nat) :
    HoldsAt o (grant a n s) := by
  induction n generalizing s with
  | zero => exact h
  | succ n ih => exact ih (h.grantOne hd ha)

/-- An order that is not due stays where the due orders leave. -/
theorem HoldsAt.dropDue (h : HoldsAt o s) {a : Nat} (ha : a ∈ unitAddresses) {n : FrameNo} (hn : o.address ≠ a ∨ o.deadline ≠ n) :
    HoldsAt o (s.modUnit a (UnitRec.dropDue n)) := by
  obtain ⟨m, hm⟩ := h
  have hb : o.address ∈ unitAddresses := unit_address_of_mem hm
  refine ⟨m, ?_⟩
  by_cases hplace : unitPlace a = unitPlace o.address
  · have hdue : (Order.due n { o with number := m }) = false :=
      decide_eq_false (hn.resolve_left fun hne => hne (unitPlace_inj ha hb hplace).symm)
    obtain he | he := unit_modUnit_cases s a o.address (UnitRec.dropDue n) <;> rw [he]
    · exact hm
    · rcases List.mem_append.1 hm with hm | hm
      · exact List.mem_append_left _ (List.mem_filter.2 ⟨hm, by rw [hdue]; rfl⟩)
      · exact List.mem_append_right _ (List.mem_filter.2 ⟨hm, by rw [hdue]; rfl⟩)
  · rw [unit_modUnit_other hplace]
    exact hm

end holds

end Sys2Proof.Machine

/-! ORDER_EXPIRY (O17): the orders due leave together, the places are granted, and each failure is told (R126, R128, R130, R131). -/

namespace Sys2Proof.Machine

-- One theorem at a time: all at once, their threads together outgrow the memory limit of the check.
set_option Elab.async false

/-! ## The places that expired orders free (R128, R130) -/

/-- The state in which the failures are told: the orders due have left, and their places are granted. -/
def State.expired (s : State) (a : Nat) : State :=
  grant a ((s.unit a).outstanding.countP (Order.due s.now)) (s.modUnit a (UnitRec.dropDue s.now))

/-- The orders of a unit that expire, in the order in which their failures are told. -/
def State.expiring (s : State) (a : Nat) : List Order := (s.unit a).dueOrders s.now

theorem expire_eq (a : Nat) (s : State) : expire a s = (s.expiring a).foldl (fun s o => orderFailed o s) (s.expired a) := rfl

theorem mem_expiring {s : State} {a : Nat} {o : Order} : o ∈ s.expiring a ↔ o ∈ (s.unit a).orders ∧ o.deadline = s.now := by
  rw [State.expiring, UnitRec.dueOrders, ← List.filter_append, List.mem_filter, Order.due, decide_eq_true_eq]
  rfl

theorem keeps_expired (s : State) (a : Nat) : KeepsBut [.units, .bus] s (s.expired a) :=
  ((keeps_modUnit s a (UnitRec.dropDue s.now)).mono (by decide)).trans (keeps_grant a _ _)

section expired
variable {s : State} {a : Nat} (hp : 1 ≤ unitPlace a ∧ unitPlace a ≤ s.units.length)
include hp

theorem undue_expired : Undue s.now a (s.expired a) := by
  have hself : (s.modUnit a (UnitRec.dropDue s.now)).unit a = (s.unit a).dropDue s.now := unit_modUnit_self hp.1 hp.2 _
  have hdropped : AllOrders (fun o => o.deadline ≠ s.now) a (s.modUnit a (UnitRec.dropDue s.now)) := fun o ho hdue => by
    have hstays : o.due s.now = false := by
      rw [hself] at ho
      rcases List.mem_append.1 ho with ho | ho <;> simpa using (List.mem_filter.1 ho).2
    rw [Order.due, hdue, decide_eq_true rfl] at hstays
    cases hstays
  exact ⟨congrArg Ftb.counter (keeps_expired s a .ftb (by decide)), hdropped.grant (fun _ _ h => h) _⟩

theorem holds_expired {o : Order} (ho : o ∈ (s.unit o.address).orders) (hd : o.displaceable = false) (hn : o.address ≠ a ∨ o.deadline ≠ s.now) :
    HoldsAt o (s.expired a) :=
  (HoldsAt.dropDue ⟨o.number, ho⟩ (unit_address hp.1) hn).grant hd (unit_address hp.1) _

/-- The places go to the oldest waiting orders that stay and are no TALLY, and then to the oldest TALLYs, the first under the unit's next
number. -/
theorem expired_unit (hsound : s.unitsSound) :
    let stay := (s.unit a).waiting.filter fun o => decide (o.deadline ≠ s.now)
    let granted := (stay.filter (fun o => !o.isTally) ++ stay.filter Order.isTally).take
      ((s.unit a).outstanding.countP fun o => decide (o.deadline = s.now))
    ((s.expired a).unit a).waiting = stay.filter (fun o => decide (o ∉ granted)) ∧
    ∃ ns : List Byte, ns.length = granted.length ∧ ns.head? = granted.head?.map (fun _ => (s.unit a).nextNumber) ∧
      ((s.expired a).unit a).outstanding =
        (s.unit a).outstanding.filter (fun o => decide (o.deadline ≠ s.now)) ++ List.zipWith Order.under granted ns := by
  intro stay granted
  obtain ⟨-, haddr, hnodup, -⟩ := (unitsSound_iff s).1 hsound
  have hself : (s.modUnit a (UnitRec.dropDue s.now)).unit a = (s.unit a).dropDue s.now := unit_modUnit_self hp.1 hp.2 _
  have hstays (os : List Order) : os.filter (fun o => !o.due s.now) = os.filter fun o => decide (o.deadline ≠ s.now) :=
    congrArg (List.filter · os) (funext fun o => decide_not.symm)
  have hwaiting : ((s.unit a).dropDue s.now).waiting = stay := hstays _
  have houtstanding : ((s.unit a).dropDue s.now).outstanding = (s.unit a).outstanding.filter (fun o => decide (o.deadline ≠ s.now)) := hstays _
  have hids : (((s.unit a).dropDue s.now).waiting.map Order.id).Nodup := by
    rw [List.append_nil, State.orderIds] at hnodup
    have hunit := (List.nodup_flatMap.1 hnodup).1 _ (unit_mem hp)
    exact hunit.sublist ((List.filter_sublist.trans (List.sublist_append_right (s.unit a).outstanding (s.unit a).waiting)).map _)
  have hgrant := (grant_unit (s := s.modUnit a (UnitRec.dropDue s.now)) (a := a) ((s.unit a).outstanding.countP (Order.due s.now))
    ⟨hp.1, hp.2.trans_eq (modSlot_length ..).symm⟩ fun o ho => by
      rw [hself] at ho
      exact haddr a (unit_address hp.1) o (List.mem_append_right _ (List.mem_filter.1 ho).1)).1
  have hgrants := grants_eq ((s.unit a).outstanding.countP (Order.due s.now)) hids
  rw [UnitRec.queue, hwaiting, houtstanding] at hgrants
  rw [State.expired, hgrant, hself]
  exact hgrants

end expired

theorem mem_zipWith_under {os : List Order} {ns : List Byte} (hlen : ns.length = os.length) {o : Order} (ho : o ∈ os) :
    ∃ n : Byte, { o with number := some n } ∈ List.zipWith Order.under os ns := by
  obtain ⟨i, hi, rfl⟩ := List.mem_iff_getElem.1 ho
  have hi' : i < ns.length := hlen.symm ▸ hi
  exact ⟨ns[i], List.mem_iff_getElem.2 ⟨i, by rw [List.length_zipWith]; exact lt_min hi hi', List.getElem_zipWith⟩⟩

theorem map_id_zipWith_under {os : List Order} {ns : List Byte} (hlen : ns.length = os.length) :
    (List.zipWith Order.under os ns).map Order.id = os.map Order.id := by
  induction os generalizing ns with
  | nil => simp
  | cons o os ih =>
    cases ns with
    | nil => cases hlen
    | cons n ns => exact congrArg (o.id :: ·) (ih (Nat.succ.inj hlen))

/-! ## The end of the event -/

section ends
variable {s : State} {a : Nat}

theorem recorded_expire (a : Nat) (s : State) : Recorded s (expire a s) := by
  have hexpired : Recorded s (s.expired a) := .of_keeps (keeps_expired s a)
  exact failures_keep (I := Recorded s) (fun o u h => h.trans (recorded_orderFailed o)) _ hexpired

theorem issues_expire (a : Nat) (s : State) : Issues (fun _ => True) (s.expired a) (expire a s) :=
  failures_keep (I := Issues (fun _ => True) (s.expired a)) (fun o _ h => h.trans (issues_orderFailed o)) _ (.refl _)

theorem issues_expiry (a : Nat) (s0 s : State) : Issues (fun _ => True) (s.expired a) (finish s0 (expire a s)) :=
  (issues_expire a s).trans ((issues_finish s0 _).mono fun _ _ => trivial)

/-- Where no retune's TUNE is due and the Talk Router is settled, what is issued and granted at the expiry is the grants alone. -/
theorem expiry_units (hset : s.talkSettled) (hno : ∀ o ∈ s.expiring a, ∀ l, o.issuer ≠ .rcRetune l) :
    (finish s (expire a s)).units = (s.expired a).units := by
  have hfold (os : List Order) (u : State) (hos : ∀ o ∈ os, ∀ l, o.issuer ≠ .rcRetune l) :
      (os.foldl (fun s o => orderFailed o s) u).units = u.units := by
    induction os generalizing u with
    | nil => rfl
    | cons o os ih =>
      exact (ih _ fun x hx => hos x (List.mem_cons_of_mem o hx)).trans (orderFailed_units (hos o List.mem_cons_self))
  have htold : (expire a s).units = (s.expired a).units := hfold _ _ hno
  rw [(recorded_expire a s).finishes_resettled hset, show (after (expire a s).resettle).units = (expire a s).resettle.units from
    keeps_after _ .units (by decide), State.resettle, State.modTk_units]
  exact htold

theorem expired_lead (hlead : 1 ≤ s.ftb.lead) (hlead' : s.ftb.lead ≤ 50) : 1 ≤ (s.expired a).ftb.lead ∧ (s.expired a).ftb.lead ≤ 50 := by
  rw [show (s.expired a).ftb = s.ftb from keeps_expired s a .ftb (by decide)]
  exact ⟨hlead, hlead'⟩

variable (hlead : 1 ≤ s.ftb.lead) (hlead' : s.ftb.lead ≤ 50)
include hlead hlead'

/-- What a watch sees of one failed order of the expiry. -/
theorem expire_watched {I J : State → Prop} (k : Watch I) (k' : Watch J) {o : Order} (ho : o ∈ s.expiring a) (h : I (s.expired a))
    (hstep : ∀ s, I s → J (orderFailed o s)) : J (expire a s) :=
  k.fold_tells k' ho hstep (expired_lead hlead hlead').1 (expired_lead hlead hlead').2 h

omit hlead hlead' in
theorem expired_tk : (s.expired a).tk = s.tk := keeps_expired s a .tk (by decide)

omit hlead hlead' in
theorem expired_station (y : Nat) : (s.expired a).station y = s.station y := by
  rw [State.station, expired_tk]
  rfl

/-- No order of the unit is due any more. -/
theorem expiry_undue (hp : 1 ≤ unitPlace a ∧ unitPlace a ≤ s.units.length) : Undue s.now a (finish s (expire a s)) := by
  have htold : Undue s.now a (expire a s) :=
    (watch_undue s.now a).orderFailed_fold _ (expired_lead hlead hlead').1 (expired_lead hlead hlead').2 (undue_expired hp)
  have hends : Undue s.now a (tkAfter s (expire a s)) := (rides_undue s.now a).tkAfterFor none s htold
  exact hends.same (keeps_after _ .units (by decide)) (keeps_after _ .ftb (by decide))

theorem expiry_tally {o : Order} {l : Nat} {x : TallyOrder} (ho : o ∈ s.expiring a) (hi : o.issuer = .tr l)
    (hx : (s.link l).tallyOrder = some x) (hid : x.id = o.id) :
    ((finish s (expire a s)).link l).tallyOrder = none ∧ ((finish s (expire a s)).link l).retryAt = some (framePlus x.issueFrame 4) := by
  have hexpired : TallyWatch true l x (s.expired a) := TallyWatch.same (.inl ⟨rfl, hx⟩) (keeps_expired s a .tallies (by decide))
  have htold : TallyWatch false l x (expire a s) := expire_watched hlead hlead' (watch_tally true l x) (watch_tally false l x) ho hexpired
    fun u hu => by
      rw [orderFailed, hi, ← hid]
      exact hu.fails
  have hends : TallyWatch false l x (tkAfter s (expire a s)) := (rides_tally false l x).tkAfterFor none s htold
  exact (TallyWatch.same hends (keeps_after _ .tallies (by decide))).resolve_left fun h => Bool.false_ne_true h.1

theorem expiry_lamp {o : Order} {y : Nat} {lit : LampContents} (ho : o ∈ s.expiring a) (hi : o.issuer = .tkLamp y)
    (hx : (s.station y).lampOrder = some (o.id, lit)) :
    ((finish s (expire a s)).station y).lampOrder = none ∧ ((finish s (expire a s)).station y).lampRetry = some (framePlus s.now 1) := by
  have hexpired : LampWatch true y o.id lit s.now (s.expired a) :=
    ⟨congrArg Ftb.counter (keeps_expired s a .ftb (by decide)), .inl ⟨rfl, by rw [expired_station]; exact hx⟩⟩
  have htold : LampWatch false y o.id lit s.now (expire a s) := expire_watched hlead hlead' (watch_lamp true y o.id lit s.now)
    (watch_lamp false y o.id lit s.now) ho hexpired fun u hu => by
      rw [orderFailed, hi]
      exact hu.fails
  have hends : LampWatch false y o.id lit s.now (tkAfter s (expire a s)) := (rides_lamp false y o.id lit s.now).tkAfterFor none s htold
  have hstation : (finish s (expire a s)).station y = (tkAfter s (expire a s)).station y := by
    rw [State.station, show (finish s (expire a s)).tk = (tkAfter s (expire a s)).tk from keeps_after _ .tk (by decide)]
    rfl
  rw [hstation]
  exact hends.2.resolve_left fun h => Bool.false_ne_true h.1

section settled
variable (hset : s.talkSettled) (hsound : s.routesSound)
include hset hsound

omit hlead hlead' in
theorem expiry_tk : (finish s (expire a s)).tk = (expire a s).tk := by
  rw [(recorded_expire a s).finishes hset hsound]
  exact keeps_after _ .tk (by decide)

theorem expiry_make {o : Order} {r : Route} (ho : o ∈ s.expiring a) (hi : o.issuer = .tkMake r.source r.destination) (hr : r ∈ s.tk.routes)
    (hl : r.live = true) (hm : r.makeOrder = some o.id) : { r with make := some .failed } ∈ (finish s (expire a s)).tk.routes := by
  have hexpired : MakeWatch true r (s.expired a) := .inl ⟨rfl, by rw [expired_tk]; exact hr⟩
  have htold : MakeWatch false r (expire a s) := expire_watched hlead hlead' (watch_make true r) (watch_make false r) ho hexpired
    fun u hu => (hu.fails hi hl hm).1
  rw [expiry_tk hset hsound]
  exact htold.resolve_left fun h => Bool.false_ne_true h.1

theorem expiry_break {o : Order} {b : Break} (ho : o ∈ s.expiring a) (hi : o.issuer = .tkBreak b.source b.destination) (hb : b ∈ s.tk.breaks)
    (hm : b.order = some o.id) : { b with order := none } ∈ (finish s (expire a s)).tk.breaks := by
  have hexpired : BreakWatch true b (s.expired a) := .inl ⟨rfl, by rw [expired_tk]; exact hb⟩
  have htold : BreakWatch false b (expire a s) := expire_watched hlead hlead' (watch_break true b) (watch_break false b) ho hexpired
    fun u hu => hu.fails hi hm
  rw [expiry_tk hset hsound]
  exact htold.resolve_left fun h => Bool.false_ne_true h.1

theorem expiry_dim {o : Order} {y : Nat} (ho : o ∈ s.expiring a) (hi : o.issuer = .tkDim y) (hm : (s.station y).dimOrder = some o.id) :
    ((finish s (expire a s)).station y).dimRetry = true := by
  have hexpired : DimWatch true y o.id (s.expired a) := .inl ⟨rfl, by rw [expired_station]; exact hm⟩
  have htold : DimWatch false y o.id (expire a s) := expire_watched hlead hlead' (watch_dim true y o.id) (watch_dim false y o.id) ho hexpired
    fun u hu => hu.fails hi
  rw [State.station, expiry_tk hset hsound]
  exact htold.resolve_left fun h => Bool.false_ne_true h.1

end settled

/-- A failed make is told to the route's destination. -/
theorem expiry_make_told {o : Order} {r : Route} (ho : o ∈ s.expiring a) (hi : o.issuer = .tkMake r.source r.destination) (hr : r ∈ s.tk.routes)
    (hl : r.live = true) (hm : r.makeOrder = some o.id) : Notified .stationMatrixFailed r.destination (finish s (expire a s)) := by
  have hexpired : MakeWatch true r (s.expired a) := .inl ⟨rfl, by rw [expired_tk]; exact hr⟩
  have hftb : (s.expired a).ftb = s.ftb := keeps_expired s a .ftb (by decide)
  let I (u : State) : Prop := MakeWatch true r u ∧ u.ftb = s.ftb
  have hI (x : Order) (u : State) (h : I u) : I (orderFailed x u) :=
    ⟨(watch_make true r).orderFailed (h.2 ▸ hlead) (h.2 ▸ hlead') x h.1, (keeps_orderFailed x u .ftb (by decide)).trans h.2⟩
  exact notified_finish (failures_tell (I := I) hI (fun x u h => h.of_acts (acts_orderFailed (keyed := true) x u)) ho
    (fun u h => (h.1.fails hi hl hm).2) ⟨hexpired, hftb⟩) s

end ends

/-! ## The failures of other orders -/

theorem length_bands_of_acts {wide : Reach} {s t : State} (h : Acts wide s t) : t.bands.length = s.bands.length := by
  have hchange (s t : State) (hc : Change wide s t) : t.bands.length = s.bands.length := by
    cases hc with
    | bands bs hlen _ => exact hlen
    | issue a body i => exact length_of_bands (keeps_issue a body i s .bands (by decide))
    | free a n f _ _ => exact length_of_bands (((keeps_modUnit s a f).mono (qs := [.units, .bus]) (by decide)).trans (keeps_grant a n _) .bands (by decide))
    | _ => rfl
  induction h with
  | refl => rfl
  | tail _ hc ih => exact (hchange _ _ hc).trans ih

section others
variable {s : State} {a : Nat} {o : Order} {l : Nat}

/-- A MUTE that fails is told. -/
theorem expiry_mute_told (ho : o ∈ s.expiring a) (hi : o.issuer = .lsPark l ∨ o.issuer = .lsRelease l ∨ o.issuer = .rcVacate l) :
    Notified .linkMuteFailed l (finish s (expire a s)) := by
  refine notified_finish (failures_tell (I := fun _ => True) (fun _ _ _ => trivial) (fun x u h => h.of_acts (acts_orderFailed (keyed := true) x u)) ho
    (fun u _ => ?_) trivial) s
  obtain hi | hi | hi := hi <;> rw [orderFailed, hi]
  · show Waits .linkMuteFailed l (parkMuteFailed l u)
    unfold parkMuteFailed
    dsimp only
    split
    · exact (waits_raise .linkMuteFailed l u).of_same rfl
    · exact waits_raise _ _ _
  · exact waits_raise _ _ _
  · exact waits_raise _ _ _

theorem expiry_link (l : Nat) (s0 : State) : ((finish s0 (expire a s)).link l).core = ((expire a s).link l).core :=
  linkCore_of_same (keeps_finishTail s0 (expire a s) .links (by decide)) l

/-- Each failed MUTE of a link that stands PARKED is set for the next boundary. -/
theorem expiry_mutes (hst : (s.link l).state = .parked) :
    ((finish s (expire a s)).link l).muteReissue = (s.link l).muteReissue ++
      List.replicate ((s.unit a).orders.countP fun o => decide (o.deadline = s.now ∧ o.issuer = .lsPark l)) (framePlus s.now 1) := by
  have hcore := linkCore_of_same (keeps_expired s a .links (by decide)) l
  have hexpired : Parked l (s.link l).muteReissue (s.expired a) := Parked.same ⟨hst, rfl⟩ hcore
  have hnow : (s.expired a).now = s.now := congrArg Ftb.counter (keeps_expired s a .ftb (by decide))
  have hcount : (s.expiring a).countP (fun o => decide (o.issuer = .lsPark l)) =
      (s.unit a).orders.countP fun o => decide (o.deadline = s.now ∧ o.issuer = .lsPark l) := by
    rw [State.expiring, UnitRec.dueOrders, ← List.filter_append, List.countP_filter]
    refine List.countP_congr fun o _ => ?_
    simp only [Order.due, Bool.and_eq_true, decide_eq_true_eq]
    exact and_comm
  have htold := (hexpired.failures (s.expiring a)).2
  rw [hnow, hcount] at htold
  exact (congrArg Link.muteReissue (expiry_link l s) :).trans htold

/-- A retune in flight whose TUNE fails reverts. -/
theorem expiry_reverts (ho : o ∈ s.expiring a) (hi : o.issuer = .rcRetune l) (hst : (s.link l).state = .retuning)
    (hm : (s.link l).moveOrder = some o.id) : ((finish s (expire a s)).link l).state = .reverting := by
  have hexpired : RetuneWatch true l o.id (s.expired a) :=
    RetuneWatch.same (.inl ⟨rfl, hst, hm⟩) (linkCore_of_same (keeps_expired s a .links (by decide)) l)
  have htold := (hexpired.fold_fails ho hi).resolve_left fun h => Bool.false_ne_true h.1
  exact (congrArg Link.state (expiry_link l s) :).trans htold

/-- A SCAN_ASSIGN that fails is set for the next boundary. -/
theorem expiry_scan {b c khz width n : Nat} (hb : 1 ≤ b) (hb' : b ≤ s.bands.length) (ho : o ∈ s.expiring a) (hi : o.issuer = .st b)
    (hbody : o.body = .scanAssign c khz width n) :
    (framePlus s.now 1, (⟨o.address, khz, width, n⟩ : ScanOrder)) ∈ ((finish s (expire a s)).band b).scanReissue := by
  let I (u : State) : Prop := u.now = s.now ∧ u.bands.length = s.bands.length
  let J (u : State) : Prop := (framePlus s.now 1, (⟨o.address, khz, width, n⟩ : ScanOrder)) ∈ (u.band b).scanReissue
  have hexpired : I (s.expired a) := ⟨congrArg Ftb.counter (keeps_expired s a .ftb (by decide)), length_of_bands (keeps_expired s a .bands (by decide))⟩
  have hI (x : Order) (u : State) (h : I u) : I (orderFailed x u) :=
    ⟨(congrArg Ftb.counter (keeps_orderFailed x u .ftb (by decide))).trans h.1, (length_bands_of_acts (acts_orderFailed (keyed := true) x u)).trans h.2⟩
  have htold : J (expire a s) := failures_tell (I := I) (J := J) hI (fun x u h => (orderFailed_scanReissue x).subset h) ho (fun u h => by
    rw [orderFailed, hi]
    show _ ∈ ((scanAssignFailed b o u).band b).scanReissue
    rw [scanAssignFailed, hbody]
    show _ ∈ ((scanFailed b _ u).band b).scanReissue
    rw [scanFailed, band_modBand_self hb (hb'.trans_eq h.2.symm), h.1]
    exact List.mem_append_right _ (List.mem_singleton_self _)) hexpired
  have hcore := bandCore_of_same (keeps_finishTail s (expire a s) .bands (by decide)) b
  have hsame : ((finish s (expire a s)).band b).scanReissue = ((expire a s).band b).scanReissue := (congrArg Band.scanReissue hcore :)
  rw [hsame]
  exact htold

end others

/-- The waiting orders that are granted places, and those that are not (R128). -/
theorem expiry_grants {s : State} {a : Nat} (hp : 1 ≤ unitPlace a ∧ unitPlace a ≤ s.units.length) (hsound : s.unitsSound) :
    let u := s.unit a
    let t := finish s (expire a s)
    let stay := u.waiting.filter fun o => decide (o.deadline ≠ s.now)
    let freed := u.outstanding.countP fun o => decide (o.deadline = s.now)
    let granted := (stay.filter (fun o => !o.isTally) ++ stay.filter Order.isTally).take freed
    let quiet := s.talkSettled ∧ ∀ o ∈ s.expiring a, ∀ l, o.issuer ≠ .rcRetune l
    (∀ o ∈ granted, o.displaceable = false ∨ quiet → ∃ n : Byte, { o with number := some n } ∈ (t.unit a).outstanding) ∧
    (∀ o, granted.head? = some o → o.displaceable = false ∨ quiet → { o with number := some u.nextNumber } ∈ (t.unit a).outstanding) ∧
    (∀ o ∈ stay, o ∉ granted → o ∈ (t.unit a).waiting) ∧
    (quiet → (t.unit a).waiting = stay.filter (fun o => decide (o ∉ granted)) ∧ (t.unit a).outstanding.map Order.id =
      ((u.outstanding.filter fun o => decide (o.deadline ≠ s.now)) ++ granted).map Order.id) := by
  intro u t stay freed granted quiet
  obtain ⟨hwaiting, ns, hlen, hhead, hout⟩ := expired_unit hp hsound
  have hissues : Issues (fun _ => True) (s.expired a) t := issues_expiry a s s
  have hquiet (h : quiet) : t.unit a = (s.expired a).unit a := unit_of_units (expiry_units h.1 h.2) a
  have hlasts {o : Order} (hd : o.displaceable = false ∨ quiet) (ho : o ∈ ((s.expired a).unit a).outstanding) : o ∈ (t.unit a).outstanding :=
    hd.elim (fun hd => hissues.outstanding hd ho) fun hq => by rw [hquiet hq]; exact ho
  refine ⟨fun o ho hd => ?_, fun o ho hd => ?_, fun o ho hno => ?_, fun hq => ⟨?_, ?_⟩⟩
  · obtain ⟨n, hn⟩ := mem_zipWith_under hlen ho
    refine ⟨n, hlasts hd ?_⟩
    rw [hout]
    exact List.mem_append_right _ hn
  · refine hlasts hd ?_
    rw [hout]
    refine List.mem_append_right _ ?_
    obtain ⟨os, hos⟩ := List.head?_eq_some_iff.1 ho
    change ns.head? = granted.head?.map _ at hhead
    rw [ho] at hhead
    obtain ⟨ns', hns⟩ := List.head?_eq_some_iff.1 hhead
    show _ ∈ List.zipWith Order.under granted ns
    rw [hos, hns]
    exact List.mem_cons_self
  · refine hissues.waiting ?_
    rw [hwaiting]
    exact List.mem_filter.2 ⟨ho, decide_eq_true hno⟩
  · rw [hquiet hq]
    exact hwaiting
  · rw [hquiet hq, hout, List.map_append, List.map_append, map_id_zipWith_under hlen]

/-- Settles O17. -/
theorem ordersExpire : Obligations.OrdersExpire := by
  intro s a hs hlead hlead' ha hdue due
  obtain ⟨hbands, -, hunits, -⟩ := hs
  have haddr : a ∈ unitAddresses := mem_unitAddresses.2 ha
  have hp : 1 ≤ unitPlace a ∧ unitPlace a ≤ (s.without (.orders a)).units.length := place_of_address hunits haddr
  have hlead : 1 ≤ (s.without (.orders a)).ftb.lead := Nat.le_of_succ_le hlead
  have hstep : owedStep (.orders a) (s.without (.orders a)) = expire a (s.without (.orders a)) := rfl
  have hexpiring {o : Order} (ho : due o) : o ∈ (s.without (.orders a)).expiring a := mem_expiring.2 ho
  have hset (h : s.talkSettled) : (s.without (.orders a)).talkSettled :=
    talkSettled_of_same (s0 := s) (sameReasons_of_parts rfl fun _ => rfl) rfl h
  refine ⟨_, congrArg Host.Outcome.next (takeOwed_of_due hdue), ?_⟩
  rw [hstep]
  refine ⟨(expiry_undue hlead hlead' hp).2, fun b o ho hb hd hn => ?_, fun o l ho hi => expiry_mute_told (hexpiring ho) hi,
    fun l _ _ hst => expiry_mutes hst, fun o l ho _ _ hi hst hm => expiry_reverts (hexpiring ho) hi hst hm,
    fun o l x ho hi hx hid => expiry_tally hlead hlead' (hexpiring ho) hi hx hid,
    fun o y lit ho hi hx => expiry_lamp hlead hlead' (hexpiring ho) hi hx,
    fun o r hq hr ho hi hmem hl hm => ⟨expiry_make hlead hlead' (hset hq) hr (hexpiring ho) hi hmem hl hm,
      expiry_make_told hlead hlead' (hexpiring ho) hi hmem hl hm⟩,
    fun o b hq hr ho hi hmem hm => expiry_break hlead hlead' (hset hq) hr (hexpiring ho) hi hmem hm,
    fun o y hq hr ho hi hm => expiry_dim hlead hlead' (hset hq) hr (hexpiring ho) hi hm,
    fun o b c khz width n ho hb hb' hi hbody => expiry_scan hb (hbands.symm ▸ hb') (hexpiring ho) hi hbody, fun hsound => ?_, ?_⟩
  · subst hb
    have hheld : HoldsAt o ((s.without (.orders a)).expired a) := holds_expired hp ho hd hn
    exact (hheld.issues hd (issues_expiry a _ _)).holds
  · have hquiet (h : s.talkSettled ∧ ∀ (o : Order) (l : Nat), due o → o.issuer ≠ .rcRetune l) : (s.without (.orders a)).talkSettled ∧
        ∀ o ∈ (s.without (.orders a)).expiring a, ∀ l, o.issuer ≠ .rcRetune l :=
      ⟨hset h.1, fun o ho l => h.2 o l (mem_expiring.1 ho)⟩
    obtain ⟨hgranted, hfirst, hwait, hall⟩ := expiry_grants hp (s := s.without (.orders a)) hsound
    exact ⟨fun o ho hd => hgranted o ho (hd.imp_right hquiet), fun o ho hd => hfirst o ho (hd.imp_right hquiet), hwait,
      fun hq => hall (hquiet hq)⟩
  · exact (keeps_dueStep (keeps_expire a _)).mono (by decide)

end Sys2Proof.Machine

/-! Chapter 3 (O60): the constraints that a set of carriers forms, the worst of them, and the ranking of a sweep. -/

namespace Sys2Proof.Machine

-- One theorem at a time: all at once, their threads together outgrow the memory limit of the check.
set_option Elab.async false

/-! ## The order of constraints (R46) -/

theorem keysLt_irrefl (xs : List Int) : keysLt xs xs = false := by
  induction xs with
  | nil => rfl
  | cons x xs ih => rw [keysLt, if_pos rfl, ih]

theorem keysLt_trans {xs ys zs : List Int} (h : keysLt xs ys = true) (k : keysLt ys zs = true) : keysLt xs zs = true := by
  induction xs generalizing ys zs with
  | nil => cases h
  | cons x xs ih =>
    cases ys with
    | nil => cases h
    | cons y ys =>
      cases zs with
      | nil => cases k
      | cons z zs =>
        rw [keysLt] at h k ⊢
        by_cases hxy : x = y
        · subst hxy
          by_cases hxz : x = z
          · rw [if_pos rfl] at h
            rw [if_pos hxz] at k ⊢
            exact ih h k
          · rw [if_neg hxz] at k ⊢
            exact k
        · rw [if_neg hxy, decide_eq_true_eq] at h
          by_cases hyz : y = z
          · subst hyz
            rw [if_neg hxy]
            exact decide_eq_true h
          · rw [if_neg hyz, decide_eq_true_eq] at k
            rw [if_neg (by omega)]
            exact decide_eq_true (h.trans k)

theorem worse_trans {a b c : Constraint} (h : a.worse b = true) (k : b.worse c = true) : a.worse c = true := keysLt_trans h k

/-- A constraint of a lower margin is worse. -/
theorem margin_le_of_not_worse {a b : Constraint} (h : a.worse b = false) : b.margin ≤ a.margin := by
  by_contra hlt
  have hworse : a.worse b = true := by
    rw [Constraint.worse, Constraint.keys, Constraint.keys, keysLt, if_neg (by omega)]
    exact decide_eq_true (by omega)
  rw [hworse] at h
  cases h

/-- Of the constraints met, the first in the order is kept. -/
def foldWorst (cs : List Constraint) (c : Constraint) : Constraint := cs.foldl (fun m x => if x.worse m then x else m) c

theorem foldWorst_le (cs : List Constraint) (c : Constraint) : foldWorst cs c = c ∨ (foldWorst cs c).worse c = true := by
  induction cs generalizing c with
  | nil => exact .inl rfl
  | cons d cs ih =>
    show foldWorst cs (if d.worse c then d else c) = c ∨ (foldWorst cs (if d.worse c then d else c)).worse c = true
    by_cases hd : d.worse c = true
    · rw [if_pos hd]
      refine .inr ?_
      obtain h | h := ih d
      · rw [h]; exact hd
      · exact worse_trans h hd
    · rw [if_neg hd]
      exact ih c

theorem foldWorst_mem (cs : List Constraint) (c : Constraint) : foldWorst cs c ∈ c :: cs := by
  induction cs generalizing c with
  | nil => exact List.mem_cons_self
  | cons d cs ih =>
    show foldWorst cs (if d.worse c then d else c) ∈ c :: d :: cs
    split
    · exact List.mem_cons_of_mem c (ih d)
    · rcases List.mem_cons.1 (ih c) with h | h
      · rw [h]; exact List.mem_cons_self
      · exact List.mem_cons_of_mem c (List.mem_cons_of_mem d h)

/-- No constraint that is not worse than the one at hand is worse than the one that is kept. -/
theorem not_worse_foldWorst {cs : List Constraint} {c x : Constraint} (h : x.worse c = false) : x.worse (foldWorst cs c) = false := by
  refine Bool.eq_false_iff.2 fun hw => ?_
  have hworse : x.worse c = true := by
    obtain he | he := foldWorst_le cs c
    · rw [he] at hw; exact hw
    · exact worse_trans hw he
  rw [h] at hworse
  cases hworse

theorem foldWorst_least (cs : List Constraint) (c : Constraint) : ∀ x ∈ c :: cs, x.worse (foldWorst cs c) = false := by
  induction cs generalizing c with
  | nil => exact fun x hx => by rw [List.mem_singleton.1 hx]; exact keysLt_irrefl _
  | cons d cs ih =>
    show ∀ x ∈ c :: d :: cs, x.worse (foldWorst cs (if d.worse c then d else c)) = false
    by_cases hd : d.worse c = true
    · rw [if_pos hd]
      refine fun x hx => (List.mem_cons.1 hx).elim (fun h => ?_) fun h => ih d x h
      refine not_worse_foldWorst (Bool.eq_false_iff.2 fun hw => ?_)
      rw [h] at hw
      exact Bool.false_ne_true ((keysLt_irrefl _).symm.trans (worse_trans hw hd))
    · rw [if_neg hd]
      rintro x hx
      rcases List.mem_cons.1 hx with rfl | hx
      · exact ih x x List.mem_cons_self
      · rcases List.mem_cons.1 hx with rfl | hx
        · exact not_worse_foldWorst (Bool.eq_false_iff.2 hd)
        · exact ih c x (List.mem_cons_of_mem c hx)

theorem worstOf_cons (band : Nat) (c : Constraint) (cs : List Constraint) : worstOf band (c :: cs) = foldWorst cs c := rfl

/-- The record of a list of constraints is their worst. -/
theorem worst_worstOf {band : Nat} {cs : List Constraint} {forms : Constraint → Prop} (h : ∀ x, x ∈ cs ↔ forms x) :
    Worst band forms (worstOf band cs) := by
  refine ⟨fun hnone => ?_, fun ⟨x, hx⟩ => ?_⟩
  · obtain rfl : cs = [] := List.eq_nil_iff_forall_not_mem.2 fun x hx => hnone x ((h x).1 hx)
    rfl
  · cases cs with
    | nil => exact absurd ((h x).2 hx) List.not_mem_nil
    | cons c cs =>
      rw [worstOf_cons]
      refine ⟨(h _).1 (foldWorst_mem cs c), fun y hy => ?_⟩
      have hleast := foldWorst_least cs c y ((h y).2 hy)
      exact ⟨margin_le_of_not_worse hleast, hleast⟩

/-! ## The constraints of a set (R39 to R44) -/

theorem differ_iff {a b : Carrier} : differ a b = true ↔ a.link ≠ b.link := decide_eq_true_iff

theorem before_iff {a b : Carrier} (h : a.link ≠ b.link) : a.before b = true ↔ a.precedes b := by
  unfold Carrier.before Carrier.precedes
  by_cases hs : a.step = b.step
  · simp [hs, h]
  · simp [hs]

theorem precedes_or (a b : Carrier) (h : a.link ≠ b.link) : a.precedes b ∨ b.precedes a := by
  unfold Carrier.precedes
  omega

theorem spacing_eq (g : BandSnap) (a b : Carrier) : spacing g.band g.p.gapCc a b = spacingOf g a b := by
  rw [spacing, spacingMargin, Int.natCast_natAbs]
  rfl

theorem barred_eq (g : BandSnap) (kind : ConstraintKind) (v : Carrier) (r : StepRange) : barred g.band kind g.p.gapCc v r = rangeOf g kind v r := rfl

theorem intermod_eq (g : BandSnap) (kind : ConstraintKind) (gap : Nat) (v : Carrier) (p : Int) (ph : Nat) (a b : Carrier) (k : Option Carrier) :
    intermod g.band kind gap v p ph a b k = productOf g kind gap p ph v a b k := by
  rw [intermod, Int.natCast_natAbs]
  rfl

section members
variable {g : BandSnap} {cs : List Carrier} {x : Constraint}

theorem mem_spacings : x ∈ spacings g.band g.p.gapCc cs ↔
    ∃ a ∈ cs, ∃ b ∈ cs, a.link ≠ b.link ∧ a.precedes b ∧ x = spacingOf g a b := by
  simp only [spacings, List.mem_flatMap, List.mem_filterMap, Option.ite_none_right_eq_some, Option.some.injEq, Bool.and_eq_true, differ_iff,
    spacing_eq, and_assoc]
  refine exists_congr fun a => and_congr_right fun _ => exists_congr fun b => and_congr_right fun _ => and_congr_right fun hab => ?_
  rw [before_iff hab, eq_comm]

theorem mem_barreds {kind : ConstraintKind} {rs : List StepRange} : x ∈ barreds g.band kind g.p.gapCc rs cs ↔
    ∃ v ∈ cs, ∃ r ∈ rs, x = rangeOf g kind v r := by
  simp only [barreds, List.mem_flatMap, List.mem_map, barred_eq, eq_comm]

theorem mem_products {kind : ConstraintKind} {gap : Nat} {p : Carrier → Carrier → Int} {ph : Carrier → Carrier → Nat} :
    x ∈ (cs.flatMap fun a => cs.flatMap fun b => if differ a b then
      cs.filterMap fun v => if differ a v && differ b v then some (intermod g.band kind gap v (p a b) (ph a b) a b none) else none
      else []) ↔
    ∃ a ∈ cs, ∃ b ∈ cs, ∃ v ∈ cs, a.link ≠ b.link ∧ a.link ≠ v.link ∧ b.link ≠ v.link ∧
      x = productOf g kind gap (p a b) (ph a b) v a b none := by
  simp only [List.mem_flatMap, List.mem_ite_nil_right, List.mem_filterMap, Option.ite_none_right_eq_some, Option.some.injEq,
    Bool.and_eq_true, differ_iff, intermod_eq, and_assoc]
  refine exists_congr fun a => and_congr_right fun _ => exists_congr fun b => and_congr_right fun _ => ?_
  constructor
  · rintro ⟨hab, v, hv, hav, hbv, rfl⟩
    exact ⟨v, hv, hab, hav, hbv, rfl⟩
  · rintro ⟨v, hv, hab, hav, hbv, rfl⟩
    exact ⟨hab, v, hv, hav, hbv, rfl⟩

theorem mem_im3Threes {gap : Nat} : x ∈ im3Threes g.band gap cs ↔
    ∃ a ∈ cs, ∃ b ∈ cs, ∃ k ∈ cs, ∃ v ∈ cs, a.precedes b ∧ a.link ≠ b.link ∧ a.link ≠ k.link ∧ a.link ≠ v.link ∧ b.link ≠ k.link ∧
      b.link ≠ v.link ∧ k.link ≠ v.link ∧
      x = productOf g .im3Three gap ((a.step : Int) + b.step - k.step) (a.hw + b.hw + k.hw) v a b (some k) := by
  simp only [im3Threes, List.mem_flatMap, List.mem_ite_nil_right, List.mem_filterMap, Option.ite_none_right_eq_some, Option.some.injEq,
    Bool.and_eq_true, differ_iff, intermod_eq, and_assoc]
  refine exists_congr fun a => and_congr_right fun _ => exists_congr fun b => and_congr_right fun _ => ?_
  constructor
  · rintro ⟨hab, hbefore, k, hk, hak, hbk, v, hv, hav, hbv, hkv, rfl⟩
    exact ⟨k, hk, v, hv, (before_iff hab).1 hbefore, hab, hak, hav, hbk, hbv, hkv, rfl⟩
  · rintro ⟨k, hk, v, hv, hprec, hab, hak, hav, hbk, hbv, hkv, rfl⟩
    exact ⟨hab, (before_iff hab).2 hprec, k, hk, hak, hbk, v, hv, hav, hbv, hkv, rfl⟩

/-- The model's lists hold just the constraints that the set forms. -/
theorem mem_constraints {override : Bool} : x ∈ constraints g override cs ↔ Forms g override (· ∈ cs) x := by
  have hplain : x ∈ plainConstraints g cs ↔ (∃ a ∈ cs, ∃ b ∈ cs, a.link ≠ b.link ∧ a.precedes b ∧ x = spacingOf g a b) ∨
      (∃ v ∈ cs, ∃ r ∈ g.exclusions, x = rangeOf g .exclusion v r) ∨ ∃ v ∈ cs, ∃ r ∈ g.hot, x = rangeOf g .hotBin v r := by
    rw [plainConstraints, List.mem_append, List.mem_append, mem_spacings, mem_barreds, mem_barreds, or_assoc]
  constructor
  · intro hx
    have hforms (h : x ∈ plainConstraints g cs) : Forms g override (· ∈ cs) x := by
      obtain ⟨a, ha, b, hb, hab, hprec, rfl⟩ | ⟨v, hv, r, hr, rfl⟩ | ⟨v, hv, r, hr, rfl⟩ := hplain.1 h
      · exact .spacing a b ha hb hab hprec
      · exact .exclusion v r hv hr
      · exact .hotBin v r hv hr
    unfold constraints at hx
    split at hx
    · exact hforms hx
    · rename_i ho
      have hov : override = false := Bool.eq_false_iff.2 ho
      rw [List.mem_append] at hx
      obtain hx | hx := hx
      · exact hforms hx
      · rw [productConstraints, List.mem_append, List.mem_append] at hx
        obtain (hx | hx) | hx := hx
        · obtain ⟨a, ha, b, hb, v, hv, hab, hav, hbv, rfl⟩ := mem_products.1 hx
          exact .im3Two a b v hov ha hb hv hab hav hbv
        · obtain ⟨a, ha, b, hb, k, hk, v, hv, hprec, hab, hak, hav, hbk, hbv, hkv, rfl⟩ := mem_im3Threes.1 hx
          exact .im3Three a b k v hov ha hb hk hv hprec hab hak hav hbk hbv hkv
        · unfold im5Twos at hx
          split at hx
          · cases hx
          · rename_i hgap
            obtain ⟨a, ha, b, hb, v, hv, hab, hav, hbv, rfl⟩ := mem_products.1 hx
            exact .im5Two a b v hov (Nat.pos_of_ne_zero hgap) ha hb hv hab hav hbv
  · intro hx
    have hin (h : x ∈ plainConstraints g cs) : x ∈ constraints g override cs := by
      unfold constraints
      split
      · exact h
      · exact List.mem_append_left _ h
    have hprod (ho : override = false) (h : x ∈ productConstraints g cs) : x ∈ constraints g override cs := by
      unfold constraints
      rw [if_neg (by rw [ho]; exact Bool.false_ne_true)]
      exact List.mem_append_right _ h
    cases hx with
    | spacing a b ha hb hab hprec => exact hin (hplain.2 (.inl ⟨a, ha, b, hb, hab, hprec, rfl⟩))
    | exclusion v r hv hr => exact hin (hplain.2 (.inr (.inl ⟨v, hv, r, hr, rfl⟩)))
    | hotBin v r hv hr => exact hin (hplain.2 (.inr (.inr ⟨v, hv, r, hr, rfl⟩)))
    | im3Two a b v ho ha hb hv hab hav hbv =>
      exact hprod ho (List.mem_append_left _ (List.mem_append_left _ (mem_products.2 ⟨a, ha, b, hb, v, hv, hab, hav, hbv, rfl⟩)))
    | im3Three a b k v ho ha hb hk hv hprec hab hak hav hbk hbv hkv =>
      exact hprod ho (List.mem_append_left _ (List.mem_append_right _
        (mem_im3Threes.2 ⟨a, ha, b, hb, k, hk, v, hv, hprec, hab, hak, hav, hbk, hbv, hkv, rfl⟩)))
    | im5Two a b v ho hgap ha hb hv hab hav hbv =>
      refine hprod ho (List.mem_append_right _ ?_)
      rw [im5Twos, if_neg (Nat.pos_iff_ne_zero.1 hgap)]
      exact mem_products.2 ⟨a, ha, b, hb, v, hv, hab, hav, hbv, rfl⟩

end members

/-! ## Candidate checks and plan checks (R49 to R52) -/

theorem worst_evaluate (g : BandSnap) (override : Bool) (cs : List Carrier) :
    Worst g.band (Forms g override (· ∈ cs)) (evaluate g override cs) := worst_worstOf fun _ => mem_constraints

theorem mem_without {l : Nat} {c : Carrier} {cs : List Carrier} : c ∈ without l cs ↔ c ∈ cs ∧ (l = 0 ∨ c.link ≠ l) := by
  unfold without
  by_cases hl : l = 0
  · rw [if_pos hl]
    exact (and_iff_left (.inl hl)).symm
  · rw [if_neg hl, List.mem_filter, decide_eq_true_eq]
    exact and_congr_right fun _ => (or_iff_right hl).symm

theorem mem_planAdded {b : Nat} {es : List EntrySnap} {c : Carrier} : c ∈ planAdded b es ↔
    ∃ e ∈ es, e.band = b ∧ ∃ step, e.target = some step ∧ c = { step := step, hw := e.hw, link := e.link, role := .candidate } := by
  simp only [planAdded, List.mem_filterMap, Option.ite_none_right_eq_some, Option.map_eq_some_iff]
  exact exists_congr fun e => and_congr_right fun _ => and_congr_right fun _ => exists_congr fun step => and_congr_right fun _ => eq_comm

theorem mem_finalSet {g : BandSnap} {es : List EntrySnap} {c : Carrier} : c ∈ finalSet g es ↔ InFinal g es c := by
  rw [finalSet, List.mem_append, List.mem_filter, mem_planAdded, InFinal]
  refine or_congr (and_congr_right fun _ => ?_) (exists_congr fun e => and_congr_right fun _ => and_congr_right fun _ => ?_)
  · rw [Bool.not_eq_true', List.any_eq_false]
    simp only [decide_eq_true_eq]
  · constructor
    · rintro ⟨step, htarget, rfl⟩
      exact ⟨htarget, rfl⟩
    · rintro ⟨htarget, hc⟩
      exact ⟨c.step, htarget, hc⟩

theorem orderedSpacing_eq {g : BandSnap} {c h : Carrier} {x : Constraint} (hl : c.link ≠ h.link) :
    x = orderedSpacing g.band g.p.gapCc c h ↔ (c.precedes h ∧ x = spacingOf g c h) ∨ (h.precedes c ∧ x = spacingOf g h c) := by
  have hnot (hc : c.precedes h) : ¬ h.precedes c := by
    unfold Carrier.precedes at hc ⊢
    omega
  rw [orderedSpacing, spacing_eq, spacing_eq]
  by_cases hc : c.precedes h
  · rw [if_pos ((before_iff hl).2 hc)]
    simp [hc, hnot hc]
  · rw [if_neg fun hb => hc ((before_iff hl).1 hb)]
    simp [hc, (precedes_or c h hl).resolve_left hc]

theorem mem_transitional {g : BandSnap} {es : List EntrySnap} {x : Constraint} : x ∈ transitional g es ↔ Transits g es x := by
  simp only [transitional, List.mem_flatMap, mem_planAdded, List.mem_filterMap, Option.ite_none_right_eq_some, Option.some.injEq, differ_iff]
  constructor
  · rintro ⟨c, ⟨e, he, hband, step, htarget, rfl⟩, h, hh, hl, heq⟩
    exact ⟨e, he, hband, step, htarget, h, hh, hl.symm, (orderedSpacing_eq hl).1 heq.symm⟩
  · rintro ⟨e, he, hband, step, htarget, h, hh, hl, hx⟩
    exact ⟨_, ⟨e, he, hband, step, htarget, rfl⟩, h, hh, hl.symm, ((orderedSpacing_eq hl.symm).2 hx).symm⟩

theorem worst_candidateCheck (g : BandSnap) (override : Bool) (step hw l : Nat) :
    Worst g.band (Forms g override fun c => (c ∈ g.held ∧ (l = 0 ∨ c.link ≠ l)) ∨
      c = { step := step, hw := hw, link := l, role := .candidate }) (candidateCheck g override step hw l) := by
  have hset : (· ∈ without l g.held ++ [{ step := step, hw := hw, link := l, role := .candidate }]) =
      fun c : Carrier => (c ∈ g.held ∧ (l = 0 ∨ c.link ≠ l)) ∨ c = { step := step, hw := hw, link := l, role := .candidate } :=
    funext fun c => propext (by rw [List.mem_append, mem_without, List.mem_singleton])
  have hworst := worst_evaluate g override (without l g.held ++ [{ step := step, hw := hw, link := l, role := .candidate }])
  rw [hset] at hworst
  exact hworst

theorem worst_planWorst (bands : List BandSnap) (es : List EntrySnap) :
    Worst ((bands.map BandSnap.band).headD 0) (fun x => ∃ g ∈ bands, Forms g false (InFinal g es) x ∨ Transits g es x) (planWorst bands es) := by
  refine worst_worstOf fun x => ?_
  rw [List.mem_flatMap]
  refine exists_congr fun g => and_congr_right fun _ => ?_
  have hset : (· ∈ finalSet g es) = InFinal g es := funext fun c => propext mem_finalSet
  rw [List.mem_append, mem_constraints, mem_transitional, hset]

end Sys2Proof.Machine

/-! The set margin and the ranking of a sweep (O60): what bounds the margin, and the order of the ranked list (R45, R53). -/

namespace Sys2Proof.Machine

-- One theorem at a time: all at once, their threads together outgrow the memory limit of the check.
set_option Elab.async false

/-! ## The set margin (R45) -/

section margin
variable {g : BandSnap} {cs : List Carrier} {a b v k : Carrier}

/-- No constraint that the set forms has a lower margin. -/
theorem margin_le {x : Constraint} (h : Forms g false (· ∈ cs) x) : (evaluate g false cs).margin ≤ x.margin :=
  (((worst_evaluate g false cs).2 ⟨x, h⟩).2 x h).1

theorem margin_le_spacing (ha : a ∈ cs) (hb : b ∈ cs) (hab : a.link ≠ b.link) :
    (evaluate g false cs).margin ≤ |(a.step : Int) - b.step| - a.hw - b.hw - g.p.gapCc := by
  obtain h | h := precedes_or a b hab
  · exact margin_le (.spacing a b ha hb hab h)
  · have hle : (evaluate g false cs).margin ≤ |(b.step : Int) - a.step| - b.hw - a.hw - g.p.gapCc := margin_le (.spacing b a hb ha hab.symm h)
    rw [abs_sub_comm] at hle
    omega

theorem margin_le_im3Three (ha : a ∈ cs) (hb : b ∈ cs) (hk : k ∈ cs) (hv : v ∈ cs) (hab : a.link ≠ b.link) (hak : a.link ≠ k.link)
    (hav : a.link ≠ v.link) (hbk : b.link ≠ k.link) (hbv : b.link ≠ v.link) (hkv : k.link ≠ v.link) :
    (evaluate g false cs).margin ≤ |(v.step : Int) - (a.step + b.step - k.step)| - v.hw - (a.hw + b.hw + k.hw) - g.p.gapIm3x := by
  obtain h | h := precedes_or a b hab
  · exact margin_le (.im3Three a b k v rfl ha hb hk hv h hab hak hav hbk hbv hkv)
  · have hle : (evaluate g false cs).margin ≤
        |(v.step : Int) - (b.step + a.step - k.step)| - v.hw - ((b.hw + a.hw + k.hw : Nat) : Int) - g.p.gapIm3x :=
      margin_le (.im3Three b a k v rfl hb ha hk hv h hab.symm hbk hbv hak hav hkv)
    rw [Nat.add_comm b.hw, add_comm (b.step : Int)] at hle
    exact hle

theorem rangeOf_margin (g : BandSnap) (kind : ConstraintKind) (v : Carrier) {r : StepRange} (h : r.lo ≤ r.hi) :
    (rangeOf g kind v r).margin = max 0 (max ((r.lo : Int) - v.step) (v.step - r.hi)) - v.hw - g.p.gapCc := by
  have hdistance : (if v.step < r.lo then (r.lo : Int) - v.step else if r.hi < v.step then (v.step : Int) - r.hi else 0) =
      max 0 (max ((r.lo : Int) - v.step) (v.step - r.hi)) := by
    split
    · omega
    · split <;> omega
  rw [← hdistance]
  rfl

theorem margin_le_range {r : StepRange} (hv : v ∈ cs) (hr : r ∈ g.exclusions ++ g.hot) (h : r.lo ≤ r.hi) :
    (evaluate g false cs).margin ≤ max 0 (max ((r.lo : Int) - v.step) (v.step - r.hi)) - v.hw - g.p.gapCc := by
  rcases List.mem_append.1 hr with hr | hr
  · rw [← rangeOf_margin g .exclusion v h]
    exact margin_le (.exclusion v r hv hr)
  · rw [← rangeOf_margin g .hotBin v h]
    exact margin_le (.hotBin v r hv hr)

end margin

/-! ## The ranking of a sweep (R53) -/

section ranking
variable {α : Type} {R : α → α → Prop} {before : α → α → Bool}

/-- An item joins an ordered list in its place. -/
theorem pairwise_insertBy (htrans : ∀ x y z, R x y → R y z → R x z) {a : α} {xs : List α} (hxs : xs.Pairwise R)
    (h : ∀ x ∈ xs, if before a x then R a x else R x a) : (insertBy before a xs).Pairwise R := by
  induction xs with
  | nil => exact List.pairwise_singleton R a
  | cons x xs ih =>
    obtain ⟨hx, hrest⟩ := List.pairwise_cons.1 hxs
    have hax := h x List.mem_cons_self
    rw [insertBy]
    split
    next hb =>
      rw [if_pos hb] at hax
      refine List.pairwise_cons.2 ⟨fun y hy => ?_, hxs⟩
      rcases List.mem_cons.1 hy with rfl | hy
      · exact hax
      · exact htrans _ _ _ hax (hx y hy)
    next hb =>
      rw [if_neg hb] at hax
      refine List.pairwise_cons.2 ⟨fun y hy => ?_, ih hrest fun y hy => h y (List.mem_cons_of_mem x hy)⟩
      rcases List.mem_cons.1 ((insertBy_perm before a xs).mem_iff.1 hy) with rfl | hy
      · exact hax
      · exact hx y hy

theorem pairwise_sortBy (htrans : ∀ x y z, R x y → R y z → R x z) {xs : List α} (h : xs.Pairwise fun a x => if before a x then R a x else R x a) :
    (sortBy before xs).Pairwise R := by
  induction xs with
  | nil => exact .nil
  | cons a xs ih =>
    obtain ⟨ha, hxs⟩ := List.pairwise_cons.1 h
    exact pairwise_insertBy (R := R) htrans (ih hxs) fun x hx => ha x ((sortBy_perm before xs).mem_iff.1 hx)

end ranking

/-- The order of a spare list: the higher score, and at one score the lower step. -/
def Spare.ranks (x y : Spare) : Prop := y.score < x.score ∨ (x.score = y.score ∧ x.step < y.step)

theorem Spare.ranks_trans {x y z : Spare} (h : x.ranks y) (k : y.ranks z) : x.ranks z := by
  unfold Spare.ranks at h k ⊢
  omega

theorem Spare.before_ranks {x y : Spare} (h : x.step ≠ y.step) : if x.before y then x.ranks y else y.ranks x := by
  unfold Spare.before Spare.ranks
  by_cases hs : x.score = y.score
  · simp only [hs, ne_eq, not_true_eq_false, if_false, decide_eq_true_eq, lt_irrefl, false_or, true_and]
    split <;> omega
  · simp only [hs, ne_eq, not_false_eq_true, if_true, decide_eq_true_eq]
    split <;> omega

/-- The candidates of a sweep, each under its score where it passes. -/
def sweepEligible (g : BandSnap) (now : FrameNo) (step : Nat) : Option Spare :=
  if 0 ≤ (candidateCheck g false step g.p.spareHw 0).margin then
    some { step := step, score := score g step (candidateCheck g false step g.p.spareHw 0).margin, sweepFrame := now }
  else none

theorem sweepRanked_eq (g : BandSnap) (now : FrameNo) :
    sweepRanked g now = sortBy Spare.before ((sweepCandidates g.p).filterMap (sweepEligible g now)) := rfl

theorem sweepEligible_iff {g : BandSnap} {now : FrameNo} {step : Nat} {x : Spare} : sweepEligible g now step = some x ↔
    x.step = step ∧ 0 ≤ (candidateCheck g false x.step g.p.spareHw 0).margin ∧
      x.score = 4 * min (candidateCheck g false x.step g.p.spareHw 0).margin 63 - scoreLevel g x.step ∧ x.sweepFrame = now := by
  rw [sweepEligible, Option.ite_none_right_eq_some, Option.some.injEq]
  constructor
  · rintro ⟨hm, rfl⟩
    exact ⟨rfl, hm, rfl, rfl⟩
  · rintro ⟨rfl, hm, hscore, hframe⟩
    refine ⟨hm, ?_⟩
    rw [score, ← hscore, ← hframe]

theorem mem_sweepCandidates {p : BandParams} (hstride : 1 ≤ p.spareStride) (hscan : p.scanStart ≤ p.scanEnd) {step : Nat} :
    step ∈ sweepCandidates p ↔ (∃ i, step = p.scanStart + i * p.spareStride) ∧ step ≤ p.scanEnd := by
  have hlast (i : Nat) : i < (p.scanEnd - p.scanStart) / p.spareStride + 1 ↔ p.scanStart + i * p.spareStride ≤ p.scanEnd := by
    rw [Nat.lt_succ_iff, Nat.le_div_iff_mul_le hstride]
    omega
  simp only [sweepCandidates, List.mem_map, List.mem_range]
  constructor
  · rintro ⟨i, hi, rfl⟩
    exact ⟨⟨i, rfl⟩, (hlast i).1 hi⟩
  · rintro ⟨⟨i, rfl⟩, hle⟩
    exact ⟨i, (hlast i).2 hle, rfl⟩

theorem sweepCandidates_nodup {p : BandParams} (hstride : 1 ≤ p.spareStride) : (sweepCandidates p).Nodup := by
  refine (List.nodup_map_iff fun i j hij => ?_).2 List.nodup_range
  exact Nat.eq_of_mul_eq_mul_right hstride (Nat.add_left_cancel hij)

theorem sweepRanked_pairwise (g : BandSnap) (now : FrameNo) (hstride : 1 ≤ g.p.spareStride) : (sweepRanked g now).Pairwise Spare.ranks := by
  rw [sweepRanked_eq]
  refine pairwise_sortBy (R := Spare.ranks) (fun _ _ _ h k => Spare.ranks_trans h k) ?_
  rw [List.pairwise_filterMap]
  refine (sweepCandidates_nodup hstride).imp fun hne x hx y hy => Spare.before_ranks ?_
  rw [(sweepEligible_iff.1 hx).1, (sweepEligible_iff.1 hy).1]
  exact hne

/-- Settles O60. -/
theorem worstConstraintIsLeast : Obligations.WorstConstraintIsLeast := by
  refine ⟨worst_candidateCheck, worst_planWorst, fun g cs => ?_⟩
  obtain ⟨hnone, hsome⟩ := worst_evaluate g false cs
  refine ⟨⟨hnone, hsome⟩, fun hall => ?_, fun hall => ?_, fun a ha b hb hab => ⟨margin_le_spacing ha hb hab, fun v hv hav hbv =>
    ⟨margin_le (.im3Two a b v rfl ha hb hv hab hav hbv), fun hgap => margin_le (.im5Two a b v rfl hgap ha hb hv hab hav hbv),
      fun k hk hak hbk hvk => margin_le_im3Three ha hb hk hv hab hak hav hbk hbv hvk.symm⟩⟩,
    fun v hv r hr hle => margin_le_range hv hr hle, fun now hstride hscan => ⟨sweepRanked_pairwise g now hstride, fun x => ?_⟩⟩
  · have hw := hnone fun x hx => List.not_mem_nil (hall ▸ mem_constraints.2 hx)
    rw [hw]
    exact ⟨rfl, rfl⟩
  · obtain ⟨x, hx⟩ := List.exists_mem_of_ne_nil _ hall
    obtain ⟨hforms, hleast⟩ := hsome ⟨x, mem_constraints.1 hx⟩
    exact ⟨mem_constraints.2 hforms, fun c hc => hleast c (mem_constraints.1 hc)⟩
  · rw [sweepRanked_eq, (sortBy_perm _ _).mem_iff, List.mem_filterMap]
    simp only [mem_sweepCandidates hstride hscan, sweepEligible_iff]
    constructor
    · rintro ⟨step, ⟨hi, hle⟩, rfl, hm, hscore, hframe⟩
      exact ⟨hi, hle, hm, hscore, hframe⟩
    · rintro ⟨hi, hle, hm, hscore, hframe⟩
      exact ⟨x.step, ⟨hi, hle⟩, rfl, hm, hscore, hframe⟩

end Sys2Proof.Machine

/-! What a boundary in RUN is made of (O27): the resolution of the map, the words it gives, the lamps it steps, and the packets it
sends. -/

namespace Sys2Proof.Machine

-- One theorem at a time: all at once, their threads together outgrow the memory limit of the check.
set_option Elab.async false

/-! ## Records of tables made by number -/

theorem slot_map_oneUpTo {α : Type} (d : α) (f : Nat → α) {n k : Nat} (h : 1 ≤ k) (h' : k ≤ n) : slot d ((oneUpTo n).map f) k = f k := by
  obtain ⟨i, rfl⟩ := Nat.exists_eq_add_of_le' h
  show ((oneUpTo n).map f).getD i d = _
  rw [List.getD_eq_getElem _ _ (by simpa [oneUpTo] using h'), List.getElem_map]
  simp [oneUpTo]

theorem slot_zipIdx_map {α β : Type} (d : α) (e : β) (g : α × Nat → β) {xs : List α} {k : Nat} (h : 1 ≤ k) (h' : k ≤ xs.length) :
    slot e (xs.zipIdx.map g) k = g (slot d xs k, k - 1) := by
  obtain ⟨i, rfl⟩ := Nat.exists_eq_add_of_le' h
  show (xs.zipIdx.map g).getD i e = g (xs.getD i d, i)
  rw [List.getD_eq_getElem _ _ (by simpa using h'), List.getElem_map, List.getElem_zipIdx, List.getD_eq_getElem _ _ h', Nat.zero_add]

theorem slot_map_in {α β : Type} (d : α) (e : β) (g : α → β) {xs : List α} {k : Nat} (h : 1 ≤ k) (h' : k ≤ xs.length) :
    slot e (xs.map g) k = g (slot d xs k) := by
  obtain ⟨i, rfl⟩ := Nat.exists_eq_add_of_le' h
  show (xs.map g).getD i e = g (xs.getD i d)
  rw [List.getD_eq_getElem _ _ (by simpa using h'), List.getElem_map, List.getD_eq_getElem _ _ h']

/-! ## The map resolved over the snapshot (R143) -/

/-- An entry of the map whose input stands active, as filtered lines and virtual inputs now are. -/
def State.shows (s : State) (e : MapEntry) : Prop := some e ∈ s.tr.map ∧
  (match e.input with | .line n => (s.line n).filtered | .virt n => slot false s.tr.virtuals n) = true

section resolve
variable {s : State} {n : FrameNo}

theorem mem_activeEntries {e : MapEntry} : e ∈ (s.tr.snap n).activeEntries ↔ s.shows e := by
  have hinput : (s.tr.snap n).inputActive e.input =
      (match e.input with | .line n => (s.line n).filtered | .virt n => slot false s.tr.virtuals n) := by
    cases e.input with
    | line m => exact slot_map LineInput.filtered LineInput.reset s.tr.lines m
    | virt m => rfl
  have hmap : (s.tr.snap n).map = s.tr.map := rfl
  rw [Tr.activeEntries, List.mem_filterMap, hmap]
  constructor
  · rintro ⟨x, hx, heq⟩
    obtain ⟨m, rfl, hm⟩ := Option.bind_eq_some_iff.1 heq
    rw [Option.ite_none_right_eq_some] at hm
    obtain ⟨hactive, rfl⟩ := hm.imp_right Option.some.inj
    exact ⟨hx, hinput ▸ hactive⟩
  · rintro ⟨hmem, hactive⟩
    exact ⟨some e, hmem, if_pos (hinput.trans hactive)⟩

/-- The tally of a target: PROGRAM where a program entry names it, and OFF where none names it. -/
theorem tallyOver_iff (es : List MapEntry) (p : MapEntry → Bool) :
    (tallyOver (es.filter p) = .program ↔ ∃ e ∈ es, p e = true ∧ e.program = true) ∧
    (tallyOver (es.filter p) = .off ↔ ¬ ∃ e ∈ es, p e = true) := by
  have hany : (es.filter p).any (fun e => e.program) = true ↔ ∃ e ∈ es, p e = true ∧ e.program = true := by
    simp only [List.any_eq_true, List.mem_filter, and_assoc]
  have hempty : (es.filter p).isEmpty = true ↔ ¬ ∃ e ∈ es, p e = true := by
    rw [List.isEmpty_iff, List.filter_eq_nil_iff]
    simp only [not_exists, not_and]
  unfold tallyOver
  by_cases h : (es.filter p).any (fun e => e.program) = true
  · rw [if_pos h]
    obtain ⟨e, he, hp, hprog⟩ := hany.1 h
    exact ⟨iff_of_true rfl ⟨e, he, hp, hprog⟩, iff_of_false (fun hc => by cases hc) fun hno => hno ⟨e, he, hp⟩⟩
  · rw [if_neg h, ← hany, ← hempty]
    split
    next he => exact ⟨iff_of_false (fun hc => by cases hc) h, iff_of_true rfl he⟩
    next he => exact ⟨iff_of_false (fun hc => by cases hc) h, iff_of_false (fun hc => by cases hc) he⟩

/-- The tally of a link or a lamp, over the entries that name it among their targets. -/
theorem tallyOver_shown (targets : MapEntry → List Nat) (l : Nat) :
    (tallyOver ((s.tr.snap n).activeEntries.filter fun e => (targets e).contains l) = .program ↔
      ∃ e, s.shows e ∧ l ∈ targets e ∧ e.program = true) ∧
    (tallyOver ((s.tr.snap n).activeEntries.filter fun e => (targets e).contains l) = .off ↔ ¬ ∃ e, s.shows e ∧ l ∈ targets e) := by
  have h := tallyOver_iff (s.tr.snap n).activeEntries fun e => (targets e).contains l
  simp only [mem_activeEntries, List.contains_iff_mem] at h
  exact h

theorem resolve_linkTally {l : Nat} (hl : 1 ≤ l) (hl' : l ≤ 48) : slot .off (s.tr.snap n).resolve.linkTally l =
    tallyOver ((s.tr.snap n).activeEntries.filter fun e => e.links.contains l) := slot_map_oneUpTo _ _ hl hl'

theorem resolve_lampTally {m : Nat} (hm : 1 ≤ m) (hm' : m ≤ 16) : slot .off (s.tr.snap n).resolve.lampTally m =
    tallyOver ((s.tr.snap n).activeEntries.filter fun e => e.lamps.contains m) := slot_map_oneUpTo _ _ hm hm'

theorem resolve_zone {z : Nat} (hz : 1 ≤ z) (hz' : z ≤ s.tr.zones.length) :
    ((slot Zone.reset (s.tr.snap n).resolve.zones z).onAir = true ↔ ∃ e, s.shows e ∧ e.zone = some z ∧ e.program = true) ∧
    (slot Zone.reset (s.tr.snap n).resolve.zones z).speakerCut = (slot Zone.reset s.tr.zones z).speakerCut := by
  have hzone : slot Zone.reset (s.tr.snap n).resolve.zones z = { slot Zone.reset s.tr.zones z with
      onAir := (s.tr.snap n).activeEntries.any fun e => e.program && decide (e.zone = some (z - 1 + 1)) } :=
    slot_zipIdx_map Zone.reset Zone.reset (fun (x : Zone × Nat) =>
      { x.1 with onAir := (s.tr.snap n).activeEntries.any fun e => e.program && decide (e.zone = some (x.2 + 1)) }) hz hz'
  rw [hzone]
  refine ⟨?_, rfl⟩
  simp only [List.any_eq_true, mem_activeEntries, Bool.and_eq_true, decide_eq_true_eq, Nat.sub_add_cancel hz]
  exact exists_congr fun e => and_congr_right fun _ => and_comm

end resolve

/-! ## Wanted words (R144) -/

/-- Every link wants the tally of its number. -/
def WantsTally (s : State) : Prop := ∀ l, 1 ≤ l → l ≤ 48 → (s.link l).wanted.tally = slot .off s.tr.linkTally l

theorem rewantAll_words {s : State} (hlen : s.links.length = 48) : Rewords s (rewantAll s) ∧ WantsTally (rewantAll s) := by
  obtain ⟨hframe, hwords⟩ := rewants_words (s := s) (fun _ => True) (oneUpTo Config.links) fun l hl => hlen ▸ mem_oneUpTo.1 hl
  have heach : (oneUpTo Config.links).foldl (fun s l => if True then rewant l s else s) s = rewantAll s := rfl
  rw [heach] at hframe hwords
  refine ⟨hframe, fun l hl hl' => ?_⟩
  rw [hwords l, if_pos ⟨mem_oneUpTo.2 ⟨hl, hl'⟩, trivial⟩, hframe.tr]
  rfl

theorem WantsTally.endPulse {s : State} (h : WantsTally s) (hlen : s.links.length = 48) (d : Nat) : WantsTally (endPulse d s) := by
  obtain ⟨hframe, hwords⟩ := rewantStation_words (s := s.modStation d fun x => { x with pulseEnd := none }) hlen d
  intro l hl hl'
  unfold Machine.endPulse
  rw [hwords l hl hl', hframe.tr]
  split
  · rfl
  · exact h l hl hl'

theorem endPulses_words {s : State} (hlen : s.links.length = 48) (h : WantsTally s) : WantsTally (endPulses s) := by
  have hfold (ts : List Nat) (u : State) (hlen : u.links.length = 48) (h : WantsTally u) :
      WantsTally (ts.foldl (fun s t => if (s.station t).pulseEnd = some s.now then endPulse t s else s) u) := by
    induction ts generalizing u with
    | nil => exact h
    | cons t ts ih =>
      rw [List.foldl_cons]
      split
      · exact ih _ ((length_of_links (keeps_endPulse t u .links (by decide))).trans hlen) (h.endPulse hlen t)
      · exact ih _ hlen h
  exact hfold _ s hlen h

/-! ## The lamps' frame step (R156 to R159) -/

/-- What a lamp is after a frame step that shows `src`, with its level selected. -/
structure Steps (x y : Lamp) (src : Shown) : Prop where
  displayed : y.displayed = src
  restart : y.restart = false
  fresh : src ≠ x.displayed ∨ x.restart = true → y.phaseOn = true ∧ y.remaining = (x.cfg.cadences.at_ src).onFrames
  turns : ¬ (src ≠ x.displayed ∨ x.restart = true) →
    0 < (x.cfg.cadences.at_ src).onFrames ∧ 0 < (x.cfg.cadences.at_ src).offFrames → x.remaining ≤ 1 →
    y.phaseOn = !x.phaseOn ∧ y.remaining = if x.phaseOn then (x.cfg.cadences.at_ src).offFrames else (x.cfg.cadences.at_ src).onFrames
  counts : ¬ (src ≠ x.displayed ∨ x.restart = true) →
    0 < (x.cfg.cadences.at_ src).onFrames ∧ 0 < (x.cfg.cadences.at_ src).offFrames → 1 < x.remaining →
    y.phaseOn = x.phaseOn ∧ y.remaining = x.remaining - 1
  rests : ¬ (src ≠ x.displayed ∨ x.restart = true) →
    ¬ (0 < (x.cfg.cadences.at_ src).onFrames ∧ 0 < (x.cfg.cadences.at_ src).offFrames) →
    y.phaseOn = x.phaseOn ∧ y.remaining = x.remaining
  selected : y.selected = (if ((x.cfg.cadences.at_ src).onFrames = 0 ∧ 0 < (x.cfg.cadences.at_ src).offFrames) ∨
    ((0 < (x.cfg.cadences.at_ src).onFrames ∧ 0 < (x.cfg.cadences.at_ src).offFrames) ∧ y.phaseOn = false) then 0
    else x.cfg.levels.at_ src)
  rest : y.cfg = x.cfg ∧ y.drive = x.drive ∧ y.driveInvert = x.driveInvert ∧ y.drivePeriod = x.drivePeriod

theorem Cadence.flashes_iff {c : Cadence} : c.flashes = true ↔ 0 < c.onFrames ∧ 0 < c.offFrames := by
  simp only [Cadence.flashes, Bool.and_eq_true, decide_eq_true_eq, Nat.pos_iff_ne_zero]

theorem Cadence.dark_iff {c : Cadence} : c.dark = true ↔ c.onFrames = 0 ∧ 0 < c.offFrames := by
  simp only [Cadence.dark, Bool.and_eq_true, decide_eq_true_eq, Nat.pos_iff_ne_zero]

theorem Lamp.select_eq (y : Lamp) : y.select = (if ((y.cfg.cadences.at_ y.displayed).onFrames = 0 ∧ 0 < (y.cfg.cadences.at_ y.displayed).offFrames) ∨
    ((0 < (y.cfg.cadences.at_ y.displayed).onFrames ∧ 0 < (y.cfg.cadences.at_ y.displayed).offFrames) ∧ y.phaseOn = false) then 0
    else y.cfg.levels.at_ y.displayed) := by
  unfold Lamp.select
  refine if_congr ?_ rfl rfl
  rw [Bool.or_eq_true, Bool.and_eq_true, Cadence.dark_iff, Cadence.flashes_iff, Bool.not_eq_true']

theorem Lamp.steps (x : Lamp) (src : Shown) : Steps x (x.stepTo src) src := by
  by_cases hf : src ≠ x.displayed ∨ x.restart = true
  · have hstep : x.stepTo src = (fun y : Lamp => { y with selected := y.select })
        { x with displayed := src, restart := false, phaseOn := true, remaining := (x.cfg.cadences.at_ src).onFrames } := by
      rw [Lamp.stepTo, if_pos hf]
    rw [hstep]
    exact ⟨rfl, rfl, fun _ => ⟨rfl, rfl⟩, fun h => absurd hf h, fun h => absurd hf h, fun h => absurd hf h, Lamp.select_eq _, rfl, rfl, rfl, rfl⟩
  · have hstep : x.stepTo src = (fun y : Lamp => { y with selected := y.select }) x.tick := by rw [Lamp.stepTo, if_neg hf]
    obtain ⟨hsame, hrest⟩ := not_or.1 hf
    obtain rfl : src = x.displayed := not_not.1 hsame
    have hrest : x.restart = false := Bool.eq_false_iff.2 hrest
    have hflash := Cadence.flashes_iff (c := x.cfg.cadences.at_ x.displayed)
    rw [hstep]
    by_cases hc : (x.cfg.cadences.at_ x.displayed).flashes = true
    · by_cases hr : x.remaining ≤ 1
      · have htick : x.tick = { x with phaseOn := !x.phaseOn, remaining :=
            if x.phaseOn then (x.cfg.cadences.at_ x.displayed).offFrames else (x.cfg.cadences.at_ x.displayed).onFrames } := by
          rw [Lamp.tick, if_pos hc, if_pos hr]
        rw [htick]
        exact ⟨rfl, hrest, fun h => absurd h hf, fun _ _ _ => ⟨rfl, rfl⟩, fun _ _ h => absurd hr (by omega), fun _ h => absurd (hflash.1 hc) h,
          Lamp.select_eq _, rfl, rfl, rfl, rfl⟩
      · have htick : x.tick = { x with remaining := x.remaining - 1 } := by rw [Lamp.tick, if_pos hc, if_neg hr]
        rw [htick]
        exact ⟨rfl, hrest, fun h => absurd h hf, fun _ _ h => absurd h hr, fun _ _ _ => ⟨rfl, rfl⟩, fun _ h => absurd (hflash.1 hc) h,
          Lamp.select_eq _, rfl, rfl, rfl, rfl⟩
    · have htick : x.tick = x := by rw [Lamp.tick, if_neg hc]
      rw [htick]
      exact ⟨rfl, hrest, fun h => absurd h hf, fun _ h => absurd (hflash.2 h) hc, fun _ h => absurd (hflash.2 h) hc, fun _ _ => ⟨rfl, rfl⟩,
        Lamp.select_eq x, rfl, rfl, rfl, rfl⟩

theorem sourceState_congr (s : State) {x y : Lamp} (hc : y.cfg = x.cfg) (ht : y.heldTally = x.heldTally) : s.sourceState y = s.sourceState x := by
  rw [State.sourceState, State.sourceState, hc, ht]

/-- A lamp after the frame step: it shows the state of its source, and holds the tally presented. -/
theorem frameStep_lamp {s : State} {m : Nat} (hm : 1 ≤ m) (hm' : m ≤ s.lamps.length) :
    ((frameStep s).lamp m).heldTally = slot .off s.tr.lampTally m ∧
    Steps (s.lamp m) ((frameStep s).lamp m) ((takeLampValues s).sourceState { s.lamp m with heldTally := slot .off s.tr.lampTally m }) := by
  let taken : Lamp := { s.lamp m with heldTally := slot .off s.tr.lampTally m }
  have htaken : slot Lamp.reset (takeLampValues s).lamps m = taken := by
    have hslot := slot_zipIdx_map Lamp.reset Lamp.reset (fun x : Lamp × Nat => { x.1 with heldTally := slot .off s.tr.lampTally (x.2 + 1) }) hm hm'
    rw [Nat.sub_add_cancel hm] at hslot
    exact hslot
  have hlen : m ≤ (takeLampValues s).lamps.length := by
    show m ≤ (s.lamps.zipIdx.map _).length
    rw [List.length_map, List.length_zipIdx]
    exact hm'
  have hlamp : (frameStep s).lamp m = taken.stepTo ((takeLampValues s).sourceState taken) := by
    have hslot := slot_map_in Lamp.reset Lamp.reset (fun x => x.stepTo ((takeLampValues s).sourceState x)) hm hlen
    rw [htaken] at hslot
    exact hslot
  have hheld (x : Lamp) (src : Shown) : (x.stepTo src).heldTally = x.heldTally := by
    have htick : x.tick.heldTally = x.heldTally := by
      unfold Lamp.tick
      dsimp only
      split
      · split <;> rfl
      · rfl
    unfold Lamp.stepTo
    dsimp only
    split
    · rfl
    · exact htick
  rw [hlamp]
  obtain ⟨h1, h2, h3, h4, h5, h6, h7, h8⟩ := taken.steps ((takeLampValues s).sourceState taken)
  exact ⟨hheld _ _, h1, h2, h3, h4, h5, h6, h7, h8⟩

/-! ## The packets sent (R124) -/

/-- The packet is the first that goes out. -/
def LeadsBus (p : Packet) (s : State) : Prop := s.bus.head? = some p

section bus
variable {p : Packet} {s : State}

theorem LeadsBus.same {t : State} (h : LeadsBus p s) (hb : t.bus = s.bus) : LeadsBus p t := by
  rw [LeadsBus, hb]
  exact h

theorem LeadsBus.issue (h : LeadsBus p s) (a : Nat) (body : OrderBody) (i : Issuer) : LeadsBus p (issue a body i s).state := by
  have hsend (o : Order) (t : State) (ht : LeadsBus p t) : LeadsBus p (send o t) := by
    rw [LeadsBus] at ht ⊢
    show (t.bus ++ _).head? = some p
    rw [List.head?_append, ht]
    rfl
  obtain ⟨-, -, hr⟩ | ⟨-, -, -, hr⟩ | ⟨-, -, -, hr⟩ | ⟨-, -, -, v, -, hr⟩ := issue_cases a body i s <;> rw [hr]
  · exact hsend _ s.tookId h
  · exact h
  · exact h
  · refine hsend _ _ (LeadsBus.same (s := s.tookId.modUnit a fun u => { u with outstanding := u.outstanding.eraseP Order.displaceable }) h ?_)
    obtain hd | ⟨l, e, -, hd⟩ | ⟨t, -, hd⟩ := displaced_cases v
      (s.tookId.modUnit a fun u => { u with outstanding := u.outstanding.eraseP Order.displaceable }) <;> rw [hd] <;> rfl

theorem tkFailed_bus (i : Issuer) (id : Nat) (s : State) : (tkFailed i id s).bus = s.bus := by
  unfold tkFailed
  split
  · split <;> rfl
  · rfl
  · split <;> rfl
  · unfold lampFailed
    split
    · split <;> rfl
    · rfl
  · rfl

theorem rides_leadsBus (p : Packet) : Rides (LeadsBus p) :=
  Lets.rides ⟨fun a body i _ _ h => h.issue a body i, fun i id s _ h => h.same (tkFailed_bus i id s)⟩ fun _ _ h _ _ _ hb => h.same hb

theorem LeadsBus.deliveryTest (h : LeadsBus p s) (l : Nat) : LeadsBus p (deliveryTest l s) := by
  unfold Machine.deliveryTest
  dsimp only
  split
  · have hissue := h.issue (s.link l).cfg.unit (.tally (s.link l).cfg.channel (s.link l).wanted) (.tr l)
    split
    · exact LeadsBus.same hissue (keeps_tallyFailed l _ _ .bus (by decide))
    · exact hissue
  · exact h

theorem LeadsBus.rewant (h : LeadsBus p s) (l : Nat) : LeadsBus p (rewant l s) :=
  LeadsBus.deliveryTest (s := s.modLink l fun k => { k with wanted := s.wantedWord l }) h l

theorem LeadsBus.foldl {α : Type} {f : State → α → State} (hf : ∀ s x, LeadsBus p s → LeadsBus p (f s x)) (xs : List α) (h : LeadsBus p s) :
    LeadsBus p (xs.foldl f s) := by
  induction xs generalizing s with
  | nil => exact h
  | cons x xs ih => exact ih (hf s x h)

theorem LeadsBus.endPulses (h : LeadsBus p s) : LeadsBus p (endPulses s) := by
  refine LeadsBus.foldl (fun u t hu => ?_) _ h
  split
  · refine LeadsBus.foldl (s := u.modStation t fun x => { x with pulseEnd := none }) (fun v l hv => ?_) _ hu
    split
    · exact hv.rewant l
    · exact hv
  · exact hu

end bus

end Sys2Proof.Machine

/-! A boundary in RUN (O27): the snapshot and its resolution, what the lamps show of it, and the counts of every link. -/

namespace Sys2Proof.Machine

-- One theorem at a time: all at once, their threads together outgrow the memory limit of the check.
set_option Elab.async false

/-! ## What the lamps show (R156, R157) -/

/-- The state of a lamp's source, in the tally and the zones presented and the Talk Router's routes and pulses. -/
def State.showing (w : State) (zones : List Bool) (tally : Tally) : LampSource → Shown
  | .none => .off
  | .tally => match tally with | .off => .off | .preview => .preview | .program => .program
  | .zone z => if slot false zones z = true then .program else .off
  | .talk n => if (w.station n).pulseEnd ≠ none then .call
      else if ∃ r ∈ w.tk.routes, r.destination = n ∧ r.live = true then .talk else .off

/-- A frame step reads the Talk Router of a state that has the same pulses and the same LIVE routes. -/
structure SameTalk (w u : State) : Prop where
  pulses : ∀ n, (u.station n).pulseEnd = (w.station n).pulseEnd
  live : ∀ n, (liveTo n u.tk.routes).isEmpty = (liveTo n w.tk.routes).isEmpty

theorem liveTo_isEmpty_iff (n : Nat) (rs : List Route) : (liveTo n rs).isEmpty = true ↔ ¬ ∃ r ∈ rs, r.destination = n ∧ r.live = true := by
  rw [List.isEmpty_iff, liveTo, List.filter_eq_nil_iff]
  simp only [Bool.and_eq_true, decide_eq_true_eq, not_exists, not_and]

theorem SameTalk.of_tk {w u : State} (h : u.tk = w.tk) : SameTalk w u :=
  ⟨fun n => by rw [State.station, h]; rfl, fun n => by rw [h]⟩

theorem SameTalk.of_rewords {w u : State} (h : Rewords w u) : SameTalk w u :=
  ⟨h.pulseEnd, fun n => by rw [← List.isEmpty_map (f := Route.bare), liveTo_of_bare h.routes, List.isEmpty_map]⟩

theorem takenSource {u w : State} (h : SameTalk w u) (x : Lamp) (tally : Tally) :
    (takeLampValues u).sourceState { x with heldTally := tally } = w.showing (u.tr.zones.map Zone.onAir) tally x.cfg.source := by
  unfold State.sourceState State.showing
  dsimp only
  cases x.cfg.source with
  | none => rfl
  | tally => cases tally <;> rfl
  | zone z => rfl
  | talk n =>
    have hcalled : (takeLampValues u).called n = true ↔ (w.station n).pulseEnd ≠ none := by
      show (u.station n).pulseEnd.isSome = true ↔ _
      rw [h.pulses, Option.isSome_iff_ne_none]
    have hroutes : (takeLampValues u).tk.routes = u.tk.routes := rfl
    refine if_congr hcalled rfl ?_
    rw [hroutes, h.live]
    by_cases hlive : ∃ r ∈ w.tk.routes, r.destination = n ∧ r.live = true
    · rw [if_pos hlive, if_neg fun he => (liveTo_isEmpty_iff n _).1 he hlive]
    · rw [if_neg hlive, if_pos ((liveTo_isEmpty_iff n _).2 hlive)]

/-! ## The presentation of a resolution (R157) -/

section present
variable {r : State} (tkFirst : Bool)

/-- The state in which the Lamp Drivers take their frame step. -/
def State.lampsSee (r : State) : State := if tkFirst then tkAfter r (endPulses (presentZones r)) else r

theorem keeps_lampsSee (r : State) : KeepsBut issueParts r (r.lampsSee tkFirst) :=
  .ite ((((keeps_presentZones r).mono (by decide)).trans (keeps_endPulses _)).trans (keeps_tkAfter _ _)) (.refl _ _)

theorem presentNow_first (r : State) : presentNow true r = frameStep (tkAfter r (endPulses (presentZones r))) := if_pos rfl

theorem presentNow_second (r : State) : presentNow false r = tkAfter (frameStep r) (presentZones (frameStep r)) := if_neg Bool.false_ne_true

/-- The lamps of the frame step are those of the boundary. -/
theorem presentNow_lamps (r : State) : (presentNow tkFirst r).lamps = (frameStep (r.lampsSee tkFirst)).lamps ∧
    (presentNow tkFirst r).lampZones = (frameStep (r.lampsSee tkFirst)).lampZones := by
  cases tkFirst with
  | true =>
    rw [presentNow_first]
    exact ⟨rfl, rfl⟩
  | false =>
    have hafter := keeps_tkAfter (frameStep r) (presentZones (frameStep r))
    rw [presentNow_second]
    exact ⟨hafter .lamps (by decide), hafter .lampZones (by decide)⟩

theorem keeps_presentNow_narrow (r : State) : KeepsBut (.lamps :: .lampZones :: issueParts) r (presentNow tkFirst r) := by
  have hz (t : State) : KeepsBut (.lamps :: .lampZones :: issueParts) t (presentZones t) := (keeps_presentZones t).mono (by decide)
  have hf (t : State) : KeepsBut (.lamps :: .lampZones :: issueParts) t (frameStep t) := (keeps_frameStep t).mono (by decide)
  have hk (t u : State) : KeepsBut (.lamps :: .lampZones :: issueParts) u (tkAfter t u) := (keeps_tkAfter t u).mono (by decide)
  have he : KeepsBut (.lamps :: .lampZones :: issueParts) (presentZones r) (endPulses (presentZones r)) := (keeps_endPulses _).mono (by decide)
  exact .ite ((((hz r).trans he).trans (hk r _)).trans (hf _)) (((hf r).trans (hz _)).trans (hk _ _))

theorem WantsTally.same {s t : State} (h : WantsTally s) (hw : ∀ l, (t.link l).wanted = (s.link l).wanted) (htr : t.tr = s.tr) :
    WantsTally t := fun l hl hl' => by
  rw [hw, htr]
  exact h l hl hl'

theorem resettle_links (s : State) : s.resettle.links = s.links := State.modTk_links ..

theorem quiet_tkAfter (s0 s : State) : Quiet s.resettle (tkAfter s0 s) := quiet_tkAfterFor none s0 s

theorem WantsTally.tkAfter {s : State} (h : WantsTally s) (s0 : State) : WantsTally (Machine.tkAfter s0 s) :=
  h.same (fun l => ((quiet_tkAfter s0 s).wanted l).trans (congrArg (fun ls => (slot Link.vacant ls l).wanted) (resettle_links s)))
    (keeps_tkAfter s0 s .tr (by decide))

theorem WantsTally.stepped {s : State} (h : WantsTally s) : WantsTally (frameStep s) := h

/-- The words presented stay wanted. -/
theorem WantsTally.present (h : WantsTally r) (hlen : r.links.length = 48) : WantsTally (presentNow tkFirst r) := by
  cases tkFirst with
  | true =>
    have hends : WantsTally (endPulses (presentZones r)) := endPulses_words (s := presentZones r) hlen h
    have hafter := hends.tkAfter r
    rw [presentNow_first]
    exact hafter.stepped
  | false =>
    have hstart : WantsTally (presentZones (frameStep r)) := h
    rw [presentNow_second]
    exact hstart.tkAfter (frameStep r)

theorem tkAfter_zones (s0 s : State) : (tkAfter s0 s).tk.zones = s.tk.zones :=
  (quiet_tkAfter s0 s).zones.trans (by rw [State.resettle, State.modTk_tk])

theorem rewords_rewantStation (d : Nat) (s : State) : Rewords s (rewantStation d s) := by
  unfold rewantStation
  exact .foldl (fun s l => .ite (.rewant l s) (.refl s)) (oneUpTo Config.links) s

theorem endPulse_zones (d : Nat) (s : State) : (endPulse d s).tk.zones = s.tk.zones := by
  unfold endPulse
  exact (rewords_rewantStation d _).zones

theorem endPulses_zones (s : State) : (endPulses s).tk.zones = s.tk.zones := by
  unfold endPulses
  induction oneUpTo Config.stations generalizing s with
  | nil => rfl
  | cons t ts ih =>
    rw [List.foldl_cons, ih]
    split
    · exact endPulse_zones t s
    · rfl

theorem frameStep_tk (s : State) : (frameStep s).tk = s.tk := rfl

theorem presentNow_zones (r : State) : (presentNow tkFirst r).tk.zones = r.tr.zones := by
  cases tkFirst with
  | true =>
    rw [presentNow_first, frameStep_tk, tkAfter_zones, endPulses_zones]
    rfl
  | false =>
    rw [presentNow_second, tkAfter_zones]
    rfl

theorem LeadsBus.stepped {p : Packet} {s : State} (h : LeadsBus p s) : LeadsBus p (frameStep s) := h

theorem LeadsBus.present {p : Packet} (h : LeadsBus p r) : LeadsBus p (presentNow tkFirst r) := by
  cases tkFirst with
  | true =>
    have hends : LeadsBus p (Machine.endPulses (presentZones r)) := LeadsBus.endPulses (s := presentZones r) h
    have hafter : LeadsBus p (tkAfter r (Machine.endPulses (presentZones r))) := (rides_leadsBus p).tkAfterFor none r hends
    rw [presentNow_first]
    exact hafter.stepped
  | false =>
    have hstart : LeadsBus p (presentZones (frameStep r)) := h
    rw [presentNow_second]
    exact (rides_leadsBus p).tkAfterFor none (frameStep r) hstart

end present

/-! ## What a link counts (R80, R82) -/

theorem Link.count_fields (k : Link) : k.count.state = k.state ∧ k.count.wanted = k.wanted ∧
    k.count.silenceCounter = k.silenceCounter - (if k.state.counted then 1 else 0) ∧
    k.count.fadeTimer = k.fadeTimer + (if k.state = .fading ∧ 1 < k.silenceCounter ∧ k.fadeTimer < k.cfg.fadeLimit then 1 else 0) := by
  by_cases hc : k.state.counted = true
  · have hcond : (k.state = .fading ∧ k.silenceCounter - 1 ≠ 0 ∧ k.fadeTimer < k.cfg.fadeLimit) ↔
        (k.state = .fading ∧ 1 < k.silenceCounter ∧ k.fadeTimer < k.cfg.fadeLimit) := by
      rw [show k.silenceCounter - 1 ≠ 0 ↔ 1 < k.silenceCounter by omega]
    rw [Link.count, if_pos hc, if_pos hc]
    by_cases hf : k.state = .fading ∧ k.silenceCounter - 1 ≠ 0 ∧ k.fadeTimer < k.cfg.fadeLimit
    · rw [if_pos hf, if_pos (hcond.1 hf)]
      exact ⟨rfl, rfl, rfl, rfl⟩
    · rw [if_neg hf, if_neg fun h => hf (hcond.2 h)]
      exact ⟨rfl, rfl, rfl, rfl⟩
  · have hno : ¬ k.state = .fading := fun h => hc (by rw [h]; rfl)
    rw [Link.count, if_neg hc, if_neg fun h => hno h.1, if_neg hc, if_neg fun h => hno h.1]
    exact ⟨rfl, rfl, rfl, rfl⟩

theorem silence_mem_dueSteps {u : State} {l : Nat} (hmode : u.mode = .run) (hl : 1 ≤ l) (hl' : l ≤ 48) :
    .silence l ∈ u.dueSteps ↔ u.silentAt l = true := by
  rw [State.dueSteps, hmode]
  simp only [List.mem_append, State.dueLinks, State.dueKeys, mem_dueOrders, mem_dueAgain, mem_dueOver, List.mem_flatMap, List.mem_map,
    Owed.silence.injEq, reduceCtorEq, and_false, exists_false, or_false]
  constructor
  · rintro ⟨n, -, hn, rfl⟩
    exact hn
  · exact fun h => ⟨l, ⟨hl, hl'⟩, h, rfl⟩

/-! ## The boundary -/

/-- The state in which the map is resolved: the frame has begun, and the snapshot is resolved. -/
def State.resolving (time : Nat) (s : State) : State := (beginFrameAt time s).modTr fun r => (r.snap (s.ftb.counter + 1)).resolve

/-- The state at the end of the presentation, before the links are counted. -/
def State.presented (time : Nat) (tkFirst : Bool) (s : State) : State := presentNow tkFirst (rewantAll (s.resolving time))

theorem boundaryAt_run {s : State} (hmode : s.mode = .run) (time : Nat) (tkFirst : Bool) :
    boundaryAt time tkFirst s = { countLinks (s.presented time tkFirst) with owed := (countLinks (s.presented time tkFirst)).dueSteps } := by
  rw [boundaryAt, hmode]
  rfl

section boundary
variable {s : State} (time : Nat) (tkFirst : Bool)

theorem keeps_presented (s : State) : KeepsBut (.lamps :: .lampZones :: issueParts) (s.resolving time) (s.presented time tkFirst) :=
  ((keeps_rewantAll (s.resolving time)).mono (by decide)).trans (keeps_presentNow_narrow tkFirst _)

theorem presented_tr (s : State) : (s.presented time tkFirst).tr = (s.tr.snap (s.ftb.counter + 1)).resolve :=
  keeps_presented time tkFirst s .tr (by decide)

theorem presented_link (s : State) (l : Nat) : ((s.presented time tkFirst).link l).core = (s.link l).core :=
  linkCore_of_same (keeps_presented time tkFirst s .links (by decide)) l

theorem presented_wants (hlen : s.links.length = 48) : WantsTally (s.presented time tkFirst) := by
  obtain ⟨hreworded, hwants⟩ := rewantAll_words (s := s.resolving time) hlen
  exact hwants.present tkFirst (hreworded.length_links.trans hlen)

theorem presented_leads (s : State) : LeadsBus (.frameMark ((s.ftb.counter + 1).setWidth 16) s.ftb.refState) (s.presented time tkFirst) := by
  have hstart : LeadsBus (.frameMark ((s.ftb.counter + 1).setWidth 16) s.ftb.refState) (s.resolving time) := rfl
  have hwords : LeadsBus (.frameMark ((s.ftb.counter + 1).setWidth 16) s.ftb.refState) (rewantAll (s.resolving time)) := by
    unfold rewantAll
    exact LeadsBus.foldl (fun u l h => h.rewant l) (oneUpTo Config.links) hstart
  exact hwords.present tkFirst

/-- The Lamp Drivers read the Talk Router as it stands after its part of the event, or as it stood before the boundary. -/
theorem presented_lamps (hlen : s.lamps.length = 16) {w : State}
    (hw : SameTalk w ((rewantAll (s.resolving time)).lampsSee tkFirst)) {m : Nat} (hm : 1 ≤ m) (hm' : m ≤ 16) :
    ((s.presented time tkFirst).lamp m).heldTally = slot .off (s.presented time tkFirst).tr.lampTally m ∧
    Steps (s.lamp m) ((s.presented time tkFirst).lamp m)
      (w.showing (s.presented time tkFirst).lampZones (slot .off (s.presented time tkFirst).tr.lampTally m) (s.lamp m).cfg.source) := by
  have hsees := ((keeps_rewantAll (s.resolving time)).trans (keeps_lampsSee tkFirst _))
  obtain ⟨hlamps, hzones⟩ := presentNow_lamps tkFirst (rewantAll (s.resolving time))
  have htr : ((rewantAll (s.resolving time)).lampsSee tkFirst).tr = (s.presented time tkFirst).tr :=
    (hsees .tr (by decide) : _ = (s.resolving time).tr).trans (presented_tr time tkFirst s).symm
  have hsame : ((rewantAll (s.resolving time)).lampsSee tkFirst).lamps = s.lamps := hsees .lamps (by decide)
  unfold State.presented at htr ⊢
  generalize (rewantAll (s.resolving time)).lampsSee tkFirst = u at hw hlamps hzones htr hsame
  obtain ⟨hheld, hsteps⟩ := frameStep_lamp (s := u) hm (by rw [hsame, hlen]; exact hm')
  have hlamp : u.lamp m = s.lamp m := by rw [State.lamp, hsame]; rfl
  rw [takenSource hw, hlamp] at hsteps
  rw [State.lamp, hlamps, hzones, ← htr]
  exact ⟨hheld, hsteps⟩

theorem presented_lampZones (s : State) :
    (s.presented time tkFirst).lampZones = (s.presented time tkFirst).tr.zones.map Zone.onAir := by
  have hsees := ((keeps_rewantAll (s.resolving time)).trans (keeps_lampsSee tkFirst _))
  have htr : ((rewantAll (s.resolving time)).lampsSee tkFirst).tr = (s.presented time tkFirst).tr :=
    (hsees .tr (by decide) : _ = (s.resolving time).tr).trans (presented_tr time tkFirst s).symm
  rw [← htr]
  exact (presentNow_lamps tkFirst (rewantAll (s.resolving time))).2

theorem keeps_boundaryAt_run (hmode : s.mode = .run) :
    KeepsBut (.ftb :: .links :: .tr :: .lamps :: .lampZones :: .owed :: issueParts) s (boundaryAt time tkFirst s) := by
  have hbegins : KeepsBut (.ftb :: .links :: .tr :: .lamps :: .lampZones :: .owed :: issueParts) s (s.resolving time) :=
    ((keeps_beginFrameAt time s).mono (by decide)).trans ((keeps_modTr _ _).mono (by decide))
  rw [boundaryAt_run hmode]
  exact ((hbegins.trans ((keeps_presented time tkFirst s).mono (by decide))).trans ((keeps_countLinks _).mono (by decide))).trans
    ((keeps_owed _ _).mono (by decide))

end boundary

/-- A link at the end of the boundary: its record is counted, and the tally of its number wanted. -/
theorem boundaryAt_link {s : State} (hmode : s.mode = .run) (hlen : s.links.length = 48) (time : Nat) (tkFirst : Bool) {l : Nat}
    (hl : 1 ≤ l) (hl' : l ≤ 48) : ∃ k : Link, (boundaryAt time tkFirst s).link l = k.count ∧ k.core = (s.link l).core ∧
      k.wanted.tally = slot .off (boundaryAt time tkFirst s).tr.linkTally l := by
  have hlen' : (s.presented time tkFirst).links.length = 48 := (length_of_links (keeps_presented time tkFirst s .links (by decide))).trans hlen
  rw [boundaryAt_run hmode]
  exact ⟨(s.presented time tkFirst).link l, slot_map_in Link.vacant Link.vacant Link.count hl (by rw [hlen']; exact hl'),
    presented_link time tkFirst s l, presented_wants time tkFirst hlen l hl hl'⟩

/-- Settles O27. -/
theorem boundaryInRun : Obligations.BoundaryInRun := by
  intro s time tkFirst hs hmode t shows
  obtain ⟨-, hlinks, -, hlamps, -, -, -, -, -, -, hzones, -⟩ := hs
  have ht : t = { countLinks (s.presented time tkFirst) with owed := (countLinks (s.presented time tkFirst)).dueSteps } := boundaryAt_run hmode time tkFirst
  have htr : t.tr = (s.tr.snap (s.ftb.counter + 1)).resolve := by rw [ht]; exact presented_tr time tkFirst s
  have htk : t.tk = (s.presented time tkFirst).tk := by rw [ht]; rfl
  have hzonesTk : t.tk.zones = t.tr.zones := by
    have hresolved : (rewantAll (s.resolving time)).tr = (s.tr.snap (s.ftb.counter + 1)).resolve :=
      keeps_rewantAll (s.resolving time) .tr (by decide)
    rw [htk, htr, ← hresolved]
    exact presentNow_zones tkFirst _
  have hlink (l : Nat) (hl : 1 ≤ l) (hl' : l ≤ 48) := boundaryAt_link hmode hlinks time tkFirst hl hl'
  have htalk : SameTalk (if tkFirst then t else s) ((rewantAll (s.resolving time)).lampsSee tkFirst) := by
    cases tkFirst with
    | true =>
      have hpresent : (s.presented time true).tk = ((rewantAll (s.resolving time)).lampsSee true).tk := by
        rw [State.presented, presentNow_first, frameStep_tk, State.lampsSee, if_pos rfl]
      exact .of_tk (by rw [if_pos rfl, htk, hpresent])
    | false =>
      obtain ⟨hpulses, hlive⟩ := SameTalk.of_rewords (rewantAll_words (s := s.resolving time) hlinks).1
      rw [if_neg Bool.false_ne_true, State.lampsSee, if_neg Bool.false_ne_true]
      exact ⟨hpulses, hlive⟩
  have hlamp (m : Nat) (hm : 1 ≤ m) (hm' : m ≤ 16) : (t.lamp m).heldTally = slot .off t.tr.lampTally m ∧ Steps (s.lamp m) (t.lamp m)
      ((if tkFirst then t else s).showing t.lampZones (slot .off t.tr.lampTally m) (s.lamp m).cfg.source) := by
    have hpresent := presented_lamps time tkFirst hlamps htalk hm hm'
    have hlampsT : t.lamps = (s.presented time tkFirst).lamps ∧ t.lampZones = (s.presented time tkFirst).lampZones ∧
        t.tr = (s.presented time tkFirst).tr := by rw [ht]; exact ⟨rfl, rfl, rfl⟩
    obtain ⟨hl, hz, hr⟩ := hlampsT
    rw [State.lamp, hl, hz, hr]
    exact hpresent
  refine ⟨boundaryAt_ftb _ _ _, ?_, by rw [htr]; rfl, by rw [htr]; rfl, by rw [htr]; rfl, fun l hl hl' => ?_, fun m hm hm' => ?_,
    fun z hz hz' => ?_, hzonesTk, ?_, fun m hm hm' => ?_, fun l hl hl' => ?_, ?_⟩
  · rw [ht]
    exact presented_leads time tkFirst s
  · obtain ⟨hprogram, hoff⟩ := tallyOver_shown (s := s) (n := s.ftb.counter + 1) MapEntry.links l
    obtain ⟨k, hk, -, hword⟩ := hlink l hl hl'
    have hwanted : (t.link l).wanted.tally = slot .off t.tr.linkTally l := by
      rw [hk, k.count_fields.2.1]
      exact hword
    rw [htr, resolve_linkTally hl hl'] at hwanted ⊢
    exact ⟨hprogram, hoff, hwanted⟩
  · obtain ⟨hprogram, hoff⟩ := tallyOver_shown (s := s) (n := s.ftb.counter + 1) MapEntry.lamps m
    have hheld : (t.lamp m).heldTally = slot .off t.tr.lampTally m := (hlamp m hm hm').1
    rw [htr, resolve_lampTally hm hm'] at hheld ⊢
    exact ⟨hprogram, hoff, hheld⟩
  · rw [htr]
    exact resolve_zone hz (by rw [hzones]; exact hz')
  · rw [ht]
    exact presented_lampZones time tkFirst s
  · intro x y talk source c fresh flashes
    have hsource : source = talk.showing t.lampZones (slot .off t.tr.lampTally m) x.cfg.source := by
      show _ = talk.showing t.lampZones (slot .off t.tr.lampTally m) (s.lamp m).cfg.source
      dsimp only [source, x]
      cases (s.lamp m).cfg.source <;> rfl
    obtain ⟨h1, h2, h3, h4, h5, h6, h7, h8⟩ := (hlamp m hm hm').2
    rw [show (if tkFirst then t else s).showing t.lampZones (slot .off t.tr.lampTally m) (s.lamp m).cfg.source = source from hsource.symm]
      at h1 h3 h4 h5 h6 h7
    exact ⟨h1, h2, h3, h4, h5, h6, h7, h8⟩
  · obtain ⟨k, hk, hcore, -⟩ := hlink l hl hl'
    have hstate : k.state = (s.link l).state := (congrArg Link.state hcore :)
    have hsilence : k.silenceCounter = (s.link l).silenceCounter := (congrArg Link.silenceCounter hcore :)
    have hfade : k.fadeTimer = (s.link l).fadeTimer := (congrArg Link.fadeTimer hcore :)
    have hcfg : k.cfg = (s.link l).cfg := (congrArg Link.cfg hcore :)
    obtain ⟨hst, -, hsil, hfad⟩ := k.count_fields
    rw [hstate] at hst
    rw [hsilence, hstate] at hsil
    rw [hfade, hstate, hsilence, hcfg] at hfad
    rw [hk]
    refine ⟨hst, hsil, hfad, ?_⟩
    have hrun : (countLinks (s.presented time tkFirst)).mode = .run := by
      rw [show (countLinks (s.presented time tkFirst)).mode = (s.presented time tkFirst).mode from rfl,
        show (s.presented time tkFirst).mode = (s.resolving time).mode from keeps_presented time tkFirst s .mode (by decide)]
      exact hmode
    have hsame : (countLinks (s.presented time tkFirst)).link l = k.count := by rw [← hk, boundaryAt_run hmode]; rfl
    have howed : t.owed = (countLinks (s.presented time tkFirst)).dueSteps := by rw [ht]
    rw [howed, silence_mem_dueSteps hrun hl hl', State.silentAt, hsame, hst, hsil, Bool.and_eq_true, decide_eq_true_eq]
    refine and_congr_right fun hc => ?_
    rw [if_pos hc]
    omega
  · exact keeps_boundaryAt_run time tkFirst hmode

end Sys2Proof.Machine

/-! The end of a SPARE_SWEEP (R60, R66): a stale one is asked for again, and any other installs its list and wakes the links of its
band that were EXHAUSTED. -/

namespace Sys2Proof.Machine

-- One theorem at a time: all at once, their threads together outgrow the memory limit of the check.
set_option Elab.async false

/-- Whether a sweep or a pick has gone stale, as the statement has it. -/
theorem scanStale_iff {s : State} {q : Snapshot} : scanStale q s = true ↔
    (s.band q.one.band).carrierGen ≠ q.one.carrierGen ∨ (s.band q.one.band).spectrumGen ≠ q.one.spectrumGen := by
  simp only [scanStale, Bool.or_eq_true, decide_eq_true_eq]

/-- A sweep asked for is a flag or a job. -/
theorem sweepAsked_flag {b : Nat} {t : State} (h : SweepAsked b t) :
    (t.band b).sweepWanted = true ∨ t.hasJob (JobKind.isSweepOf b) = true := by
  refine h.imp id fun ⟨j, hj, hkind, _⟩ => List.any_eq_true.2 ⟨j, hj, ?_⟩
  rw [hkind]
  exact decide_eq_true rfl

theorem rearm_wants {b : Nat} {k : Link} (hb : k.cfg.band = b) (hst : k.state = .fading) (hr : k.rescue = .exhausted)
    (ha : k.cfg.autoRescue = true) : (rearm b k).rescue = .wanted := by
  rw [rearm, if_pos ⟨hb, hst, hr, ha⟩]

section sweep
variable {s : State} {b : Nat} {q : Snapshot}

/-- The sweep's list installed, before any link is woken. -/
def installed (b : Nat) (q : Snapshot) (s : State) : State :=
  raise .bandSpares b (s.modBand b fun k => { k with spares := sweepList b q s, sparesFresh := true })

theorem sweepDone_undefined (h : (s.band b).defined = false) : sweepDone b q s = s := if_pos h

theorem sweepDone_stale (h : (s.band b).defined = true) (hst : scanStale q s = true) :
    sweepDone b q s = s.modBand b fun k => { k with sweepWanted := true } := by
  rw [sweepDone, if_neg (by rw [h]; exact Bool.noConfusion), if_pos hst]

theorem sweepDone_fresh (h : (s.band b).defined = true) (hst : ¬ scanStale q s = true) : sweepDone b q s =
    if (sweepList b q s).isEmpty then installed b q s
    else { installed b q s with links := s.links.map (rearm b) } := by
  rw [sweepDone, if_neg (by rw [h]; exact Bool.noConfusion), if_neg hst]
  rfl

theorem sweepDone_bands (h : (s.band b).defined = true) (hst : ¬ scanStale q s = true) :
    (sweepDone b q s).bands = (installed b q s).bands := by
  rw [sweepDone_fresh h hst]
  split <;> rfl

theorem waits_sweepDone (h : (s.band b).defined = true) (hst : ¬ scanStale q s = true) : Waits .bandSpares b (sweepDone b q s) := by
  rw [sweepDone_fresh h hst]
  split
  · exact waits_raise _ _ _
  · exact (waits_raise _ _ _ : Waits .bandSpares b (installed b q s)).of_same rfl

/-- The links that an installed list wakes. -/
theorem sweepDone_wakes (h : (s.band b).defined = true) (hst : ¬ scanStale q s = true) (hlist : sweepList b q s ≠ []) {l : Nat}
    (hl : 1 ≤ l) (hl' : l ≤ s.links.length) : (sweepDone b q s).link l = rearm b (s.link l) := by
  rw [sweepDone_fresh h hst, if_neg (by rwa [List.isEmpty_iff])]
  exact slot_map_in Link.vacant Link.vacant (rearm b) hl hl'

end sweep

/-- The first part of O59. -/
theorem sweepCompletes {s : State} {b : Nat} {q : Snapshot} (hs : s.shaped) (howed : s.owed = []) (hb : 1 ≤ b) (hb' : b ≤ 4)
    (hq : q.one.band = b) (hrun : s.running = some (.spareSweep b, q)) :
    let k := s.band b
    let stale := k.carrierGen ≠ q.one.carrierGen ∨ k.spectrumGen ≠ q.one.spectrumGen
    let list := sweepList b q s
    Reaches .sweepComplete s fun t =>
      (k.defined = false → KeepsBut afterParts s t) ∧
      (k.defined = true → stale → KeepsBut afterParts s t ∧
        ((t.band b).sweepWanted = true ∨ t.hasJob (JobKind.isSweepOf b) = true)) ∧
      (k.defined = true → ¬ stale → (t.band b).core = ({ k with spares := list, sparesFresh := true }).core ∧
        BandAlone b s t ∧ Notified .bandSpares b t ∧
        (list ≠ [] → ∀ l, 1 ≤ l → l ≤ 48 → (s.link l).cfg.band = b → (s.link l).state = .fading →
          (s.link l).rescue = .exhausted → (s.link l).cfg.autoRescue = true →
          (t.link l).rescue = .wanted ∨ (t.link l).rescue = .picking) ∧ KeepsBut (.bands :: afterParts) s t) := by
  intro k stale list
  obtain ⟨hbands, hlinks, -⟩ := hs
  have hblen : b ≤ s.bands.length := hb'.trans_eq hbands.symm
  have hstale : scanStale q s = true ↔ stale := by rw [scanStale_iff, hq]
  have hleave (u : State) : KeepsBut [.pe] u (leaveQueue u) := keeps_leaveQueue u
  have hend (u : State) : KeepsBut afterParts u (after (leaveQueue u)) := ((hleave u).mono (by decide)).trans (keeps_after _)
  have hgoes (u : State) : FlagsGoOn (leaveQueue u) (after (leaveQueue u)) := flags_after _
  refine ⟨after (leaveQueue (sweepDone b q s)), ?_, fun hdef => ?_, fun hdef hst => ⟨?_, ?_⟩, fun hdef hst => ?_⟩
  · show execSweepComplete s = _
    simp only [execSweepComplete, event, settleOwed_of_nil s howed, completeSweep, hrun]
  · rw [sweepDone_undefined hdef]
    exact hend s
  · rw [sweepDone_stale hdef (hstale.2 hst)]
    exact ((keeps_sweepFlag b true s).mono (by decide)).trans (hend _)
  · rw [sweepDone_stale hdef (hstale.2 hst)]
    refine sweepAsked_flag ((hgoes _).asked b (.inl ?_))
    exact congrArg Band.sweepWanted (band_modBand_self hb hblen fun k => { k with sweepWanted := true })
  · have hfresh : ¬ scanStale q s = true := fun h => hst (hstale.1 h)
    have hcore (n : Nat) : ((after (leaveQueue (sweepDone b q s))).band n).core = ((installed b q s).band n).core := by
      rw [bandCore_of_same (hend _ .bands (by decide)), State.band, sweepDone_bands hdef hfresh]
      rfl
    refine ⟨?_, fun n hn => ?_, notified_after ((waits_sweepDone hdef hfresh).of_same rfl), fun hlist l hl hl' hlb hlst hr ha => ?_, ?_⟩
    · rw [hcore]
      exact congrArg Band.core (band_modBand_self hb hblen _)
    · rw [hcore]
      exact congrArg Band.core (band_modBand_other hn _)
    · have hwoken : ((leaveQueue (sweepDone b q s)).link l).rescue = .wanted := by
        show ((sweepDone b q s).link l).rescue = _
        rw [sweepDone_wakes hdef hfresh hlist hl (hl'.trans_eq hlinks.symm), rearm_wants hlb hlst hr ha]
      obtain h | ⟨-, h, -⟩ := (hgoes (sweepDone b q s)).rescue l
      · exact .inl (h.trans hwoken)
      · exact .inr h
    · exact ((keeps_sweepDone b q s).mono (by decide)).trans ((hend _).mono (by decide))

end Sys2Proof.Machine

/-! The start of a retune (R100, R103): what it does to the link, its band and its unit, and the revert of one whose TUNE overflows. -/

namespace Sys2Proof.Machine

-- One theorem at a time: all at once, their threads together outgrow the memory limit of the check.
set_option Elab.async false

theorem CarrierChanges.trans {b n m : Nat} {s t u : State} (h : CarrierChanges b n s t) (k : CarrierChanges b m t u) :
    CarrierChanges b (n + m) s u :=
  ⟨by rw [k.1, h.1, BitVec.ofNat_add, BitVec.add_assoc], fun c hc => (k.2 c hc).trans (h.2 c hc)⟩

theorem carrierChange_spares (b m : Nat) (s : State) : ((carrierChange b s).band m).spares = (s.band m).spares := by
  rw [State.band, carrierChange_bands]
  exact slot_modSlot_field Band.spares Band.reset _ s.bands b m fun _ => rfl

theorem spares_of_same {s t : State} (h : Part.bands.same s t) (b : Nat) : (t.band b).spares = (s.band b).spares :=
  (congrArg Band.spares (bandCore_of_same h b) :)

/-- A revert brings no spare back (R105). -/
theorem startRevert_spares (l m : Nat) (s : State) : ((startRevert l s).band m).spares = (s.band m).spares := by
  rw [startRevert_eq, spares_of_same (keeps_changeState _ _ _ _ .bands (by decide))]
  show ((revertTunes l s).state.band m).spares = _
  rw [revertTunes, spares_of_same (keeps_issueTune _ _ _ _ _ .bands (by decide)), revertReleases, release, carrierChange_spares]
  rfl

/-- The link's carrier for the move is held. -/
def retuneHolds (l step : Nat) (s : State) : State :=
  hold (s.link l).cfg.band step (s.link l).cfg.hw (s.modLink l fun k => { k with pending := some step })

/-- The TUNE of a retune. -/
def retuneTunes (l step : Nat) (e : FrameNo) (s : State) : Issued := issueTune l step e (.rcRetune l) (retuneHolds l step s)

/-- The record of a link that moves, but for its state. -/
def Link.moving (e : FrameNo) (o : Origin) (id : Nat) (k : Link) : Link :=
  { k with origin := some o, effectiveFrame := some e, deadline := some (framePlus e k.cfg.confirmWindow), moveOrder := some id }

/-- The record of a link in RETUNING. -/
def Link.retuning (step : Nat) (e : FrameNo) (o : Origin) (id : Nat) (k : Link) : Link :=
  Link.moving e o id (Link.enter .retuning none { k with pending := some step })

/-- The link in RETUNING, whether its TUNE goes out or not. -/
def retuned (l step : Nat) (e : FrameNo) (o : Origin) (s : State) : State :=
  (changeState l .retuning none (retuneTunes l step e s).state).modLink l (Link.moving e o (retuneTunes l step e s).id)

theorem startRetune_eq (l step : Nat) (e : FrameNo) (o : Origin) (s : State) : startRetune l step e o s =
    if (retuneTunes l step e s).overflow then startRevert l (retuned l step e o s) else retuned l step e o s := rfl

theorem keeps_retuneHolds (l step : Nat) (s : State) : KeepsBut (.links :: carrierParts) s (retuneHolds l step s) :=
  ((keeps_modLink_core s l (fun k => { k with pending := some step }) (fun _ => rfl) fun _ => rfl).mono
    (qs := .links :: carrierParts) (by decide)).trans ((keeps_hold _ _ _ _).mono (by decide))

theorem OrderedAs.of_now {n a : Nat} {body : OrderBody} {i : Issuer} {s s' t : State} (h : OrderedAs n a body i s' t)
    (hn : s'.now = s.now) : OrderedAs n a body i s t := by
  unfold OrderedAs at *
  rwa [hn] at h

theorem hold_params (b f hw n : Nat) (s : State) : ((hold b f hw s).band n).p = (s.band n).p :=
  (slot_modSlot_field Band.p Band.reset _ (carrierChange b s).bands b n fun k => (mask_fields f hw (k.prune f hw)).2.2.1).trans
    (carrierChange_p b n s)

theorem hold_length (b f hw : Nat) (s : State) : (hold b f hw s).bands.length = s.bands.length := by
  rw [hold, length_modBand, carrierChange_bands, modSlot_length]

theorem retuned_same (l step : Nat) (e : FrameNo) (o : Origin) (s : State) :
    Part.bands.same (retuneHolds l step s) (retuned l step e o s) := by
  have hissue := keeps_issueTune l step e (.rcRetune l) (retuneHolds l step s)
  have hstate : KeepsBut stateParts (retuneTunes l step e s).state (changeState l .retuning none (retuneTunes l step e s).state) :=
    keeps_changeState _ _ _ _
  exact (hstate .bands (by decide) : Part.bands.same (retuneTunes l step e s).state _).trans (hissue .bands (by decide))

theorem retuned_length (l step : Nat) (e : FrameNo) (o : Origin) (s : State) :
    (retuned l step e o s).bands.length = s.bands.length :=
  (length_of_bands (retuned_same l step e o s)).trans (hold_length _ _ _ _)

section retune
variable {s : State} {l : Nat} (step : Nat) (e : FrameNo) (o : Origin) (hl : 1 ≤ l) (hl' : l ≤ s.links.length)

include hl hl' in
theorem linkBecomes_retuneTunes :
    LinkBecomes l { s.link l with pending := some step } s (retuneTunes l step e s).state :=
  (((LinkBecomes.refl l s).modLink (f := fun k => { k with pending := some step }) hl hl').keeps (keeps_hold _ _ _ _)).keeps
    (keeps_issueTune _ _ _ _ _)

include hl hl' in
theorem retuned_link (hne : (s.link l).state ≠ .retuning) :
    LinkBecomes l (Link.retuning step e o (retuneTunes l step e s).id (s.link l)) s (retuned l step e o s) ∧
      Waits .linkState l (retuned l step e o s) := by
  have h := linkBecomes_retuneTunes step e hl hl'
  refine ⟨(h.changeState hl hl' hne).modLink hl hl', ?_⟩
  have hwaits : Waits .linkState l (changeState l .retuning none (retuneTunes l step e s).state) :=
    waits_changeState (by rw [h.state]; exact hne)
  exact hwaits.of_same rfl

/-- The link that is to move holds its new carrier (R23, R33). -/
theorem retuned_band (hb : 1 ≤ (s.link l).cfg.band) (hb' : (s.link l).cfg.band ≤ s.bands.length) :
    let b := (s.link l).cfg.band
    CarrierChanges b 1 s (retuned l step e o s) ∧
      ((retuned l step e o s).band b).spares = (s.band b).spares.filter fun x =>
        decide (x.step + (s.link l).cfg.hw + (s.band b).p.gapCc < step) ||
        decide (step + (s.link l).cfg.hw + (s.band b).p.gapCc < x.step) := by
  intro b
  have hbands := retuned_same l step e o s
  exact ⟨(hold_carrier (s := s.modLink l fun k => { k with pending := some step }) hb hb' _ _).same hbands,
    (spares_of_same hbands b).trans (hold_spares (s := s.modLink l fun k => { k with pending := some step }) hb hb' _ _)⟩

theorem retuned_spares (htallies : TalliesBelow s.nextOrderId s) :
    SparesFrom s.nextOrderId (retuneTunes l step e s).state (retuned l step e o s) := by
  have hheld : TalliesBelow s.nextOrderId (retuneHolds l step s) := ((htallies.modLink l).carrierChange _).of_links rfl
  exact (sparesFrom_changeState (hheld.issue _ _ _)).trans (.keeps (keeps_modLink _ _ _) _)

include hl hl' in
/-- The TUNE of a retune goes out, or its unit is full. -/
theorem retuned_orders (htallies : TalliesBelow s.nextOrderId s) (hunits : s.units.length = 25) (hu : 1 ≤ (s.link l).cfg.unit)
    (hu' : (s.link l).cfg.unit ≤ 24) :
    (retuneTunes l step e s).overflow = false ∧ OrderedAs s.nextOrderId (s.link l).cfg.unit
        (.tune (s.link l).cfg.channel ((s.band (s.link l).cfg.band).p.baseKhz + 25 * step) e) (.rcRetune l) s (retuned l step e o s) ∨
      (retuneTunes l step e s).overflow = true ∧ s.unitFull (s.link l).cfg.unit := by
  have hkeeps := keeps_retuneHolds l step s
  have hcfg : ((retuneHolds l step s).link l).cfg = (s.link l).cfg :=
    (((LinkBecomes.refl l s).modLink (f := fun k => { k with pending := some step }) hl hl').keeps (keeps_hold _ _ _ _)).cfg
  have hkhz : (retuneHolds l step s).khz l step = (s.band (s.link l).cfg.band).p.baseKhz + 25 * step := by
    rw [State.khz, hcfg, retuneHolds, hold_params]
    rfl
  have hsame : (retuneHolds l step s).units = s.units := hkeeps .units (by decide)
  have hnow : (retuneHolds l step s).now = s.now := congrArg Ftb.counter (hkeeps .ftb (by decide))
  have hid : (retuneHolds l step s).nextOrderId = s.nextOrderId := hkeeps .orderIds (by decide)
  have hissue : retuneTunes l step e s = issue (s.link l).cfg.unit (.tune (s.link l).cfg.channel
      ((s.band (s.link l).cfg.band).p.baseKhz + 25 * step) e) (.rcRetune l) (retuneHolds l step s) := by
    rw [retuneTunes, issueTune, hcfg, hkhz]
  have hplace := place_of_address (s := retuneHolds l step s) (hsame ▸ hunits) (mem_unitAddresses.2 (.inl ⟨hu, hu'⟩))
  cases hover : (retuneTunes l step e s).overflow with
  | true => exact .inr ⟨rfl, unitFull_of_units hsame (unitFull_of_overflow (hissue ▸ hover))⟩
  | false =>
    have hordered := (orderedAs_issue hplace (hissue ▸ hover)).of_now hnow
    rw [← hissue, hid] at hordered
    exact .inl ⟨rfl, hordered.spared le_rfl displaceable_tune (retuned_spares step e o htallies)⟩

end retune

theorem Link.retuning_fields (step : Nat) (e : FrameNo) (o : Origin) (id : Nat) (k : Link) :
    (Link.retuning step e o id k).state = .retuning ∧ (Link.retuning step e o id k).pending = some step ∧
      (Link.retuning step e o id k).assigned = k.assigned ∧ (Link.retuning step e o id k).origin = some o ∧
      (Link.retuning step e o id k).effectiveFrame = some e ∧
      (Link.retuning step e o id k).deadline = some (framePlus e k.cfg.confirmWindow) ∧ (Link.retuning step e o id k).cfg = k.cfg :=
  ⟨rfl, rfl, rfl, rfl, rfl, rfl, rfl⟩

theorem Link.reverting_fields (e : FrameNo) (k : Link) : (k.reverting e).state = .reverting ∧ (k.reverting e).pending = none ∧
    (k.reverting e).assigned = k.assigned ∧ (k.reverting e).origin = k.origin := ⟨rfl, rfl, rfl, rfl⟩

/-- What the start of a retune does: its TUNE goes out, or, the unit full, it reverts at once (R100, R103). -/
theorem startRetune_does {s : State} {l : Nat} (hl : 1 ≤ l) (hlen : l ≤ s.links.length) (htallies : TalliesBelow s.nextOrderId s)
    (hne : (s.link l).state ≠ .retuning) (hb : 1 ≤ (s.link l).cfg.band) (hblen : (s.link l).cfg.band ≤ s.bands.length) (hunits : s.units.length = 25) (hu : 1 ≤ (s.link l).cfg.unit)
    (hu' : (s.link l).cfg.unit ≤ 24) (step : Nat) (e : FrameNo) (o : Origin) :
    let k := s.link l
    let b := k.cfg.band
    let t := startRetune l step e o s
    (∃ k' : Link, LinkBecomes l k' s t ∧ k'.assigned = k.assigned ∧ k'.origin = some o ∧
      ((k'.state = .retuning ∧ k'.pending = some step ∧ k'.effectiveFrame = some e ∧
          k'.deadline = some (framePlus e k.cfg.confirmWindow) ∧ CarrierChanges b 1 s t ∧
          OrderedAs s.nextOrderId k.cfg.unit (.tune k.cfg.channel ((s.band b).p.baseKhz + 25 * step) e) (.rcRetune l) s t) ∨
        (s.unitFull k.cfg.unit ∧ k'.state = .reverting ∧ k'.pending = none ∧ CarrierChanges b 2 s t))) ∧
    Waits .linkState l t ∧
    (t.band b).spares = (s.band b).spares.filter (fun x => decide (x.step + k.cfg.hw + (s.band b).p.gapCc < step) ||
      decide (step + k.cfg.hw + (s.band b).p.gapCc < x.step)) := by
  intro k b t
  obtain ⟨hlink, hwaits⟩ := retuned_link step e o hl hlen hne
  obtain ⟨hcarrier, hspares⟩ := retuned_band step e o hb hblen
  obtain ⟨hstate, hpending, hassigned, horigin, heff, hdl, hcfg⟩ := Link.retuning_fields step e o (retuneTunes l step e s).id k
  have heq := startRetune_eq l step e o s
  obtain ⟨hover, hordered⟩ | ⟨hover, hfull⟩ := retuned_orders step e o hl hlen htallies hunits hu hu'
  · rw [hover, if_neg Bool.false_ne_true] at heq
    rw [show t = retuned l step e o s from heq]
    exact ⟨⟨_, hlink, hassigned, horigin, .inl ⟨hstate, hpending, heff, hdl, hcarrier, hordered⟩⟩, hwaits, hspares⟩
  · rw [hover, if_pos rfl] at heq
    rw [show t = startRevert l (retuned l step e o s) from heq, startRevert_spares]
    have hcfg' : ((retuned l step e o s).link l).cfg = k.cfg := hlink.cfg.trans hcfg
    have hblen' : b ≤ (retuned l step e o s).bands.length := hblen.trans_eq (retuned_length l step e o s).symm
    obtain ⟨hrev, hrevwaits, hrevcarrier⟩ := startRevert_does (s := retuned l step e o s) hl (hlen.trans_eq hlink.length.symm)
      (hlink.state.trans hstate) (by rw [hcfg']; exact hb) (by rw [hcfg']; exact hblen')
    rw [hcfg'] at hrevcarrier
    obtain ⟨hrstate, hrpending, hrassigned, hrorigin⟩ := Link.reverting_fields (retuned l step e o s).nextEffective
      ((retuned l step e o s).link l)
    exact ⟨⟨_, hlink.trans hrev, hrassigned.trans (hlink.assigned.trans hassigned), hrorigin.trans (hlink.origin.trans horigin),
      .inr ⟨hfull, hrstate, hrpending, hcarrier.trans hrevcarrier⟩⟩, hrevwaits, hspares⟩

end Sys2Proof.Machine

/-! The end of a RESCUE_PICK (R67, R68, R120): the trial of the spares, each outcome, and with it O59. -/

namespace Sys2Proof.Machine

-- One theorem at a time: all at once, their threads together outgrow the memory limit of the check.
set_option Elab.async false

/-! ## The trial of the spares (R68) -/

/-- The candidate check of one spare for a pick. -/
def Spare.check (g : BandSnap) (hw l : Nat) (x : Spare) : Constraint := candidateCheck g false x.step hw l

/-- The spare fails its check. -/
def Spare.fails (g : BandSnap) (hw l : Nat) (x : Spare) : Bool := decide ((x.check g hw l).margin < 0)

/-- The trial rejects the spares before the first that passes, and reports on that one, or on the last. -/
theorem tryEntries_eq (g : BandSnap) (hw l : Nat) (es : List Spare) : tryEntries g hw l es =
    ((es.takeWhile (Spare.fails g hw l)).map Spare.step, (es.find? fun x => !x.fails g hw l).map Spare.step,
      ((es.find? fun x => !x.fails g hw l).or es.getLast?).map (Spare.check g hw l)) := by
  induction es with
  | nil => rfl
  | cons x es ih =>
    by_cases hx : x.fails g hw l = true
    · have hneg : ¬ 0 ≤ (candidateCheck g false x.step hw l).margin := Int.not_le.2 (of_decide_eq_true hx)
      rw [tryEntries, if_neg hneg, ih, List.takeWhile_cons_of_pos hx, List.find?_cons_of_neg (by simp [hx]), List.getLast?_cons]
      refine congrArg _ (congrArg _ ?_)
      cases es.find? fun x => !x.fails g hw l with
      | some y => rfl
      | none => cases es.getLast? <;> rfl
    · have hpos : 0 ≤ (candidateCheck g false x.step hw l).margin := Int.not_lt.1 fun h => hx (decide_eq_true h)
      rw [tryEntries, if_pos hpos, List.takeWhile_cons_of_neg hx, List.find?_cons_of_pos (by simpa using hx)]
      rfl

/-! ## The state of a pick's end -/

theorem pickChanged_iff {l : Nat} {s : State} : pickChanged l s = true ↔ (s.link l).state ≠ .fading ∨ (s.link l).rescue ≠ .picking := by
  simp only [pickChanged, Bool.or_eq_true, decide_eq_true_eq]

/-- A link of a frozen band is not converted (R57). -/
theorem convert_frozen {s : State} {l : Nat} (h : (s.band (s.link l).cfg.band).frozen = true) :
    ((convert s).link l).rescue = (s.link l).rescue := by
  have hcfg {s t : State} (hk : KeepsBut engineParts s t) (h : (s.band (s.link l).cfg.band).frozen = true) :
      (t.band (t.link l).cfg.band).frozen = true := by
    have hc : (t.link l).cfg = (s.link l).cfg := (congrArg Link.cfg (linkCore_of_same (hk .links (by decide)) l) :)
    rw [hc]
    exact (congrArg Band.frozen (bandCore_of_same (hk .bands (by decide)) _) :).trans h
  have hrescue (s : State) (n : Nat) (h : (s.band (s.link l).cfg.band).frozen = true) :
      ((convertRescue s n).link l).rescue = (s.link l).rescue := by
    by_cases hn : n = l
    · subst hn
      rw [convertRescue, if_neg fun ⟨_, _, _, hf⟩ => Bool.noConfusion (h.symm.trans hf)]
    · unfold convertRescue
      split
      · exact congrArg Link.rescue (slot_modSlot_other Link.vacant _ (joinQueue _ s).links hn)
      · rfl
  have hfold (f : State → Nat → State) (hk : ∀ s n, KeepsBut engineParts s (f s n))
      (hf : ∀ s n, (s.band (s.link l).cfg.band).frozen = true → ((f s n).link l).rescue = (s.link l).rescue) (xs : List Nat)
      {s : State} (h : (s.band (s.link l).cfg.band).frozen = true) :
      ((xs.foldl f s).band ((xs.foldl f s).link l).cfg.band).frozen = true ∧ ((xs.foldl f s).link l).rescue = (s.link l).rescue := by
    induction xs generalizing s with
    | nil => exact ⟨h, rfl⟩
    | cons x xs ih =>
      obtain ⟨hb, hr⟩ := ih (s := f s x) (hcfg (hk s x) h)
      exact ⟨hb, hr.trans (hf s x h)⟩
  unfold convert
  split
  · obtain ⟨hb, hr⟩ := hfold convertRescue keeps_convertRescue hrescue (oneUpTo Config.links) h
    refine ((hfold convertSweep keeps_convertSweep (fun s b _ => ?_) (oneUpTo Config.bands) hb).2).trans hr
    unfold convertSweep
    split <;> rfl
  · rfl

/-- The rescue status of a link of a frozen band stands to the end of an event. -/
theorem finish_frozen {s0 s : State} {l : Nat} (h : (s.band (s.link l).cfg.band).frozen = true) :
    ((finish s0 s).link l).rescue = (s.link l).rescue := by
  have hkeeps := keeps_tkAfter s0 s
  have hcfg : ((tkAfter s0 s).link l).cfg = (s.link l).cfg := (congrArg Link.cfg (linkCore_of_same (hkeeps .links (by decide)) l) :)
  have hfrozen : ((tkAfter s0 s).band ((tkAfter s0 s).link l).cfg.band).frozen = true := by
    rw [hcfg]
    exact (congrArg Band.frozen (bandCore_of_same (hkeeps .bands (by decide)) _) :).trans h
  have hchoose : ((choose (convert (tkAfter s0 s))).link l).rescue = ((convert (tkAfter s0 s)).link l).rescue := by
    rw [State.link, choose_links]
    rfl
  exact ((rescue_of_same (keeps_kick (choose (convert (tkAfter s0 s))) .rescues (by decide)) l).trans hchoose).trans
    ((convert_frozen hfrozen).trans (rescue_of_same (hkeeps .rescues (by decide)) l))

/-- A rescue status that is not WANTED stands to the end of an event (R57). -/
theorem finish_rescue {s0 s : State} {l : Nat} (h : (s.link l).rescue ≠ .wanted) : ((finish s0 s).link l).rescue = (s.link l).rescue :=
  ((flags_finish s0 s).rescue l).resolve_right fun ⟨hw, _⟩ => h hw

section pick
variable {s : State} {l : Nat}

/-- The spares of a band without those of some steps. -/
def dropSpares (b : Nat) (gone : List Nat) (s : State) : State :=
  s.modBand b fun k => { k with spares := k.spares.filter fun x => !gone.contains x.step }

theorem carrierChanges_spares (b : Nat) (s : State) (keep : Spare → Bool) :
    CarrierChanges b 0 s (s.modBand b fun k => { k with spares := k.spares.filter keep }) :=
  ⟨(slot_modSlot_field Band.carrierGen Band.reset (fun k => { k with spares := k.spares.filter keep }) s.bands b b fun _ => rfl).trans
    (BitVec.add_zero _).symm, fun _ hn => congrArg Band.core (band_modBand_other hn _)⟩

/-- What a pick's result says (R68). -/
def pickResult (q : Snapshot) (hw l : Nat) (spares : List Spare) (o : RescueOutcome) (step : Option Nat) (worst : Option Spare) :
    RescueResult :=
  let rejected := (q.one.spares.takeWhile (Spare.fails q.one hw l)).map Spare.step
  let chosen := q.one.spares.find? fun x => !x.fails q.one hw l
  ⟨o, rejected.length + chosen.toList.length, spares.length - (spares.filter fun x => !rejected.contains x.step).length, step,
    worst.map (Spare.check q.one hw l)⟩

theorem countP_filter_not {α : Type} (p : α → Bool) (xs : List α) : xs.countP p = xs.length - (xs.filter fun x => !p x).length := by
  have h := List.length_eq_countP_add_countP p (l := xs)
  have hnot : (xs.filter fun x => !p x).length = xs.countP fun x => decide (¬ p x = true) := by
    rw [← List.countP_eq_length_filter]
    exact List.countP_congr fun x _ => by simp
  omega

/-- A pick that is not stale, by the trial of the spares (R68). -/
theorem pickDone_eq (l : Nat) (q : Snapshot) (s : State) :
    let rejected := (q.one.spares.takeWhile (Spare.fails q.one q.linkHw l)).map Spare.step
    let chosen := q.one.spares.find? fun x => !x.fails q.one q.linkHw l
    let s1 := dropSpares q.one.band rejected s
    let result := pickResult q q.linkHw l (s.band q.one.band).spares
    pickDone l q s = if pickChanged l s then s1
      else match chosen with
        | none => raise .linkRescue l ((setRescueResult l (result .exhausted none q.one.spares.getLast?) s1).modLink l fun k =>
            { k with rescue := .exhausted })
        | some x =>
          if (s.band q.one.band).frozen then
            (setRescueResult l (result .deferred none (some x)) s1).modLink l fun k => { k with rescue := .wanted }
          else raise .linkRescue l ((startRetune l x.step s.nextEffective .rescue
            (setRescueResult l (result .chosen (some x.step) (some x)) s1)).modBand q.one.band fun k =>
              { k with spares := k.spares.filter fun y => decide (y.step ≠ x.step) }) := by
  intro rejected chosen s1 result
  rw [pickDone, tryEntries_eq]
  dsimp only
  rw [countP_filter_not]
  dsimp only [s1, result, chosen, rejected, pickResult, dropSpares]
  cases q.one.spares.find? fun x => !x.fails q.one q.linkHw l <;> rfl

end pick

/-! ## The outcomes -/

section ends
variable {s : State} {l : Nat}

theorem keeps_pickEnd (s0 u : State) : KeepsBut tailParts u (finish s0 (leaveQueue u)) :=
  ((keeps_leaveQueue u).mono (by decide)).trans (keeps_finishTail s0 _)

theorem pickEnd_result (s0 u : State) : (finish s0 (leaveQueue u)).rescueResult l = u.rescueResult l :=
  (WorksOn.finish s0 (leaveQueue u)).rescue l

theorem WorksOn.results {s t : State} (h : WorksOn s t) : t.pe.rescue = s.pe.rescue := (congrArg Pe.rescue h.rest :)

theorem pickEnd_results (s0 u : State) : (finish s0 (leaveQueue u)).pe.rescue = u.pe.rescue := by
  have h := (WorksOn.finish s0 (leaveQueue u)).results
  exact h

theorem setRescueResult_self (hl : 1 ≤ l) (hl' : l ≤ s.pe.rescue.length) (r : RescueResult) :
    (setRescueResult l r s).rescueResult l = some r := slot_modSlot_self none _ _ hl hl'

/-- The rescue status of a link, once it is set. -/
theorem setRescue_self (hl : 1 ≤ l) (hl' : l ≤ s.links.length) (v : Rescue) :
    ((s.modLink l fun k => { k with rescue := v }).link l).rescue = v :=
  congrArg Link.rescue (link_modLink_self hl hl' fun k => { k with rescue := v })

/-- The band that a pick leaves without the spares it rejected. -/
theorem dropSpares_band {b : Nat} (hb : 1 ≤ b) (hb' : b ≤ s.bands.length) (gone : List Nat) :
    ((dropSpares b gone s).band b).core = ({ s.band b with spares := (s.band b).spares.filter fun x => !gone.contains x.step } : Band).core :=
  congrArg Band.core (band_modBand_self hb hb' _)

/-- R67's table: a stale pick is set aside, tried again, or its link exhausted. -/
theorem pick_stale {attempt : Nat} {q : Snapshot} (hl : 1 ≤ l) (hl' : l ≤ s.links.length) (hst : scanStale q s = true) :
    let gone := (s.link l).state ≠ .fading ∨ (s.link l).rescue ≠ .picking
    let t := finish s (rescueDone l attempt q s)
    KeepsBut tailParts s t ∧ (gone → (s.link l).rescue ≠ .wanted → (t.link l).rescue = (s.link l).rescue) ∧
      (¬ gone → attempt < 3 → (t.link l).rescue = .picking ∧ ∃ j ∈ t.pe.queue, j.kind = .rescuePick l (attempt + 1)) ∧
      (¬ gone → 3 ≤ attempt → (t.link l).rescue = .exhausted ∧ Notified .linkRescue l t) := by
  intro gone
  have hgone : pickChanged l s = true ↔ gone := pickChanged_iff
  have hstale : rescueDone l attempt q s = if pickChanged l s then leaveQueue s
      else if attempt < 3 then joinQueue (.rescuePick l (attempt + 1)) (leaveQueue s)
      else leaveQueue (raise .linkRescue l (s.modLink l fun k => { k with rescue := .exhausted })) := if_pos hst
  by_cases hg : gone
  · rw [hstale, if_pos (hgone.2 hg)]
    exact ⟨keeps_pickEnd s s, fun _ hw => finish_rescue hw, fun hn => absurd hg hn, fun hn => absurd hg hn⟩
  have hpicking : (s.link l).rescue = .picking := not_not.1 fun h => hg (.inr h)
  rw [hstale, if_neg fun h => hg (hgone.1 h)]
  by_cases ha : attempt < 3
  · rw [if_pos ha]
    have hjoin : KeepsBut [.pe] s (joinQueue (.rescuePick l (attempt + 1)) (leaveQueue s)) :=
      (keeps_leaveQueue s).trans (keeps_joinQueue _ _)
    refine ⟨(hjoin.mono (by decide)).trans (keeps_finishTail s _), fun h => absurd h hg, fun _ _ => ⟨?_, ?_⟩, fun _ h => absurd ha (Nat.not_lt.2 h)⟩
    · have hsame := rescue_of_same (hjoin .rescues (by decide)) l
      exact (finish_rescue (by rw [hsame, hpicking]; exact Rescue.noConfusion)).trans (hsame.trans hpicking)
    · have hkinds := (WorksOn.finish s (joinQueue (.rescuePick l (attempt + 1)) (leaveQueue s))).kinds
      have hmem : JobKind.rescuePick l (attempt + 1) ∈ (joinQueue (.rescuePick l (attempt + 1)) (leaveQueue s)).jobKinds := by
        rw [jobKinds_joinQueue]
        exact List.mem_append_right _ (List.mem_singleton_self _)
      exact List.mem_map.1 (hkinds.subset hmem)
  · rw [if_neg ha]
    have hset := setRescue_self (s := s) hl hl' .exhausted
    have hraise : KeepsBut [.rescues, .notices] s (raise .linkRescue l (s.modLink l fun k => { k with rescue := .exhausted })) :=
      ((keeps_setRescue l .exhausted s).mono (by decide)).trans ((keeps_raise _ _ _).mono (by decide))
    refine ⟨(hraise.mono (by decide)).trans (keeps_pickEnd s _), fun h => absurd h hg, fun _ h => absurd h ha, fun _ _ => ⟨?_, ?_⟩⟩
    · have hleft : ((leaveQueue (raise .linkRescue l (s.modLink l fun k => { k with rescue := .exhausted }))).link l).rescue =
        .exhausted := hset
      exact (finish_rescue (by rw [hleft]; exact Rescue.noConfusion)).trans hleft
    · have hwaits : Waits .linkRescue l (leaveQueue (raise .linkRescue l (s.modLink l fun k => { k with rescue := .exhausted }))) :=
        (waits_raise .linkRescue l (s.modLink l fun k => { k with rescue := .exhausted })).of_same rfl
      exact notified_finish hwaits s

end ends

section fresh
variable {s : State} {l : Nat} {q : Snapshot} (hs : s.shaped) (hl : 1 ≤ l) (hl' : l ≤ 48) (hband : q.one.band = (s.link l).cfg.band)
  (hb : 1 ≤ q.one.band) (hb' : q.one.band ≤ 4)

/-- The steps that the trial of a pick rejects. -/
abbrev Snapshot.rejected (q : Snapshot) (l : Nat) : List Nat := (q.one.spares.takeWhile (Spare.fails q.one q.linkHw l)).map Spare.step

/-- The spare that the trial of a pick chooses. -/
abbrev Snapshot.chosen (q : Snapshot) (l : Nat) : Option Spare := q.one.spares.find? fun x => !x.fails q.one q.linkHw l

/-- The band's spares past the trial. -/
abbrev State.kept (s : State) (q : Snapshot) (l : Nat) : List Spare :=
  (s.band q.one.band).spares.filter fun x => !(q.rejected l).contains x.step

theorem keeps_dropSpares (b : Nat) (gone : List Nat) (s : State) : KeepsBut [.bands, .sweepFlags] s (dropSpares b gone s) :=
  keeps_modBand s b _

include hs hb hb' in
/-- The band at the end of a pick, where no more than the trial's spares and the link's rescue status have changed. -/
theorem kept_end {u : State} (h : KeepsBut [.pe, .rescues, .notices] (dropSpares q.one.band (q.rejected l) s) u) :
    ((finish s (leaveQueue u)).band q.one.band).core = ({ s.band q.one.band with spares := s.kept q l } : Band).core ∧
      BandAlone q.one.band s (finish s (leaveQueue u)) ∧ KeepsBut (.bands :: tailParts) s (finish s (leaveQueue u)) := by
  obtain ⟨hbands, -⟩ := hs
  have hend (n : Nat) : ((finish s (leaveQueue u)).band n).core = ((dropSpares q.one.band (q.rejected l) s).band n).core :=
    (bandCore_of_same (keeps_pickEnd s u .bands (by decide)) n).trans (bandCore_of_same (h .bands (by decide)) n)
  refine ⟨(hend _).trans (dropSpares_band hb (hb'.trans_eq hbands.symm) _), fun n hn => (hend n).trans ?_, ?_⟩
  · exact congrArg Band.core (band_modBand_other hn _)
  · exact (((keeps_dropSpares _ _ s).mono (by decide)).trans (h.mono (by decide))).trans ((keeps_pickEnd s u).mono (by decide))

/-- R68: the pick's link has changed, and the trial alone counts. -/
theorem pick_gone (hg : (s.link l).state ≠ .fading ∨ (s.link l).rescue ≠ .picking) :
    pickDone l q s = dropSpares q.one.band (q.rejected l) s := by
  rw [pickDone_eq, if_pos (pickChanged_iff.2 hg)]

section stays
variable (hg : ¬ ((s.link l).state ≠ .fading ∨ (s.link l).rescue ≠ .picking))
include hg

theorem pick_stays : pickDone l q s =
    match q.chosen l with
    | none => raise .linkRescue l ((setRescueResult l (pickResult q q.linkHw l (s.band q.one.band).spares .exhausted none q.one.spares.getLast?)
        (dropSpares q.one.band (q.rejected l) s)).modLink l fun k => { k with rescue := .exhausted })
    | some x =>
      if (s.band q.one.band).frozen then
        (setRescueResult l (pickResult q q.linkHw l (s.band q.one.band).spares .deferred none (some x))
          (dropSpares q.one.band (q.rejected l) s)).modLink l fun k => { k with rescue := .wanted }
      else raise .linkRescue l ((startRetune l x.step s.nextEffective .rescue
        (setRescueResult l (pickResult q q.linkHw l (s.band q.one.band).spares .chosen (some x.step) (some x))
          (dropSpares q.one.band (q.rejected l) s))).modBand q.one.band fun k =>
            { k with spares := k.spares.filter fun y => decide (y.step ≠ x.step) }) := by
  rw [pickDone_eq, if_neg fun h => hg (pickChanged_iff.1 h)]

include hs hl hl' hb hb' in
/-- R68: no spare passes. -/
theorem pick_exhausts (hc : q.chosen l = none) :
    let t := finish s (leaveQueue (pickDone l q s))
    (t.band q.one.band).spares = s.kept q l ∧ (t.link l).rescue = .exhausted ∧
      t.rescueResult l = some (pickResult q q.linkHw l (s.band q.one.band).spares .exhausted none q.one.spares.getLast?) ∧
      Notified .linkRescue l t ∧ KeepsBut (.bands :: tailParts) s t := by
  have hresults : l ≤ s.pe.rescue.length := by
    obtain ⟨-, -, -, -, -, -, -, -, -, -, -, -, -, -, -, hlen, -⟩ := hs
    exact hl'.trans_eq hlen.symm
  have hlinks : l ≤ s.links.length := by
    obtain ⟨-, hlen, -⟩ := hs
    exact hl'.trans_eq hlen.symm
  rw [pick_stays hg, hc]
  dsimp only
  let r := pickResult q q.linkHw l (s.band q.one.band).spares .exhausted none q.one.spares.getLast?
  let s1 := dropSpares q.one.band (q.rejected l) s
  let u := raise .linkRescue l ((setRescueResult l r s1).modLink l fun k => { k with rescue := .exhausted })
  have hu : KeepsBut [.pe, .rescues, .notices] s1 u :=
    (((keeps_modPe s1 _).mono (by decide)).trans ((keeps_setRescue l .exhausted _).mono (by decide))).trans
      ((keeps_raise _ _ _).mono (by decide))
  obtain ⟨hcore, -, hframe⟩ := kept_end hs hb hb' hu
  have hrescue : ((leaveQueue u).link l).rescue = .exhausted := setRescue_self (s := setRescueResult l r s1) hl hlinks .exhausted
  have hwaits : Waits .linkRescue l (leaveQueue u) :=
    (waits_raise .linkRescue l ((setRescueResult l r s1).modLink l fun k => { k with rescue := .exhausted })).of_same rfl
  exact ⟨(congrArg Band.spares hcore :), (finish_rescue (by rw [hrescue]; exact Rescue.noConfusion)).trans hrescue,
    (pickEnd_result s u).trans (setRescueResult_self (s := s1) hl hresults r), notified_finish hwaits s, hframe⟩

include hs hl hl' hb hb' hband in
/-- R68: a frozen band defers its rescue. -/
theorem pick_defers {x : Spare} (hc : q.chosen l = some x) (hf : (s.band q.one.band).frozen = true) :
    let t := finish s (leaveQueue (pickDone l q s))
    (t.band q.one.band).spares = s.kept q l ∧ (t.link l).rescue = .wanted ∧
      t.rescueResult l = some (pickResult q q.linkHw l (s.band q.one.band).spares .deferred none (some x)) ∧
      KeepsBut (.bands :: tailParts) s t := by
  have hresults : l ≤ s.pe.rescue.length := by
    obtain ⟨-, -, -, -, -, -, -, -, -, -, -, -, -, -, -, hlen, -⟩ := hs
    exact hl'.trans_eq hlen.symm
  have hlinks : l ≤ s.links.length := by
    obtain ⟨-, hlen, -⟩ := hs
    exact hl'.trans_eq hlen.symm
  have hbands : q.one.band ≤ s.bands.length := by
    obtain ⟨hlen, -⟩ := hs
    exact hb'.trans_eq hlen.symm
  rw [pick_stays hg, hc]
  dsimp only
  rw [if_pos hf]
  let r := pickResult q q.linkHw l (s.band q.one.band).spares .deferred none (some x)
  let s1 := dropSpares q.one.band (q.rejected l) s
  let u := (setRescueResult l r s1).modLink l fun k => { k with rescue := .wanted }
  have hu : KeepsBut [.pe, .rescues, .notices] s1 u :=
    ((keeps_modPe s1 _).mono (by decide)).trans ((keeps_setRescue l .wanted _).mono (by decide))
  obtain ⟨hcore, -, hframe⟩ := kept_end hs hb hb' hu
  have hrescue : ((leaveQueue u).link l).rescue = .wanted := setRescue_self (s := setRescueResult l r s1) hl hlinks .wanted
  have hfrozen : ((leaveQueue u).band ((leaveQueue u).link l).cfg.band).frozen = true := by
    have hcfg : ((leaveQueue u).link l).cfg = (s.link l).cfg :=
      (congrArg Link.cfg (linkCore_of_same (hu .links (by decide)) l) :)
    rw [hcfg, ← hband]
    exact (congrArg Band.frozen (dropSpares_band hb hbands (q.rejected l)) :).trans hf
  exact ⟨(congrArg Band.spares hcore :), (finish_frozen hfrozen).trans hrescue,
    (pickEnd_result s u).trans (setRescueResult_self (s := s1) hl hresults r), hframe⟩

include hs hl hl' hb hb' hband in
/-- R68: the first spare that passes is taken (R100, R120). -/
theorem pick_chooses {x : Spare} (htallies : TalliesBelow s.nextOrderId s) (hu : 1 ≤ (s.link l).cfg.unit) (hu' : (s.link l).cfg.unit ≤ 24)
    (hc : q.chosen l = some x) (hf : (s.band q.one.band).frozen = false) {t : State} (ht : t = finish s (leaveQueue (pickDone l q s))) :
    let k := s.link l
    let b := q.one.band
    let band := s.band b
    let e := framePlus s.now s.ftb.lead
    (t.link l).origin = some .rescue ∧ (t.link l).assigned = k.assigned ∧
      (((t.link l).state = .retuning ∧ (t.link l).pending = some x.step ∧ (t.link l).effectiveFrame = some e ∧
          (t.link l).deadline = some (framePlus e k.cfg.confirmWindow) ∧ CarrierChanges b 1 s t ∧
          Ordered k.cfg.unit (.tune k.cfg.channel (band.p.baseKhz + 25 * x.step) e) (.rcRetune l) s t) ∨
        (s.unitFull k.cfg.unit ∧ (t.link l).state = .reverting ∧ (t.link l).pending = none ∧ CarrierChanges b 2 s t)) ∧
      (t.band b).spares = (s.kept q l).filter (fun y => decide (y.step + k.cfg.hw + band.p.gapCc < x.step) ||
        decide (x.step + k.cfg.hw + band.p.gapCc < y.step)) ∧
      t.rescueResult l = some (pickResult q q.linkHw l (s.band q.one.band).spares .chosen (some x.step) (some x)) ∧
      Notified .linkState l t ∧ Notified .linkRescue l t ∧ LinkAlone l s t := by
  intro k b band e
  obtain ⟨hbandsLen, hlinksLen, hunits, -, -, -, -, -, -, -, -, -, -, -, -, hresultsLen, -⟩ := hs
  have hresults : l ≤ s.pe.rescue.length := hl'.trans_eq hresultsLen.symm
  have hlinks : l ≤ s.links.length := hl'.trans_eq hlinksLen.symm
  have hbands : b ≤ s.bands.length := hb'.trans_eq hbandsLen.symm
  let r := pickResult q q.linkHw l band.spares .chosen (some x.step) (some x)
  let s1 := dropSpares b (q.rejected l) s
  let s2 := setRescueResult l r s1
  let s3 := startRetune l x.step e .rescue s2
  let s4 := s3.modBand b fun k => { k with spares := k.spares.filter fun y => decide (y.step ≠ x.step) }
  let u := raise .linkRescue l s4
  have hdone : pickDone l q s = u := by
    rw [pick_stays hg, hc]
    exact if_neg (by rw [hf]; exact Bool.false_ne_true)
  rw [hdone] at ht
  have hlens : b ≤ s2.bands.length := hbands.trans_eq (modSlot_length ..).symm
  have hfading : (s2.link l).state ≠ .retuning := by
    rw [show (s2.link l).state = .fading from not_not.1 fun h => hg (.inl h)]
    exact LinkState.noConfusion
  have hp : (s2.band b).p = band.p := slot_modSlot_field Band.p Band.reset _ s.bands b b fun _ => rfl
  have hkept : (s2.band b).spares = s.kept q l := congrArg Band.spares (dropSpares_band hb hbands (q.rejected l))
  have hcfg : (s2.link l).cfg.band = b := hband.symm
  obtain ⟨⟨k', hlink, hassigned, horigin, hcases⟩, hstate, hspares⟩ := startRetune_does (s := s2) hl hlinks htallies hfading
    (by rw [hcfg]; exact hb) (by rw [hcfg]; exact hlens) hunits hu hu' x.step e .rescue
  rw [hcfg, hp] at hcases
  rw [hcfg, hp, hkept] at hspares
  have hrest : KeepsBut [.bands, .sweepFlags, .notices] s3 u :=
    ((keeps_modBand s3 b _).mono (by decide)).trans ((keeps_raise _ _ _).mono (by decide))
  have hleave : KeepsBut [.pe] u (leaveQueue u) := keeps_leaveQueue u
  have hmoved : LinkBecomes l k' s (finish s (leaveQueue u)) :=
    (((⟨hlink.self, hlink.alone, hlink.length⟩ : LinkBecomes l k' s s3).keeps hrest).keeps hleave).finish s
  have hcarrier {n : Nat} (h : CarrierChanges b n s2 s3) : CarrierChanges b n s (finish s (leaveQueue u)) := by
    have hall := ((carrierChanges_spares b s fun y => !(q.rejected l).contains y.step).trans
      (⟨h.1, h.2⟩ : CarrierChanges b n s1 s3)).trans (carrierChanges_spares b s3 fun y => decide (y.step ≠ x.step))
    rw [Nat.zero_add, Nat.add_zero] at hall
    exact (hall.same (show Part.bands.same s4 (leaveQueue u) from rfl)).finish s
  have hissues : Issues (fun _ => True) s3 (finish s (leaveQueue u)) :=
    ((Issues.keeps hrest).trans (.keeps hleave)).trans ((issues_finish s _).mono fun _ _ => trivial)
  have hleft : ((finish s (leaveQueue u)).band b).spares = (s.kept q l).filter (fun y =>
      decide (y.step + k.cfg.hw + band.p.gapCc < x.step) || decide (x.step + k.cfg.hw + band.p.gapCc < y.step)) := by
    have hlen : b ≤ s3.bands.length := hlens.trans_eq (length_bands_of_acts (acts_startRetune (keyed := true) l x.step e .rescue s2)).symm
    have hself : (s4.band b).spares = (s3.band b).spares.filter fun y => decide (y.step ≠ x.step) :=
      congrArg Band.spares (band_modBand_self hb hlen _)
    refine (spares_of_same (keeps_pickEnd s u .bands (by decide)) b).trans (hself.trans ?_)
    rw [show (s3.band b).spares = _ from hspares, List.filter_filter]
    refine List.filter_congr fun y _ => ?_
    have hcfg : (s2.link l).cfg = k.cfg := rfl
    rw [hcfg]
    refine Bool.and_eq_right_iff_imp.2 fun h => ?_
    simp only [Bool.or_eq_true, decide_eq_true_eq] at h ⊢
    omega
  have hresult : (finish s (leaveQueue u)).rescueResult l = some r :=
    (pickEnd_result s u).trans (((WorksOn.keeps (keeps_startRetune l x.step e .rescue s2)).rescue l).trans
      (setRescueResult_self (s := s1) hl hresults r))
  have hwaits : Waits .linkState l (leaveQueue u) :=
    ((hstate.of_same rfl : Waits .linkState l s4).of_acts (wide := .narrow) (acts_raise _ _ _)).of_same rfl
  have hrescues : Waits .linkRescue l (leaveQueue u) := (waits_raise .linkRescue l s4).of_same rfl
  have hnotices := notified_finish hwaits s
  have hnotices' := notified_finish hrescues s
  rw [← ht] at hmoved hcarrier hissues hleft hresult hnotices hnotices'
  refine ⟨hmoved.origin.trans horigin, hmoved.assigned.trans hassigned, ?_, hleft, hresult, hnotices, hnotices', hmoved.alone⟩
  rcases hcases with ⟨hst, hpend, heff, hdl, hcar, hord⟩ | ⟨hfull, hst, hpend, hcar⟩
  · exact .inl ⟨hmoved.state.trans hst, hmoved.pending.trans hpend, hmoved.effectiveFrame.trans heff, hmoved.deadline.trans hdl,
      hcarrier hcar, hord.ordered.issues displaceable_tune hissues⟩
  · exact .inr ⟨hfull, hmoved.state.trans hst, hmoved.pending.trans hpend, hcarrier hcar⟩

end stays
end fresh

/-- Settles O59: the sweep, and each of the pick's outcomes. -/
theorem sweepAndPickComplete : Obligations.SweepAndPickComplete := by
  refine ⟨fun s b q hs howed hb hb' hq hrun => sweepCompletes hs howed hb hb' hq hrun, ?_⟩
  intro s l attempt q hs howed hsound hl hl' hrun hband hb hb' hu hu' k b band stale gone check fails rejected chosen keeps result e
  have hlinks : l ≤ s.links.length := by
    obtain ⟨-, hlen, -⟩ := hs
    exact hl'.trans_eq hlen.symm
  have hstale : scanStale q s = true ↔ stale := scanStale_iff
  have hexec : exec .rescuePickComplete s = .next (finish s (rescueDone l attempt q s)) := by
    show execRescuePickComplete s = _
    simp only [execRescuePickComplete, event, settleOwed_of_nil s howed, completePick, hrun]
  have hframe : KeepsBut (.links :: .bands :: .plan :: tailParts) s (finish s (rescueDone l attempt q s)) :=
    ((keeps_rescueDone l attempt q s).mono (by decide)).trans ((keeps_finishTail s _).mono (by decide))
  refine ⟨_, hexec, ?_⟩
  by_cases hst : stale
  · exact ⟨fun _ => pick_stale hl hlinks (hstale.2 hst), fun h => absurd hst h, fun h => absurd hst h, fun _ h => absurd hst h,
      fun _ h => absurd hst h, hframe⟩
  have hdone : rescueDone l attempt q s = leaveQueue (pickDone l q s) := if_neg fun h => hst (hstale.1 h)
  rw [hdone] at hframe ⊢
  refine ⟨fun h => absurd h hst, fun _ hg => ?_, fun _ hg hc => ?_, fun x _ hg hc hf => ?_, fun x _ hg hc hf => ?_, hframe⟩
  · rw [pick_gone hg]
    obtain ⟨hcore, halone, hkeeps⟩ := kept_end hs hb hb' (.refl _ (dropSpares b (q.rejected l) s))
    exact ⟨hcore, halone, pickEnd_results s _, hkeeps⟩
  · exact pick_exhausts hs hl hl' hb hb' hg hc
  · exact pick_defers hs hl hl' hband hb hb' hg hc hf
  · exact pick_chooses hs hl hl' hband hb hb' hg (talliesBelow_of_sound hsound) hu hu' hc hf rfl

end Sys2Proof.Machine

/-! Operations that issue for links and bring none into service: the orders of new ids stay, and no unit's list outgrows what is issued
(R126, R127, R148). -/

namespace Sys2Proof.Machine

-- One theorem at a time: all at once, their threads together outgrow the memory limit of the check.
set_option Elab.async false

/-- An operation that issues at most `c` orders, none of them a link's TALLY order: where every link's TALLY order has an id below `n`,
the orders from `n` on stay, and no waiting list grows by more than `c`. -/
structure Runs (n c : Nat) (s t : State) : Prop where
  ids : s.nextOrderId ≤ t.nextOrderId
  spares : TalliesBelow n s → SparesFrom n s t
  tallies : TalliesBelow n s → TalliesBelow n t
  waiting : ∀ a, (t.unit a).waiting.length ≤ (s.unit a).waiting.length + c
  units : t.units.length = s.units.length

/-- A link's TALLY order is among its tally fields. -/
theorem TalliesBelow.of_same {n : Nat} {s t : State} (h : TalliesBelow n s) (hsame : Part.tallies.same s t) : TalliesBelow n t := by
  intro k hk
  have hmem : k.tallyFields ∈ s.links.map Link.tallyFields :=
    (show t.links.map Link.tallyFields = s.links.map Link.tallyFields from hsame) ▸ List.mem_map_of_mem hk
  obtain ⟨k', hk', heq⟩ := List.mem_map.1 hmem
  have horder : k'.tallyOrder = k.tallyOrder := congrArg (fun x => x.2.2.1) heq
  rw [← horder]
  exact h k' hk'

namespace Runs
variable {n c d : Nat} {s t u : State}

theorem of_units (h : t.units = s.units) (hid : t.nextOrderId = s.nextOrderId) (htal : TalliesBelow n s → TalliesBelow n t) :
    Runs n 0 s t :=
  ⟨hid.ge, fun _ => .of_issues (ok := fun _ => True) (.units h) n, htal, fun a => by rw [unit_of_units h]; exact le_rfl, by rw [h]⟩

theorem refl (n : Nat) (s : State) : Runs n 0 s s := of_units rfl rfl id

theorem trans (h : Runs n c s t) (k : Runs n d t u) : Runs n (c + d) s u where
  ids := h.ids.trans k.ids
  spares hs := (h.spares hs).trans (k.spares (h.tallies hs))
  tallies hs := k.tallies (h.tallies hs)
  waiting a := by have := h.waiting a; have := k.waiting a; omega
  units := k.units.trans h.units

theorem mono (h : Runs n c s t) (hc : c ≤ d) : Runs n d s t :=
  ⟨h.ids, h.spares, h.tallies, fun a => (h.waiting a).trans (Nat.add_le_add_left hc _), h.units⟩

/-- An operation whose frame leaves units and tally fields. -/
theorem keeps {ps : List Part} (h : KeepsBut ps s t) (hu : .units ∉ ps := by decide) (hi : .orderIds ∉ ps := by decide)
    (ht : .tallies ∉ ps := by decide) : Runs n 0 s t :=
  of_units (h .units hu) (h .orderIds hi) fun hs => hs.of_same (h .tallies ht)

theorem modLink (l : Nat) (f : Link → Link) (hf : ∀ k, (f k).tallyOrder = k.tallyOrder := by exact fun _ => rfl) :
    Runs n 0 s (s.modLink l f) := of_units rfl rfl fun hs => hs.modLink l fun k => .inl (hf k)

theorem issue (a : Nat) (body : OrderBody) (i : Issuer) (s : State) : Runs n 1 s (issue a body i s).state where
  ids := (Nat.le_succ _).trans_eq (issue_nextOrderId a body i s).symm
  spares _ := .of_issues (ok := fun _ => True) (.issue s a body i trivial) n
  tallies hs := hs.issue a body i
  waiting b := (length_issue a body i s b).2
  units := issue_length_units a body i s

/-- An issue that overflows leaves every unit. -/
theorem overflowing {a : Nat} {body : OrderBody} {i : Issuer} (h : (Machine.issue a body i s).overflow = true) :
    Runs n 0 s (Machine.issue a body i s).state := by
  have hissue := issue (n := n) a body i s
  refine ⟨hissue.ids, hissue.spares, hissue.tallies, fun b => ?_, hissue.units⟩
  have hno {p : Prop} (ho : (Machine.issue a body i s).overflow = false) : p := absurd (ho.symm.trans h) Bool.false_ne_true
  obtain ⟨-, ho, -⟩ | ⟨-, -, ho, -⟩ | ⟨-, -, -, hr⟩ | ⟨-, -, ho, -⟩ := issue_cases a body i s
  · exact hno ho
  · exact hno ho
  · rw [hr]; exact le_rfl
  · exact hno ho

end Runs

theorem withdraw_waiting (s : State) (a b : Nat) (id : Nat) :
    ((withdraw a id s).unit b).waiting.length ≤ (s.unit b).waiting.length := by
  obtain he | he := unit_modUnit_cases s a b fun u => { u with waiting := u.waiting.filter fun o => decide (o.id ≠ id) }
  · exact (congrArg (fun u : UnitRec => u.waiting.length) he :).le
  · exact ((congrArg (fun u : UnitRec => u.waiting.length) he :).trans_le (List.length_filter_le _ _))

/-- A change to a state out of service withdraws at most the link's TALLY order (R148). -/
theorem runs_changeState {n l : Nat} {new : LinkState} {c : Option LostCause} {s : State} (hl : 1 ≤ l) (hl' : l ≤ s.links.length)
    (hnew : new.inService = false) : Runs n 0 s (changeState l new c s) := by
  have hsees (old : LinkState) (u : State) (hst : (u.link l).state.inService = false) : Runs n 0 u (tallySees l old u) := by
    unfold tallySees
    dsimp only
    split
    · exact .refl n u
    · rw [hst]
      split
      · split
        · rename_i x hx
          split
          · refine ⟨le_rfl, fun hs => (SparesFrom.withdraw u _ (hs.link hx)).trans (.keeps (keeps_modLink _ _ _) n),
              fun hs => (hs.of_links rfl : TalliesBelow n (withdraw (u.link l).cfg.unit x.id u)).modLink l fun _ => .inr rfl,
              fun a => withdraw_waiting u _ a _, modSlot_length _ _ _⟩
          · exact .refl n u
        · exact .refl n u
      · simp only [Bool.and_false, Bool.false_eq_true, if_false]
        exact .refl n u
  unfold changeState
  dsimp only
  split
  · exact .refl n s
  · have hmod : Runs n 0 s (raise .linkState l (s.modLink l (Link.enter new c))) :=
      (Runs.modLink l (Link.enter new c) fun k => by unfold Link.enter; dsimp only; split <;> rfl).trans (.keeps (keeps_raise _ _ _))
    refine hmod.trans (hsees _ _ ?_)
    have hself : (raise .linkState l (s.modLink l (Link.enter new c))).link l = Link.enter new c (s.link l) :=
      link_modLink_self hl hl' (Link.enter new c)
    rw [hself, ← hnew]
    unfold Link.enter
    dsimp only
    split <;> rfl

section links
variable {n l : Nat} {s : State} (hl : 1 ≤ l) (hl' : l ≤ s.links.length)

theorem runs_retuneHolds (l step : Nat) (s : State) : Runs n 0 s (retuneHolds l step s) :=
  (Runs.modLink l _).trans (.keeps (keeps_hold _ _ _ _))

include hl hl' in
theorem runs_retuned (step : Nat) (e : FrameNo) (o : Origin) {c : Nat}
    (htune : Runs n c (retuneHolds l step s) (retuneTunes l step e s).state) : Runs n c s (retuned l step e o s) := by
  have hlen : l ≤ (retuneTunes l step e s).state.links.length :=
    hl'.trans_eq (linkBecomes_retuneTunes step e hl hl').length.symm
  have h := (((runs_retuneHolds (n := n) l step s).trans htune).trans (runs_changeState hl hlen (new := .retuning) (c := none) rfl)).trans
    (Runs.modLink l (Link.moving e o (retuneTunes l step e s).id))
  exact h.mono (by omega)

include hl hl' in
theorem runs_startRevert : Runs n 1 s (startRevert l s) := by
  have hback := linkBecomes_sentBack hl hl'
  have hrel : Runs n 0 s (revertReleases l s) := (Runs.modLink l _).trans (.keeps (keeps_release _ _))
  have h := ((hrel.trans (Runs.issue _ _ _ (revertReleases l s))).trans (Runs.modLink l (Link.sentBack s.nextEffective))).trans
    (runs_changeState hl (hl'.trans_eq hback.length.symm) (new := .reverting) (c := none) rfl)
  rw [startRevert_eq]
  exact h

include hl hl' in
/-- A retune makes no list longer by more than one order, even where it reverts at once: its own TUNE then overflowed. -/
theorem runs_startRetune (step : Nat) (e : FrameNo) (o : Origin) (hne : (s.link l).state ≠ .retuning) :
    Runs n 1 s (startRetune l step e o s) := by
  rw [startRetune_eq]
  split
  next hover =>
    have hlen : l ≤ (retuned l step e o s).links.length := hl'.trans_eq (retuned_link step e o hl hl' hne).1.length.symm
    exact (runs_retuned hl hl' step e o (.overflowing hover)).trans (runs_startRevert hl hlen) |>.mono (by omega)
  next => exact runs_retuned hl hl' step e o (.issue _ _ _ _)

include hl hl' in
/-- The state in which an acquisition's TUNE is issued. -/
theorem runs_acquires (step : Nat) (e : FrameNo) : Runs n 0 s
    (acquires l e (hold (s.link l).cfg.band step (s.link l).cfg.hw (s.modLink l fun k => { k with assigned := some step }))) := by
  let v := hold (s.link l).cfg.band step (s.link l).cfg.hw (s.modLink l fun k => { k with assigned := some step })
  have hv : Runs n 0 s v := (Runs.modLink l _).trans (.keeps (keeps_hold _ _ _ _))
  have hlink : LinkBecomes l { s.link l with assigned := some step } s v :=
    ((LinkBecomes.refl l s).modLink (f := fun k => { k with assigned := some step }) hl hl').keeps (keeps_hold _ _ _ _)
  exact (hv.trans (runs_changeState hl (hl'.trans_eq hlink.length.symm) (new := .acquiring) (c := none) rfl)).trans
    (Runs.modLink l (Link.acquiring e))

include hl hl' in
theorem runs_takeStep (step : Nat) (e : FrameNo) : Runs n 1 s (takeStep l step e s) :=
  (runs_acquires hl hl' step e).trans (Runs.issue _ _ _ _)

include hl hl' in
theorem runs_startVacate (e : FrameNo) : Runs n 1 s (startVacate l e s) := by
  have hlink : LinkBecomes l (s.link l) s (issueMute l e (.rcVacate l) s).state := (LinkBecomes.refl l s).keeps (keeps_issueMute _ _ _ _)
  have h := ((Runs.issue (n := n) _ _ _ s).trans (runs_changeState hl (hl'.trans_eq hlink.length.symm) (new := .parked) (c := none) rfl)).trans
    (Runs.modLink l (fun k => if (s.link l).state = .acquiring then { k with effectiveFrame := none, deadline := none } else k)
      fun k => by split <;> rfl)
  unfold startVacate
  dsimp only
  split
  · exact h.trans (.keeps (keeps_raise _ _ _))
  · exact h

theorem runs_moveParked (l step : Nat) (s : State) : Runs n 0 s (moveParked l step s) :=
  ((Runs.keeps (keeps_release _ _)).trans (.modLink l _)).trans (.keeps (keeps_hold _ _ _ _))

end links

end Sys2Proof.Machine

/-! What carriers held and released leave of a band's record (R21, R23, R24, R31, R33): pruned and masked by every carrier that is held
meanwhile, and counted once for each held or released. -/

namespace Sys2Proof.Machine

-- One theorem at a time: all at once, their threads together outgrow the memory limit of the check.
set_option Elab.async false

/-! ## Counting and masking twice -/

theorem countP_disjoint {α : Type} (p q : α → Bool) (xs : List α) :
    xs.countP p + xs.countP (fun x => !p x && q x) = xs.countP fun x => p x || q x := by
  induction xs with
  | nil => rfl
  | cons x xs ih =>
    simp only [List.countP_cons]
    cases p x <;> cases q x <;> simp <;> omega

theorem zipIdx_map_zipIdx {α β : Type} (g : α × Nat → β) (xs : List α) :
    (xs.zipIdx.map g).zipIdx = xs.zipIdx.map fun x => (g x, x.2) := by
  refine List.ext_getElem (by simp) fun i h h' => ?_
  simp

/-- A bin under a mask. -/
def Bin.under (masked : Nat → Bool) (x : Bin × Nat) : Bin := if masked x.2 then { level := none, hot := false } else x.1

/-- A hot bin under a mask. -/
def Bin.doused (masked : Nat → Bool) (x : Bin × Nat) : Bool := x.1.hot && masked x.2

theorem under_under (m m' : Nat → Bool) (xs : List Bin) :
    (xs.zipIdx.map (Bin.under m)).zipIdx.map (Bin.under m') = xs.zipIdx.map (Bin.under fun i => m i || m' i) := by
  rw [zipIdx_map_zipIdx, List.map_map]
  refine List.map_congr_left fun x _ => ?_
  cases hm : m x.2 <;> cases hm' : m' x.2 <;> simp [Bin.under, hm, hm']

theorem doused_under (m m' : Nat → Bool) (xs : List Bin) :
    xs.zipIdx.countP (Bin.doused m) + (xs.zipIdx.map (Bin.under m)).zipIdx.countP (Bin.doused m') =
      xs.zipIdx.countP (Bin.doused fun i => m i || m' i) := by
  have hleft : (xs.zipIdx.map (Bin.under m)).zipIdx.countP (Bin.doused m') =
      xs.zipIdx.countP fun x => !Bin.doused m x && Bin.doused (fun i => m i || m' i) x := by
    rw [zipIdx_map_zipIdx, List.countP_map]
    refine List.countP_congr fun x _ => ?_
    cases hm : m x.2 <;> cases hh : x.1.hot <;> simp [Bin.doused, Bin.under, hm, hh]
  rw [hleft, countP_disjoint]
  refine List.countP_congr fun x _ => ?_
  cases hm : m x.2 <;> cases hh : x.1.hot <;> simp [Bin.doused, hm, hh]

/-! ## The record of a band past some carriers -/

/-- A spare within the reach of one of the carriers held, step and half-width each. -/
def Band.barred (k : Band) (held : List (Nat × Nat)) (f : Spare) : Bool := held.any fun c => within c.1 c.2 k.p.gapCc f.step

/-- A bin that one of the carriers held masks. -/
def Band.maskedBy (k : Band) (held : List (Nat × Nat)) (i : Nat) : Bool := held.any fun c => spanMeets c.1 c.2 (k.p.binSpan i)

/-- The band's record `k` has become `y` by holding the carriers `held`, step and half-width each, and releasing others. -/
structure BandHolds (held : List (Nat × Nat)) (k y : Band) : Prop where
  spares : y.spares = k.spares.filter fun f => !k.barred held f
  bins : y.bins = k.bins.zipIdx.map (Bin.under (k.maskedBy held))
  spectrumGen : y.spectrumGen = k.spectrumGen + BitVec.ofNat 32 (k.bins.zipIdx.countP (Bin.doused (k.maskedBy held)))
  p : y.p = k.p
  exclusions : y.exclusions = k.exclusions
  frozen : y.frozen = k.frozen
  defined : y.defined = k.defined
  fresh : held ≠ [] → y.sparesFresh = false
  stale : k.sparesFresh = false → y.sparesFresh = false

namespace BandHolds
variable {held held' : List (Nat × Nat)} {k y z : Band}

/-- A change of the band's carriers that holds none. -/
theorem of_core (h : ({ y with carrierGen := k.carrierGen, sparesFresh := k.sparesFresh } : Band).core = k.core)
    (hs : k.sparesFresh = false → y.sparesFresh = false) : BandHolds [] k y where
  spares := by
    rw [show y.spares = k.spares from (congrArg Band.spares h :)]
    exact (List.filter_eq_self.2 fun _ _ => rfl).symm
  bins := by
    rw [show y.bins = k.bins from (congrArg Band.bins h :)]
    refine List.ext_getElem (by simp) fun i h h' => ?_
    simp [Bin.under, Band.maskedBy]
  spectrumGen := by
    have hzero : k.bins.zipIdx.countP (Bin.doused (k.maskedBy [])) = 0 := by
      rw [List.countP_eq_zero]
      intro x _
      simp [Bin.doused, Band.maskedBy]
    rw [hzero]
    exact ((congrArg Band.spectrumGen h :) : y.spectrumGen = k.spectrumGen).trans (BitVec.add_zero _).symm
  p := (congrArg Band.p h :)
  exclusions := (congrArg Band.exclusions h :)
  frozen := (congrArg Band.frozen h :)
  defined := (congrArg Band.defined h :)
  fresh h := absurd rfl h
  stale := hs

theorem refl (k : Band) : BandHolds [] k k := of_core rfl id

theorem trans (h : BandHolds held k y) (h' : BandHolds held' y z) : BandHolds (held ++ held') k z where
  spares := by
    rw [h'.spares, h.spares, List.filter_filter]
    refine List.filter_congr fun f _ => ?_
    simp only [Band.barred, h.p, List.any_append, Bool.not_or]
    exact Bool.and_comm _ _
  bins := by
    have hmask : y.maskedBy held' = k.maskedBy held' := by unfold Band.maskedBy; rw [h.p]
    have hall : k.maskedBy (held ++ held') = fun i => k.maskedBy held i || k.maskedBy held' i :=
      funext fun i => List.any_append
    rw [h'.bins, h.bins, hmask, under_under, hall]
  spectrumGen := by
    have hmask : y.maskedBy held' = k.maskedBy held' := by unfold Band.maskedBy; rw [h.p]
    have hall : k.maskedBy (held ++ held') = fun i => k.maskedBy held i || k.maskedBy held' i :=
      funext fun i => List.any_append
    rw [h'.spectrumGen, h.spectrumGen, h.bins, hmask, hall, BitVec.add_assoc, ← BitVec.ofNat_add, doused_under]
  p := h'.p.trans h.p
  exclusions := h'.exclusions.trans h.exclusions
  frozen := h'.frozen.trans h.frozen
  defined := h'.defined.trans h.defined
  fresh hne := by
    by_cases hnil : held' = []
    · exact h'.stale (h.fresh fun hh => hne (by rw [hh, hnil]; rfl))
    · exact h'.fresh hnil
  stale hs := h'.stale (h.stale hs)

theorem of_same (h : y.core = k.core) : BandHolds [] k y :=
  of_core (congrArg (fun c : Band => { c with carrierGen := k.carrierGen, sparesFresh := k.sparesFresh }) h)
    fun hs => ((congrArg Band.sparesFresh h :) : y.sparesFresh = k.sparesFresh).trans hs

theorem append_same (h : BandHolds held k y) (hz : z.core = y.core) : BandHolds held k z := by
  have := h.trans (of_same hz)
  rwa [List.append_nil] at this

/-- A release, or a change that no carrier makes (R21, R24). -/
theorem carried (k : Band) : BandHolds [] k k.carried := of_core rfl fun _ => rfl

/-- One carrier held (R23, R31, R33). -/
theorem holds (f hw : Nat) (k : Band) : BandHolds [(f, hw)] k ((k.carried.prune f hw).mask f hw) := by
  obtain ⟨hspares, -, hp, hbins⟩ := mask_fields f hw (k.carried.prune f hw)
  have hmask : k.maskedBy [(f, hw)] = fun i => spanMeets f hw (k.p.binSpan i) := funext fun i => by
    simp [Band.maskedBy]
  have hchange : ∃ n bins, (k.carried.prune f hw).mask f hw = spectrumChanges n { k.carried.prune f hw with bins := bins } := ⟨_, _, rfl⟩
  have hrest (n : Nat) (y : Band) : (spectrumChanges n y).exclusions = y.exclusions ∧ (spectrumChanges n y).frozen = y.frozen ∧
      (spectrumChanges n y).defined = y.defined ∧ (y.sparesFresh = false → (spectrumChanges n y).sparesFresh = false) := by
    unfold spectrumChanges
    split
    · exact ⟨rfl, rfl, rfl, id⟩
    · exact ⟨rfl, rfl, rfl, fun _ => rfl⟩
  have hgen : ((k.carried.prune f hw).mask f hw).spectrumGen = k.spectrumGen +
      BitVec.ofNat 32 (k.bins.zipIdx.countP fun (x, i) => x.hot && spanMeets f hw (k.p.binSpan i)) := (spectrumChanges_fields _ _).2.1
  obtain ⟨n, bins, heq⟩ := hchange
  obtain ⟨hexcl, hfrozen, hdefined, hfresh⟩ := hrest n { k.carried.prune f hw with bins := bins }
  rw [← heq] at hexcl hfrozen hdefined hfresh
  refine ⟨hspares.trans ?_, hbins.trans ?_, hgen.trans ?_, hp, hexcl, hfrozen, hdefined, fun _ => hfresh rfl, fun _ => hfresh rfl⟩
  · refine List.filter_congr fun x _ => ?_
    simp [Band.barred]
    rfl
  · rw [hmask]
    rfl
  · rw [hmask]
    rfl

end BandHolds

/-! ## The carriers of a state's bands -/

/-- Every band of the table has become what it is by holding carriers, `held` of each. -/
def BandsHold (held : Nat → List (Nat × Nat)) (s t : State) : Prop := ∀ b, 1 ≤ b → b ≤ 4 → BandHolds (held b) (s.band b) (t.band b)

/-- One carrier held in band `b`. -/
def heldIn (b f hw : Nat) (n : Nat) : List (Nat × Nat) := if n = b then [(f, hw)] else []

namespace BandsHold
variable {held held' : Nat → List (Nat × Nat)} {s t u : State}

theorem same (h : Part.bands.same s t) : BandsHold (fun _ => []) s t := fun b _ _ => .of_same (bandCore_of_same h b)

theorem keeps {ps : List Part} (h : BandsHold held s t) (hk : KeepsBut ps t u) (hp : .bands ∉ ps := by decide) : BandsHold held s u :=
  fun b hb hb' => (h b hb hb').append_same (bandCore_of_same (hk .bands hp) b)

theorem trans (h : BandsHold held s t) (k : BandsHold held' t u) : BandsHold (fun b => held b ++ held' b) s u :=
  fun b hb hb' => (h b hb hb').trans (k b hb hb')

theorem released (hs : s.bands.length = 4) (c : Nat) : BandsHold (fun _ => []) s (carrierChange c s) := fun b hb hb' => by
  by_cases hbc : b = c
  · subst hbc
    rw [carrierChange_band_self hb (hb'.trans_eq hs.symm)]
    exact .carried _
  · rw [carrierChange_band_other hbc]
    exact .refl _

theorem holds (hs : s.bands.length = 4) (c f hw : Nat) : BandsHold (heldIn c f hw) s (hold c f hw s) := fun b hb hb' => by
  by_cases hbc : b = c
  · subst hbc
    rw [hold_band hb (hb'.trans_eq hs.symm), heldIn, if_pos rfl]
    exact .holds f hw _
  · rw [hold, band_modBand_other hbc, carrierChange_band_other hbc, heldIn, if_neg hbc]
    exact .refl _

theorem congr (h : BandsHold held s t) (hh : ∀ b, held b = held' b) : BandsHold held' s t := fun b hb hb' => hh b ▸ h b hb hb'

end BandsHold

/-- Every band has counted some carrier changes. -/
def BandsCount (count : Nat → Nat) (s t : State) : Prop :=
  ∀ b, 1 ≤ b → b ≤ 4 → (t.band b).carrierGen = (s.band b).carrierGen + BitVec.ofNat 32 (count b)

/-- Carrier changes of one band. -/
def countIn (b m : Nat) (n : Nat) : Nat := if n = b then m else 0

namespace BandsCount
variable {count count' : Nat → Nat} {s t u : State}

theorem same (h : Part.bands.same s t) : BandsCount (fun _ => 0) s t := fun b _ _ =>
  ((congrArg Band.carrierGen (bandCore_of_same h b) :) : (t.band b).carrierGen = _).trans (BitVec.add_zero _).symm

theorem trans (h : BandsCount count s t) (k : BandsCount count' t u) : BandsCount (fun b => count b + count' b) s u :=
  fun b hb hb' => by rw [k b hb hb', h b hb hb', BitVec.ofNat_add, BitVec.add_assoc]

theorem keeps {ps : List Part} (h : BandsCount count s t) (hk : KeepsBut ps t u) (hp : .bands ∉ ps := by decide) : BandsCount count s u :=
  h.trans (same (hk .bands hp))

theorem released (hs : s.bands.length = 4) (c : Nat) : BandsCount (countIn c 1) s (carrierChange c s) := fun b hb hb' => by
  by_cases hbc : b = c
  · subst hbc
    rw [carrierChange_band_self hb (hb'.trans_eq hs.symm), countIn, if_pos rfl]
    rfl
  · rw [carrierChange_band_other hbc, countIn, if_neg hbc]
    exact (BitVec.add_zero _).symm

theorem holds (hs : s.bands.length = 4) (c f hw : Nat) : BandsCount (countIn c 1) s (hold c f hw s) := fun b hb hb' => by
  by_cases hbc : b = c
  · subst hbc
    rw [(hold_carrier hb (hb'.trans_eq hs.symm) f hw).1, countIn, if_pos rfl]
  · rw [hold, band_modBand_other hbc, carrierChange_band_other hbc, countIn, if_neg hbc]
    exact (BitVec.add_zero _).symm

theorem congr (h : BandsCount count s t) (hh : ∀ b, count b = count' b) : BandsCount count' s t := fun b hb hb' => hh b ▸ h b hb hb'

end BandsCount

end Sys2Proof.Machine

/-! One entry of a plan at its launch (R114, R115): what each sort of entry does to its link, its band and its unit. -/

namespace Sys2Proof.Machine

-- One theorem at a time: all at once, their threads together outgrow the memory limit of the check.
set_option Elab.async false

/-! ## What an entry comes to -/

/-- An order from id `n` on, issued in `s` and held in `t`. -/
def OrderedFrom (n a : Nat) (body : OrderBody) (i : Issuer) (s t : State) : Prop := ∃ m, n ≤ m ∧ OrderedAs m a body i s t

theorem OrderedFrom.ordered {n a : Nat} {body : OrderBody} {i : Issuer} {s t : State} (h : OrderedFrom n a body i s t) :
    Ordered a body i s t :=
  let ⟨_, _, ho⟩ := h
  ho.ordered

theorem OrderedFrom.spared {n a : Nat} {body : OrderBody} {i : Issuer} {s t u : State} (h : OrderedFrom n a body i s t)
    (hd : ∀ o : Order, o.body = body → o.displaceable = false) (k : SparesFrom n t u) : OrderedFrom n a body i s u :=
  let ⟨m, hm, ho⟩ := h
  ⟨m, hm, ho.spared hm hd k⟩

theorem OrderedFrom.of_now {n a : Nat} {body : OrderBody} {i : Issuer} {s s' t : State} (h : OrderedFrom n a body i s' t)
    (hn : s'.now = s.now) : OrderedFrom n a body i s t :=
  let ⟨m, hm, ho⟩ := h
  ⟨m, hm, ho.of_now hn⟩

/-- Where a waiting list has room, an order is issued and held. -/
theorem orderedFrom_issue {n a : Nat} {s : State} (ha : a ∈ unitAddresses) (hunits : s.units.length = 25) (hn : n ≤ s.nextOrderId)
    (hroom : (s.unit a).waiting.length < 32) (body : OrderBody) (i : Issuer) :
    (issue a body i s).overflow = false ∧ OrderedFrom n a body i s (issue a body i s).state := by
  have hover : (issue a body i s).overflow = false := by
    cases h : (issue a body i s).overflow with
    | false => rfl
    | true => exact absurd hroom (Nat.not_lt.2 (unitFull_of_overflow h).2)
  exact ⟨hover, _, hn, orderedAs_issue (place_of_address hunits ha) hover⟩

section outcomes
variable (room : Prop) (n : Nat) (e : FrameNo) (s : State) (l step : Nat) (k : Link) (t : State)

/-- The tune of a link of `s` to a step. -/
def State.tuneFor (s : State) (k : Link) (step : Nat) (e : FrameNo) : OrderBody :=
  .tune k.cfg.channel ((s.band k.cfg.band).p.baseKhz + 25 * step) e

/-- The entry moves its link, in service, to another step. -/
structure Retunes : Prop where
  assigned : (t.link l).assigned = k.assigned
  origin : (t.link l).origin = some .plan
  state : ((t.link l).state = .retuning ∧ (t.link l).pending = some step ∧ (t.link l).effectiveFrame = some e ∧
    (t.link l).deadline = some (framePlus e k.cfg.confirmWindow)) ∨ ((t.link l).state = .reverting ∧ (t.link l).pending = none)
  tuned : room → (t.link l).state = .retuning ∧ OrderedFrom n k.cfg.unit (s.tuneFor k step e) (.rcRetune l) s t

/-- The entry acquires its link on a step. -/
structure Acquired : Prop where
  state : (t.link l).state = .acquiring
  assigned : (t.link l).assigned = some step
  effectiveFrame : (t.link l).effectiveFrame = some e
  deadline : (t.link l).deadline = some (framePlus e k.cfg.acquireLimit)
  silenceCounter : (t.link l).silenceCounter = k.cfg.silenceLimit
  tuned : room → OrderedFrom n k.cfg.unit (s.tuneFor k step e) (.lsTune l) s t

/-- The entry parks its link, to vacate its step. -/
structure Vacates : Prop where
  state : (t.link l).state = .parked
  assigned : (t.link l).assigned = k.assigned
  frames : k.state = .acquiring → (t.link l).effectiveFrame = none ∧ (t.link l).deadline = none
  muted : room → OrderedFrom n k.cfg.unit (.mute k.cfg.channel e) (.rcVacate l) s t

/-- The link's record on another step. -/
def Link.onStep (step : Nat) (k : Link) : Link := { k with assigned := some step }

/-- What an entry with a target comes to, by its link's state (R114, R115). -/
def Lands (target : Option Nat) : Prop :=
  match target, k.state with
  | some step, .locked | some step, .fading => if k.assigned = some step then (t.link l).core = k else Retunes room n e s l step k t
  | some step, .parked => (t.link l).core = k.onStep step
  | some step, .idle => Acquired room n e s l step k t
  | none, .idle => (t.link l).core = k
  | none, .acquiring | none, .locked | none, .fading | none, .parked => Vacates room n e s l k t
  | _, _ => True

end outcomes

/-- The carrier that an entry holds, with the number of carrier changes. -/
def Link.takes (target : Option Nat) (k : Link) : Option (Nat × Nat) :=
  match target, k.state with
  | some step, .parked => if k.assigned = some step then none else some (step, 2)
  | some step, .locked | some step, .fading => if k.assigned = some step then none else some (step, 1)
  | some step, .idle => some (step, 1)
  | _, _ => none

/-- The outcome that an entry has at its launch. -/
def Link.lands (target : Option Nat) (k : Link) : Option EntryOutcome :=
  match target, k.state with
  | some _, .parked => some .moved
  | some step, .locked | some step, .fading => if k.assigned = some step then some .moved else none
  | some _, .idle => some .acquired
  | none, .idle => some .vacated
  | _, _ => none

section later
variable {room room' : Prop} {n l step : Nat} {e : FrameNo} {s s' t t' : State} {k : Link}

/-- What an entry came to stays through what follows, if it leaves the link. -/
structure Later (n l : Nat) (s s' t t' : State) : Prop where
  now : s.now = s'.now
  params : ∀ b, (s.band b).p = (s'.band b).p
  link : (t'.link l).core = (t.link l).core
  spares : SparesFrom n t t'

theorem Later.tune (h : Later n l s s' t t') : s.tuneFor k step e = s'.tuneFor k step e := by
  rw [State.tuneFor, h.params]
  rfl

theorem Retunes.later (hroom : room' → room) (h : Retunes room n e s l step k t) (g : Later n l s s' t t') : Retunes room' n e s' l step k t' := by
  have hst : (t'.link l).state = (t.link l).state := (congrArg Link.state g.link :)
  refine ⟨((congrArg Link.assigned g.link :) : (t'.link l).assigned = _).trans h.assigned,
    ((congrArg Link.origin g.link :) : (t'.link l).origin = _).trans h.origin, ?_, fun hr => ?_⟩
  · have hpend : (t'.link l).pending = (t.link l).pending := (congrArg Link.pending g.link :)
    have heff : (t'.link l).effectiveFrame = (t.link l).effectiveFrame := (congrArg Link.effectiveFrame g.link :)
    have hdl : (t'.link l).deadline = (t.link l).deadline := (congrArg Link.deadline g.link :)
    rw [hst, hpend, heff, hdl]
    exact h.state
  · obtain ⟨hret, hord⟩ := h.tuned (hroom hr)
    exact ⟨hst.trans hret, g.tune (k := k) ▸ (hord.spared displaceable_tune g.spares).of_now g.now⟩

theorem Acquired.later (hroom : room' → room) (h : Acquired room n e s l step k t) (g : Later n l s s' t t') :
    Acquired room' n e s' l step k t' :=
  ⟨((congrArg Link.state g.link :) : (t'.link l).state = _).trans h.state,
    ((congrArg Link.assigned g.link :) : (t'.link l).assigned = _).trans h.assigned,
    ((congrArg Link.effectiveFrame g.link :) : (t'.link l).effectiveFrame = _).trans h.effectiveFrame,
    ((congrArg Link.deadline g.link :) : (t'.link l).deadline = _).trans h.deadline,
    ((congrArg Link.silenceCounter g.link :) : (t'.link l).silenceCounter = _).trans h.silenceCounter,
    fun hr => g.tune (k := k) ▸ ((h.tuned (hroom hr)).spared displaceable_tune g.spares).of_now g.now⟩

theorem Vacates.later (hroom : room' → room) (h : Vacates room n e s l k t) (g : Later n l s s' t t') : Vacates room' n e s' l k t' :=
  ⟨((congrArg Link.state g.link :) : (t'.link l).state = _).trans h.state,
    ((congrArg Link.assigned g.link :) : (t'.link l).assigned = _).trans h.assigned,
    fun ha => ⟨((congrArg Link.effectiveFrame g.link :) : (t'.link l).effectiveFrame = _).trans (h.frames ha).1,
      ((congrArg Link.deadline g.link :) : (t'.link l).deadline = _).trans (h.frames ha).2⟩,
    fun hr => ((h.muted (hroom hr)).spared displaceable_mute g.spares).of_now g.now⟩

theorem Lands.later {target : Option Nat} (hroom : room' → room) (h : Lands room n e s l k t target) (g : Later n l s s' t t') :
    Lands room' n e s' l k t' target := by
  unfold Lands at h ⊢
  generalize k.state = st at h ⊢
  cases target with
  | none =>
    cases st with
    | idle => exact g.link.trans h
    | acquiring | locked | fading | parked => exact Vacates.later hroom h g
    | _ => trivial
  | some step =>
    cases st with
    | locked | fading =>
      dsimp only at h ⊢
      split at h
      next hs => rw [if_pos hs]; exact g.link.trans h
      next hs => rw [if_neg hs]; exact Retunes.later hroom h g
    | parked => exact g.link.trans h
    | idle => exact Acquired.later hroom h g
    | _ => trivial

end later

end Sys2Proof.Machine

/-! The operations of a launch (R114, R115), each as one step of it: a retune, a parked link's move, an acquisition and a vacate. -/

namespace Sys2Proof.Machine

-- One theorem at a time: all at once, their threads together outgrow the memory limit of the check.
set_option Elab.async false

/-! ## One step of a launch -/

section kinds
variable {room : Prop} {n l step : Nat} {e : FrameNo} {s t : State} {k : Link}

theorem Lands.of_retunes (hst : k.state = .locked ∨ k.state = .fading) (hne : k.assigned ≠ some step)
    (h : Retunes room n e s l step k t) : Lands room n e s l k t (some step) := by
  unfold Lands
  rcases hst with hst | hst <;> rw [hst] <;> dsimp only <;> rw [if_neg hne] <;> exact h

theorem Lands.of_stays (hst : k.state = .locked ∨ k.state = .fading) (hs : k.assigned = some step)
    (h : (t.link l).core = k) : Lands room n e s l k t (some step) := by
  unfold Lands
  rcases hst with hst | hst <;> rw [hst] <;> dsimp only <;> rw [if_pos hs] <;> exact h

theorem Lands.of_parked (hst : k.state = .parked) (h : (t.link l).core = k.onStep step) :
    Lands room n e s l k t (some step) := by
  unfold Lands
  rw [hst]
  exact h

theorem Lands.of_acquired (hst : k.state = .idle) (h : Acquired room n e s l step k t) : Lands room n e s l k t (some step) := by
  unfold Lands
  rw [hst]
  exact h

theorem Lands.of_idle (hst : k.state = .idle) (h : (t.link l).core = k) : Lands room n e s l k t none := by
  unfold Lands
  rw [hst]
  exact h

theorem Lands.of_vacates (hst : k.state = .acquiring ∨ k.state = .locked ∨ k.state = .fading ∨ k.state = .parked)
    (h : Vacates room n e s l k t) : Lands room n e s l k t none := by
  unfold Lands
  rcases hst with hst | hst | hst | hst <;> rw [hst] <;> exact h

theorem takes_moving (hst : k.state = .locked ∨ k.state = .fading) (hne : k.assigned ≠ some step) : k.takes (some step) = some (step, 1) := by
  unfold Link.takes
  rcases hst with hst | hst <;> rw [hst] <;> exact if_neg hne

theorem takes_staying (hst : k.state = .locked ∨ k.state = .fading ∨ k.state = .parked) (hs : k.assigned = some step) :
    k.takes (some step) = none := by
  unfold Link.takes
  rcases hst with hst | hst | hst <;> rw [hst] <;> exact if_pos hs

theorem takes_parked (hst : k.state = .parked) (hne : k.assigned ≠ some step) : k.takes (some step) = some (step, 2) := by
  unfold Link.takes
  rw [hst]
  exact if_neg hne

theorem takes_idle (hst : k.state = .idle) : k.takes (some step) = some (step, 1) := by
  unfold Link.takes
  rw [hst]

end kinds

/-- The carriers that an entry holds in its link's band, step and half-width each. -/
def Link.holding (target : Option Nat) (k : Link) : List (Nat × Nat) := ((k.takes target).map fun c => (c.1, k.cfg.hw)).toList

/-- The carrier changes that an entry makes in its link's band. -/
def Link.changes (target : Option Nat) (k : Link) : Nat := ((k.takes target).map Prod.snd).getD 0

/-- What is of a link's band alone. -/
def inBand {α : Type} (b : Nat) (x d : α) (n : Nat) : α := if n = b then x else d

/-- One entry has been applied to its link, `room` saying that its unit had a place for an order. -/
structure Applied (room : Prop) (n : Nat) (e : FrameNo) (l : Nat) (target : Option Nat) (u v : State) : Prop where
  lands : Lands room n e u l (u.link l).core v target
  alone : LinkAlone l u v
  links : v.links.length = u.links.length
  runs : Runs n 1 u v
  bands : v.bands.length = u.bands.length
  holds : BandsHold (inBand (u.link l).cfg.band ((u.link l).holding target) []) u v
  counts : room → BandsCount (inBand (u.link l).cfg.band ((u.link l).changes target) 0) u v
  others : ∀ b, b ≠ (u.link l).cfg.band → (v.band b).core = (u.band b).core

/-- What raises notices and touches the plan leaves an entry as it was applied. -/
theorem Applied.keeps {room : Prop} {n l : Nat} {e : FrameNo} {target : Option Nat} {u v w : State} {ps : List Part}
    (h : Applied room n e l target u v) (hk : KeepsBut ps v w) (hl : .links ∉ ps := by decide) (hb : .bands ∉ ps := by decide)
    (hu : .units ∉ ps := by decide) (hi : .orderIds ∉ ps := by decide) (ht : .tallies ∉ ps := by decide) :
    Applied room n e l target u w where
  lands := h.lands.later id ⟨rfl, fun _ => rfl, linkCore_of_same (hk .links hl) l, .keeps hk n hu⟩
  alone m hm := (linkCore_of_same (hk .links hl) m).trans (h.alone m hm)
  links := (length_of_links (hk .links hl)).trans h.links
  runs := h.runs.trans (.keeps hk hu hi ht)
  bands := (length_of_bands (hk .bands hb)).trans h.bands
  holds := h.holds.keeps hk hb
  counts hr := (h.counts hr).keeps hk hb
  others b hne := (bandCore_of_same (hk .bands hb) b).trans (h.others b hne)

theorem BandsHold.append_same {held : Nat → List (Nat × Nat)} {s t u : State} (h : BandsHold held s t) (hu : Part.bands.same t u) :
    BandsHold held s u := fun b hb hb' => (h b hb hb').append_same (bandCore_of_same hu b)

theorem BandsHold.then_none {held : Nat → List (Nat × Nat)} {s t u : State} (h : BandsHold held s t) (k : BandsHold (fun _ => []) t u) :
    BandsHold held s u := (h.trans k).congr fun _ => List.append_nil _

theorem BandsCount.append_same {count : Nat → Nat} {s t u : State} (h : BandsCount count s t) (hu : Part.bands.same t u) :
    BandsCount count s u := h.trans (.same hu)

theorem hold_other {b c f hw : Nat} {s : State} (h : b ≠ c) : (hold c f hw s).band b = s.band b := by
  rw [hold, band_modBand_other h, carrierChange_band_other h]

theorem TalliesBelow.mono {n m : Nat} {s : State} (h : TalliesBelow n s) (hnm : n ≤ m) : TalliesBelow m s := fun k hk => by
  have hall := h k hk
  cases hx : k.tallyOrder with
  | none => rfl
  | some x =>
    rw [hx] at hall
    exact decide_eq_true ((of_decide_eq_true hall).trans_le hnm)

section ops
variable {n l step : Nat} {e : FrameNo} {u : State} (hl : 1 ≤ l) (hl' : l ≤ u.links.length) (hbands : u.bands.length = 4)
  (hunits : u.units.length = 25) (hn : n ≤ u.nextOrderId) (htallies : TalliesBelow n u) (hu : 1 ≤ (u.link l).cfg.unit)
  (hu' : (u.link l).cfg.unit ≤ 24)

/-- Link `l`'s unit has a place for one more order. -/
abbrev State.roomFor (u : State) (l : Nat) : Prop := (u.unit (u.link l).cfg.unit).waiting.length < 32

theorem startRevert_same (l : Nat) (s : State) : Part.bands.same (revertReleases l s) (startRevert l s) := by
  rw [startRevert_eq]
  have hissue : KeepsBut issueParts (revertReleases l s) (revertTunes l s).state := keeps_issueTune _ _ _ _ _
  have hstate : KeepsBut stateParts ((revertTunes l s).state.modLink l (Link.sentBack s.nextEffective))
      (changeState l .reverting none ((revertTunes l s).state.modLink l (Link.sentBack s.nextEffective))) := keeps_changeState _ _ _ _
  exact (hstate .bands (by decide) : Part.bands.same (revertTunes l s).state _).trans (hissue .bands (by decide))

include hl hl' hbands hunits hn htallies hu hu' in
/-- R114: a link in service is retuned. -/
theorem applied_retune (hst : (u.link l).state = .locked ∨ (u.link l).state = .fading) (hne : (u.link l).assigned ≠ some step) :
    Applied (u.roomFor l) n e l (some step) u (startRetune l step e .plan u) := by
  have hnot : (u.link l).state ≠ .retuning := by rcases hst with h | h <;> rw [h] <;> exact LinkState.noConfusion
  obtain ⟨hlink, -⟩ := retuned_link step e .plan hl hl' hnot
  obtain ⟨hstate, hpending, hassigned, horigin, heff, hdl, hcfg⟩ := Link.retuning_fields step e .plan (retuneTunes l step e u).id (u.link l)
  have hruns := runs_startRetune (n := n) hl hl' step e .plan hnot
  have hlens := retuned_length l step e .plan u
  have hheld : BandsHold (inBand (u.link l).cfg.band ((u.link l).holding (some step)) []) u (retuned l step e .plan u) := by
    refine ((BandsHold.holds (s := u.modLink l fun k => { k with pending := some step }) hbands _ _ _).append_same
      (retuned_same l step e .plan u) : BandsHold _ u _).congr fun b => ?_
    rw [Link.holding, takes_moving hst hne]
    rfl
  have hother (b : Nat) (hb : b ≠ (u.link l).cfg.band) : ((retuned l step e .plan u).band b).core = (u.band b).core :=
    (bandCore_of_same (retuned_same l step e .plan u) b).trans
      (congrArg Band.core (hold_other (s := u.modLink l fun k => { k with pending := some step }) hb))
  have heq := startRetune_eq l step e .plan u
  obtain ⟨hover, hordered⟩ | ⟨hover, hfull⟩ := retuned_orders step e .plan hl hl' (htallies.mono hn) hunits hu hu'
  · rw [hover, if_neg Bool.false_ne_true] at heq
    rw [heq] at hruns ⊢
    refine ⟨.of_retunes hst hne ⟨hlink.assigned.trans hassigned, hlink.origin.trans horigin, .inl ⟨hlink.state.trans hstate,
      hlink.pending.trans hpending, hlink.effectiveFrame.trans heff, hlink.deadline.trans hdl⟩, fun _ =>
      ⟨hlink.state.trans hstate, _, hn, hordered⟩⟩, hlink.alone, hlink.length, hruns, hlens, hheld, fun _ => ?_, hother⟩
    refine ((BandsCount.holds (s := u.modLink l fun k => { k with pending := some step }) hbands _ _ _).append_same
      (retuned_same l step e .plan u) : BandsCount _ u _).congr fun b => ?_
    rw [Link.changes, takes_moving hst hne]
    rfl
  · have hno {p : Prop} (hr : u.roomFor l) : p := absurd hr (Nat.not_lt.2 hfull.2)
    rw [hover, if_pos rfl] at heq
    rw [heq] at hruns ⊢
    have hrev := linkBecomes_startRevert (hlink.state.trans hstate)
    have hboth := hlink.trans hrev
    obtain ⟨hrstate, hrpending, hrassigned, hrorigin⟩ := Link.reverting_fields (retuned l step e .plan u).nextEffective
      ((retuned l step e .plan u).link l)
    have hcfg' : ((retuned l step e .plan u).link l).cfg = (u.link l).cfg := hlink.cfg.trans hcfg
    have hsame := startRevert_same l (retuned l step e .plan u)
    have hreleased : BandsHold (fun _ => []) (retuned l step e .plan u) (startRevert l (retuned l step e .plan u)) :=
      ((BandsHold.released (s := (retuned l step e .plan u).modLink l fun k => { k with pending := none }) (hlens.trans hbands) _).append_same
        hsame : _)
    refine ⟨.of_retunes hst hne ⟨hboth.assigned.trans (hrassigned.trans (hlink.assigned.trans hassigned)),
      hboth.origin.trans (hrorigin.trans (hlink.origin.trans horigin)), .inr ⟨hboth.state.trans hrstate, hboth.pending.trans hrpending⟩,
      fun hr => hno hr⟩, hboth.alone, hboth.length, hruns, ?_, hheld.then_none hreleased, fun hr => hno hr, fun b hb => ?_⟩
    · refine (length_of_bands hsame).trans (Eq.trans ?_ hlens)
      exact (congrArg List.length (carrierChange_bands _ _)).trans (modSlot_length _ _ _)
    · refine (bandCore_of_same hsame b).trans (Eq.trans ?_ (hother b hb))
      refine congrArg Band.core (carrierChange_band_other (s := (retuned l step e .plan u).modLink l fun k => { k with pending := none }) ?_)
      rw [hcfg']
      exact hb

/-- An entry that leaves everything as it is. -/
theorem applied_nothing {room : Prop} {target : Option Nat} (h : Lands room n e u l (u.link l).core u target)
    (htakes : (u.link l).takes target = none) : Applied room n e l target u u where
  lands := h
  alone _ _ := rfl
  links := rfl
  runs := (Runs.refl n u).mono (Nat.zero_le 1)
  bands := rfl
  holds := (BandsHold.same rfl).congr fun b => by
    rw [Link.holding, htakes]
    exact (ite_self _).symm
  counts _ := (BandsCount.same rfl).congr fun b => by
    rw [Link.changes, htakes]
    exact (ite_self _).symm
  others _ _ := rfl

include hl hl' hbands in
/-- R114: a PARKED link's carrier is moved. -/
theorem applied_moveParked (hst : (u.link l).state = .parked) (hne : (u.link l).assigned ≠ some step) :
    Applied (u.roomFor l) n e l (some step) u (moveParked l step u) := by
  let c := (u.link l).cfg
  let u1 := release c.band u
  let u2 := u1.modLink l fun k => { k with assigned := some step }
  have hrel : KeepsBut carrierParts u u1 := keeps_release _ _
  have hlink1 : LinkBecomes l (u.link l) u u1 := (LinkBecomes.refl l u).keeps hrel
  have hlink : LinkBecomes l { u.link l with assigned := some step } u (moveParked l step u) :=
    (hlink1.modLink (f := fun k => { k with assigned := some step }) hl hl').keeps (keeps_hold _ _ _ _)
  have hlens : u2.bands.length = 4 := ((congrArg List.length (carrierChange_bands _ _)).trans (modSlot_length _ _ _)).trans hbands
  have htakes := takes_parked hst hne
  refine ⟨.of_parked hst hlink.self, hlink.alone, hlink.length, (runs_moveParked l step u).mono (Nat.zero_le 1),
    (hold_length _ _ _ _).trans (hlens.trans hbands.symm), ?_, fun _ => ?_, fun b hb => ?_⟩
  · refine ((BandsHold.released hbands c.band).trans (BandsHold.holds (s := u2) hlens c.band step c.hw : BandsHold _ u1 _)).congr fun b => ?_
    rw [Link.holding, htakes]
    rfl
  · refine ((BandsCount.released hbands c.band).trans (BandsCount.holds (s := u2) hlens c.band step c.hw : BandsCount _ u1 _)).congr fun b => ?_
    rw [Link.changes, htakes]
    unfold countIn inBand
    split <;> rfl
  · exact congrArg Band.core ((hold_other (s := u2) hb).trans (carrierChange_band_other hb))

include hl hl' hbands hunits hn hu hu' in
/-- R114: an IDLE link acquires its target. -/
theorem applied_takeStep (hst : (u.link l).state = .idle) :
    Applied (u.roomFor l) n e l (some step) u (takeStep l step e u) := by
  let c := (u.link l).cfg
  let u1 := u.modLink l fun k => { k with assigned := some step }
  let v := hold c.band step c.hw u1
  have hhold : KeepsBut carrierParts u1 v := keeps_hold _ _ _ _
  have hlink : LinkBecomes l { u.link l with assigned := some step } u v :=
    ((LinkBecomes.refl l u).modLink (f := fun k => { k with assigned := some step }) hl hl').keeps hhold
  obtain ⟨hends, -⟩ := enterAcquiring_link e hlink hl hl' (by rw [show (_ : Link).state = .idle from hst]; exact LinkState.noConfusion)
  have hacq : KeepsBut stateParts v (takeStep l step e u) := keeps_enterAcquiring_narrow l e v
  have htakes := takes_idle (step := step) hst
  refine ⟨.of_acquired hst ⟨hends.state, hends.assigned, hends.effectiveFrame, hends.deadline, hends.silenceCounter, fun hr => ?_⟩,
    hends.alone, hends.length, runs_takeStep hl hl' step e, (length_of_bands (hacq .bands (by decide))).trans (hold_length _ _ _ _), ?_,
    fun _ => ?_, fun b hb => ?_⟩
  · let w := acquires l e v
    have hw : Runs n 0 u w := runs_acquires hl hl' step e
    have hlinkw : LinkBecomes l (Link.acquiring e (Link.enter .acquiring none { u.link l with assigned := some step })) u w :=
      (acquires_link e hlink hl hl' (by rw [show (_ : Link).state = .idle from hst]; exact LinkState.noConfusion)).1
    have hcfg : (w.link l).cfg = c := hlinkw.cfg
    have hstate : KeepsBut stateParts v w :=
      (keeps_changeState l .acquiring none v).trans ((keeps_modLink _ _ _).mono (by decide))
    have hnow : w.now = u.now := congrArg Ftb.counter ((hstate .ftb (by decide)).trans (hhold .ftb (by decide)) : w.ftb = u.ftb)
    have hkhz : w.khz l ((v.link l).assigned.getD 0) = (u.band c.band).p.baseKhz + 25 * step := by
      have hassigned : (v.link l).assigned = some step := hlink.assigned
      have hp : (w.band c.band).p = (u.band c.band).p :=
        ((congrArg Band.p (bandCore_of_same (hstate .bands (by decide)) c.band) :) : (w.band c.band).p = (v.band c.band).p).trans
          (hold_params c.band step c.hw c.band u1)
      rw [State.khz, hcfg, hp, hassigned]
      rfl
    have hissue : (takeStep l step e u) = (issue c.unit (.tune c.channel ((u.band c.band).p.baseKhz + 25 * step) e) (.lsTune l) w).state := by
      show (issueTune l ((v.link l).assigned.getD 0) e (.lsTune l) w).state = _
      rw [issueTune, hcfg, hkhz]
    rw [hissue]
    exact (orderedFrom_issue (mem_unitAddresses.2 (.inl ⟨hu, hu'⟩)) (hw.units.trans hunits) (hn.trans hw.ids)
      ((hw.waiting c.unit).trans_lt hr) _ _).2.of_now hnow
  · refine ((BandsHold.holds (s := u1) hbands c.band step c.hw).append_same (hacq .bands (by decide)) : BandsHold _ u _).congr fun b => ?_
    rw [Link.holding, htakes]
    rfl
  · refine ((BandsCount.holds (s := u1) hbands c.band step c.hw).append_same (hacq .bands (by decide)) : BandsCount _ u _).congr fun b => ?_
    rw [Link.changes, htakes]
    rfl
  · exact (bandCore_of_same (hacq .bands (by decide)) b).trans (congrArg Band.core (hold_other (s := u1) hb))

include hl hl' hunits hn htallies hu hu' in
/-- R115: a vacate entry parks its link. -/
theorem applied_vacate (hst : (u.link l).state = .acquiring ∨ (u.link l).state = .locked ∨ (u.link l).state = .fading ∨
    (u.link l).state = .parked) : Applied (u.roomFor l) n e l none u (startVacate l e u) := by
  let c := (u.link l).cfg
  let r := issueMute l e (.rcVacate l) u
  let wipe (k : Link) : Link := if (u.link l).state = .acquiring then { k with effectiveFrame := none, deadline := none } else k
  let s1 := changeState l .parked none r.state
  have hissue : KeepsBut issueParts u r.state := keeps_issueMute _ _ _ _
  have hlink0 : LinkBecomes l (u.link l) u r.state := (LinkBecomes.refl l u).keeps hissue
  have hparked : ∃ k : Link, LinkBecomes l k u s1 ∧ k.state = .parked ∧ k.assigned = (u.link l).assigned := by
    by_cases hp : (u.link l).state = .parked
    · exact ⟨u.link l, by rw [show s1 = r.state from if_pos (hlink0.state.trans hp)]; exact hlink0, hp, rfl⟩
    · exact ⟨_, hlink0.changeState hl hl' hp, rfl, rfl⟩
  obtain ⟨k, hk, hkst, hkas⟩ := hparked
  have hmod : LinkBecomes l (wipe k) u (s1.modLink l wipe) := hk.modLink hl hl' fun k => by unfold wipe; split <;> rfl
  have hraise (t : State) : KeepsBut [.notices] t (raise .linkMuteFailed l t) := keeps_raise _ _ _
  have hends : KeepsBut [.notices] (s1.modLink l wipe) (startVacate l e u) := .ite (hraise _) (.refl _ _)
  have hstate : KeepsBut stateParts r.state s1 := keeps_changeState _ _ _ _
  have hbandsame : Part.bands.same u (startVacate l e u) :=
    (hends .bands (by decide) : Part.bands.same s1 _).trans ((hstate .bands (by decide) : Part.bands.same r.state s1).trans (hissue .bands (by decide)))
  have htakes : (u.link l).takes none = none := by
    unfold Link.takes
    rcases hst with hst | hst | hst | hst <;> rw [hst]
  have hlast := hmod.keeps hends
  have hruns := runs_startVacate (n := n) hl hl' e
  refine ⟨.of_vacates hst ⟨hlast.state.trans ?_, hlast.assigned.trans ?_, fun ha => ?_, fun hr => ?_⟩, hlast.alone, hlast.length, hruns,
    length_of_bands hbandsame, ?_, fun _ => ?_, fun b _ => bandCore_of_same hbandsame b⟩
  · unfold wipe
    split <;> exact hkst
  · unfold wipe
    split <;> exact hkas
  · rw [hlast.effectiveFrame, hlast.deadline]
    unfold wipe
    rw [if_pos (show (u.link l).state = .acquiring from ha)]
    exact ⟨rfl, rfl⟩
  · obtain ⟨-, hord⟩ := orderedFrom_issue (n := n) (mem_unitAddresses.2 (.inl ⟨hu, hu'⟩)) hunits hn hr (.mute c.channel e) (.rcVacate l)
    have hspares : SparesFrom n r.state (startVacate l e u) :=
      ((sparesFrom_changeState (htallies.issueMute l e (.rcVacate l))).trans (.keeps (keeps_modLink s1 l wipe) n)).trans (.keeps hends n)
    exact hord.spared displaceable_mute hspares
  · refine (BandsHold.same hbandsame).congr fun b => ?_
    rw [Link.holding, htakes]
    exact (ite_self _).symm
  · refine (BandsCount.same hbandsame).congr fun b => ?_
    rw [Link.changes, htakes]
    exact (ite_self _).symm

end ops

end Sys2Proof.Machine

/-! The entries of a plan at its launch, one after another (R113 to R116). -/

namespace Sys2Proof.Machine

-- One theorem at a time: all at once, their threads together outgrow the memory limit of the check.
set_option Elab.async false

/-! ## The plan through one entry -/

/-- The entry of link `l` has the outcome that its application gave it, if any. -/
def Outcome (l : Nat) (o : Option EntryOutcome) (u v : State) : Prop :=
  match o with
  | none => v.plan = u.plan
  | some o => Decided l o u v

section plans
variable {s : State} (h : s.plan.state ≠ .ready)
include h

theorem hold_plan (b f hw : Nat) : (hold b f hw s).plan = s.plan := carrierChange_plan_of_not_ready b h

theorem retuned_plan (l step : Nat) (e : FrameNo) (o : Origin) : (retuned l step e o s).plan = s.plan := by
  have hissue : (retuneTunes l step e s).state.plan = (retuneHolds l step s).plan := keeps_issueTune _ _ _ _ _ .plan (by decide)
  exact ((changeState_plan l .retuning none _).trans hissue).trans
    (hold_plan (s := s.modLink l fun k => { k with pending := some step }) h _ _ _)

theorem startRevert_plan (l : Nat) : (startRevert l s).plan = s.plan := by
  have hissue : (revertTunes l s).state.plan = (revertReleases l s).plan := keeps_issueTune _ _ _ _ _ .plan (by decide)
  rw [startRevert_eq]
  exact ((changeState_plan l .reverting none ((revertTunes l s).state.modLink l (Link.sentBack s.nextEffective))).trans hissue).trans
    (carrierChange_plan_of_not_ready (s := s.modLink l fun k => { k with pending := none }) _ h)

theorem startRetune_plan (l step : Nat) (e : FrameNo) (o : Origin) : (startRetune l step e o s).plan = s.plan := by
  have hret := retuned_plan h l step e o
  rw [startRetune_eq]
  split
  · exact (startRevert_plan (by rw [hret]; exact h) l).trans hret
  · exact hret

theorem takeStep_plan (l step : Nat) (e : FrameNo) : (takeStep l step e s).plan = s.plan :=
  (keeps_enterAcquiring_narrow l e _ .plan (by decide)).trans (hold_plan (s := s.modLink l fun k => { k with assigned := some step }) h _ _ _)

theorem moveParked_plan (l step : Nat) : (moveParked l step s).plan = s.plan := by
  have hrel : (release (s.link l).cfg.band s).plan = s.plan := carrierChange_plan_of_not_ready _ h
  have hrel' : ((release (s.link l).cfg.band s).modLink l fun k => { k with assigned := some step }).plan.state ≠ .ready := by
    show (release (s.link l).cfg.band s).plan.state ≠ .ready
    rw [hrel]
    exact h
  exact (hold_plan hrel' _ _ _).trans hrel

end plans

theorem startVacate_plan (l : Nat) (e : FrameNo) (s : State) : (startVacate l e s).plan = s.plan := by
  have hissue : (issueMute l e (.rcVacate l) s).state.plan = s.plan := keeps_issueMute _ _ _ _ .plan (by decide)
  have hst : (changeState l .parked none (issueMute l e (.rcVacate l) s).state).plan = s.plan := (changeState_plan ..).trans hissue
  unfold startVacate
  dsimp only
  split <;> exact hst

/-! ## One entry -/

section entry
variable {n : Nat} {e : FrameNo} {u : State} {x : PlanEntry}

/-- An entry applied, and then its outcome. -/
theorem applied_outcome {room : Prop} {target : Option Nat} {l : Nat} {v : State} {o : EntryOutcome}
    (h : Applied room n e l target u v) (hplan : v.plan = u.plan) (happ : u.plan.state = .applying)
    (hlands : (u.link l).lands target = some o) :
    Applied room n e l target u (giveOutcome l o v) ∧ Outcome l ((u.link l).lands target) u (giveOutcome l o v) := by
  refine ⟨h.keeps (keeps_giveOutcome l o v), ?_⟩
  rw [hlands]
  exact (decided_giveOutcome (hplan ▸ happ)).of_plan hplan.symm rfl

theorem applied_quietly {room : Prop} {target : Option Nat} {l : Nat} {v : State}
    (h : Applied room n e l target u v) (hplan : v.plan = u.plan) (hlands : (u.link l).lands target = none) :
    Applied room n e l target u v ∧ Outcome l ((u.link l).lands target) u v := by
  refine ⟨h, ?_⟩
  rw [hlands]
  exact hplan

theorem lands_eq {target : Option Nat} {k : Link} {st : LinkState} : k.state = st → k.lands target =
    match target, st with
    | some _, .parked => some .moved
    | some step, .locked | some step, .fading => if k.assigned = some step then some .moved else none
    | some _, .idle => some .acquired
    | none, .idle => some .vacated
    | _, _ => none := by
  rintro rfl
  rfl

/-- R114: an entry of a launch, by its target and its link's state. -/
theorem applied_entry (hl : 1 ≤ x.link) (hl' : x.link ≤ u.links.length) (hbands : u.bands.length = 4) (hunits : u.units.length = 25)
    (hn : n ≤ u.nextOrderId) (htallies : TalliesBelow n u) (hu : 1 ≤ (u.link x.link).cfg.unit) (hu' : (u.link x.link).cfg.unit ≤ 24)
    (happ : u.plan.state = .applying) (hdef : (u.link x.link).state ≠ .vacant) (hbars : (u.link x.link).state.barsLaunch x.target = false) :
    Applied (u.roomFor x.link) n e x.link x.target u (applyEntry e u x) ∧
      Outcome x.link ((u.link x.link).lands x.target) u (applyEntry e u x) := by
  have hready : u.plan.state ≠ .ready := by rw [happ]; exact PlanState.noConfusion
  unfold applyEntry
  dsimp only
  generalize x.target = target at hbars ⊢
  generalize x.link = l at *
  cases target with
  | none =>
    have hvacate (hst : (u.link l).state = .acquiring ∨ (u.link l).state = .locked ∨ (u.link l).state = .fading ∨
        (u.link l).state = .parked) : Applied (u.roomFor l) n e l none u (startVacate l e u) ∧
          Outcome l ((u.link l).lands none) u (startVacate l e u) := by
      refine applied_quietly (applied_vacate hl hl' hunits hn htallies hu hu' hst) (startVacate_plan l e u) ?_
      rcases hst with hst | hst | hst | hst <;> exact lands_eq hst
    cases hst : (u.link l).state with
    | vacant => exact absurd hst hdef
    | idle =>
      refine applied_outcome (applied_nothing (.of_idle hst rfl) ?_) rfl happ (lands_eq hst)
      unfold Link.takes
      rw [hst]
    | acquiring => exact hvacate (.inl hst)
    | locked => exact hvacate (.inr (.inl hst))
    | fading => exact hvacate (.inr (.inr (.inl hst)))
    | parked => exact hvacate (.inr (.inr (.inr hst)))
    | retuning | reverting | lost =>
      rw [hst] at hbars
      exact Bool.noConfusion (hbars : true = false)
  | some step =>
    have hmove (hst : (u.link l).state = .locked ∨ (u.link l).state = .fading) :
        let v := if (u.link l).assigned = some step then giveOutcome l .moved u else startRetune l step e .plan u
        Applied (u.roomFor l) n e l (some step) u v ∧ Outcome l ((u.link l).lands (some step)) u v := by
      intro v
      by_cases hs : (u.link l).assigned = some step
      · rw [show v = giveOutcome l .moved u from if_pos hs]
        refine applied_outcome (applied_nothing (.of_stays hst hs rfl) (takes_staying (hst.imp id .inl) hs)) rfl happ ?_
        rcases hst with hst | hst <;> exact (lands_eq hst).trans (if_pos hs)
      · rw [show v = startRetune l step e .plan u from if_neg hs]
        refine applied_quietly (applied_retune hl hl' hbands hunits hn htallies hu hu' hst hs) (startRetune_plan hready l step e .plan) ?_
        rcases hst with hst | hst <;> exact (lands_eq hst).trans (if_neg hs)
    cases hst : (u.link l).state with
    | vacant => exact absurd hst hdef
    | idle => exact applied_outcome (applied_takeStep hl hl' hbands hunits hn hu hu' hst) (takeStep_plan hready l step e) happ (lands_eq hst)
    | locked => exact hmove (.inl hst)
    | fading => exact hmove (.inr hst)
    | parked =>
      by_cases hs : (u.link l).assigned = some step
      · dsimp only
        rw [if_pos hs]
        refine applied_outcome (applied_nothing (.of_parked hst ?_) (takes_staying (.inr (.inr hst)) hs)) rfl happ (lands_eq hst)
        rw [Link.onStep, ← show (u.link l).core.assigned = some step from hs]
      · dsimp only
        rw [if_neg hs]
        exact applied_outcome (applied_moveParked hl hl' hbands hst hs) (moveParked_plan hready l step) happ (lands_eq hst)
    | acquiring | retuning | reverting | lost =>
      rw [hst] at hbars
      exact Bool.noConfusion (hbars : true = false)

end entry

end Sys2Proof.Machine

/-! The launch of a plan, entry by entry, and its plan at the end (R113 to R116). -/

namespace Sys2Proof.Machine

-- One theorem at a time: all at once, their threads together outgrow the memory limit of the check.
set_option Elab.async false

/-! ## The plan through a launch -/

/-- The entry with the outcome that its link's state gives it. -/
def State.settles (s : State) (x : PlanEntry) : PlanEntry := { x with outcome := (s.link x.link).lands x.target }

/-- The plan of a launch, the entries `done` applied and the entries `todo` not. -/
structure PlanGoes (e : FrameNo) (s : State) (done todo : List PlanEntry) (u : State) : Prop where
  plan : u.plan = { s.plan with state := u.plan.state, effective := some e, entries := done.map s.settles ++ todo }
  state : u.plan.state = .applying ∨ u.plan.state = .done ∧ ∀ x ∈ u.plan.entries, x.outcome.isSome = true

theorem map_given_of_not_mem {l : Nat} {o : EntryOutcome} {es : List PlanEntry} (h : ∀ x ∈ es, x.link ≠ l) :
    es.map (PlanEntry.given l o) = es :=
  (List.map_congr_left fun x hx => if_neg fun hc => h x hx hc.1).trans (List.map_id' _)

namespace PlanGoes
variable {e : FrameNo} {s u v : State} {done todo : List PlanEntry} {x : PlanEntry}

/-- While an entry has no outcome, the plan is APPLYING. -/
theorem applying (h : PlanGoes e s done (x :: todo) u) (hx : x.outcome = none) : u.plan.state = .applying := by
  refine h.state.resolve_right fun ⟨_, hall⟩ => ?_
  have hmem : x ∈ u.plan.entries := by
    rw [h.plan]
    exact List.mem_append_right _ List.mem_cons_self
  have hsome := hall x hmem
  rw [hx] at hsome
  exact Bool.noConfusion hsome

/-- One entry is applied. -/
theorem step (h : PlanGoes e s done (x :: todo) u) (hx : x.outcome = none) (hdone : ∀ y ∈ done, y.link ≠ x.link)
    (htodo : ∀ y ∈ todo, y.link ≠ x.link) (hout : Outcome x.link ((s.link x.link).lands x.target) u v) :
    PlanGoes e s (done ++ [x]) todo v := by
  have happ := h.applying hx
  have hentries : u.plan.entries = done.map s.settles ++ x :: todo := (congrArg Plan.entries h.plan :)
  cases ho : (s.link x.link).lands x.target with
  | none =>
    rw [ho] at hout
    have hv : v.plan = u.plan := hout
    have hsame : s.settles x = x := by
      rw [State.settles, ho, ← hx]
    refine ⟨?_, .inl (by rw [hv]; exact happ)⟩
    rw [hv, List.map_append, List.map_singleton, hsame, List.append_assoc, List.singleton_append]
    exact h.plan
  | some o =>
    rw [ho] at hout
    have hdec : Decided x.link o u v := hout
    have hgiven : v.plan.entries = u.plan.entries.map (PlanEntry.given x.link o) := hdec.entries
    have hnew : u.plan.entries.map (PlanEntry.given x.link o) = (done ++ [x]).map s.settles ++ todo := by
      have hself : PlanEntry.given x.link o x = s.settles x := by
        rw [PlanEntry.given, if_pos ⟨rfl, hx⟩, State.settles, ho]
      have hold : ∀ y ∈ done.map s.settles, y.link ≠ x.link := by
        intro y hy
        obtain ⟨z, hz, rfl⟩ := List.mem_map.1 hy
        exact hdone z hz
      rw [hentries, List.map_append, List.map_cons, map_given_of_not_mem hold, map_given_of_not_mem htodo, hself, List.map_append,
        List.map_singleton, List.append_assoc, List.singleton_append]
    refine ⟨?_, ?_⟩
    · have hv : v.plan = { u.plan with state := v.plan.state, entries := v.plan.entries } := by
        rw [hdec.entries]
        unfold Decided at hdec
        rw [hdec]
      rw [hv, hgiven, hnew]
      exact congrArg (fun p : Plan => ({ p with state := v.plan.state, entries := (done ++ [x]).map s.settles ++ todo } : Plan)) h.plan
    · have hstate := (congrArg Plan.state hdec :)
      dsimp only at hstate
      rw [hstate]
      split
      next hc =>
        refine .inr ⟨rfl, ?_⟩
        rw [hgiven]
        exact List.all_eq_true.1 ((given_isSome x.link o u.plan.entries).2 hc.2)
      next => exact .inl happ

/-- Every entry applied, the plan is DONE where each has its outcome (R116). -/
theorem finishes (h : PlanGoes e s done [] u) : (finishPlan u).plan = { s.plan with
    state := if done.all (fun x => ((s.link x.link).lands x.target).isSome) then .done else .applying, effective := some e,
    entries := done.map s.settles } := by
  have hplan := h.plan
  rw [List.append_nil] at hplan
  have hentries : u.plan.entries = done.map s.settles := (congrArg Plan.entries hplan :)
  have hall : u.plan.entries.all (fun x => x.outcome.isSome) = done.all fun x => ((s.link x.link).lands x.target).isSome := by
    rw [hentries, List.all_map]
    rfl
  have hend (st : PlanState) (hst : u.plan.state = st) : u.plan = { s.plan with state := st, effective := some e, entries := done.map s.settles } := by
    rw [← hst]
    exact hplan
  unfold finishPlan
  rw [hall]
  rcases h.state with happ | ⟨hdone, hsome⟩
  · by_cases hc : done.all (fun x => ((s.link x.link).lands x.target).isSome) = true
    · rw [if_pos ⟨happ, hc⟩, if_pos hc, setPlanState_plan]
      exact congrArg (fun p : Plan => ({ p with state := .done } : Plan)) hplan
    · rw [if_neg fun h => hc h.2, if_neg hc]
      exact hend _ happ
  · have hc : done.all (fun x => ((s.link x.link).lands x.target).isSome) = true := by
      rw [← hall]
      exact List.all_eq_true.2 hsome
    rw [if_neg fun h => PlanState.noConfusion (hdone.symm.trans h.1), if_pos hc]
    exact hend _ hdone

end PlanGoes

/-! ## The links, bands and units through a launch -/

/-- A band's number that the table does not have names the band after reset. -/
theorem band_beyond {s : State} {b : Nat} (h : ¬ (1 ≤ b ∧ b ≤ s.bands.length)) : s.band b = Band.reset := by
  cases b with
  | zero => rfl
  | succ k => exact List.getD_eq_default _ _ (by omega)

/-- The unit of link `l` has room for as many orders as the plan has entries. -/
def State.places (s : State) (l : Nat) : Prop := (s.unit (s.link l).cfg.unit).waiting.length + s.plan.entries.length ≤ 32

/-- The carriers that some entries hold in a band, step and half-width each. -/
def State.heldBy (s : State) (es : List PlanEntry) (b : Nat) : List (Nat × Nat) :=
  es.flatMap fun x => inBand (s.link x.link).cfg.band ((s.link x.link).holding x.target) [] b

/-- The carrier changes that some entries make in a band. -/
def State.changedBy (s : State) (es : List PlanEntry) (b : Nat) : Nat :=
  (es.map fun x => inBand (s.link x.link).cfg.band ((s.link x.link).changes x.target) 0 b).sum

/-- A launch, the entries `done` applied and the entries `todo` not. -/
structure Launching (n : Nat) (e : FrameNo) (s : State) (done todo : List PlanEntry) (u : State) : Prop extends PlanGoes e s done todo u where
  now : u.now = s.now
  links : u.links.length = 48
  bands : u.bands.length = 4
  runs : Runs n done.length s u
  lands : ∀ x ∈ done, Lands (s.places x.link) n e s x.link (s.link x.link).core u x.target
  alone : ∀ l, (∀ x ∈ done, x.link ≠ l) → (u.link l).core = (s.link l).core
  holds : BandsHold (s.heldBy done) s u
  counts : ∀ b, 1 ≤ b → b ≤ 4 → (∀ x ∈ done, (s.link x.link).cfg.band = b → s.places x.link) →
    (u.band b).carrierGen = (s.band b).carrierGen + BitVec.ofNat 32 (s.changedBy done b)
  others : ∀ b, (∀ x ∈ done, (s.link x.link).cfg.band ≠ b) → (u.band b).core = (s.band b).core

/-- What a READY plan's entry is, where its launch is not barred. -/
structure State.Launchable (s : State) (x : PlanEntry) : Prop where
  outcome : x.outcome = none
  link : 1 ≤ x.link ∧ x.link ≤ 48
  state : (s.link x.link).state ≠ .vacant
  unit : 1 ≤ (s.link x.link).cfg.unit ∧ (s.link x.link).cfg.unit ≤ 24
  bars : (s.link x.link).state.barsLaunch x.target = false

namespace Launching
variable {n : Nat} {e : FrameNo} {s u : State} {done todo : List PlanEntry} {x : PlanEntry}

theorem params (h : Launching n e s done todo u) (hs : s.bands.length = 4) (b : Nat) : (u.band b).p = (s.band b).p := by
  by_cases hb : 1 ≤ b ∧ b ≤ 4
  · exact (h.holds b hb.1 hb.2).p
  · rw [band_beyond (by rw [h.bands]; exact hb), band_beyond (by rw [hs]; exact hb)]

/-- One entry is applied. -/
theorem step (h : Launching n e s done (x :: todo) u) (hshaped : s.shaped) (htallies : TalliesBelow n s) (hn : n ≤ s.nextOrderId)
    (hx : s.Launchable x) (hdone : ∀ y ∈ done, y.link ≠ x.link) (htodo : ∀ y ∈ todo, y.link ≠ x.link)
    (hlen : done.length < s.plan.entries.length) : Launching n e s (done ++ [x]) todo (applyEntry e u x) := by
  obtain ⟨hsbands, -, hsunits, -⟩ := hshaped
  have hcore : (u.link x.link).core = (s.link x.link).core := h.alone x.link hdone
  have hcfg : (u.link x.link).cfg = (s.link x.link).cfg := (congrArg Link.cfg hcore :)
  have hst : (u.link x.link).state = (s.link x.link).state := (congrArg Link.state hcore :)
  have hroom (hp : s.places x.link) : u.roomFor x.link := by
    have hgrown := h.runs.waiting (s.link x.link).cfg.unit
    unfold State.places at hp
    unfold State.roomFor
    rw [hcfg]
    omega
  obtain ⟨happlied, hout⟩ := applied_entry (n := n) (e := e) (u := u) (x := x) hx.link.1 (hx.link.2.trans_eq h.links.symm) h.bands
    (h.runs.units.trans hsunits) (hn.trans h.runs.ids) (h.runs.tallies htallies) (hcfg ▸ hx.unit.1) (hcfg ▸ hx.unit.2)
    (h.toPlanGoes.applying hx.outcome) (hst ▸ hx.state) (hst ▸ hx.bars)
  have hlands : (u.link x.link).lands x.target = (s.link x.link).lands x.target := (congrArg (Link.lands x.target) hcore :)
  have hholding (b : Nat) : inBand (u.link x.link).cfg.band ((u.link x.link).holding x.target) [] b =
      inBand (s.link x.link).cfg.band ((s.link x.link).holding x.target) [] b :=
    (congrArg (fun k : Link => inBand k.cfg.band (k.holding x.target) [] b) hcore :)
  have hchanges (b : Nat) : inBand (u.link x.link).cfg.band ((u.link x.link).changes x.target) 0 b =
      inBand (s.link x.link).cfg.band ((s.link x.link).changes x.target) 0 b :=
    (congrArg (fun k : Link => inBand k.cfg.band (k.changes x.target) 0 b) hcore :)
  have hspares := happlied.runs.spares (h.runs.tallies htallies)
  refine ⟨h.toPlanGoes.step hx.outcome hdone htodo (hlands ▸ hout), ?_, happlied.links.trans h.links, happlied.bands.trans h.bands, ?_,
    fun y hy => ?_, fun l hl => ?_, ?_, fun b hb hb' hp => ?_, fun b hb => ?_⟩
  · exact (congrArg Ftb.counter (keeps_applyEntry e u x .ftb (by decide)) : (applyEntry e u x).now = u.now).trans h.now
  · rw [List.length_append, List.length_singleton]
    exact h.runs.trans happlied.runs
  · rcases List.mem_append.1 hy with hy | hy
    · exact (h.lands y hy).later id ⟨rfl, fun _ => rfl, happlied.alone y.link (hdone y hy), hspares⟩
    · obtain rfl := List.mem_singleton.1 hy
      have := happlied.lands.later hroom ⟨h.now, h.params hsbands, rfl, .refl n _⟩
      rwa [hcore] at this
  · have hlast := hl x (List.mem_append_right _ (List.mem_singleton_self _))
    exact (happlied.alone l hlast.symm).trans (h.alone l fun y hy => hl y (List.mem_append_left _ hy))
  · refine (h.holds.trans happlied.holds).congr fun b => ?_
    rw [hholding, State.heldBy, State.heldBy, List.flatMap_append, List.flatMap_singleton]
  · have hold := h.counts b hb hb' fun y hy => hp y (List.mem_append_left _ hy)
    have hsum : s.changedBy (done ++ [x]) b = s.changedBy done b + inBand (s.link x.link).cfg.band ((s.link x.link).changes x.target) 0 b := by
      rw [State.changedBy, State.changedBy, List.map_append, List.sum_append, List.map_singleton, List.sum_singleton]
    have hone : ((applyEntry e u x).band b).carrierGen = (u.band b).carrierGen +
        BitVec.ofNat 32 (inBand (s.link x.link).cfg.band ((s.link x.link).changes x.target) 0 b) := by
      by_cases hxb : (s.link x.link).cfg.band = b
      · rw [← hchanges]
        exact happlied.counts (hroom (hp x (List.mem_append_right _ (List.mem_singleton_self _)) hxb)) b hb hb'
      · rw [inBand, if_neg (Ne.symm hxb)]
        have hother := happlied.others b (by rw [hcfg]; exact Ne.symm hxb)
        exact ((congrArg Band.carrierGen hother :) : ((applyEntry e u x).band b).carrierGen = _).trans (BitVec.add_zero _).symm
    rw [hone, hold, hsum, BitVec.ofNat_add, BitVec.add_assoc]
  · have hlast := hb x (List.mem_append_right _ (List.mem_singleton_self _))
    exact (happlied.others b (by rw [hcfg]; exact hlast.symm)).trans (h.others b fun y hy => hb y (List.mem_append_left _ hy))

/-- Every entry is applied. -/
theorem all (hshaped : s.shaped) (htallies : TalliesBelow n s) (hn : n ≤ s.nextOrderId) (todo : List PlanEntry)
    {done : List PlanEntry} {u : State} (h : Launching n e s done todo u) (hready : ∀ x ∈ todo, s.Launchable x)
    (hnodup : ((done ++ todo).map PlanEntry.link).Nodup) (hlen : (done ++ todo).length ≤ s.plan.entries.length) :
    Launching n e s (done ++ todo) [] (todo.foldl (applyEntry e) u) := by
  induction todo generalizing done u with
  | nil => rwa [List.append_nil]
  | cons x todo ih =>
    have hperm : done ++ x :: todo = done ++ [x] ++ todo := by simp
    have hdone (y : PlanEntry) (hy : y ∈ done) : y.link ≠ x.link := by
      rw [List.map_append, List.nodup_append] at hnodup
      exact hnodup.2.2 _ (List.mem_map_of_mem hy) _ (List.mem_map_of_mem List.mem_cons_self)
    have htodo (y : PlanEntry) (hy : y ∈ todo) : y.link ≠ x.link := by
      rw [List.map_append, List.nodup_append] at hnodup
      have hcons := (List.nodup_cons.1 hnodup.2.1).1
      exact fun heq => hcons (heq ▸ List.mem_map_of_mem hy)
    have hlt : done.length < s.plan.entries.length := by
      rw [List.length_append, List.length_cons] at hlen
      omega
    have hstep := h.step hshaped htallies hn (hready x List.mem_cons_self) hdone htodo hlt
    rw [hperm] at hnodup hlen ⊢
    exact ih hstep (fun y hy => hready y (List.mem_cons_of_mem x hy)) hnodup hlen

end Launching

end Sys2Proof.Machine

/-! PLAN_LAUNCH (O45): its checks, and the part once every entry is applied. -/

namespace Sys2Proof.Machine

-- One theorem at a time: all at once, their threads together outgrow the memory limit of the check.
set_option Elab.async false

/-! ## The checks (R11, R113) -/

/-- The frame of a launch that names one is too far off. -/
def State.tooFar (s : State) (wanted : Option FrameNo) : Bool :=
  match wanted with | some w => decide (3000 < (w - s.now).toInt) | none => false

/-- The effective frame of a launch (R11). -/
def State.launchFrame (s : State) (wanted : Option FrameNo) : FrameNo :=
  match wanted with
  | some w => if (w - s.now).toInt < s.ftb.lead then framePlus s.now s.ftb.lead else w
  | none => framePlus s.now s.ftb.lead

theorem effectiveFor_eq {s : State} (hlead : s.ftb.lead ≤ 50) (wanted : Option FrameNo) :
    s.effectiveFor wanted = if s.tooFar wanted = true then none else some (s.launchFrame wanted) := by
  cases wanted with
  | none => rfl
  | some w =>
    have hdist : distance s.now w = (w - s.now).toInt := rfl
    simp only [State.effectiveFor, State.tooFar, State.launchFrame, decide_eq_true_eq, State.nextEffective]
    by_cases hnear : (w - s.now).toInt < s.ftb.lead
    · rw [if_pos (by rw [hdist]; exact hnear), if_neg (by omega), if_pos hnear]
    · rw [if_neg (by rw [hdist]; exact hnear), if_neg hnear]
      by_cases hfar : 3000 < (w - s.now).toInt
      · rw [if_pos hfar, if_neg (by omega)]
      · rw [if_neg hfar, if_pos (by omega)]

/-- The first check of a launch that fails. -/
def launchRefusal (wanted : Option FrameNo) (s : State) : Option Result :=
  if s.mode = .standby then some .wrongMode
  else if s.plan.state ≠ .ready then some .wrongState
  else if s.plan.entries.any (fun x => (s.link x.link).state.barsLaunch x.target) = true then some .wrongState
  else if s.tooFar wanted = true then some .badArgument
  else none

theorem launchPlan_eq {s : State} (hlead : s.ftb.lead ≤ 50) (wanted : Option FrameNo) : launchPlan wanted s =
    (launchRefusal wanted s).elim (okWith (w32 (s.launchFrame wanted)) (launch (s.launchFrame wanted) s)) (refuse · s) := by
  rw [launchPlan, effectiveFor_eq hlead, launchRefusal]
  split_ifs <;> rfl

theorem carriedOut_launchRefusal {s : State} {wanted : Option FrameNo} {r : Result} (h : launchRefusal wanted s = some r) :
    carriedOut (u8 r.code) = false := by
  simp only [launchRefusal] at h
  split_ifs at h <;> cases h <;> rfl

/-! ## What entries come to, read off -/

section reads
variable {room : Prop} {n l step : Nat} {e : FrameNo} {s t : State} {k : Link} {target : Option Nat}

theorem Lands.serving (h : Lands room n e s l k t (some step)) (hst : k.state = .locked ∨ k.state = .fading) :
    (k.assigned = some step → (t.link l).core = k) ∧ (k.assigned ≠ some step → Retunes room n e s l step k t) := by
  have hif : if k.assigned = some step then (t.link l).core = k else Retunes room n e s l step k t := by
    unfold Lands at h
    rcases hst with hst | hst <;> rw [hst] at h <;> exact h
  exact ⟨fun hs => by rwa [if_pos hs] at hif, fun hs => by rwa [if_neg hs] at hif⟩

theorem Lands.moved (h : Lands room n e s l k t (some step)) (hst : k.state = .parked) : (t.link l).core = k.onStep step := by
  unfold Lands at h
  rw [hst] at h
  exact h

theorem Lands.acquired (h : Lands room n e s l k t (some step)) (hst : k.state = .idle) : Acquired room n e s l step k t := by
  unfold Lands at h
  rw [hst] at h
  exact h

theorem Lands.idle (h : Lands room n e s l k t none) (hst : k.state = .idle) : (t.link l).core = k := by
  unfold Lands at h
  rw [hst] at h
  exact h

theorem Lands.vacating (h : Lands room n e s l k t none)
    (hst : k.state = .acquiring ∨ k.state = .locked ∨ k.state = .fading ∨ k.state = .parked) : Vacates room n e s l k t := by
  unfold Lands at h
  rcases hst with hst | hst | hst | hst <;> rw [hst] at h <;> exact h

theorem lands_vacated (h : k.lands target = some .vacated) : target = none ∧ k.state = .idle := by
  unfold Link.lands at h
  split at h
  · cases h
  · split at h <;> cases h
  · split at h <;> cases h
  · cases h
  · rename_i hst
    exact ⟨rfl, hst⟩
  · cases h

end reads

theorem heldBy_eq (s : State) (es : List PlanEntry) (b : Nat) :
    (es.filter fun x => decide ((s.link x.link).cfg.band = b)).filterMap (fun x =>
      ((s.link x.link).takes x.target).map fun c => (c.1, (s.link x.link).cfg.hw)) = s.heldBy es b := by
  unfold State.heldBy
  induction es with
  | nil => rfl
  | cons x es ih =>
    rw [List.flatMap_cons, ← ih, List.filter_cons, inBand]
    by_cases hb : (s.link x.link).cfg.band = b
    · rw [if_pos (decide_eq_true hb), if_pos hb.symm, List.filterMap_cons, Link.holding]
      cases (s.link x.link).takes x.target <;> rfl
    · rw [if_neg (by simpa using hb), if_neg (Ne.symm hb)]
      rfl

theorem changedBy_eq (s : State) (es : List PlanEntry) (b : Nat) :
    (((es.filter fun x => decide ((s.link x.link).cfg.band = b)).filterMap fun x => (s.link x.link).takes x.target).map Prod.snd).sum =
      s.changedBy es b := by
  unfold State.changedBy
  induction es with
  | nil => rfl
  | cons x es ih =>
    rw [List.map_cons, List.sum_cons, ← ih, List.filter_cons, inBand]
    by_cases hb : (s.link x.link).cfg.band = b
    · rw [if_pos (decide_eq_true hb), if_pos hb.symm, List.filterMap_cons, Link.changes]
      cases (s.link x.link).takes x.target with
      | none => exact (Nat.zero_add _).symm
      | some c => rfl
    · rw [if_neg (by simpa using hb), if_neg (Ne.symm hb), Nat.zero_add]

/-! ## The launch -/

/-- The plan enters APPLYING, before its entries are applied. -/
def applies (e : FrameNo) (s : State) : State := setPlanState .applying (s.modPlan fun p => { p with effective := some e })

theorem launch_eq (e : FrameNo) (s : State) : launch e s = finishPlan (s.plan.entries.foldl (applyEntry e) (applies e s)) := rfl

theorem applies_plan (e : FrameNo) (s : State) : (applies e s).plan = { s.plan with state := .applying, effective := some e } := by
  rw [applies, setPlanState_plan]
  rfl

theorem keeps_applies (e : FrameNo) (s : State) : KeepsBut planParts s (applies e s) :=
  ((keeps_modPlan s _).mono (by decide)).trans (keeps_setPlanState _ _)

/-- The launch before its first entry. -/
theorem launching_starts {s : State} (hs : s.shaped) (n : Nat) (e : FrameNo) :
    Launching n e s [] s.plan.entries (applies e (dropHead s)) := by
  obtain ⟨hbands, hlinks, -⟩ := hs
  have hkeeps : KeepsBut (.mp :: planParts) s (applies e (dropHead s)) :=
    ((keeps_dropHead s).mono (by decide)).trans ((keeps_applies e _).mono (by decide))
  have hplan := applies_plan e (dropHead s)
  refine ⟨⟨?_, .inl (by rw [hplan])⟩, congrArg Ftb.counter (hkeeps .ftb (by decide)), (length_of_links (hkeeps .links (by decide))).trans hlinks,
    (length_of_bands (hkeeps .bands (by decide))).trans hbands, .keeps hkeeps, fun x hx => absurd hx List.not_mem_nil,
    fun l _ => linkCore_of_same (hkeeps .links (by decide)) l, .same (hkeeps .bands (by decide)), fun b _ _ _ => ?_,
    fun b _ => bandCore_of_same (hkeeps .bands (by decide)) b⟩
  · rw [hplan]
    rfl
  · exact ((congrArg Band.carrierGen (bandCore_of_same (hkeeps .bands (by decide)) b) :) : ((applies e (dropHead s)).band b).carrierGen = _).trans
      (BitVec.add_zero _).symm

/-- The notice of APPLYING waits to the end of the launch. -/
theorem waits_launch {s : State} (h : s.plan.state = .ready) (e : FrameNo) : Waits .planState 0 (launch e s) := by
  have happlies : Waits .planState 0 (applies e s) :=
    waits_setPlanState (s := s.modPlan fun p => { p with effective := some e }) (by
      rw [State.modPlan_plan, h]
      exact PlanState.noConfusion)
  have hfold := happlies.of_acts (Acts.foldl _ (acts_applyEntry (keyed := true) e) s.plan.entries _)
  rw [launch_eq]
  exact hfold.of_acts (wide := .narrow) (acts_finishPlan _)

/-- The launch once every entry is applied, at the end of the request. -/
theorem launch_ends {s : State} {f : HostFrame} {p : List Byte} {e : FrameNo} (hs : s.shaped) (hsound : s.unitsSound)
    (hready : s.plan.state = .ready) (hentries : ∀ x ∈ s.plan.entries, s.Launchable x) (hnodup : (s.plan.entries.map PlanEntry.link).Nodup) :
    let es := s.plan.entries
    ∀ t, t = finish s (putReply f p (launch e (dropHead s))) → Replies f p s t ∧ Notified .planState 0 t ∧
      t.plan = { s.plan with
        state := if es.all (fun x => ((s.link x.link).lands x.target).isSome) then .done else .applying, effective := some e,
        entries := es.map s.settles } ∧
      (∀ x ∈ es, Lands (s.places x.link) s.nextOrderId e s x.link (s.link x.link).core t x.target) ∧
      (∀ l, (∀ x ∈ es, x.link ≠ l) → (t.link l).core = (s.link l).core) ∧
      (∀ b, (∀ x ∈ es, (s.link x.link).cfg.band ≠ b) → (t.band b).core = (s.band b).core) ∧
      BandsHold (s.heldBy es) s t ∧
      (∀ b, 1 ≤ b → b ≤ 4 → (∀ x ∈ es, (s.link x.link).cfg.band = b → s.places x.link) →
        (t.band b).carrierGen = (s.band b).carrierGen + BitVec.ofNat 32 (s.changedBy es b)) ∧
      KeepsBut (.links :: .bands :: .plan :: tailParts) s t := by
  intro es t ht
  have hlaunching := Launching.all hs (talliesBelow_of_sound hsound) le_rfl es (launching_starts hs s.nextOrderId e) hentries hnodup
    (by rw [List.nil_append])
  rw [List.nil_append] at hlaunching
  have hwaits : Waits .planState 0 (launch e (dropHead s)) := waits_launch (s := dropHead s) hready e
  have hframe : KeepsBut linkParts (dropHead s) (launch e (dropHead s)) := keeps_launch e (dropHead s)
  have hplan := hlaunching.toPlanGoes.finishes
  have hlast := keeps_finishPlan (es.foldl (applyEntry e) (applies e (dropHead s)))
  have hlaunch : finishPlan (es.foldl (applyEntry e) (applies e (dropHead s))) = launch e (dropHead s) := (launch_eq e (dropHead s)).symm
  rw [hlaunch] at hplan hlast
  generalize es.foldl (applyEntry e) (applies e (dropHead s)) = v at *
  generalize launch e (dropHead s) = z at *
  have hput : KeepsBut (.mp :: planParts) v (putReply f p z) :=
    (hlast.mono (by decide)).trans ((keeps_putReply f p z).mono (by decide))
  have hend : KeepsBut (.plan :: tailParts) v (finish s (putReply f p z)) :=
    (hput.mono (by decide)).trans ((keeps_finishTail s _).mono (by decide))
  have hspares : SparesFrom s.nextOrderId v (finish s (putReply f p z)) :=
    (SparesFrom.keeps hput _).trans (.of_issues (issues_finish s _) _)
  have hreply := replies_of_finish (f := f) (p := p) (hframe .mp (by decide)) s
  have hwaiting : Waits .planState 0 (putReply f p z) := hwaits.of_same rfl
  have htold := notified_finish hwaiting s
  have hplans := (finish_plan s (putReply f p z)).trans hplan
  have hkeeps := keeps_finish_reply (f := f) (p := p) hframe s
  rw [← ht] at hend hspares hreply htold hplans hkeeps
  have hlink := linkCore_of_same (hend .links (by decide))
  have hband := bandCore_of_same (hend .bands (by decide))
  refine ⟨hreply, htold, hplans, fun x hx => ?_, fun l hl => ?_, fun b hb => ?_, hlaunching.holds.keeps hend, fun b hb hb' hp => ?_,
    hkeeps.mono (by decide)⟩
  · exact (hlaunching.lands x hx).later id ⟨rfl, fun _ => rfl, hlink x.link, hspares⟩
  · exact (hlink l).trans (hlaunching.alone l hl)
  · exact (hband b).trans (hlaunching.others b hb)
  · exact ((congrArg Band.carrierGen (hband b) :) : (t.band b).carrierGen = _).trans (hlaunching.counts b hb hb' hp)

/-- What a launch leaves of a band, in the statement's words (R23, R31, R33). -/
theorem BandHolds.reads {held : List (Nat × Nat)} {k y : Band} (h : BandHolds held k y) :
    let barred (f : Spare) := held.any fun c => decide (c.1 ≤ f.step + c.2 + k.p.gapCc) && decide (f.step ≤ c.1 + c.2 + k.p.gapCc)
    let masked (i : Nat) := held.any fun c => spanMeets c.1 c.2 (k.p.binSpan i)
    y.spares = k.spares.filter (fun f => !barred f) ∧
      y.bins = k.bins.zipIdx.map (fun (x, i) => if masked i then { level := none, hot := false } else x) ∧
      y.spectrumGen = k.spectrumGen + BitVec.ofNat 32 (k.bins.zipIdx.countP fun (x, i) => x.hot && masked i) ∧
      y.p = k.p ∧ y.exclusions = k.exclusions ∧ y.frozen = k.frozen ∧ y.defined = k.defined ∧ (held ≠ [] → y.sparesFresh = false) :=
  ⟨h.spares, h.bins, h.spectrumGen, h.p, h.exclusions, h.frozen, h.defined, h.fresh⟩

/-- Settles O45: the launch's verdict, its effective frame, and what every entry comes to. -/
theorem planIsLaunched : Obligations.PlanIsLaunched := by
  intro s f wanted hs hsound ht hr hlead ready far e bars verdict result room
  have hbars (x : PlanEntry) : bars x = (s.link x.link).state.barsLaunch x.target := by
    dsimp only [bars, LinkState.barsLaunch] <;> cases (s.link x.link).state <;> cases x.target <;> rfl
  have hresult (x : PlanEntry) : result x = (s.link x.link).lands x.target := by
    dsimp only [result, Link.lands] <;> cases (s.link x.link).state <;> cases x.target <;> rfl
  have hfar : far = s.tooFar wanted := by cases wanted <;> rfl
  have he : e = s.launchFrame wanted := by cases wanted <;> rfl
  have hverdict : verdict = launchRefusal wanted (dropHead s) := by
    dsimp only [verdict, launchRefusal]
    rw [hfar, funext hbars]
    rfl
  obtain ⟨hrefuses, hdoes⟩ := request_by_verdict (c := .planLaunch) ht hr rfl (launchPlan_eq (s := dropHead s) hlead wanted)
    fun _ => carriedOut_launchRefusal
  refine ⟨fun r hv => hrefuses r (hverdict ▸ hv), fun hv hready => ⟨_, hdoes (hverdict ▸ hv), ?_⟩⟩
  obtain ⟨hnodup, hentries⟩ := hready
  have hnone : s.plan.state = .ready ∧ ∀ x ∈ s.plan.entries, bars x = false := by
    have hv' := hv
    dsimp only [verdict] at hv'
    split_ifs at hv' with h1 h2 h3 h4
    exact ⟨not_not.1 h2, fun x hx => Bool.eq_false_iff.2 fun hb => h3 (List.any_eq_true.2 ⟨x, hx, hb⟩)⟩
  obtain ⟨hst, hopen⟩ := hnone
  have hlaunchable (x : PlanEntry) (hx : x ∈ s.plan.entries) : s.Launchable x := by
    obtain ⟨hout, hl, hl', hdef, hu, hu'⟩ := hentries x hx
    exact ⟨hout, ⟨hl, hl'⟩, hdef, ⟨hu, hu'⟩, (hbars x).symm.trans (hopen x hx)⟩
  have hframe : (dropHead s).launchFrame wanted = e := he.symm
  rw [hframe]
  obtain ⟨hreply, htold, hplan, hlands, halone, hothers, hholds, hcounts, hkeeps⟩ :=
    launch_ends (f := f) (p := u8 0 ++ w32 e) (e := e) hs hsound hst hlaunchable hnodup _ rfl
  generalize finish s (putReply f (u8 0 ++ w32 e) (launch e (dropHead s))) = t at *
  refine ⟨hreply, htold, ?_, fun x hx => ?_, halone, hothers, fun b hb hb' => ?_, hkeeps⟩
  · rw [hplan]
    simp only [hresult]
    rfl
  · have hland := hlands x hx
    refine ⟨fun hv => ?_, fun step hstep hst => ?_, fun step hstep hst => ?_, fun step hstep hst => ?_, fun hstep hst => ?_⟩
    · obtain ⟨htarget, hidle⟩ := lands_vacated ((hresult x).symm.trans hv)
      rw [htarget] at hland
      exact hland.idle hidle
    · rw [hstep] at hland
      obtain ⟨hstays, hmoves⟩ := hland.serving hst
      refine ⟨hstays, fun hne => ?_⟩
      obtain ⟨hassigned, horigin, hstate, htuned⟩ := hmoves hne
      exact ⟨hassigned, horigin, hstate, fun hr => (htuned hr).imp id OrderedFrom.ordered⟩
    · rw [hstep] at hland
      exact hland.moved hst
    · rw [hstep] at hland
      obtain ⟨hstate, hassigned, heff, hdl, hsil, htuned⟩ := hland.acquired hst
      exact ⟨hstate, hassigned, heff, hdl, hsil, fun hr => (htuned hr).ordered⟩
    · rw [hstep] at hland
      obtain ⟨hstate, hassigned, hframes, hmuted⟩ := hland.vacating hst
      exact ⟨hstate, hassigned, hframes, fun hr => (hmuted hr).ordered⟩
  · intro k y mine taken held barred masked
    have htaken (x : PlanEntry) : taken x = (s.link x.link).takes x.target := by
      dsimp only [taken, Link.takes] <;> cases (s.link x.link).state <;> cases x.target <;> rfl
    have hheld : held = s.heldBy s.plan.entries b := by
      rw [← heldBy_eq]
      dsimp only [held, mine]
      simp only [htaken]
    have hsum : ((mine.filterMap taken).map Prod.snd).sum = s.changedBy s.plan.entries b := by
      rw [← changedBy_eq, funext htaken]
    have hband := hholds b hb hb'
    rw [← hheld] at hband
    obtain ⟨hspares, hbins, hgen, hp, hexcl, hfrozen, hdefined, hfresh⟩ := hband.reads
    refine ⟨hspares, hbins, hgen, hp, hexcl, hfrozen, hdefined, hfresh, fun hrooms => ?_⟩
    rw [hsum]
    exact hcounts b hb hb' fun x hx hxb => hrooms x (List.mem_filter.2 ⟨hx, decide_eq_true hxb⟩)

end Sys2Proof.Machine

/-! What STOP takes back of the Plan Evaluator's work: jobs, results, flags and the engine (R69, R70). -/

namespace Sys2Proof.Machine

-- One theorem at a time: all at once, their threads together outgrow the memory limit of the check.
set_option Elab.async false

/-- In STANDBY, with no job in the queue, the end of an event is the transmit path's alone. -/
theorem after_of_standby {s : State} (hmode : s.mode = .standby) (hqueue : s.pe.queue = []) : after s = kick s := by
  have hconvert : convert s = s := if_neg (by rw [hmode]; exact Mode.noConfusion)
  have hchoose : choose s = s := choose_rests (by rw [hqueue]; rfl)
  rw [after, pump, hconvert, hchoose]

/-! ## One job -/

theorem invalidatePlan_rest {s : State} : (invalidatePlan s).links = s.links ∧ (invalidatePlan s).bands = s.bands ∧ (invalidatePlan s).pe = s.pe := by
  unfold invalidatePlan setPlanState
  split <;> exact ⟨rfl, rfl, rfl⟩

section job
variable {s : State} {j : Job} {l b : Nat}

/-- The withdrawal of a job that is no check of the link leaves the link's result. -/
theorem withdrawJob_assign : (withdrawJob s j).assignResult l = s.assignResult l ∨
    ((withdrawJob s j).assignResult l).map AssignResult.outcome = some .stale := by
  unfold withdrawJob
  split
  next m step override _ =>
    exact (slot_modSlot_cases none _ s.pe.assign m l).imp id fun h => congrArg (Option.map AssignResult.outcome) h
  next =>
    split
    · exact .inl (congrArg (fun e : Pe => slot none e.assign l) invalidatePlan_rest.2.2)
    · exact .inl rfl
  all_goals exact .inl rfl

theorem withdrawJob_query : (withdrawJob s j).queryResult b = s.queryResult b ∨
    ((withdrawJob s j).queryResult b).map QueryResult.outcome = some .discarded := by
  unfold withdrawJob
  split
  next => exact .inl rfl
  next =>
    split
    · exact .inl (congrArg (fun e : Pe => slot none e.query b) invalidatePlan_rest.2.2)
    · exact .inl rfl
  next n number step hw link _ =>
    exact (slot_modSlot_cases none _ s.pe.query n b).imp id fun h => congrArg (Option.map QueryResult.outcome) h
  all_goals exact .inl rfl

theorem withdrawJob_plan : (withdrawJob s j).plan =
    if s.plan.state = .checking ∧ j.kind.isPlanCheck = true then { s.plan with state := .opened, checked := none } else s.plan := by
  unfold withdrawJob
  cases j.kind with
  | planCheck =>
    dsimp only
    split
    next h => exact (invalidatePlan_reopens (by rw [h]; exact PlanState.noConfusion)).1.trans (if_pos ⟨h, rfl⟩).symm
    next h => exact (if_neg fun hc => h hc.1).symm
  | _ => exact (if_neg fun hc => Bool.false_ne_true hc.2).symm

theorem withdrawJob_rest : (withdrawJob s j).links = s.links ∧ (withdrawJob s j).bands = s.bands ∧
    (withdrawJob s j).pe.engine = s.pe.engine := by
  unfold withdrawJob
  split
  · exact ⟨rfl, rfl, rfl⟩
  · split
    · obtain ⟨hl, hb, hpe⟩ := invalidatePlan_rest (s := s)
      exact ⟨hl, hb, congrArg Pe.engine hpe⟩
    · exact ⟨rfl, rfl, rfl⟩
  all_goals exact ⟨rfl, rfl, rfl⟩

theorem withdrawJob_lengths : (withdrawJob s j).pe.assign.length = s.pe.assign.length ∧
    (withdrawJob s j).pe.query.length = s.pe.query.length := by
  unfold withdrawJob
  split
  · exact ⟨modSlot_length .., rfl⟩
  · split
    · rw [invalidatePlan_rest.2.2]
      exact ⟨rfl, rfl⟩
    · exact ⟨rfl, rfl⟩
  · exact ⟨rfl, modSlot_length ..⟩
  all_goals exact ⟨rfl, rfl⟩

end job

/-! ## The queue -/

/-- A link's check has been withdrawn, and the host is told. -/
structure CheckStale (l : Nat) (s : State) : Prop where
  outcome : (s.assignResult l).map AssignResult.outcome = some .stale
  told : Waits .linkStale l s

/-- A band's query has been withdrawn, and the host is told. -/
structure QueryDropped (b : Nat) (s : State) : Prop where
  outcome : (s.queryResult b).map QueryResult.outcome = some .discarded
  told : Waits .bandQuery b s

theorem CheckStale.withdrawJob {l : Nat} {s : State} (h : CheckStale l s) (j : Job) : CheckStale l (withdrawJob s j) where
  outcome := (withdrawJob_assign (s := s) (j := j)).elim (fun he => by rw [he]; exact h.outcome) id
  told := h.told.of_acts (wide := .narrow) (acts_withdrawJob s j)

theorem QueryDropped.withdrawJob {b : Nat} {s : State} (h : QueryDropped b s) (j : Job) : QueryDropped b (withdrawJob s j) where
  outcome := (withdrawJob_query (s := s) (j := j)).elim (fun he => by rw [he]; exact h.outcome) id
  told := h.told.of_acts (wide := .narrow) (acts_withdrawJob s j)

theorem checkStale_withdrawn {l step : Nat} {override : Bool} {s : State} {j : Job} (hj : j.kind = .assignCheck l step override)
    (hl : 1 ≤ l) (hl' : l ≤ s.pe.assign.length) : CheckStale l (withdrawJob s j) := by
  unfold Machine.withdrawJob
  rw [hj]
  exact ⟨congrArg (Option.map AssignResult.outcome) (slot_modSlot_self none _ s.pe.assign hl hl'), waits_raise _ _ _⟩

theorem queryDropped_withdrawn {b step hw l : Nat} {number : BitVec 16} {s : State} {j : Job} (hj : j.kind = .query b number step hw l)
    (hb : 1 ≤ b) (hb' : b ≤ s.pe.query.length) : QueryDropped b (withdrawJob s j) := by
  unfold Machine.withdrawJob
  rw [hj]
  exact ⟨congrArg (Option.map QueryResult.outcome) (slot_modSlot_self none _ s.pe.query hb hb'), waits_raise _ _ _⟩

/-- What the withdrawal of one job brings about stands past the others. -/
theorem withdrawn_in_fold {I J : State → Prop} {j : Job} {js : List Job} {s : State} (hj : j ∈ js)
    (hkeep : ∀ s k, I s → I (withdrawJob s k)) (hdone : ∀ s, I s → J (withdrawJob s j)) (hstays : ∀ s k, J s → J (withdrawJob s k))
    (hs : I s) : J (js.foldl withdrawJob s) := by
  induction js generalizing s with
  | nil => cases hj
  | cons k ks ih =>
    rw [List.foldl_cons]
    obtain rfl | hj := List.mem_cons.1 hj
    · exact List.foldlRecOn ks withdrawJob (hdone s hs) fun u hu x _ => hstays u x hu
    · exact ih hj (hkeep s k hs)

theorem withdrawJobs_plan (js : List Job) (s : State) : (js.foldl withdrawJob s).plan =
    if s.plan.state = .checking ∧ (js.any fun j => j.kind.isPlanCheck) = true
      then { s.plan with state := .opened, checked := none } else s.plan := by
  induction js generalizing s with
  | nil => exact (if_neg fun h => Bool.false_ne_true h.2).symm
  | cons j js ih =>
    have hplan := withdrawJob_plan (s := s) (j := j)
    rw [List.foldl_cons, ih, List.any_cons]
    by_cases hc : s.plan.state = .checking ∧ j.kind.isPlanCheck = true
    · rw [if_pos hc] at hplan
      rw [hplan, if_neg fun h => PlanState.noConfusion h.1, if_pos ⟨hc.1, by rw [hc.2]; rfl⟩]
    · rw [if_neg hc] at hplan
      rw [hplan]
      refine if_congr (and_congr_right fun h => ?_) rfl rfl
      rw [Bool.eq_false_iff.2 fun hj => hc ⟨h, hj⟩, Bool.false_or]

theorem withdrawJobs_rest (js : List Job) (s : State) : (js.foldl withdrawJob s).links = s.links ∧
    (js.foldl withdrawJob s).bands = s.bands ∧ (js.foldl withdrawJob s).pe.engine = s.pe.engine := by
  induction js generalizing s with
  | nil => exact ⟨rfl, rfl, rfl⟩
  | cons j js ih =>
    obtain ⟨hl, hb, he⟩ := ih (withdrawJob s j)
    obtain ⟨hl', hb', he'⟩ := withdrawJob_rest (s := s) (j := j)
    exact ⟨hl.trans hl', hb.trans hb', he.trans he'⟩

/-! ## All of the evaluator's work -/

/-- What STOP has taken back: results, plan, flags, queue and engine. -/
structure Withdrawn (s t : State) : Prop where
  queue : t.pe.queue = []
  engine : t.pe.engine = if s.pe.engine = .running then .draining else .idle
  checks : ∀ j ∈ s.pe.queue, ∀ l step o, j.kind = .assignCheck l step o → 1 ≤ l → l ≤ 48 → CheckStale l t
  queries : ∀ j ∈ s.pe.queue, ∀ b number step hw l, j.kind = .query b number step hw l → 1 ≤ b → b ≤ 4 → QueryDropped b t
  plan : t.plan = if s.plan.state = .checking ∧ s.hasJob JobKind.isPlanCheck = true
    then { s.plan with state := .opened, checked := none } else s.plan
  sweeps : ∀ b, (t.band b).sweepWanted = false
  rescues : ∀ l, (t.link l).rescue = if (s.link l).rescue = .exhausted then .exhausted else .none

theorem Link.clearRescue_rescue (k : Link) : k.clearRescue.rescue = if k.rescue = .exhausted then .exhausted else .none := by
  unfold Link.clearRescue
  cases h : k.rescue <;> simp [h]

theorem withdrawn_withdrawAll {s : State} (hassign : s.pe.assign.length = 48) (hquery : s.pe.query.length = 4) : Withdrawn s (withdrawAll s) := by
  obtain ⟨hlinks, -, hengine⟩ := withdrawJobs_rest s.pe.queue s
  have hpe : (withdrawAll s).pe = { (s.pe.queue.foldl withdrawJob s).pe with
      queue := [], engine := (s.pe.queue.foldl withdrawJob s).pe.engine.drained } := rfl
  refine ⟨by rw [hpe], ?_, fun j hj l step o hk hl hl' => ?_, fun j hj b number step hw l hk hb hb' => ?_, withdrawJobs_plan _ s, fun b => ?_, fun l => ?_⟩
  · rw [hpe]
    exact (congrArg Engine.drained hengine).trans (Engine.drained_eq _)
  · have hstale : CheckStale l (s.pe.queue.foldl withdrawJob s) := withdrawn_in_fold (I := fun u => u.pe.assign.length = 48) hj
      (fun _ _ h => withdrawJob_lengths.1.trans h) (fun u hu => checkStale_withdrawn hk hl (hl'.trans_eq hu.symm)) (fun _ k h => h.withdrawJob k) hassign
    exact ⟨hstale.outcome, hstale.told.of_same rfl⟩
  · have hdrop : QueryDropped b (s.pe.queue.foldl withdrawJob s) := withdrawn_in_fold (I := fun u => u.pe.query.length = 4) hj
      (fun _ _ h => withdrawJob_lengths.2.trans h) (fun u hu => queryDropped_withdrawn hk hb (hb'.trans_eq hu.symm)) (fun _ k h => h.withdrawJob k) hquery
    exact ⟨hdrop.outcome, hdrop.told.of_same rfl⟩
  · exact congrArg Band.sweepWanted (slot_map (fun k : Band => { k with sweepWanted := false }) Band.reset _ b)
  · have hlink : (withdrawAll s).link l = (s.link l).clearRescue := by
      refine (slot_map Link.clearRescue Link.vacant (s.pe.queue.foldl withdrawJob s).links l).trans ?_
      rw [hlinks]
      rfl
    rw [hlink, Link.clearRescue_rescue]

/-- What follows leaves what was taken back, where it raises notices and issues orders alone. -/
theorem Withdrawn.keeps {s t u : State} {ps : List Part} (h : Withdrawn s t) (hk : KeepsBut ps t u)
    (hraised : ∀ c o, Waits c o t → Waits c o u) (h1 : .pe ∉ ps := by decide) (h2 : .plan ∉ ps := by decide) (h3 : .sweepFlags ∉ ps := by decide)
    (h4 : .rescues ∉ ps := by decide) : Withdrawn s u := by
  have hpe : u.pe = t.pe := hk .pe h1
  have hplan : u.plan = t.plan := hk .plan h2
  refine ⟨by rw [hpe]; exact h.queue, by rw [hpe]; exact h.engine, fun j hj l step o hk hl hl' => ?_, fun j hj b number step hw l hk hb hb' => ?_,
    hplan.trans h.plan, fun b => (sweepWanted_of_same (hk .sweepFlags h3) b).trans (h.sweeps b), fun l => (rescue_of_same (hk .rescues h4) l).trans (h.rescues l)⟩
  · obtain ⟨ho, ht⟩ := h.checks j hj l step o hk hl hl'
    exact ⟨by rw [State.assignResult, hpe]; exact ho, hraised _ _ ht⟩
  · obtain ⟨ho, ht⟩ := h.queries j hj b number step hw l hk hb hb'
    exact ⟨by rw [State.queryResult, hpe]; exact ho, hraised _ _ ht⟩

end Sys2Proof.Machine

/-! The Talk Router and the Tally Resolver at STOP: keys, routes and pulses end, and what their orders leave (R154, R184). -/

namespace Sys2Proof.Machine

-- One theorem at a time: all at once, their threads together outgrow the memory limit of the check.
set_option Elab.async false

/-! ## The steps of the Talk Router -/

/-- A break for each LIVE route of a table (R184). -/
def breakAll (rs : List Route) (x : Acting) : Acting :=
  (oneUpTo Config.stations).foldl (fun x d => (liveSources d rs).foldl (fun x a => orderBreak a d x) x) x

/-- The DIMs and the key-lamp tests (R184). -/
def stopOrders (x : Acting) : Acting :=
  (oneUpTo Config.stations).foldl (fun x t => orderLamp t x) ((oneUpTo Config.stations).foldl stopDim x)

/-- The state in which the pulses end, with the failures that wait to be reported. -/
def State.broken (s : State) : Acting := breakAll s.tk.routes (s.silenced, [])

theorem broken_eq (s : State) : s.broken = breakAll s.tk.routes (s.silenced, []) := rfl

theorem tkStop_eq (resolved : Bool) (s : State) :
    tkStop resolved s = reported (stopOrders (stopPulses resolved s.broken.1, s.broken.2)) := rfl

/-! ## What every step leaves -/

/-- A station without its keys, its pulse and its orders. -/
def Station.still (x : Station) : Station := { x.bare with keys := [], pulseEnd := none }

/-- Keys, pulses and routes may have ended, words have been made anew, and orders have been issued or have failed. -/
structure WindsDown (s t : State) : Prop where
  keeps : KeepsBut issueParts s t
  issues : Issues Issuer.ofBoard s t
  length : t.tk.stations.length = s.tk.stations.length
  stations : ∀ y, (t.station y).still = (s.station y).still

namespace WindsDown
variable {s t u : State}

theorem refl (s : State) : WindsDown s s := ⟨.refl _ _, .refl _, rfl, fun _ => rfl⟩

theorem trans (h : WindsDown s t) (k : WindsDown t u) : WindsDown s u :=
  ⟨h.keeps.trans k.keeps, h.issues.trans k.issues, k.length.trans h.length, fun y => (k.stations y).trans (h.stations y)⟩

theorem of_rewords (hk : KeepsBut issueParts s t) (hi : Issues Issuer.ofBoard s t) (h : Rewords s t) : WindsDown s t :=
  ⟨hk, hi, h.length_stations, fun y => congrArg (fun x : Station => { x with keys := [], pulseEnd := none }) (h.station y)⟩

theorem of_quiet (hk : KeepsBut issueParts s t) (hi : Issues Issuer.ofTalk s t) (h : Quiet s t) : WindsDown s t :=
  of_rewords hk (hi.mono fun _ => .inl) (.of_quiet h)

theorem foldl {α : Type} {f : State → α → State} (h : ∀ s a, WindsDown s (f s a)) (as : List α) (s : State) : WindsDown s (as.foldl f s) := by
  induction as generalizing s with
  | nil => exact refl s
  | cons a as ih => exact (h s a).trans (ih _)

theorem foldAct {α : Type} {f : Acting → α → Acting} (h : ∀ x a, WindsDown x.1 (f x a).1) (as : List α) (x : Acting) :
    WindsDown x.1 (as.foldl f x).1 := by
  induction as generalizing x with
  | nil => exact refl x.1
  | cons a as ih => exact (h x a).trans (ih _)

theorem rewant (l : Nat) (s : State) : WindsDown s (rewant l s) :=
  of_rewords (keeps_rewant l s) ((issues_rewant l s).mono fun _ => .inr) (.rewant l s)

theorem modTk (f : Tk → Tk) (hlen : (f s.tk).stations.length = s.tk.stations.length)
    (hst : ∀ y, ((s.modTk f).station y).still = (s.station y).still) : WindsDown s (s.modTk f) :=
  ⟨(keeps_modTk s f).mono (by decide), .units rfl, hlen, hst⟩

theorem station_mapped (f : Station → Station) (hf : ∀ x, (f x).still = x.still) (xs : List Station) (y : Nat) :
    (slot Station.undefined (xs.map f) y).still = (slot Station.undefined xs y).still := by
  have hmap (zs : List Station) : (slot Station.undefined zs y).still = slot Station.undefined.still (zs.map Station.still) y :=
    (slot_map Station.still Station.undefined zs y).symm
  rw [hmap, hmap, List.map_map, funext (f := Station.still ∘ f) hf]

theorem silenced (s : State) : WindsDown s s.silenced :=
  modTk _ (List.length_map _) fun y => station_mapped Station.keysOff (fun _ => rfl) s.tk.stations y

theorem orderBreak (a d : Nat) (x : Acting) : WindsDown x.1 (orderBreak a d x).1 :=
  of_quiet (keeps_orderBreak a d x) (issues_orderBreak a d x) (quiet_orderBreak a d x)

theorem breakAll (rs : List Route) (x : Acting) : WindsDown x.1 (breakAll rs x).1 :=
  foldAct (fun x d => foldAct (fun x a => orderBreak a d x) _ x) _ x

theorem broken (s : State) : WindsDown s s.broken.1 := (silenced s).trans (breakAll s.tk.routes (s.silenced, []))

theorem stopDim (x : Acting) (t : Nat) : WindsDown x.1 (stopDim x t).1 := by
  unfold Machine.stopDim
  split
  · exact of_quiet (keeps_orderDim t 0 x) (issues_orderDim t 0 x) (quiet_orderDim t 0 x)
  · exact refl x.1

theorem orderLamp (t : Nat) (x : Acting) : WindsDown x.1 (orderLamp t x).1 :=
  of_quiet (keeps_orderLamp t x) (issues_orderLamp t x) (quiet_orderLamp t x)

theorem dims (x : Acting) : WindsDown x.1 ((oneUpTo Config.stations).foldl Machine.stopDim x).1 := foldAct stopDim _ x

theorem stopOrders (x : Acting) : WindsDown x.1 (stopOrders x).1 := (dims x).trans (foldAct (fun x t => orderLamp t x) _ _)

theorem reported (x : Acting) : WindsDown x.1 (reported x) := of_quiet (keeps_reported x) (issues_reported x) (quiet_reported x)

theorem endPulse (d : Nat) (s : State) : WindsDown s (endPulse d s) := by
  have hpulse : WindsDown s (s.modStation d fun x => { x with pulseEnd := none }) :=
    modTk _ (modSlot_length ..) fun y => slot_modSlot_field Station.still _ (fun x => { x with pulseEnd := none }) _ d y fun _ => rfl
  refine hpulse.trans (foldl (fun s l => ?_) _ _)
  split
  · exact rewant l s
  · exact refl s

theorem stopPulses (resolved : Bool) (s : State) : WindsDown s (stopPulses resolved s) := by
  unfold Machine.stopPulses
  split
  · refine foldl (fun s t => ?_) _ s
    split
    · exact endPulse t s
    · exact refl s
  · exact modTk _ (List.length_map _) fun y => station_mapped (fun x => { x with pulseEnd := none }) (fun _ => rfl) s.tk.stations y

theorem tkStop (resolved : Bool) (s : State) : WindsDown s (tkStop resolved s) :=
  ((broken s).trans (stopPulses resolved _)).trans ((stopOrders (Machine.stopPulses resolved s.broken.1, s.broken.2)).trans (reported _))

theorem rewantAll (s : State) : WindsDown s (rewantAll s) := foldl (fun s l => rewant l s) _ s

theorem ftb (h : WindsDown s t) : t.ftb = s.ftb := h.keeps .ftb (by decide)
theorem now (h : WindsDown s t) : t.now = s.now := congrArg Ftb.counter h.ftb
theorem link (h : WindsDown s t) (l : Nat) : (t.link l).core = (s.link l).core := linkCore_of_same (h.keeps .links (by decide)) l
theorem cfg (h : WindsDown s t) (l : Nat) : (t.link l).cfg = (s.link l).cfg := (congrArg Link.cfg (h.link l) :)
theorem state (h : WindsDown s t) (l : Nat) : (t.link l).state = (s.link l).state := (congrArg Link.state (h.link l) :)
theorem length_links (h : WindsDown s t) : t.links.length = s.links.length := length_of_links (h.keeps .links (by decide))
theorem length_units (h : WindsDown s t) : t.units.length = s.units.length := h.issues.length_units

end WindsDown

/-! ## Keys, routes and pulses -/

/-- A key at rest (R184). -/
def Key.atRest (k : Key) : Key := { k with state := .off, pressed := false, tapDeadline := none }

/-- No route is left, and every key of every station is at rest. -/
structure Hushed (s t : State) : Prop where
  routes : t.tk.routes = []
  keys : ∀ y, (t.station y).keys = (s.station y).keys.map Key.atRest

/-- No call pulse runs. -/
def Pulseless (s : State) : Prop := ∀ y, (s.station y).pulseEnd = none

section hushed
variable {s t u : State}

theorem Hushed.rewords (h : Hushed s t) (k : Rewords t u) : Hushed s u := by
  refine ⟨?_, fun y => (k.keys y).trans (h.keys y)⟩
  have hroutes := k.routes
  rw [h.routes] at hroutes
  exact List.map_eq_nil_iff.1 hroutes

theorem Hushed.stations (h : Hushed s t) (hr : u.tk.routes = t.tk.routes) (hk : ∀ y, (u.station y).keys = (t.station y).keys) : Hushed s u :=
  ⟨hr.trans h.routes, fun y => (hk y).trans (h.keys y)⟩

theorem Pulseless.rewords (h : Pulseless s) (k : Rewords s t) : Pulseless t := fun y => (k.pulseEnd y).trans (h y)

theorem hushed_silenced (s : State) : Hushed s s.silenced := by
  refine ⟨rfl, fun y => ?_⟩
  have hslot : s.silenced.station y = (s.station y).keysOff := slot_map Station.keysOff Station.undefined s.tk.stations y
  rw [hslot]
  rfl

theorem quiet_breakAll (rs : List Route) (x : Acting) : Quiet x.1 (breakAll rs x).1 :=
  .foldAct _ (fun x d => .foldAct _ (fun x a => quiet_orderBreak a d x) _ x) _ x

theorem quiet_stopOrders (x : Acting) : Quiet x.1 (stopOrders x).1 :=
  (Quiet.foldAct _ quiet_stopDim _ x).trans (.foldAct _ (fun x t => quiet_orderLamp t x) _ _)

theorem hushed_broken (s : State) : Hushed s s.broken.1 := (hushed_silenced s).rewords (.of_quiet (quiet_breakAll s.tk.routes (s.silenced, [])))

/-- The end of a pulse, and then words made anew (R144, R169). -/
theorem rewords_endPulse (d : Nat) (s : State) : Rewords (s.modStation d fun x => { x with pulseEnd := none }) (endPulse d s) :=
  .foldl (fun s l => .ite (.rewant l s) (.refl s)) _ _

theorem pulse_endPulse (d : Nat) (s : State) : ((endPulse d s).station d).pulseEnd = none ∧
    ∀ y, y ≠ d → ((endPulse d s).station y).pulseEnd = (s.station y).pulseEnd := by
  refine ⟨((rewords_endPulse d s).pulseEnd d).trans ?_, fun y hy => ((rewords_endPulse d s).pulseEnd y).trans (congrArg Station.pulseEnd (slot_modSlot_other _ _ _ hy.symm))⟩
  by_cases hd : 1 ≤ d ∧ d ≤ s.tk.stations.length
  · exact congrArg Station.pulseEnd (slot_modSlot_self _ _ _ hd.1 hd.2)
  · rw [station_beyond fun h => hd ⟨h.1, h.2.trans_eq (modSlot_length ..)⟩]
    rfl

theorem hushed_endPulse (h : Hushed s t) (d : Nat) : Hushed s (endPulse d t) := by
  have hpulse : Hushed s (t.modStation d fun x => { x with pulseEnd := none }) := h.stations rfl fun y =>
    slot_modSlot_field Station.keys _ (fun x => { x with pulseEnd := none }) _ d y fun _ => rfl
  exact hpulse.rewords (rewords_endPulse d t)

/-- One pulse after another ends. -/
theorem stopPulses_true (s : State) :
    stopPulses true s = (oneUpTo Config.stations).foldl (fun s t => if s.called t then endPulse t s else s) s := rfl

theorem hushed_stopPulses (h : Hushed s t) (resolved : Bool) : Hushed s (stopPulses resolved t) := by
  cases resolved with
  | true =>
    rw [stopPulses_true]
    refine List.foldlRecOn _ _ h fun u hu d _ => ?_
    split
    · exact hushed_endPulse hu d
    · exact hu
  | false =>
    refine h.stations (u := stopPulses false t) rfl fun y => ?_
    exact (congrArg Station.keys (slot_map (fun x : Station => { x with pulseEnd := none }) Station.undefined t.tk.stations y) :)

theorem pulseless_stopPulses (hlen : s.tk.stations.length = 24) (resolved : Bool) : Pulseless (stopPulses resolved s) := by
  cases resolved with
  | false =>
    intro y
    exact congrArg Station.pulseEnd (slot_map (fun x : Station => { x with pulseEnd := none }) Station.undefined s.tk.stations y)
  | true =>
    have hfold (ts : List Nat) (s : State) (h : ∀ y, y ∈ ts ∨ (s.station y).pulseEnd = none) :
        Pulseless (ts.foldl (fun s t => if s.called t then endPulse t s else s) s) := by
      induction ts generalizing s with
      | nil => exact fun y => (h y).resolve_left List.not_mem_nil
      | cons d ts ih =>
        rw [List.foldl_cons]
        refine ih _ fun y => ?_
        by_cases hd : y = d
        · subst hd
          right
          split
          · exact (pulse_endPulse y s).1
          next hno => exact Option.not_isSome_iff_eq_none.1 hno
        · refine (h y).imp (fun hy => (List.mem_cons.1 hy).resolve_left hd) fun hnone => ?_
          split
          · exact ((pulse_endPulse d s).2 y hd).trans hnone
          · exact hnone
    rw [stopPulses_true]
    refine hfold _ s fun y => ?_
    by_cases hy : 1 ≤ y ∧ y ≤ 24
    · exact .inl (mem_oneUpTo.2 hy)
    · right
      rw [station_beyond (by rw [hlen]; exact hy)]
      rfl

/-- What the Talk Router leaves at STOP: no route, no key that talks, no pulse (R184). -/
theorem tkStop_hushes (hlen : s.tk.stations.length = 24) (resolved : Bool) : Hushed s (tkStop resolved s) ∧ Pulseless (tkStop resolved s) := by
  have hbroken : s.broken.1.tk.stations.length = 24 := (WindsDown.broken s).length.trans hlen
  have hends : Rewords (stopPulses resolved s.broken.1) (tkStop resolved s) := .of_quiet
    ((quiet_stopOrders (stopPulses resolved s.broken.1, s.broken.2)).trans (quiet_reported _))
  exact ⟨(hushed_stopPulses (hushed_broken s) resolved).rewords hends, (pulseless_stopPulses hbroken resolved).rewords hends⟩

end hushed

end Sys2Proof.Machine

/-! The Tally Resolver at STOP: the resolution of nothing, and the words that it sends (R143 to R147, R154). -/

namespace Sys2Proof.Machine

-- One theorem at a time: all at once, their threads together outgrow the memory limit of the check.
set_option Elab.async false

/-! ## The resolution of an all-inactive snapshot -/

section dark
variable {r : Tr}

theorem activeEntries_clearSnap : r.clearSnap.activeEntries = [] := by
  have hactive (i : TallyInput) : r.clearSnap.inputActive i = false := by
    cases i <;> exact slot_replicate false Config.inputs _
  rw [Tr.activeEntries, List.filterMap_eq_nil_iff]
  intro e _
  cases e with
  | none => rfl
  | some m => exact if_neg (by rw [hactive]; exact Bool.false_ne_true)

/-- Nothing is active: every tally is OFF, and no zone is on air (R143, R154). -/
theorem resolve_clearSnap : r.clearSnap.resolve = { r.clearSnap with
    linkTally := List.replicate 48 .off, lampTally := List.replicate 16 .off, zones := r.zones.map fun z => { z with onAir := false } } := by
  have hzones : (r.zones.zipIdx.map fun (z, _) => ({ z with onAir := false } : Zone)) = r.zones.map fun z => { z with onAir := false } := by
    conv_rhs => rw [← List.zipIdx_map_fst 0 r.zones, List.map_map]
    rfl
  unfold Tr.resolve
  rw [activeEntries_clearSnap]
  dsimp only [List.filter_nil, List.any_nil]
  rw [show r.clearSnap.zones = r.zones from rfl, hzones]
  rfl

end dark

/-- The state in which the words are made anew. -/
def State.darkened (s : State) : State := s.modTr fun r => r.clearSnap.resolve

theorem stopTally_eq (s : State) : stopTally s = rewantAll s.darkened := rfl

theorem linkTally_darkened (s : State) (l : Nat) : slot .off s.darkened.tr.linkTally l = .off := by
  rw [State.darkened, State.modTr_tr, resolve_clearSnap]
  exact slot_replicate _ _ _

/-! ## Words that agree with the pulses -/

/-- Every link wants the word that the tallies and the pulses give (R144). -/
def Worded (s : State) : Prop := ∀ l, 1 ≤ l → l ≤ 48 → (s.link l).wanted = s.wantedWord l

section worded
variable {s t : State}

theorem worded_rewantAll (hlen : s.links.length = 48) : Worded (rewantAll s) := by
  obtain ⟨hframe, hwords⟩ := rewants_words (s := s) (fun _ => True) (oneUpTo Config.links) fun l hl => hlen ▸ mem_oneUpTo.1 hl
  have heach : (oneUpTo Config.links).foldl (fun s l => if True then rewant l s else s) s = rewantAll s := rfl
  rw [heach] at hframe hwords
  intro l hl hl'
  rw [hwords l, if_pos ⟨mem_oneUpTo.2 ⟨hl, hl'⟩, trivial⟩, hframe.wantedWord]

theorem Worded.quiet (h : Worded s) (k : Quiet s t) : Worded t := fun l hl hl' => by
  rw [(Rewords.of_quiet k).wantedWord, k.wanted]
  exact h l hl hl'

/-- A link of another station wants the same whether the pulse runs or not. -/
theorem wantedWord_pulse {l d : Nat} (h : (s.link l).cfg.station ≠ some d) :
    (s.modStation d fun x => { x with pulseEnd := none }).wantedWord l = s.wantedWord l := by
  have hcalled : ∀ y, (s.link l).cfg.station = some y → (s.modStation d fun x => { x with pulseEnd := none }).called y = s.called y := by
    intro y hy
    have hyd : d ≠ y := fun hd => h (hd ▸ hy)
    exact congrArg (fun x : Station => x.pulseEnd.isSome) (slot_modSlot_other _ _ _ hyd)
  show (⟨_, (s.link l).cfg.station.any _⟩ : TallyWord) = ⟨_, (s.link l).cfg.station.any _⟩
  cases hst : (s.link l).cfg.station with
  | none => rfl
  | some y => exact congrArg (TallyWord.mk _) (hcalled y hst)

theorem Worded.endPulse (h : Worded s) (hlen : s.links.length = 48) (d : Nat) : Worded (endPulse d s) := by
  obtain ⟨hframe, hwords⟩ := rewantStation_words (s := s.modStation d fun x => { x with pulseEnd := none }) hlen d
  intro l hl hl'
  unfold Machine.endPulse
  rw [hwords l hl hl', hframe.wantedWord]
  split
  · rfl
  next hst => exact (h l hl hl').trans (wantedWord_pulse (s := s) hst).symm

theorem Worded.stopPulses (h : Worded s) (hlen : s.links.length = 48) : Worded (stopPulses true s) := by
  rw [stopPulses_true]
  refine (List.foldlRecOn (motive := fun u => Worded u ∧ u.links.length = 48) _ _ ⟨h, hlen⟩ fun u hu d _ => ?_).1
  split
  · exact ⟨hu.1.endPulse hu.2 d, (WindsDown.endPulse d u).length_links.trans hu.2⟩
  · exact hu

theorem wantedWord_pulseless (h : Pulseless s) {l : Nat} (htally : slot .off s.tr.linkTally l = .off) : s.wantedWord l = ⟨.off, false⟩ := by
  have hcalled : s.called = fun _ => false := funext fun y => congrArg Option.isSome (h y)
  rw [State.wantedWord, htally, hcalled]
  cases (s.link l).cfg.station <;> rfl

end worded

/-! ## A camera that is sent its word -/

/-- A camera in service has no order and no retry, and the word delivered is that of `k` (R145). -/
structure Unsent (k x : Link) : Prop where
  order : x.tallyOrder = none
  retry : x.retryAt = none
  delivered : x.delivered = k.delivered
  kind : x.cfg.kind = some .camera
  station : x.cfg.station = k.cfg.station
  state : x.state = .locked ∨ x.state = .fading

section unsent
variable {s t : State} {l : Nat} {k : Link}

theorem Unsent.reworded {x : Link} (h : Unsent k x) (w : TallyWord) : Unsent k { x with wanted := w } :=
  ⟨h.order, h.retry, h.delivered, h.kind, h.station, h.state⟩

theorem Unsent.quiet (h : Unsent k (s.link l)) (q : Quiet s t) : Unsent k (t.link l) := by
  have hbare := q.link l
  have hcfg : (t.link l).cfg = (s.link l).cfg := (congrArg Link.cfg hbare :)
  have hstate : (t.link l).state = (s.link l).state := (congrArg Link.state hbare :)
  obtain ⟨ho, hr⟩ := (q.tallies l).resolve_right fun hne => hne h.order
  exact ⟨ho.trans h.order, hr.trans h.retry, (q.delivered l).trans h.delivered, hcfg ▸ h.kind, hcfg ▸ h.station, hstate ▸ h.state⟩

theorem rewant_alone {m : Nat} (hm : l ≠ m) : (rewant m s).link l = s.link l :=
  ((deliveryTest_alone m _).2 l hm).trans (slot_modSlot_other _ _ _ hm.symm)

/-- A delivery test that passes sends the word, or sets its retry. -/
theorem deliveryTest_watched (hl : 1 ≤ l) (hl' : l ≤ s.links.length) (h : (s.link l).deliverable = true) :
    ∃ id, TallyWatch true l { id := id, word := (s.link l).wanted, issueFrame := s.now } (deliveryTest l s) := by
  unfold deliveryTest
  dsimp only
  rw [if_pos h]
  generalize hr : issue (s.link l).cfg.unit (.tally (s.link l).cfg.channel (s.link l).wanted) (.tr l) s = r
  obtain ⟨hlinks, -⟩ : r.state.links = s.links ∧ r.state.tk = s.tk := hr ▸ issue_tally_links _ _ _ _ s
  have hsent : TallyWatch true l { id := r.id, word := (s.link l).wanted, issueFrame := s.now }
      (r.state.modLink l fun k' => { k' with tallyOrder := some { id := r.id, word := (s.link l).wanted, issueFrame := s.now } }) :=
    .inl ⟨rfl, congrArg Link.tallyOrder (link_modLink_self hl (by rw [hlinks]; exact hl') _)⟩
  refine ⟨r.id, ?_⟩
  split
  · exact hsent.tallyFailed l r.id
  · exact hsent

theorem Unsent.sends (h : Unsent k (s.link l)) (hl : 1 ≤ l) (hl' : l ≤ s.links.length) (hne : k.delivered ≠ some (s.wantedWord l)) :
    ∃ id, TallyWatch true l { id := id, word := s.wantedWord l, issueFrame := s.now } (rewant l s) := by
  have hself : (s.modLink l fun k => { k with wanted := s.wantedWord l }).link l = { s.link l with wanted := s.wantedWord l } :=
    link_modLink_self hl hl' _
  have htest := deliveryTest_watched (s := s.modLink l fun k => { k with wanted := s.wantedWord l }) hl (hl'.trans_eq (modSlot_length ..).symm)
    (by rw [deliverable_iff, hself]; exact ⟨h.kind, h.state, h.order, h.retry, fun hd => hne (h.delivered.symm.trans hd)⟩)
  rw [hself] at htest
  exact htest

/-- A word delivered already is not sent. -/
theorem Unsent.rests (h : Unsent k (s.link l)) (hl : 1 ≤ l) (hl' : l ≤ s.links.length) (heq : k.delivered = some (s.wantedWord l)) :
    Unsent k ((rewant l s).link l) := by
  have hself : (s.modLink l fun k => { k with wanted := s.wantedWord l }).link l = { s.link l with wanted := s.wantedWord l } :=
    link_modLink_self hl hl' _
  have hrests : rewant l s = s.modLink l fun k => { k with wanted := s.wantedWord l } := deliveryTest_rests (by
    refine Bool.eq_false_iff.2 fun hd => ?_
    obtain ⟨-, -, -, -, hne⟩ := (deliverable_iff _).1 hd
    rw [hself] at hne
    exact hne (h.delivered.trans heq))
  rw [hrests, hself]
  exact h.reworded _

/-- An order sent goes on past the words of every link, or fails. -/
theorem TallyWatch.rewant {x : TallyOrder} (h : TallyWatch true l x s) (m : Nat) : TallyWatch true l x (rewant m s) := by
  have hword : TallyWatch true l x (s.modLink m fun k => { k with wanted := s.wantedWord m }) := by
    rw [TallyWatch, show ((s.modLink m fun k => { k with wanted := s.wantedWord m }).link l).tallyOrder = (s.link l).tallyOrder from
      slot_modSlot_field Link.tallyOrder _ (fun k => { k with wanted := s.wantedWord m }) _ m l fun _ => rfl,
      show ((s.modLink m fun k => { k with wanted := s.wantedWord m }).link l).retryAt = (s.link l).retryAt from
      slot_modSlot_field Link.retryAt _ (fun k => { k with wanted := s.wantedWord m }) _ m l fun _ => rfl]
    exact h
  unfold Machine.rewant
  generalize s.modLink m (fun k => { k with wanted := s.wantedWord m }) = u at hword ⊢
  by_cases hm : l = m
  · subst hm
    rw [deliveryTest_rests]
    · exact hword
    · refine Bool.eq_false_iff.2 fun hd => ?_
      obtain ⟨-, -, hnone, hretry, -⟩ := (deliverable_iff _).1 hd
      obtain ⟨-, ho⟩ | ⟨-, hr⟩ := hword
      · exact Option.some_ne_none _ (ho.symm.trans hnone)
      · exact Option.some_ne_none _ (hr.symm.trans hretry)
  · rw [TallyWatch, (deliveryTest_alone m u).2 l hm]
    exact hword

/-- The words of the links of a sort leave a link that is not among them, or that has its word. -/
theorem Unsent.rewants (h : Unsent k (s.link l)) (hl : 1 ≤ l) (hl' : l ≤ s.links.length) (c : LinkConfig → Prop) [DecidablePred c] (xs : List Nat)
    (hrest : ¬ c (s.link l).cfg ∨ k.delivered = some (s.wantedWord l)) :
    Unsent k ((xs.foldl (fun s l => if c (s.link l).cfg then rewant l s else s) s).link l) := by
  induction xs generalizing s with
  | nil => exact h
  | cons m xs ih =>
    have hstep : Rewords s (if c (s.link m).cfg then Machine.rewant m s else s) := .ite (.rewant m s) (.refl s)
    rw [List.foldl_cons]
    refine ih ?_ (hl'.trans_eq hstep.length_links.symm) (by rw [hstep.cfg, hstep.wantedWord]; exact hrest)
    split
    next hc =>
      by_cases hm : l = m
      · subst hm
        exact h.rests hl hl' (hrest.resolve_left fun hno => hno hc)
      · rw [rewant_alone hm]
        exact h
    next => exact h

theorem TallyWatch.rewants {x : TallyOrder} (h : TallyWatch true l x s) (c : LinkConfig → Prop) [DecidablePred c] (xs : List Nat) :
    TallyWatch true l x (xs.foldl (fun s l => if c (s.link l).cfg then Machine.rewant l s else s) s) := by
  refine List.foldlRecOn xs _ h fun u hu m _ => ?_
  split
  · exact hu.rewant m
  · exact hu

/-- A link among them is sent the word it then wants. -/
theorem Unsent.sent (h : Unsent k (s.link l)) (hl : 1 ≤ l) (hl' : l ≤ s.links.length) (c : LinkConfig → Prop) [DecidablePred c] {xs : List Nat}
    (hmem : l ∈ xs) (hc : c (s.link l).cfg) (hne : k.delivered ≠ some (s.wantedWord l)) :
    ∃ id, TallyWatch true l { id := id, word := s.wantedWord l, issueFrame := s.now }
      (xs.foldl (fun s l => if c (s.link l).cfg then Machine.rewant l s else s) s) := by
  induction xs generalizing s with
  | nil => cases hmem
  | cons m xs ih =>
    rw [List.foldl_cons]
    by_cases hm : l = m
    · subst hm
      rw [if_pos hc]
      obtain ⟨id, hid⟩ := h.sends hl hl' hne
      exact ⟨id, hid.rewants c xs⟩
    · have hstep : Rewords s (if c (s.link m).cfg then Machine.rewant m s else s) := .ite (.rewant m s) (.refl s)
      have hlink : (if c (s.link m).cfg then Machine.rewant m s else s).link l = s.link l := by
        split
        · exact rewant_alone hm
        · rfl
      have hnow : (if c (s.link m).cfg then Machine.rewant m s else s).now = s.now := congrArg Ftb.counter hstep.ftb
      have hrest := ih (s := if c (s.link m).cfg then Machine.rewant m s else s) (by rw [hlink]; exact h) (hl'.trans_eq hstep.length_links.symm)
        ((List.mem_cons.1 hmem).resolve_left hm) (by rw [hlink]; exact hc) (by rw [hstep.wantedWord]; exact hne)
      rw [hstep.wantedWord, hnow] at hrest
      exact hrest

/-! ### The words of STOP -/

theorem Unsent.rewantAll (h : Unsent k (s.link l)) (hl : 1 ≤ l) (hl' : l ≤ 48) (hlen : s.links.length = 48)
    (hne : k.delivered ≠ some (s.wantedWord l)) :
    ∃ id, TallyWatch true l { id := id, word := s.wantedWord l, issueFrame := s.now } (rewantAll s) :=
  h.sent hl (hl'.trans_eq hlen.symm) (fun _ => True) (mem_oneUpTo.2 ⟨hl, hl'⟩) trivial hne

theorem TallyWatch.endPulse {x : TallyOrder} (h : TallyWatch true l x s) (d : Nat) : TallyWatch true l x (endPulse d s) :=
  TallyWatch.rewants (s := s.modStation d fun x => { x with pulseEnd := none }) h (fun c => c.station = some d) _

theorem TallyWatch.stopPulses {x : TallyOrder} (h : TallyWatch true l x s) : TallyWatch true l x (stopPulses true s) := by
  rw [stopPulses_true]
  refine List.foldlRecOn _ _ h fun u hu d _ => ?_
  split
  · exact hu.endPulse d
  · exact hu

/-- The end of its station's pulse sends a camera OFF which had CALL alone (R144). -/
theorem Unsent.endPulse (h : Unsent k (s.link l)) (hl : 1 ≤ l) (hl' : l ≤ 48) (hlen : s.links.length = 48) {d : Nat}
    (hst : k.cfg.station = some d) (htally : slot .off s.tr.linkTally l = .off) (hdel : k.delivered = some ⟨.off, true⟩) :
    ∃ id, TallyWatch true l { id := id, word := ⟨.off, false⟩, issueFrame := s.now } (Machine.endPulse d s) := by
  let u := s.modStation d fun x => { x with pulseEnd := none }
  have hstation : (u.link l).cfg.station = some d := h.station.trans hst
  have hpulse : u.called d = false := congrArg Option.isSome (((rewords_endPulse d s).pulseEnd d).symm.trans (pulse_endPulse d s).1)
  have hword : u.wantedWord l = ⟨.off, false⟩ := by
    rw [State.wantedWord, hstation, Option.any_some, hpulse]
    exact congrArg (TallyWord.mk · false) htally
  have hsent := Unsent.sent (s := u) h hl (hl'.trans_eq hlen.symm) (fun c => c.station = some d) (xs := oneUpTo Config.links)
    (mem_oneUpTo.2 ⟨hl, hl'⟩) hstation (by rw [hword, hdel]; decide)
  rw [hword] at hsent
  exact hsent

theorem Unsent.endPulses (h : Unsent k (s.link l)) (hl : 1 ≤ l) (hl' : l ≤ 48) (hlen : s.links.length = 48) {d : Nat} {ds : List Nat}
    (hd : d ∈ ds) (hst : k.cfg.station = some d) (hcalled : s.called d = true) (htally : slot .off s.tr.linkTally l = .off)
    (hdel : k.delivered = some ⟨.off, true⟩) :
    ∃ id, TallyWatch true l { id := id, word := ⟨.off, false⟩, issueFrame := s.now }
      (ds.foldl (fun s t => if s.called t then Machine.endPulse t s else s) s) := by
  induction ds generalizing s with
  | nil => cases hd
  | cons e ds ih =>
    rw [List.foldl_cons]
    by_cases he : d = e
    · subst he
      rw [if_pos hcalled]
      obtain ⟨id, hid⟩ := h.endPulse hl hl' hlen hst htally hdel
      refine ⟨id, List.foldlRecOn ds _ hid fun u hu d _ => ?_⟩
      split
      · exact hu.endPulse d
      · exact hu
    split
    next =>
      have hwinds := WindsDown.endPulse e s
      have htr : (Machine.endPulse e s).tr = s.tr := hwinds.keeps .tr (by decide)
      have hpulse : (Machine.endPulse e s).called d = s.called d := congrArg Option.isSome ((pulse_endPulse e s).2 d he)
      have hother : Unsent k ((Machine.endPulse e s).link l) := Unsent.rewants (s := s.modStation e fun x => { x with pulseEnd := none }) h hl
        (hl'.trans_eq hlen.symm) (fun c => c.station = some e) _ (.inl fun hc => he (Option.some.inj ((h.station.trans hst).symm.trans hc)))
      have hrest := ih hother (hwinds.length_links.trans hlen) ((List.mem_cons.1 hd).resolve_left he) (hpulse.trans hcalled) (by rw [htr]; exact htally)
      rw [hwinds.now] at hrest
      exact hrest
    next => exact ih h hlen ((List.mem_cons.1 hd).resolve_left he) hcalled htally

end unsent

end Sys2Proof.Machine

/-! The orders of STOP: breaks, DIMs, and the word of every camera (R144, R147, R154, R184). -/

namespace Sys2Proof.Machine

-- One theorem at a time: all at once, their threads together outgrow the memory limit of the check.
set_option Elab.async false

/-! ## What stands along the Talk Router's orders -/

namespace Rides
variable {I : State → Prop} (k : Rides I) {x : Acting}
include k

theorem breakAll (h : Along I (fun _ => True) x) (rs : List Route) : Along I (fun _ => True) (breakAll rs x) :=
  h.foldl _ fun _ d _ hy => hy.foldl _ fun z a _ hz => k.orderBreak a d z hz

theorem stopDim (h : Along I (fun _ => True) x) (t : Nat) : Along I (fun _ => True) (stopDim x t) := by
  unfold Machine.stopDim
  split
  · exact k.orderDim t 0 x h
  · exact h

theorem stopOrders (h : Along I (fun _ => True) x) : Along I (fun _ => True) (stopOrders x) :=
  (h.foldl (f := Machine.stopDim) _ fun _ t _ hy => k.stopDim hy t).foldl _ fun y t _ hy => k.orderLamp t y hy

end Rides

section ends
variable {s : State} {l : Nat} {k : Link} {z : TallyOrder} {x : Acting}

/-- An order sent goes on past the Talk Router's orders, or fails. -/
theorem TallyWatch.ends (h : TallyWatch true l z x.1) : TallyWatch true l z (reported (stopOrders x)) :=
  ((rides_tally true l z).stopOrders ⟨h, fun _ _ => trivial⟩).reported (lets_tally true l z)

theorem TallyWatch.broken (h : TallyWatch true l z s) : TallyWatch true l z s.broken.1 := by
  have hsilenced : TallyWatch true l z s.silenced := h
  rw [broken_eq]
  exact ((rides_tally true l z).breakAll (.start hsilenced) s.tk.routes).now

theorem TallyWatch.tkStop (h : TallyWatch true l z s) : TallyWatch true l z (tkStop true s) := by
  have hbroken := h.broken
  rw [tkStop_eq]
  have hended := hbroken.stopPulses
  generalize Machine.stopPulses true s.broken.1 = u at hended ⊢
  exact TallyWatch.ends (x := (u, s.broken.2)) hended

theorem Unsent.ends (h : Unsent k (x.1.link l)) : Unsent k ((reported (stopOrders x)).link l) :=
  h.quiet ((quiet_stopOrders x).trans (quiet_reported _))

theorem Unsent.broken (h : Unsent k (s.link l)) : Unsent k (s.broken.1.link l) :=
  Unsent.quiet (s := s.silenced) h (quiet_breakAll s.tk.routes (s.silenced, []))

theorem Unsent.tkStop (h : Unsent k (s.link l)) : Unsent k ((tkStop false s).link l) := by
  have hbroken := h.broken
  rw [tkStop_eq]
  generalize s.broken = x at hbroken ⊢
  exact Unsent.ends (x := (Machine.stopPulses false x.1, x.2)) hbroken

theorem called_broken (s : State) (d : Nat) : s.broken.1.called d = s.called d := by
  have hbreaks : Rewords s.silenced s.broken.1 := .of_quiet (quiet_breakAll s.tk.routes (s.silenced, []))
  have hkeys : (s.silenced.station d).pulseEnd = (s.station d).pulseEnd :=
    (congrArg Station.pulseEnd (slot_map Station.keysOff Station.undefined s.tk.stations d) :)
  rw [State.called, hbreaks.pulseEnd, hkeys]
  rfl

end ends

/-! ## The word of a camera -/

/-- The Talk Router and the Tally Resolver at STOP, in one order or the other (R154). -/
def stopTalkTally (tkFirst : Bool) (s : State) : State :=
  if tkFirst then stopTally (tkStop false s) else tkStop true (stopTally s)

/-- The word that STOP sends a camera: CALL where its pulse ends after the resolution, and it has not CALL already (R154). -/
def State.stopWord (s : State) (tkFirst : Bool) (l : Nat) : TallyWord :=
  ⟨.off, !tkFirst && (s.link l).cfg.station.any s.called && decide ((s.link l).delivered ≠ some ⟨.off, true⟩)⟩

/-- An order of that word has been sent, or is to be retried. -/
def WordSent (l : Nat) (w : TallyWord) (n : FrameNo) (s : State) : Prop :=
  ∃ id, TallyWatch true l { id := id, word := w, issueFrame := n } s

section word
variable {s : State} {l : Nat} {k : Link}

/-- The pulses ended unresolved: the resolution sends the word without CALL. -/
theorem word_talk_first (hlinks : s.links.length = 48) (hstations : s.tk.stations.length = 24) (hl : 1 ≤ l) (hl' : l ≤ 48)
    (h : Unsent k (s.link l)) (hne : k.delivered ≠ some ⟨.off, false⟩) : WordSent l ⟨.off, false⟩ s.now (stopTally (tkStop false s)) := by
  have hended := h.tkStop
  have hwinds := WindsDown.tkStop false s
  obtain ⟨-, hpulses⟩ := tkStop_hushes hstations false
  rw [← hwinds.now, stopTally_eq]
  have hlen := hwinds.length_links.trans hlinks
  generalize tkStop false s = u at hended hpulses hlen ⊢
  have hword : u.darkened.wantedWord l = ⟨.off, false⟩ := wantedWord_pulseless (s := u.darkened) (fun y => hpulses y) (linkTally_darkened u l)
  have hsent := Unsent.rewantAll (s := u.darkened) hended hl hl' hlen (by rw [hword]; exact hne)
  rw [hword] at hsent
  exact hsent

/-- A camera that has CALL is sent OFF at the end of its pulse. -/
theorem word_of_pulse (hlinks : s.links.length = 48) (hstations : s.tk.stations.length = 24) (hl : 1 ≤ l) (hl' : l ≤ 48)
    (h : Unsent k (s.link l)) (htally : slot .off s.tr.linkTally l = .off) (hcall : k.cfg.station.any s.called = true)
    (hdel : k.delivered = some ⟨.off, true⟩) : WordSent l ⟨.off, false⟩ s.now (tkStop true s) := by
  obtain ⟨d, hst, hcalled⟩ := (Option.any_eq_true _ _).1 hcall
  have hin : 1 ≤ d ∧ d ≤ 24 := by
    by_contra hno
    rw [State.called, station_beyond (by rw [hstations]; exact hno)] at hcalled
    cases hcalled
  have hwinds := WindsDown.broken s
  have htr : s.broken.1.tr = s.tr := hwinds.keeps .tr (by decide)
  obtain ⟨id, hid⟩ := Unsent.endPulses (s := s.broken.1) (ds := oneUpTo Config.stations) h.broken hl hl' (hwinds.length_links.trans hlinks) (mem_oneUpTo.2 hin) hst ((called_broken s d).trans hcalled)
    (by rw [htr]; exact htally) hdel
  rw [hwinds.now] at hid
  rw [tkStop_eq]
  rw [← stopPulses_true] at hid
  generalize stopPulses true s.broken.1 = u at hid ⊢
  exact ⟨id, TallyWatch.ends (x := (u, s.broken.2)) hid⟩

/-- The resolution comes first: it sends the word with CALL where a pulse still runs, but for a camera that has it. -/
theorem word_tally_first (hlinks : s.links.length = 48) (hstations : s.tk.stations.length = 24) (hl : 1 ≤ l) (hl' : l ≤ 48)
    (h : Unsent (s.link l) (s.link l)) (hne : (s.link l).delivered ≠ some ⟨.off, false⟩) :
    WordSent l (s.stopWord false l) s.now (tkStop true (stopTally s)) := by
  have hword : s.darkened.wantedWord l = ⟨.off, (s.link l).cfg.station.any s.called⟩ := congrArg (TallyWord.mk · _) (linkTally_darkened s l)
  have hwinds : WindsDown s.darkened (stopTally s) := .rewantAll s.darkened
  have hsame : s.darkened.now = s.now := rfl
  by_cases hhas : (s.link l).delivered = some ⟨.off, (s.link l).cfg.station.any s.called⟩
  · have hcall : (s.link l).cfg.station.any s.called = true := by
      by_contra hno
      rw [Bool.eq_false_iff.2 hno] at hhas
      exact hne hhas
    rw [hcall] at hhas
    have hfinal : s.stopWord false l = ⟨.off, false⟩ := by
      rw [State.stopWord, hhas, hcall]
      rfl
    have hrests : Unsent (s.link l) ((rewantAll s.darkened).link l) := Unsent.rewants (s := s.darkened) h hl (hl'.trans_eq hlinks.symm)
      (fun _ => True) _ (.inr (by rw [hword, hcall]; exact hhas))
    have hrewords : Rewords s.darkened (rewantAll s.darkened) := .foldl (fun s l => .rewant l s) _ _
    have hcalled : (rewantAll s.darkened).called = s.called := funext fun d => congrArg Option.isSome (hrewords.pulseEnd d)
    have htally : slot .off (rewantAll s.darkened).tr.linkTally l = .off := by rw [hrewords.tr]; exact linkTally_darkened s l
    rw [stopTally_eq] at hwinds ⊢
    rw [hfinal, ← hsame, ← hwinds.now]
    have hlen : (rewantAll s.darkened).links.length = 48 := hwinds.length_links.trans hlinks
    have hlen' : (rewantAll s.darkened).tk.stations.length = 24 := hwinds.length.trans hstations
    exact word_of_pulse hlen hlen' hl hl' hrests htally (by rw [hcalled]; exact hcall) hhas
  · have hfinal : s.stopWord false l = s.darkened.wantedWord l := by
      rw [State.stopWord, hword]
      cases hcall : (s.link l).cfg.station.any s.called with
      | false => rfl
      | true =>
        rw [hcall] at hhas
        rw [decide_eq_true hhas]
        rfl
    obtain ⟨id, hid⟩ := Unsent.rewantAll (s := s.darkened) h hl hl' hlinks (by rw [hword]; exact hhas)
    rw [hfinal, ← hsame]
    exact ⟨id, TallyWatch.tkStop hid⟩

/-- Every camera in service without an order is sent its word (R144, R154, R184). -/
theorem word_sent (tkFirst : Bool) (hlinks : s.links.length = 48) (hstations : s.tk.stations.length = 24) (hl : 1 ≤ l) (hl' : l ≤ 48)
    (h : Unsent (s.link l) (s.link l)) (hne : (s.link l).delivered ≠ some ⟨.off, false⟩) :
    WordSent l (s.stopWord tkFirst l) s.now (stopTalkTally tkFirst s) := by
  cases tkFirst with
  | true => exact word_talk_first hlinks hstations hl hl' h hne
  | false => exact word_tally_first hlinks hstations hl hl' h hne

end word

/-! ## Breaks and DIMs -/

section sent
variable {s : State}

/-- Every LIVE route is broken (R184). -/
theorem break_sent (hlen : s.units.length = 25) {r : Route} (hr : r ∈ s.tk.routes) (hlive : r.live = true) (ha : 1 ≤ r.source)
    (ha' : r.source ≤ 24) (hd : 1 ≤ r.destination) (hd' : r.destination ≤ 24) :
    Sent 31 (.crosspoint false r.source r.destination) (.tkBreak r.source r.destination) s s.broken.1 := by
  have hsource : r.source ∈ liveSources r.destination s.tk.routes :=
    mem_liveSources.2 ⟨mem_oneUpTo.2 ⟨ha, ha'⟩, List.any_eq_true.2 ⟨r, hr, by simp [Route.joins, hlive]⟩⟩
  have hnow : s.silenced.now = s.now := rfl
  rw [broken_eq]
  refine Sent.of_now (s' := s.silenced) ?_ hnow
  unfold breakAll
  refine sent_in_fold (x := (s.silenced, [])) (I := fun _ => True) (c := r.destination) displaceable_crosspoint
    (fun x d => .foldAct _ (fun x a => issues_orderBreak a d x) _ x) (fun x d => .foldAct _ (fun x a => quiet_orderBreak a d x) _ x)
    (fun _ _ _ _ _ => trivial) (mem_oneUpTo.2 ⟨hd, hd'⟩) (fun x _ hlen => ?_) trivial hlen
  exact sent_in_fold (I := fun _ => True) (c := r.source) displaceable_crosspoint (fun x a => issues_orderBreak a r.destination x)
    (fun x a => quiet_orderBreak a r.destination x) (fun _ _ _ _ _ => trivial) hsource
    (fun x _ hlen => sent_tkIssue matrix_address displaceable_crosspoint (fun _ _ => .units (joinBreak_units _ _ _ _)) hlen) trivial hlen

theorem issues_stopDim (x : Acting) (t : Nat) : Issues Issuer.ofTalk x.1 (stopDim x t).1 := by
  unfold stopDim
  split
  · exact issues_orderDim t 0 x
  · exact .refl _

/-- A station that may be dimmed. -/
def Dims (y : Nat) (s : State) : Prop := (s.station y).kind = some .ifb ∧ 0 < (s.station y).dimDepth

theorem Dims.winds {y : Nat} {t : State} (h : Dims y s) (k : WindsDown s t) : Dims y t := by
  have hkind : (t.station y).kind = (s.station y).kind := (congrArg Station.kind (k.stations y) :)
  have hdepth : (t.station y).dimDepth = (s.station y).dimDepth := (congrArg Station.dimDepth (k.stations y) :)
  rw [Dims, hkind, hdepth]
  exact h

/-- Every IFB station with a depth gets a DIM of depth 0 (R184). -/
theorem dim_sent {x : Acting} {y : Nat} (hlen : x.1.units.length = 25) (hy : 1 ≤ y) (hy' : y ≤ 24) (h : Dims y x.1) :
    Sent 31 (.dim y 0) (.tkDim y) x.1 ((oneUpTo Config.stations).foldl stopDim x).1 :=
  sent_in_fold (I := Dims y) displaceable_dim issues_stopDim quiet_stopDim (fun z t _ _ hz => hz.winds (.stopDim z t)) (mem_oneUpTo.2 ⟨hy, hy'⟩)
    (fun z hz hlen => by
      unfold stopDim
      rw [if_pos (show (z.1.station y).kind = some .ifb ∧ 0 < (z.1.station y).dimDepth from hz)]
      exact sent_tkIssue matrix_address displaceable_dim (fun _ s => issues_modTk s _) hlen) h hlen

end sent

end Sys2Proof.Machine

/-! The key lamps of LINKED stations at STOP: each goes dark, or is told so at the next boundary (R127, R179, R180, R184). -/

namespace Sys2Proof.Machine

-- One theorem at a time: all at once, their threads together outgrow the memory limit of the check.
set_option Elab.async false

/-! ## Dark contents -/

/-- Every key OFF, with no source. -/
def LampContents.dark : LampContents := { keys := List.replicate 8 .off, source := none }

theorem lampContents_dark {s t : State} (h : Hushed s t) (y : Nat) : t.lampContents y = .dark := by
  have hkey (n : Nat) : ((t.station y).key n).elim .off (·.state) = .off := by
    cases hk : (t.station y).key n with
    | none => rfl
    | some k =>
      have hmem := (key_mem hk).1
      rw [h.keys y] at hmem
      obtain ⟨x, -, rfl⟩ := List.mem_map.1 hmem
      rfl
  rw [State.lampContents, State.incoming, h.routes, funext hkey]
  rfl

/-! ## An order sent, that may be displaced -/

/-- A displaced order is the first that may be; every other stays. -/
theorem displaced_or_stays {α : Type} {p : α → Bool} {xs : List α} {x v : α} (hx : x ∈ xs) (hv : xs.find? p = some v) : x = v ∨ x ∈ xs.eraseP p := by
  induction xs with
  | nil => cases hx
  | cons a xs ih =>
    by_cases ha : p a = true
    · rw [List.find?_cons_of_pos ha] at hv
      rw [List.eraseP_cons_of_pos ha]
      exact (List.mem_cons.1 hx).imp_left fun h => h.trans (Option.some.inj hv)
    · rw [List.find?_cons_of_neg ha] at hv
      rw [List.eraseP_cons_of_neg ha]
      obtain rfl | hx := List.mem_cons.1 hx
      · exact .inr List.mem_cons_self
      · exact (ih hx hv).imp_right (List.mem_cons_of_mem a)

/-- A unit holds an order, waiting or outstanding under some number. -/
def UnitRec.has (o : Order) (u : UnitRec) : Prop := o ∈ u.waiting ∨ ∃ n : Byte, { o with number := some n } ∈ u.outstanding

theorem UnitRec.has_send {o : Order} {u : UnitRec} (h : u.has o) (x : Order) : (u.send x).has o :=
  h.imp id fun ⟨n, hn⟩ => ⟨n, List.mem_append_left _ hn⟩

theorem has_send {o x : Order} {a : Nat} {s : State} (h : (s.unit a).has o) : ((send x s).unit a).has o := by
  obtain he | he := unit_modUnit_cases s x.address a fun u => u.send x
  · exact (congrArg (UnitRec.has o) he).mpr h
  · exact (congrArg (UnitRec.has o) he).mpr (UnitRec.has_send h x)

/-- The issue of an order leaves another held, or displaces it. -/
theorem has_issue {o : Order} {a : Nat} {s : State} (h : (s.unit a).has o) (b : Nat) (body : OrderBody) (i : Issuer) :
    ((issue b body i s).state.unit a).has o ∨ ∃ n x u, x = ({ o with number := some n } : Order) ∧ u.tk = s.tk ∧
      (issue b body i s).state = send (s.newOrder b body i) (displaced x u) := by
  obtain ⟨-, -, hr⟩ | ⟨-, -, -, hr⟩ | ⟨-, -, -, hr⟩ | ⟨-, -, -, v, hv, hr⟩ := issue_cases b body i s <;> rw [hr]
  · exact .inl (has_send (s := s.tookId) h)
  · left
    obtain he | he := unit_modUnit_cases s.tookId b a fun u => { u with waiting := u.waiting ++ [s.newOrder b body i] }
    · exact (congrArg (UnitRec.has o) he).mpr h
    · exact (congrArg (UnitRec.has o) he).mpr (h.imp_left (List.mem_append_left _))
  · exact .inl h
  · let u := s.tookId.modUnit b fun u => { u with outstanding := u.outstanding.eraseP Order.displaceable }
    by_cases hkept : (u.unit a).has o
    · refine .inl (has_send ?_)
      rw [unit_of_units (displaced_units v u)]
      exact hkept
    right
    obtain he | he := unit_modUnit_cases s.tookId b a fun u => { u with outstanding := u.outstanding.eraseP Order.displaceable }
    · exact absurd ((congrArg (UnitRec.has o) he).mpr h) hkept
    by_cases hplace : unitPlace b = unitPlace a
    · have hunit : s.unit b = s.unit a := by rw [State.unit, State.unit, hplace]
      rw [hunit] at hv
      obtain hwait | ⟨n, hn⟩ := h
      · exact absurd ((congrArg (UnitRec.has o) he).mpr (.inl hwait)) hkept
      · obtain hx | hstays := displaced_or_stays hn hv
        · exact ⟨n, v, u, hx.symm, rfl, rfl⟩
        · exact absurd ((congrArg (UnitRec.has o) he).mpr (.inr ⟨n, hstays⟩)) hkept
    · have hsame : u.unit a = s.unit a := unit_modUnit_other hplace _
      exact absurd ((congrArg (UnitRec.has o) hsame).mpr h) hkept

/-- The order of a station's contents, which unit and channel it goes to, under its id. -/
structure LampSend where
  station : Nat
  unit : Nat
  channel : Nat
  id : Nat
  lit : LampContents
  now : FrameNo

/-- The order is the station's and is held by its unit, or it has failed. -/
structure LampOut (z : LampSend) (s : State) : Prop where
  watch : LampWatch true z.station z.id z.lit z.now s
  held : (s.station z.station).lampOrder = some (z.id, z.lit) → ∃ o : Order, o.id = z.id ∧ o.address = z.unit ∧
    o.body = .talkLamp z.channel z.lit ∧ o.issuer = .tkLamp z.station ∧ o.deadline = o.body.deadline z.now ∧ (s.unit z.unit).has o

namespace LampOut
variable {z : LampSend} {s t : State}

theorem keeps (h : LampOut z s) (k : LampHeld z.station s t) (hu : t.units = s.units) : LampOut z t := by
  refine ⟨h.watch.held k, fun ho => ?_⟩
  obtain ⟨hsame, -⟩ | ⟨-, hnone, -⟩ := k.order
  · obtain ⟨o, h1, h2, h3, h4, h5, hhas⟩ := h.held (hsame.symm.trans ho)
    exact ⟨o, h1, h2, h3, h4, h5, by rw [unit_of_units hu]; exact hhas⟩
  · rw [hnone] at ho
    cases ho

theorem of_fails (h : LampWatch false z.station z.id z.lit z.now s) : LampOut z s := by
  obtain ⟨hn, ⟨hno, -⟩ | hlost⟩ := h
  · exact absurd hno Bool.false_ne_true
  · refine ⟨⟨hn, .inr hlost⟩, fun ho => ?_⟩
    rw [hlost.1] at ho
    cases ho

theorem issue (h : LampOut z s) (b : Nat) (body : OrderBody) (i : Issuer) : LampOut z (issue b body i s).state := by
  have hheld : LampHeld z.station s (Machine.issue b body i s).state := .issue b body i s
  refine ⟨h.watch.held hheld, fun ho => ?_⟩
  obtain ⟨hsame, -⟩ | ⟨-, hnone, -⟩ := hheld.order
  · have hs : (s.station z.station).lampOrder = some (z.id, z.lit) := hsame.symm.trans ho
    obtain ⟨o, h1, h2, h3, h4, h5, hhas⟩ := h.held hs
    obtain hstays | ⟨n, x, u, rfl, htk, hr⟩ := has_issue hhas b body i
    · exact ⟨o, h1, h2, h3, h4, h5, hstays⟩
    · have hfails : displaced { o with number := some n } u = lampFailed z.station z.id u := by
        simp only [displaced, h4, h1]
      have hu : LampWatch true z.station z.id z.lit u.now u := ⟨rfl, .inl ⟨rfl, by rw [State.station, htk]; exact hs⟩⟩
      obtain ⟨-, ⟨hno, -⟩ | ⟨hnone, -⟩⟩ := hu.fails
      · exact absurd hno Bool.false_ne_true
      · rw [hr, hfails] at ho
        exact absurd (hnone.symm.trans ho) (by simp)
  · rw [hnone] at ho
    cases ho

theorem tkFailed (h : LampOut z s) (i : Issuer) (id : Nat) : LampOut z (tkFailed i id s) := h.keeps (.tkFailed i id s) (tkFailed_units i id s)

theorem orderLamp {x : Acting} (h : LampOut z x.1) {t : Nat} (ht : t ≠ z.station) : LampOut z (orderLamp t x).1 := by
  unfold Machine.orderLamp
  dsimp only
  split
  · exact (h.issue _ _ _).keeps (.modStation t _ _ fun hty => absurd hty ht) rfl
  · exact h

theorem reported {x : Acting} (h : LampOut z x.1) : LampOut z (reported x) :=
  List.foldlRecOn x.2 _ h fun _ hu f _ => hu.tkFailed f.1 f.2

theorem rewant (h : LampOut z s) (l : Nat) : LampOut z (rewant l s) := by
  have hword : LampOut z (s.modLink l fun k => { k with wanted := s.wantedWord l }) := h.keeps (.same rfl rfl) rfl
  unfold Machine.rewant Machine.deliveryTest
  dsimp only
  generalize s.modLink l (fun k => { k with wanted := s.wantedWord l }) = u at hword ⊢
  split
  · have hsent := hword.issue (u.link l).cfg.unit (.tally (u.link l).cfg.channel (u.link l).wanted) (.tr l)
    generalize Machine.issue (u.link l).cfg.unit (.tally (u.link l).cfg.channel (u.link l).wanted) (.tr l) u = r at hsent ⊢
    have hrecord : LampOut z (r.state.modLink l fun k' =>
        { k' with tallyOrder := some { id := r.id, word := (u.link l).wanted, issueFrame := u.now } }) := hsent.keeps (.same rfl rfl) rfl
    split
    · exact hrecord.keeps (.tallyFailed l r.id _) (keeps_tallyFailed l r.id _ .units (by decide))
    · exact hrecord
  · exact hword

theorem stopTally (h : LampOut z s) : LampOut z (stopTally s) := by
  have hdark : LampOut z s.darkened := h.keeps (.same rfl rfl) rfl
  rw [stopTally_eq]
  unfold rewantAll
  exact List.foldlRecOn _ _ hdark fun _ hu l _ => hu.rewant l

/-- The order has gone out, or it has failed and is set for the next boundary. -/
theorem ends (h : LampOut z s) {s0 : State} (hn : s0.now = z.now) :
    (Ordered z.unit (.talkLamp z.channel z.lit) (.tkLamp z.station) s0 s ∧ ∃ id, (s.station z.station).lampOrder = some (id, z.lit)) ∨
      ((s.station z.station).lampOrder = none ∧ (s.station z.station).lampRetry = some (framePlus s0.now 1)) := by
  obtain ⟨-, ⟨-, ho⟩ | hlost⟩ := h.watch
  · obtain ⟨o, -, h2, h3, h4, h5, hhas⟩ := h.held ho
    exact .inl ⟨⟨o, h2, h3, h4, by rw [h5, h3, hn], hhas⟩, z.id, ho⟩
  · rw [hn]
    exact .inr hlost

end LampOut

/-! ## The key-lamp test of a station -/

/-- A LINKED station in service has no order and no retry, and its contents are dark (R179, R180). -/
structure LampReady (y l unit channel : Nat) (s : State) : Prop where
  table : y ≤ s.tk.stations.length
  units : s.units.length = 25
  idle : LampIdle y s
  kind : (s.station y).kind = some .linked
  link : (s.station y).link = some l
  state : (s.link l).state = .locked ∨ (s.link l).state = .fading
  unit : (s.link l).cfg.unit = unit
  channel : (s.link l).cfg.channel = channel
  dark : s.lampContents y = .dark

section test
variable {s t : State} {y l unit channel : Nat} {z : LampSend} {x : Acting}

theorem LampReady.moves (h : LampReady y l unit channel s) (k : LampHeld y s t) (w : WindsDown s t) (hdark : t.lampContents y = .dark) :
    LampReady y l unit channel t where
  table := h.table.trans_eq w.length.symm
  units := w.length_units.trans h.units
  idle := k.idle h.idle
  kind := k.kind.trans h.kind
  link := k.link.trans h.link
  state := by rw [w.state]; exact h.state
  unit := by rw [w.cfg]; exact h.unit
  channel := by rw [w.cfg]; exact h.channel
  dark := hdark

theorem LampReady.orderLamp (h : LampReady y l unit channel x.1) {m : Nat} (hm : m ≠ y) : LampReady y l unit channel (Machine.orderLamp m x).1 :=
  h.moves (.orderLamp hm x) (.orderLamp m x) (((Still.of_quiet (quiet_orderLamp m x)).lamps y).trans h.dark)

theorem LampReady.due (h : LampReady y l unit channel s) (hne : (s.station y).lampAcked ≠ some .dark) : s.lampDue y = true :=
  lampDue_iff.2 ⟨h.kind, ⟨l, h.link, h.state⟩, h.idle.1, h.idle.2, by rw [h.dark]; exact hne⟩

theorem LampReady.rests (h : LampReady y l unit channel x.1) (heq : (x.1.station y).lampAcked = some .dark) : Machine.orderLamp y x = x :=
  if_neg fun hdue => by
    obtain ⟨-, -, -, -, hne⟩ := lampDue_iff.1 hdue
    exact hne (by rw [h.dark]; exact heq)

/-- The order is out, or its overflow waits to be reported. -/
def LampSending (z : LampSend) (x : Acting) : Prop :=
  LampOut z x.1 ∨ (LampWatch true z.station z.id z.lit z.now x.1 ∧ (Issuer.tkLamp z.station, z.id) ∈ x.2)

theorem told_orderLamp (m : Nat) (x : Acting) : ∀ f ∈ x.2, f ∈ (orderLamp m x).2 := by
  intro f hf
  unfold orderLamp tkIssue
  dsimp only
  split
  · dsimp only
    split
    · exact List.mem_append_left _ hf
    · exact hf
  · exact hf

theorem LampSending.orderLamp (h : LampSending z x) {m : Nat} (hm : m ≠ z.station) : LampSending z (Machine.orderLamp m x) :=
  h.imp (fun h => h.orderLamp hm) fun ⟨hw, hf⟩ => ⟨hw.held (.orderLamp hm x), told_orderLamp m x _ hf⟩

theorem LampSending.others (h : LampSending z x) {ts : List Nat} (hts : z.station ∉ ts) :
    LampSending z (ts.foldl (fun x t => Machine.orderLamp t x) x) :=
  List.foldlRecOn ts _ h fun _ hu _ ht => hu.orderLamp fun he => hts (he ▸ ht)

/-- The reports make an overflow known to the station (R127, R180). -/
theorem LampSending.reported (h : LampSending z x) : LampOut z (reported x) := by
  obtain hout | ⟨hwatch, hf⟩ := h
  · exact hout.reported
  obtain ⟨s, fs⟩ := x
  show LampOut z (fs.foldl (fun s f => tkFailed f.1 f.2 s) s)
  induction fs generalizing s with
  | nil => cases hf
  | cons f fs ih =>
    rw [List.foldl_cons]
    obtain rfl | hf := List.mem_cons.1 hf
    · exact LampOut.reported (x := (_, fs)) (.of_fails hwatch.fails)
    · exact ih (tkFailed f.1 f.2 s) (hwatch.held (.tkFailed f.1 f.2 s)) hf

/-- The test sends the dark contents (R127, R180). -/
theorem LampReady.sends (h : LampReady y l unit channel x.1) (hy : 1 ≤ y) (hu : 1 ≤ unit) (hu' : unit ≤ 24)
    (hne : (x.1.station y).lampAcked ≠ some .dark) :
    LampSending ⟨y, unit, channel, x.1.nextOrderId, .dark, x.1.now⟩ (Machine.orderLamp y x) := by
  have horder : Machine.orderLamp y x = tkIssue unit (.talkLamp channel .dark) (.tkLamp y)
      (fun id s' => s'.modStation y fun k => { k with lampOrder := some (id, .dark) }) x := by
    unfold Machine.orderLamp
    dsimp only
    rw [if_pos (h.due hne), h.link, Option.getD_some, h.unit, h.channel, h.dark]
  rw [horder]
  have hid := issue_id unit (.talkLamp channel .dark) (.tkLamp y) x.1
  have hheld : LampHeld y x.1 (issue unit (.talkLamp channel .dark) (.tkLamp y) x.1).state := .issue _ _ _ x.1
  have hlen := h.table.trans_eq (quiet_issue x.1 unit (.talkLamp channel .dark) (.tkLamp y)).length_stations.symm
  have hissued := orderedAs_issue (s := x.1) (a := unit) (body := .talkLamp channel .dark) (i := .tkLamp y)
    (place_of_address h.units (mem_unitAddresses.2 (.inl ⟨hu, hu'⟩)))
  unfold tkIssue
  dsimp only
  generalize issue unit (.talkLamp channel .dark) (.tkLamp y) x.1 = r at *
  have hself : (r.state.modStation y fun k => { k with lampOrder := some (r.id, .dark) }).station y =
      { r.state.station y with lampOrder := some (r.id, .dark) } := slot_modSlot_self _ _ _ hy hlen
  have hwatch : LampWatch true y x.1.nextOrderId .dark x.1.now (r.state.modStation y fun k => { k with lampOrder := some (r.id, .dark) }) :=
    ⟨hheld.now, .inl ⟨rfl, by rw [hself, hid]⟩⟩
  by_cases hover : r.overflow = true
  · rw [if_pos hover]
    exact .inr ⟨hwatch, by rw [hid]; exact List.mem_append_right _ (List.mem_singleton_self _)⟩
  · refine .inl ⟨hwatch, fun _ => ?_⟩
    obtain ⟨o, h1, h2, h3, h4, h5, hhas⟩ := hissued (Bool.eq_false_iff.2 hover)
    exact ⟨o, h1, h2, h3, h4, by rw [h5, h3], hhas⟩

/-- Among the tests of every station is this one's; the others leave it. -/
theorem LampReady.tests {ts : List Nat} (h : LampReady y l unit channel x.1) (hy : 1 ≤ y) (hu : 1 ≤ unit) (hu' : unit ≤ 24)
    (hne : (x.1.station y).lampAcked ≠ some .dark) (hmem : y ∈ ts) (hnodup : ts.Nodup) :
    ∃ z : LampSend, z.station = y ∧ z.unit = unit ∧ z.channel = channel ∧ z.lit = .dark ∧ z.now = x.1.now ∧
      LampSending z (ts.foldl (fun x t => Machine.orderLamp t x) x) := by
  induction ts generalizing x with
  | nil => cases hmem
  | cons m ts ih =>
    obtain ⟨hm, hnodup⟩ := List.nodup_cons.1 hnodup
    rw [List.foldl_cons]
    by_cases hmy : m = y
    · subst hmy
      exact ⟨_, rfl, rfl, rfl, rfl, rfl, (h.sends hy hu hu' hne).others hm⟩
    · have hheld : LampHeld y x.1 (Machine.orderLamp m x).1 := .orderLamp hmy x
      obtain ⟨z, h1, h2, h3, h4, h5, hz⟩ := ih (h.orderLamp hmy) (by rw [hheld.acked]; exact hne) ((List.mem_cons.1 hmem).resolve_left (Ne.symm hmy)) hnodup
      exact ⟨z, h1, h2, h3, h4, h5.trans hheld.now, hz⟩

theorem LampReady.rest_fold {ts : List Nat} (h : LampReady y l unit channel x.1) (heq : (x.1.station y).lampAcked = some .dark) :
    LampIdle y (ts.foldl (fun x t => Machine.orderLamp t x) x).1 := by
  induction ts generalizing x with
  | nil => exact h.idle
  | cons m ts ih =>
    rw [List.foldl_cons]
    by_cases hmy : m = y
    · subst hmy
      rw [h.rests heq]
      exact ih h heq
    · have hheld : LampHeld y x.1 (Machine.orderLamp m x).1 := .orderLamp hmy x
      exact ih (h.orderLamp hmy) (hheld.acked.trans heq)

end test

end Sys2Proof.Machine

/-! The key lamps through STOP, the lamps of the Lamp Drivers, and the frame of the whole (R154, R162, R184, R196). -/

namespace Sys2Proof.Machine

-- One theorem at a time: all at once, their threads together outgrow the memory limit of the check.
set_option Elab.async false

/-! ## Key lamps through the Talk Router's stop -/

namespace LampHeld
variable {s : State} {y : Nat}

theorem mapped (f : Station → Station) (g : Tk → Tk) (hg : (g s.tk).stations = s.tk.stations.map f)
    (hf : ∀ x : Station, (f x).kind = x.kind ∧ (f x).link = x.link ∧ (f x).lampAcked = x.lampAcked ∧ (f x).lampOrder = x.lampOrder ∧
      (f x).lampRetry = x.lampRetry) (hu : f Station.undefined = Station.undefined) : LampHeld y s (s.modTk g) := by
  have hst : (s.modTk g).station y = f (s.station y) := by
    show slot Station.undefined (g s.tk).stations y = _
    rw [hg]
    conv_lhs => rw [← hu]
    exact slot_map f Station.undefined s.tk.stations y
  obtain ⟨h1, h2, h3, h4, h5⟩ := hf (s.station y)
  rw [← hst] at h1 h2 h3 h4 h5
  exact ⟨rfl, h1, h2, h3, .inl ⟨h4, h5⟩⟩

theorem silenced (s : State) : LampHeld y s s.silenced := mapped Station.keysOff _ rfl (fun _ => ⟨rfl, rfl, rfl, rfl, rfl⟩) rfl

theorem broken (s : State) : LampHeld y s s.broken.1 := by
  rw [broken_eq]
  exact (silenced s).trans (foldAct (fun x d => foldAct (fun x a => orderBreak a d x) _ x) _ (s.silenced, []))

theorem endPulse (d : Nat) (s : State) : LampHeld y s (endPulse d s) :=
  (modStation d (fun x => { x with pulseEnd := none }) s fun _ _ => ⟨⟨rfl, rfl⟩, rfl, rfl, rfl⟩).trans (rewantStation d _)

theorem stopPulses (resolved : Bool) (s : State) : LampHeld y s (stopPulses resolved s) := by
  cases resolved with
  | true =>
    rw [stopPulses_true]
    refine foldl (fun s t => ?_) _ s
    split
    · exact endPulse t s
    · exact refl y s
  | false => exact mapped (fun x => { x with pulseEnd := none }) (fun k => { k with stations := k.stations.map fun x => { x with pulseEnd := none } }) rfl (fun _ => ⟨rfl, rfl, rfl, rfl, rfl⟩) rfl

theorem stopDim (x : Acting) (t : Nat) : LampHeld y x.1 (stopDim x t).1 := by
  unfold Machine.stopDim
  split
  · exact orderDim t 0 x
  · exact refl y x.1

theorem stopTally (s : State) : LampHeld y s (stopTally s) := by
  have hdark : LampHeld y s s.darkened := same rfl rfl
  rw [stopTally_eq]
  unfold rewantAll
  exact hdark.trans (foldl (fun s l => rewant l s) _ _)

end LampHeld

/-- The state in which the key lamps are tested, with the failures that wait to be reported. -/
def State.dimmed (resolved : Bool) (s : State) : Acting :=
  (oneUpTo Config.stations).foldl stopDim (stopPulses resolved s.broken.1, s.broken.2)

theorem tkStop_dimmed (resolved : Bool) (s : State) :
    tkStop resolved s = reported ((oneUpTo Config.stations).foldl (fun x t => orderLamp t x) (s.dimmed resolved)) := rfl

/-- A LINKED station in service has no order and no retry (R180). -/
structure LampStart (y l : Nat) (s : State) : Prop where
  idle : LampIdle y s
  kind : (s.station y).kind = some .linked
  link : (s.station y).link = some l
  state : (s.link l).state = .locked ∨ (s.link l).state = .fading

/-- A station that shows dark contents is left so; any other is sent them. -/
structure LampGoesDark (y l : Nat) (s t : State) : Prop where
  acked : (t.station y).lampAcked = (s.station y).lampAcked
  rests : (s.station y).lampAcked = some .dark → LampIdle y t
  sends : (s.station y).lampAcked ≠ some .dark → 1 ≤ (s.link l).cfg.unit → (s.link l).cfg.unit ≤ 24 →
    ∃ z : LampSend, z.station = y ∧ z.unit = (s.link l).cfg.unit ∧ z.channel = (s.link l).cfg.channel ∧ z.lit = .dark ∧ z.now = s.now ∧ LampOut z t

section lamp
variable {s : State} {y l : Nat}

theorem dimmed_does (resolved : Bool) (s : State) (y : Nat) :
    LampHeld y s (s.dimmed resolved).1 ∧ WindsDown s (s.dimmed resolved).1 ∧ Hushed s (s.dimmed resolved).1 := by
  have hheld : LampHeld y s (stopPulses resolved s.broken.1) := (LampHeld.broken s).trans (.stopPulses resolved _)
  have hwinds : WindsDown s (stopPulses resolved s.broken.1) := (WindsDown.broken s).trans (.stopPulses resolved _)
  have hhushed : Hushed s (stopPulses resolved s.broken.1) := hushed_stopPulses (hushed_broken s) resolved
  unfold State.dimmed
  generalize stopPulses resolved s.broken.1 = u at hheld hwinds hhushed ⊢
  exact ⟨hheld.trans (.foldAct LampHeld.stopDim _ (u, _)), hwinds.trans (.dims (u, _)), hhushed.rewords (.of_quiet (.foldAct _ quiet_stopDim _ (u, _)))⟩

theorem lamp_tkStop (hstations : s.tk.stations.length = 24) (hunits : s.units.length = 25) (hy : 1 ≤ y) (hy' : y ≤ 24) (h : LampStart y l s)
    (resolved : Bool) : LampGoesDark y l s (tkStop resolved s) := by
  have hacked : ((tkStop resolved s).station y).lampAcked = (s.station y).lampAcked :=
    (congrArg Station.lampAcked ((WindsDown.tkStop resolved s).stations y) :)
  obtain ⟨hheld, hwinds, hhushed⟩ := dimmed_does resolved s y
  rw [tkStop_dimmed] at hacked ⊢
  generalize s.dimmed resolved = x at hheld hwinds hhushed hacked ⊢
  have hready : LampReady y l (s.link l).cfg.unit (s.link l).cfg.channel x.1 :=
    { table := hy'.trans_eq (hwinds.length.trans hstations).symm
      units := hwinds.length_units.trans hunits
      idle := hheld.idle h.idle
      kind := hheld.kind.trans h.kind
      link := hheld.link.trans h.link
      state := by rw [hwinds.state]; exact h.state
      unit := by rw [hwinds.cfg]
      channel := by rw [hwinds.cfg]
      dark := lampContents_dark hhushed y }
  refine ⟨hacked, fun heq => ?_, fun hne hu hu' => ?_⟩
  · exact (LampHeld.reported _).idle (hready.rest_fold (hheld.acked.trans heq))
  · obtain ⟨z, h1, h2, h3, h4, h5, hz⟩ := hready.tests hy hu hu' (by rw [hheld.acked]; exact hne) (mem_oneUpTo.2 ⟨hy, hy'⟩)
      (by decide : (oneUpTo Config.stations).Nodup)
    exact ⟨z, h1, h2, h3, h4, h5.trans hheld.now, hz.reported⟩

theorem LampGoesDark.stopTally {t : State} (h : LampGoesDark y l s t) : LampGoesDark y l s (stopTally t) := by
  have hheld : LampHeld y t (Machine.stopTally t) := .stopTally t
  refine ⟨hheld.acked.trans h.acked, fun heq => hheld.idle (h.rests heq), fun hne hu hu' => ?_⟩
  obtain ⟨z, h1, h2, h3, h4, h5, hz⟩ := h.sends hne hu hu'
  exact ⟨z, h1, h2, h3, h4, h5, hz.stopTally⟩

/-- In whichever order the Talk Router and the Tally Resolver act (R154). -/
theorem lamp_goes_dark (hstations : s.tk.stations.length = 24) (hunits : s.units.length = 25) (hy : 1 ≤ y) (hy' : y ≤ 24) (h : LampStart y l s)
    (tkFirst : Bool) : LampGoesDark y l s (stopTalkTally tkFirst s) := by
  cases tkFirst with
  | true => exact (lamp_tkStop hstations hunits hy hy' h false).stopTally
  | false =>
    have hheld : LampHeld y s (stopTally s) := .stopTally s
    have hwinds : WindsDown s.darkened (stopTally s) := .rewantAll s.darkened
    have hstate : ((stopTally s).link l).state = (s.link l).state := hwinds.state l
    have hcfg : ((stopTally s).link l).cfg = (s.link l).cfg := hwinds.cfg l
    have hlen : (stopTally s).tk.stations.length = 24 := hwinds.length.trans hstations
    have hlen' : (stopTally s).units.length = 25 := hwinds.length_units.trans hunits
    show LampGoesDark y l s (tkStop true (stopTally s))
    generalize stopTally s = u at *
    have hdark := lamp_tkStop hlen hlen' hy hy'
      ⟨hheld.idle h.idle, hheld.kind.trans h.kind, hheld.link.trans h.link, by rw [hstate]; exact h.state⟩ true
    obtain ⟨hacked, hrests, hsends⟩ := hdark
    rw [hheld.acked] at hacked hrests hsends
    rw [hcfg, hheld.now] at hsends
    exact ⟨hacked, hrests, hsends⟩

end lamp

/-! ## What the Talk Router and the Tally Resolver leave together -/

section both
variable {s : State}

theorem WindsDown.stopTalkTally (tkFirst : Bool) (s : State) : KeepsBut (.tr :: issueParts) s (stopTalkTally tkFirst s) ∧
    Issues Issuer.ofBoard s (stopTalkTally tkFirst s) ∧ (stopTalkTally tkFirst s).tr = s.tr.clearSnap.resolve := by
  have hdark (u : State) : KeepsBut (.tr :: issueParts) u u.darkened := (keeps_modTr u _).mono (by decide)
  have hissues (u : State) : Issues Issuer.ofBoard u u.darkened := .units rfl
  cases tkFirst with
  | true =>
    have hstop := WindsDown.tkStop false s
    have hall := WindsDown.rewantAll (Machine.tkStop false s).darkened
    show KeepsBut _ s (stopTally (Machine.tkStop false s)) ∧ Issues _ s (stopTally (Machine.tkStop false s)) ∧ (stopTally (Machine.tkStop false s)).tr = _
    rw [stopTally_eq]
    have htr : (Machine.tkStop false s).tr = s.tr := hstop.keeps .tr (by decide)
    generalize Machine.tkStop false s = u at *
    refine ⟨((hstop.keeps.mono (by decide)).trans (hdark u)).trans (hall.keeps.mono (by decide)), (hstop.issues.trans (hissues u)).trans hall.issues, ?_⟩
    have hend : (Machine.rewantAll u.darkened).tr = u.darkened.tr := hall.keeps .tr (by decide)
    rw [hend, State.darkened, State.modTr_tr, htr]
  | false =>
    have hall := WindsDown.rewantAll s.darkened
    have hstop := WindsDown.tkStop true (Machine.rewantAll s.darkened)
    show KeepsBut _ s (Machine.tkStop true (stopTally s)) ∧ Issues _ s (Machine.tkStop true (stopTally s)) ∧ (Machine.tkStop true (stopTally s)).tr = _
    rw [stopTally_eq]
    have hboth := hall.trans hstop
    generalize Machine.tkStop true (Machine.rewantAll s.darkened) = u at *
    exact ⟨(hdark s).trans (hboth.keeps.mono (by decide)), (hissues s).trans hboth.issues, hboth.keeps .tr (by decide)⟩

end both

end Sys2Proof.Machine

/-! What the Talk Router and the Tally Resolver leave at STOP, in whichever order they act (R154, R184). -/

namespace Sys2Proof.Machine

-- One theorem at a time: all at once, their threads together outgrow the memory limit of the check.
set_option Elab.async false

section talk
variable {s : State}

theorem tk_stopTally (s : State) : (stopTally s).tk = s.tk := by
  have hdark : s.darkened.tk = s.tk := rfl
  rw [stopTally_eq, ← hdark]
  unfold rewantAll
  refine List.foldlRecOn (motive := fun u : State => u.tk = s.darkened.tk) _ _ rfl fun u hu l _ => ?_
  exact (deliveryTest_alone l _).1.trans hu

theorem station_stopTally (s : State) (y : Nat) : (stopTally s).station y = s.station y := by
  rw [State.station, tk_stopTally]
  rfl

/-! ## Keys, routes, pulses and words -/

theorem worded_broken (h : Worded s) : Worded s.broken.1 := by
  intro l hl hl'
  have hwinds := WindsDown.broken s
  have htr : s.broken.1.tr = s.tr := hwinds.keeps .tr (by decide)
  have hwanted : (s.broken.1.link l).wanted = (s.link l).wanted := (quiet_breakAll s.tk.routes (s.silenced, [])).wanted l
  rw [hwanted, h l hl hl', State.wantedWord, State.wantedWord, htr, hwinds.cfg, funext (called_broken s)]

theorem worded_tkStop (h : Worded s) (hlinks : s.links.length = 48) : Worded (tkStop true s) := by
  have hbroken := (worded_broken h).stopPulses ((WindsDown.broken s).length_links.trans hlinks)
  rw [tkStop_eq]
  generalize stopPulses true s.broken.1 = u at hbroken ⊢
  exact hbroken.quiet ((quiet_stopOrders (u, s.broken.2)).trans (quiet_reported _))

/-- What is left: no route, no key that talks, no pulse, and every word agrees. -/
theorem talk_ends (tkFirst : Bool) (hlinks : s.links.length = 48) (hstations : s.tk.stations.length = 24) :
    Hushed s (stopTalkTally tkFirst s) ∧ Pulseless (stopTalkTally tkFirst s) ∧ Worded (stopTalkTally tkFirst s) := by
  cases tkFirst with
  | true =>
    obtain ⟨hhushed, hpulseless⟩ := tkStop_hushes hstations false
    have hlen : (tkStop false s).links.length = 48 := (WindsDown.tkStop false s).length_links.trans hlinks
    show Hushed s (stopTally (tkStop false s)) ∧ Pulseless (stopTally (tkStop false s)) ∧ Worded (stopTally (tkStop false s))
    generalize tkStop false s = u at *
    refine ⟨hhushed.stations (congrArg Tk.routes (tk_stopTally u)) fun y => by rw [station_stopTally], fun y => ?_, ?_⟩
    · rw [station_stopTally]
      exact hpulseless y
    · rw [stopTally_eq]
      exact worded_rewantAll (s := u.darkened) hlen
  | false =>
    have hworded : Worded (rewantAll s.darkened) := worded_rewantAll (s := s.darkened) hlinks
    have hlen : (rewantAll s.darkened).links.length = 48 := (WindsDown.rewantAll s.darkened).length_links.trans hlinks
    have hst := station_stopTally s
    have htk := tk_stopTally s
    show Hushed s (tkStop true (stopTally s)) ∧ Pulseless (tkStop true (stopTally s)) ∧ Worded (tkStop true (stopTally s))
    rw [stopTally_eq] at hst htk ⊢
    generalize rewantAll s.darkened = u at *
    obtain ⟨hhushed, hpulseless⟩ := tkStop_hushes (s := u) (by rw [htk]; exact hstations) true
    exact ⟨⟨hhushed.routes, fun y => (hhushed.keys y).trans (by rw [hst])⟩, hpulseless, worded_tkStop hworded hlen⟩

/-- Every link is then OFF, without CALL. -/
theorem words_end (tkFirst : Bool) (hlinks : s.links.length = 48) (hstations : s.tk.stations.length = 24) {l : Nat} (hl : 1 ≤ l) (hl' : l ≤ 48) :
    ((stopTalkTally tkFirst s).link l).wanted = ⟨.off, false⟩ := by
  obtain ⟨-, hpulseless, hworded⟩ := talk_ends tkFirst hlinks hstations
  obtain ⟨-, -, htr⟩ := WindsDown.stopTalkTally tkFirst s
  refine (hworded l hl hl').trans (wantedWord_pulseless hpulseless ?_)
  rw [htr]
  exact linkTally_darkened s l

/-! ## Breaks and DIMs -/

theorem issues_past_breaks (resolved : Bool) (s : State) : Issues Issuer.ofBoard s.broken.1 (tkStop resolved s) := by
  have hpulses := WindsDown.stopPulses resolved s.broken.1
  rw [tkStop_eq]
  generalize stopPulses resolved s.broken.1 = u at *
  exact hpulses.issues.trans ((WindsDown.stopOrders (u, s.broken.2)).trans (.reported _)).issues

theorem break_stops (resolved : Bool) (hlen : s.units.length = 25) {r : Route} (hr : r ∈ s.tk.routes) (hlive : r.live = true) (ha : 1 ≤ r.source)
    (ha' : r.source ≤ 24) (hd : 1 ≤ r.destination) (hd' : r.destination ≤ 24) :
    Sent 31 (.crosspoint false r.source r.destination) (.tkBreak r.source r.destination) s (tkStop resolved s) :=
  (break_sent hlen hr hlive ha ha' hd hd').issues displaceable_crosspoint (issues_past_breaks resolved s)

theorem dim_stops (resolved : Bool) (hlen : s.units.length = 25) {y : Nat} (hy : 1 ≤ y) (hy' : y ≤ 24) (h : Dims y s) :
    Sent 31 (.dim y 0) (.tkDim y) s (tkStop resolved s) := by
  have hwinds : WindsDown s (stopPulses resolved s.broken.1) := (WindsDown.broken s).trans (.stopPulses resolved _)
  have hends : tkStop resolved s = reported ((oneUpTo Config.stations).foldl (fun x t => orderLamp t x)
      ((oneUpTo Config.stations).foldl stopDim (stopPulses resolved s.broken.1, s.broken.2))) := rfl
  rw [hends]
  generalize stopPulses resolved s.broken.1 = u at hwinds ⊢
  have hsent := dim_sent (x := (u, s.broken.2)) (hwinds.length_units.trans hlen) hy hy' (h.winds hwinds)
  generalize (oneUpTo Config.stations).foldl stopDim (u, s.broken.2) = x at hsent ⊢
  have hafter : WindsDown x.1 (reported ((oneUpTo Config.stations).foldl (fun x t => orderLamp t x) x)) :=
    (WindsDown.foldAct (fun x t => .orderLamp t x) _ x).trans (.reported _)
  exact (hsent.issues displaceable_dim hafter.issues).of_now hwinds.now

/-- What the Talk Router sends the matrix at its stop is sent in either order. -/
theorem sent_stops (tkFirst : Bool) {body : OrderBody} {i : Issuer} (hd : ∀ o : Order, o.body = body → o.displaceable = false)
    (h : ∀ resolved u, u.tk = s.tk → u.units.length = s.units.length → u.now = s.now → Sent 31 body i u (tkStop resolved u)) :
    Sent 31 body i s (stopTalkTally tkFirst s) := by
  cases tkFirst with
  | true =>
    have hsent := h false s rfl rfl rfl
    show Sent 31 body i s (stopTally (tkStop false s))
    generalize tkStop false s = u at hsent ⊢
    have hissues : Issues Issuer.ofBoard u u.darkened := .units rfl
    rw [stopTally_eq]
    exact hsent.issues hd (hissues.trans (WindsDown.rewantAll u.darkened).issues)
  | false =>
    have hwinds := WindsDown.rewantAll s.darkened
    have hnow : (stopTally s).now = s.now := hwinds.now
    show Sent 31 body i s (tkStop true (stopTally s))
    exact (h true (stopTally s) (tk_stopTally s) hwinds.length_units hnow).of_now hnow

end talk

/-! ## The Lamp Drivers -/

section lamps
variable {s : State}

/-- Every lamp goes dark, and no zone shows on air, where the tallies and the zones are so (R162). -/
theorem stopLamps_dark (htally : s.tr.lampTally = List.replicate 16 .off) {zs : List Zone} (hlen : zs.length = 4)
    (hzones : s.tr.zones = zs.map fun z => { z with onAir := false }) :
    (stopLamps s).lampZones = List.replicate 4 false ∧
    (stopLamps s).lamps = s.lamps.map fun x => { x with
      displayed := .off, phaseOn := true, remaining := 0, restart := true, selected := 0, heldTally := .off } := by
  constructor
  · show s.tr.zones.map (·.onAir) = _
    rw [hzones, List.map_map, ← hlen]
    exact List.map_const'
  · show (s.lamps.zipIdx.map fun (x, i) => { x with heldTally := slot .off s.tr.lampTally (i + 1) }).map Lamp.dark = _
    rw [htally, List.map_map]
    conv_rhs => rw [← List.zipIdx_map_fst 0 s.lamps, List.map_map]
    refine List.map_congr_left fun x _ => ?_
    show Lamp.dark { x.1 with heldTally := slot .off (List.replicate 16 .off) (x.2 + 1) } = _
    rw [slot_replicate]
    rfl

end lamps

end Sys2Proof.Machine

/-! STOP (O51). -/

namespace Sys2Proof.Machine

-- One theorem at a time: all at once, their threads together outgrow the memory limit of the check.
set_option Elab.async false

section stop
variable {s : State}

theorem moveInFlight_iff : s.moveInFlight = true ↔
    s.plan.state = .applying ∨ ∃ k ∈ s.links, k.state = .retuning ∨ k.state = .reverting := by
  have hmoving (st : LinkState) : st.moving = true ↔ st = .retuning ∨ st = .reverting := by cases st <;> simp [LinkState.moving]
  simp only [State.moveInFlight, Bool.or_eq_true, decide_eq_true_eq, List.any_eq_true, hmoving]

/-- The state in which the Talk Router and the Tally Resolver act (R196). -/
def State.withdrawn (s : State) : State := withdrawAll { s with mode := .standby }

theorem enterStandby_eq (tkFirst : Bool) (s : State) :
    enterStandby tkFirst s = presentZones (stopLamps (stopTalkTally tkFirst s.withdrawn)) := by cases tkFirst <;> rfl

theorem keeps_withdrawn (s : State) : KeepsBut (.mode :: withdrawParts) s s.withdrawn :=
  ((keeps_mode .standby s).mono (by decide)).trans ((keeps_withdrawAll _).mono (by decide))

theorem withdrawn_does (hassign : s.pe.assign.length = 48) (hquery : s.pe.query.length = 4) : Withdrawn s s.withdrawn := by
  obtain ⟨h1, h2, h3, h4, h5, h6, h7⟩ := withdrawn_withdrawAll (s := { s with mode := .standby }) hassign hquery
  exact ⟨h1, h2, h3, h4, h5, h6, h7⟩

end stop

/-! ## The end of the request -/

/-- What the Lamp Drivers, the zones presented and the transmit path leave of the rest. -/
structure Presents (v t : State) : Prop where
  keeps : KeepsBut (.lamps :: .lampZones :: .tk :: sendParts) v t
  tk : t.tk = { v.tk with zones := v.tr.zones }
  lamps : t.lamps = (stopLamps v).lamps
  zones : t.lampZones = (stopLamps v).lampZones

theorem presents_reply (f : HostFrame) (p : List Byte) (v : State) : Presents v (kick (putReply f p (presentZones (stopLamps v)))) := by
  have hsend : KeepsBut sendParts (presentZones (stopLamps v)) (kick (putReply f p (presentZones (stopLamps v)))) :=
    ((keeps_putReply f p _).mono (by decide)).trans (keeps_kick _)
  have hlamps : KeepsBut (.lamps :: .lampZones :: .tk :: sendParts) v (stopLamps v) := (keeps_stopLamps v).mono (by decide)
  have hzones : KeepsBut (.lamps :: .lampZones :: .tk :: sendParts) (stopLamps v) (presentZones (stopLamps v)) := (keeps_modTk _ _).mono (by decide)
  exact ⟨(hlamps.trans hzones).trans (hsend.mono (by decide)), hsend .tk (by decide), hsend .lamps (by decide), hsend .lampZones (by decide)⟩

namespace Presents
variable {v t : State} (h : Presents v t)
include h

theorem link (l : Nat) : (t.link l).core = (v.link l).core := linkCore_of_same (h.keeps .links (by decide)) l

theorem tally (l : Nat) : (t.link l).wanted = (v.link l).wanted ∧ (t.link l).delivered = (v.link l).delivered ∧
    (t.link l).tallyOrder = (v.link l).tallyOrder ∧ (t.link l).retryAt = (v.link l).retryAt :=
  tallyFields_eq (tallyFields_of_same (h.keeps .tallies (by decide)) l)

theorem units : t.units = v.units := h.keeps .units (by decide)

theorem tr : t.tr = v.tr := h.keeps .tr (by decide)

theorem station (y : Nat) : t.station y = v.station y := by
  rw [State.station, h.tk]
  rfl

theorem unit (a : Nat) : t.unit a = v.unit a := unit_of_units h.units a

theorem sent {s : State} {body : OrderBody} {i : Issuer} (hsent : Sent 31 body i s v) : Sent 31 body i s t :=
  hsent.imp (fun ho => ho.same_units h.units) fun hfull => by rw [h.unit]; exact hfull

end Presents

section ends
variable {w t : State} {tkFirst : Bool}

/-- The word of every camera that had no order (R154). -/
theorem Presents.word (h : Presents (stopTalkTally tkFirst w) t) (hlinks : w.links.length = 48) (hstations : w.tk.stations.length = 24) {l : Nat}
    (hl : 1 ≤ l) (hl' : l ≤ 48) (hun : Unsent (w.link l) (w.link l)) (hne : (w.link l).delivered ≠ some ⟨.off, false⟩) :
    (∃ id, (t.link l).tallyOrder = some { id := id, word := w.stopWord tkFirst l, issueFrame := w.now }) ∨
      ((t.link l).tallyOrder = none ∧ (t.link l).retryAt = some (framePlus w.now 4)) := by
  obtain ⟨-, -, ho, hr⟩ := h.tally l
  rw [ho, hr]
  obtain ⟨id, ⟨-, hsent⟩ | hlost⟩ := word_sent tkFirst hlinks hstations hl hl' hun hne
  · exact .inl ⟨id, hsent⟩
  · exact .inr hlost

/-- The resolution of nothing, and the lamps that show it (R154, R162). -/
theorem Presents.dark (h : Presents (stopTalkTally tkFirst w) t) (hzones : w.tr.zones.length = 4) :
    t.tr = { w.tr.clearSnap with
      linkTally := List.replicate 48 .off, lampTally := List.replicate 16 .off, zones := w.tr.zones.map fun z => { z with onAir := false } } ∧
    t.tk.zones = t.tr.zones ∧ t.lampZones = List.replicate 4 false ∧
    t.lamps = w.lamps.map fun x => { x with
      displayed := .off, phaseOn := true, remaining := 0, restart := true, selected := 0, heldTally := .off } := by
  obtain ⟨hkeeps, -, htr⟩ := WindsDown.stopTalkTally tkFirst w
  have hlamps : (stopTalkTally tkFirst w).lamps = w.lamps := hkeeps .lamps (by decide)
  rw [resolve_clearSnap] at htr
  generalize stopTalkTally tkFirst w = v at h hlamps htr
  obtain ⟨hzones', hlamps'⟩ := stopLamps_dark (s := v) (by rw [htr]) hzones (by rw [htr])
  exact ⟨h.tr.trans htr, by rw [h.tk, h.tr], h.zones.trans hzones', by rw [h.lamps, hlamps', hlamps]⟩

/-- No route, no key that talks, no pulse (R184). -/
theorem Presents.hushed (h : Presents (stopTalkTally tkFirst w) t) (hlinks : w.links.length = 48) (hstations : w.tk.stations.length = 24) :
    t.tk.routes = [] ∧ ∀ y, (t.station y).pulseEnd = none ∧ (t.station y).keys = (w.station y).keys.map Key.atRest := by
  obtain ⟨hhushed, hpulseless, -⟩ := talk_ends tkFirst hlinks hstations
  refine ⟨by rw [h.tk]; exact hhushed.routes, fun y => ?_⟩
  rw [h.station]
  exact ⟨hpulseless y, hhushed.keys y⟩

/-- The matrix is sent its breaks and its DIMs (R184). -/
theorem Presents.matrix (h : Presents (stopTalkTally tkFirst w) t) (hunits : w.units.length = 25) :
    (∀ r ∈ w.tk.routes, r.live = true → 1 ≤ r.source → r.source ≤ 24 → 1 ≤ r.destination → r.destination ≤ 24 →
      Sent 31 (.crosspoint false r.source r.destination) (.tkBreak r.source r.destination) w t) ∧
    ∀ y, 1 ≤ y → y ≤ 24 → (w.station y).kind = some .ifb → 0 < (w.station y).dimDepth → Sent 31 (.dim y 0) (.tkDim y) w t := by
  refine ⟨fun r hr hlive ha ha' hd hd' => h.sent (sent_stops tkFirst displaceable_crosspoint fun resolved u htk hlen hnow => ?_),
    fun y hy hy' hkind hdepth => h.sent (sent_stops tkFirst displaceable_dim fun resolved u htk hlen hnow => ?_)⟩
  · exact break_stops resolved (hlen.trans hunits) (by rw [htk]; exact hr) hlive ha ha' hd hd'
  · have hstation : u.station y = w.station y := by
      rw [State.station, htk]
      rfl
    exact dim_stops resolved (hlen.trans hunits) hy hy' (by rw [Dims, hstation]; exact ⟨hkind, hdepth⟩)

/-- The lamps of a LINKED station in service (R184). -/
theorem Presents.lamp (h : Presents (stopTalkTally tkFirst w) t) (hstations : w.tk.stations.length = 24) (hunits : w.units.length = 25) {y l : Nat}
    (hy : 1 ≤ y) (hy' : y ≤ 24) (hstart : LampStart y l w) :
    (t.station y).lampAcked = (w.station y).lampAcked ∧
    ((w.station y).lampAcked = some .dark → (t.station y).lampOrder = none ∧ (t.station y).lampRetry = none) ∧
    ((w.station y).lampAcked ≠ some .dark → 1 ≤ (w.link l).cfg.unit → (w.link l).cfg.unit ≤ 24 →
      (Ordered (w.link l).cfg.unit (.talkLamp (w.link l).cfg.channel .dark) (.tkLamp y) w t ∧ ∃ id, (t.station y).lampOrder = some (id, .dark)) ∨
        ((t.station y).lampOrder = none ∧ (t.station y).lampRetry = some (framePlus w.now 1))) := by
  obtain ⟨hacked, hrests, hsends⟩ := lamp_goes_dark hstations hunits hy hy' hstart tkFirst
  rw [h.station]
  refine ⟨hacked, hrests, fun hne hu hu' => ?_⟩
  obtain ⟨z, rfl, hunit, hchannel, hlit, hnow, hz⟩ := hsends hne hu hu'
  have hends := hz.ends hnow.symm
  rw [hunit, hchannel, hlit] at hends
  exact hends.imp_left fun ⟨hordered, hid⟩ => ⟨hordered.same_units h.units, hid⟩

end ends

theorem acts_stopTalkTally (tkFirst : Bool) (s : State) : Acts .full s (stopTalkTally tkFirst s) := by
  cases tkFirst with
  | true => exact (acts_tkStop rfl false s).trans (acts_stopTally _)
  | false => exact (acts_stopTally s).trans (acts_tkStop rfl true _)

/-- The part in STANDBY, before the reply goes out. -/
structure Entered (s u : State) : Prop where
  mode : u.mode = .standby
  work : Withdrawn s u
  keeps : KeepsBut (.mode :: .plan :: .tr :: .lamps :: .lampZones :: tailParts) s u
  mp : u.mp = s.mp

theorem entered {s : State} (hassign : s.pe.assign.length = 48) (hquery : s.pe.query.length = 4) (tkFirst : Bool) :
    Entered s (enterStandby tkFirst s) := by
  have hkeeps := keeps_enterStandby tkFirst s
  have hwork := withdrawn_does hassign hquery
  obtain ⟨htalk, -, -⟩ := WindsDown.stopTalkTally tkFirst s.withdrawn
  have hacts := acts_stopTalkTally tkFirst s.withdrawn
  have hstandby : s.withdrawn.mode = .standby := keeps_withdrawAll { s with mode := .standby } .mode (by decide)
  rw [enterStandby_eq] at hkeeps ⊢
  generalize s.withdrawn = w at *
  generalize stopTalkTally tkFirst w = v at *
  have hlamps : KeepsBut [.lamps, .lampZones, .tk] v (presentZones (stopLamps v)) :=
    ((keeps_stopLamps v).mono (by decide)).trans ((keeps_modTk _ _).mono (by decide))
  have hall : KeepsBut (.tr :: .lamps :: .lampZones :: issueParts) w (presentZones (stopLamps v)) :=
    (htalk.mono (by decide)).trans (hlamps.mono (by decide))
  have hend : Acts .full w (presentZones (stopLamps v)) := (hacts.trans (acts_stopLamps v)).trans (acts_presentZones _)
  exact ⟨(hall .mode (by decide)).trans hstandby, hwork.keeps hall fun c o h => h.of_acts hend, hkeeps.mono (by decide), hkeeps .mp (by decide)⟩

/-- What the withdrawal leaves the Talk Router and the Tally Resolver to work on. -/
structure Leaves (s w : State) : Prop where
  cfg : ∀ l, (w.link l).cfg = (s.link l).cfg
  state : ∀ l, (w.link l).state = (s.link l).state
  tally : ∀ l, (w.link l).wanted = (s.link l).wanted ∧ (w.link l).delivered = (s.link l).delivered ∧
    (w.link l).tallyOrder = (s.link l).tallyOrder ∧ (w.link l).retryAt = (s.link l).retryAt
  links : w.links.length = s.links.length
  tk : w.tk = s.tk
  units : w.units = s.units
  tr : w.tr = s.tr
  lamps : w.lamps = s.lamps
  now : w.now = s.now

theorem leaves_withdrawn (s : State) : Leaves s s.withdrawn := by
  have hkeeps := keeps_withdrawn s
  have hlinks := hkeeps .links (by decide)
  exact ⟨fun l => (congrArg Link.cfg (linkCore_of_same hlinks l) :), fun l => (congrArg Link.state (linkCore_of_same hlinks l) :),
    fun l => tallyFields_eq (tallyFields_of_same (hkeeps .tallies (by decide)) l), length_of_links hlinks, hkeeps .tk (by decide),
    hkeeps .units (by decide), hkeeps .tr (by decide), hkeeps .lamps (by decide), congrArg Ftb.counter (hkeeps .ftb (by decide))⟩

/-- Settles O51. -/
theorem stopEntersStandby : Obligations.StopEntersStandby := by
  intro s f tkFirst hs ht hpay c bars full
  have hr : readNothing f.payload = some () := by rw [hpay]; rfl
  have hstandby (hm : s.mode = .run) : ¬ (dropHead s).mode = .standby := by
    rw [show (dropHead s).mode = s.mode from rfl, hm]
    exact Mode.noConfusion
  have hmoves : (dropHead s).moveInFlight = true ↔ bars := moveInFlight_iff (s := dropHead s)
  refine ⟨fun hm => request_refuses ht hr (if_pos hm) rfl, fun hm hbars => ?_, fun hm hbars => ?_⟩
  · have hact : stopPart tkFirst () (dropHead s) = refuse .wrongState (dropHead s) := by
      rw [stopPart, if_neg (hstandby hm), if_pos (hmoves.2 hbars)]
    exact request_refuses ht hr hact rfl
  have hact : stopPart tkFirst () (dropHead s) = okWith [] (enterStandby tkFirst (dropHead s)) := by
    rw [stopPart, if_neg (hstandby hm), if_neg fun h => hbars (hmoves.1 h)]
  refine ⟨_, request_oks ht hr hact, ?_⟩
  obtain ⟨-, hlinks, hunits, -, -, -, -, -, -, -, hzones, hstations, -, -, hassign, -, hquery⟩ := hs
  obtain ⟨hmode, hwork, hkeeps, hmp⟩ := entered (s := dropHead s) hassign hquery tkFirst
  have hreply : Replies f (u8 0) s (after (putReply f (u8 0 ++ []) (enterStandby tkFirst (dropHead s)))) := replies_of_after hmp
  have hafter : after (putReply f (u8 0 ++ []) (enterStandby tkFirst (dropHead s))) =
      kick (putReply f (u8 0 ++ []) (enterStandby tkFirst (dropHead s))) := after_of_standby hmode hwork.queue
  have hsend : KeepsBut sendParts (enterStandby tkFirst (dropHead s)) (kick (putReply f (u8 0 ++ []) (enterStandby tkFirst (dropHead s)))) :=
    ((keeps_putReply f _ _).mono (by decide)).trans (keeps_kick _)
  have htold (c : Cause) (o : Nat) (h : Waits c o (enterStandby tkFirst (dropHead s))) :
      Notified c o (kick (putReply f (u8 0 ++ []) (enterStandby tkFirst (dropHead s)))) := notified_kick (h.of_same rfl)
  have hpres := presents_reply f (u8 0 ++ []) (stopTalkTally tkFirst (dropHead s).withdrawn)
  rw [← enterStandby_eq] at hpres
  have hw := leaves_withdrawn (dropHead s)
  show Replies f (u8 0) s (after (putReply f (u8 0 ++ []) (enterStandby tkFirst (dropHead s)))) ∧ _
  rw [hafter] at hreply ⊢
  generalize kick (putReply f (u8 0 ++ []) (enterStandby tkFirst (dropHead s))) = t at *
  generalize enterStandby tkFirst (dropHead s) = u at *
  generalize (dropHead s).withdrawn = w at *
  have hwlinks : w.links.length = 48 := hw.links.trans hlinks
  have hwstations : w.tk.stations.length = 24 := by rw [hw.tk]; exact hstations
  have hpe : t.pe = u.pe := hsend .pe (by decide)
  have hwunits : w.units.length = 25 := by rw [hw.units]; exact hunits
  have hwzones : w.tr.zones.length = 4 := by rw [hw.tr]; exact hzones
  have hstation (y : Nat) : w.station y = s.station y := by
    rw [State.station, hw.tk]
    rfl
  have hnow : w.now = s.now := hw.now
  obtain ⟨htr, hpresent, hlampZones, hlamps⟩ := hpres.dark hwzones
  obtain ⟨hroutes, hkeys⟩ := hpres.hushed hwlinks hwstations
  obtain ⟨hbreaks, hdims⟩ := hpres.matrix hwunits
  refine ⟨hreply, (hsend .mode (by decide)).trans hmode, by rw [hpe]; exact hwork.queue, by rw [hpe]; exact hwork.engine,
    fun j hj l step o hk hl hl' => ?_, fun j hj b number step hw' l hk hb hb' => ?_, (hsend .plan (by decide)).trans hwork.plan,
    fun b => (sweepWanted_of_same (hsend .sweepFlags (by decide)) b).trans (hwork.sweeps b),
    fun l => (rescue_of_same (hsend .rescues (by decide)) l).trans (hwork.rescues l), fun l hl hl' => ⟨?_, ?_⟩, fun l hl hl' => ?_,
    by rw [htr]; rfl, by rw [htr]; rfl, by rw [htr]; rfl, by rw [htr], by rw [htr, hw.tr]; rfl, by rw [htr, hw.tr]; rfl, by rw [htr, hw.tr]; rfl,
    by rw [htr, hw.tr]; rfl, hpresent, hlampZones, by rw [hlamps, hw.lamps]; rfl, hroutes, fun y => ?_, fun r hr hlive ha ha' hd hd' => ?_,
    fun y hy hy' hkind hdepth => ?_, fun y l hy hy' => ?_, ?_⟩
  · obtain ⟨ho, htells⟩ := hwork.checks j hj l step o hk hl hl'
    exact ⟨by rw [State.assignResult, hpe]; exact ho, htold _ _ htells⟩
  · obtain ⟨ho, htells⟩ := hwork.queries j hj b number step hw' l hk hb hb'
    exact ⟨by rw [State.queryResult, hpe]; exact ho, htold _ _ htells⟩
  · rw [htr]
    exact slot_replicate _ _ _
  · exact (hpres.tally l).1.trans (words_end tkFirst hwlinks hwstations hl hl')
  · intro k word hkind hst ho hretry hne
    obtain ⟨-, hdel, horder, hret⟩ := hw.tally l
    have hun : Unsent (w.link l) (w.link l) := ⟨horder.trans ho, hret.trans hretry, rfl, by rw [hw.cfg]; exact hkind, rfl, by rw [hw.state]; exact hst⟩
    have hcalled : w.called = s.called := funext fun y => by rw [State.called, hstation]; rfl
    have hword : w.stopWord tkFirst l = word := by
      rw [State.stopWord, hw.cfg, hdel, hcalled]
      rfl
    have hends := hpres.word hwlinks hwstations hl hl' hun (by rw [hdel]; exact hne)
    rw [hword, hnow] at hends
    exact hends
  · rw [← hstation]
    exact hkeys y
  · exact (hbreaks r (by rw [hw.tk]; exact hr) hlive ha ha' hd hd').of_now hnow
  · exact (hdims y hy hy' (by rw [hstation]; exact hkind) (by rw [hstation]; exact hdepth)).of_now hnow
  · intro k c dark hkind hlink hst ho hretry
    have hlamp := hpres.lamp hwstations hwunits hy hy' (l := l) ⟨by rw [LampIdle, hstation]; exact ⟨ho, hretry⟩, by rw [hstation]; exact hkind,
      by rw [hstation]; exact hlink, by rw [hw.state]; exact hst⟩
    rw [hstation, hw.cfg, hnow] at hlamp
    obtain ⟨hacked, hrests, hsends⟩ := hlamp
    exact ⟨hacked, hrests, fun hne hu hu' => (hsends hne hu hu').imp_left fun ⟨hordered, hid⟩ => ⟨hordered.of_now hnow, hid⟩⟩
  · exact (((keeps_dropHead s).mono (by decide)).trans hkeeps).trans (hsend.mono (by decide))

end Sys2Proof.Machine
